-- ==== Sys2Proof/Machine/Table.lean ====
section
/-! DEFINITION. Sparse tables by number, and the bit and saturation helpers every family uses. -/
namespace Sys2Proof.Machine

/-- A sparse table by number: what is not listed reads as the default its reader gives. -/
abbrev Tab (α : Type) := List (Nat × α)

/-- The entry at `k`, or `d` where nothing is listed. -/
def Tab.get {α : Type} (d : α) : Tab α → Nat → α
  | [], _ => d
  | (k', v) :: r, k => if k' = k then v else Tab.get d r k

/-- The table with entry `k` set to `v`. -/
def Tab.put {α : Type} : Tab α → Nat → α → Tab α
  | [], k, v => [(k, v)]
  | (k', v') :: r, k, v => if k' = k then (k, v) :: r else (k', v') :: Tab.put r k v

/-- The table without the entries that `p` names. -/
def Tab.drop {α : Type} (t : Tab α) (p : Nat → Bool) : Tab α := t.filter fun e => !p e.1

/-- Changes entry `k` by `f`, starting from the default `d`. -/
def Tab.upd {α : Type} (d : α) (t : Tab α) (k : Nat) (f : α → α) : Tab α := t.put k (f (t.get d k))

/-- Applies `f` to the numbers of a list, first to last. -/
def forEach {σ : Type} (l : List Nat) (f : Nat → σ → σ) (s : σ) : σ := l.foldl (fun a k => f k a) s

/-- Applies `f` to the entries of a list, first to last. -/
def forAll {α σ : Type} (l : List α) (f : α → σ → σ) (s : σ) : σ := l.foldl (fun a x => f x a) s

/-- `f x` where the condition holds, `x` elsewhere. -/
def doIf {σ : Type} (c : Bool) (f : σ → σ) (s : σ) : σ := if c then f s else s

/-- 1 for true, 0 for false. -/
def bit (b : Bool) : Nat := if b then 1 else 0

/-- Bit `k` of `n`. -/
def bitAt (n k : Nat) : Bool := n / 2 ^ k % 2 == 1

/-- Bits `lo` up to `lo + w - 1` of `n`. -/
def bitsAt (n lo w : Nat) : Nat := n / 2 ^ lo % 2 ^ w

/-- `n` with bit `k` set to `b`. -/
def putBit (n k : Nat) (b : Bool) : Nat :=
  if bitAt n k then (if b then n else n - 2 ^ k) else (if b then n + 2 ^ k else n)

/-- The least of `n` and `top`: a saturating value. -/
def sat (top n : Nat) : Nat := if n ≤ top then n else top

/-- The two's complement value of a `w`-bit number. -/
def signed (w n : Nat) : Int := if n < 2 ^ (w - 1) then (n : Int) else (n : Int) - 2 ^ w

/-- The `w`-bit two's complement form of an integer. -/
def unsigned (w : Nat) (i : Int) : Nat := (i % 2 ^ w).toNat

/-- An integer clamped to `[lo, hi]`. -/
def clampInt (lo hi i : Int) : Int := if i < lo then lo else if hi < i then hi else i

/-- The number of entries that satisfy `p`. -/
def countIf {α : Type} (p : α → Bool) (l : List α) : Nat := (l.filter p).length

/-- The numbers `a` up to `b - 1`. -/
def range (a b : Nat) : List Nat := (List.range (b - a)).map (· + a)

/-- The bytes of a number, least significant first (R14). -/
def leBytes : Nat → Nat → List Nat
  | 0, _ => []
  | k + 1, n => n % 256 :: leBytes k (n / 256)

/-- The number that bytes give, least significant first (R14). -/
def ofLe : List Nat → Nat
  | [] => 0
  | b :: r => b % 256 + 256 * ofLe r

/-- The number that bytes give, most significant first (R14: telegrams). -/
def ofBe (l : List Nat) : Nat := l.foldl (fun a b => a * 256 + b % 256) 0

/-- The bytes of a number, most significant first. -/
def beBytes (k n : Nat) : List Nat := (leBytes k n).reverse

/-- `k` bytes of a list from byte `i` on. -/
def slice (l : List Nat) (i k : Nat) : List Nat := (l.drop i).take k

/-- The little-endian number in bytes `i` to `i + k - 1` of a list. -/
def leAt (l : List Nat) (i k : Nat) : Nat := ofLe (slice l i k)

/-- The first `k` bytes of a list, filled with zeros. -/
def padTo (k : Nat) (l : List Nat) : List Nat := (l ++ List.replicate k 0).take k

end Sys2Proof.Machine
end

