-- ==== Sys2Proof/Word.lean ====
section
/-! DEFINITION. The plain number types of the block's registers and buses. -/
namespace Sys2Proof

/-- One 32-bit register word (R13, R611). -/
abbrev Word := BitVec 32

/-- One byte of an addressed buffer. -/
abbrev Byte := BitVec 8

end Sys2Proof
end

