-- ==== Sys2Proof/Machine/Registers.lean ====
section
/-! DEFINITION. The register maps of PF0 BAR0 and of the function windows, field by field: address, lowest bit, width
and reset value of every field of "Table — … at offset …" (R15, R610 to R618), and the access code and legal encodings
of each. The registers of a function window lie at 0x100000 + fn * 0x4000; PF0's own window is function 0's. -/
namespace Sys2Proof.Machine

/-- One field of one register: the register's address, the lowest bit, the width and the reset value.
DESIGN CHOICE (log 7). -/
structure Field where
  off : Nat
  lo : Nat
  width : Nat
  rst : Nat
  deriving DecidableEq, Repr

/-- The access codes of R15. Bits of no field are RSV. -/
inductive Access where
  | ro | rw | wo | w1c | w1s | rwl
  deriving DecidableEq, Repr

/-- The encodings a field's table does not mark as reserved (R17). -/
inductive Legal where
  /-- Every encoding. -/
  | any
  /-- The values from the first to the last. -/
  | range (lo hi : Nat)
  /-- The listed values. -/
  | oneOf (l : List Nat)
  /-- A field of `n` two-bit parts, none of them 0b11. -/
  | pairs (n : Nat)
  /-- A signed field of magnitude at most `m`. -/
  | absLe (m : Nat)
  deriving DecidableEq, Repr

/-- One field inside its register's description. -/
structure FieldDef where
  lo : Nat
  width : Nat
  acc : Access
  rst : Nat
  legal : Legal
  deriving DecidableEq, Repr

/-- A register, or an array of registers: its base, its counts and strides (widest stride first), its fields. -/
structure RegDef where
  base : Nat
  dims : List (Nat × Nat)
  fields : List FieldDef
  deriving DecidableEq, Repr

def Reg.SYS_STRIKE_LO_STRIKE_LO : Field := ⟨0x10, 0, 32, 0⟩
def Reg.SYS_STRIKE_HI_STRIKE_HI : Field := ⟨0x14, 0, 32, 0⟩
def Reg.SYS_TMON_STAT_MISS : Field := ⟨0x20, 0, 8, 0⟩
def Reg.SYS_TMON_STAT_STALE : Field := ⟨0x20, 8, 8, 0⟩
def Reg.SYS_TMON_STAT_LAST_TASK : Field := ⟨0x20, 16, 4, 0xf⟩
def Reg.SYS_TMON_STAT_CLKFLT : Field := ⟨0x20, 20, 1, 0⟩
def Reg.SYS_TMON_STAT_HBFLT : Field := ⟨0x20, 21, 1, 0⟩
def Reg.BNK_CTRL_EN (nn : Nat) : Field := ⟨0x10000 + nn * 0x800, 0, 1, 0⟩
def Reg.BNK_CTRL_NPOS (nn : Nat) : Field := ⟨0x10000 + nn * 0x800, 8, 7, 0x40⟩
def Reg.BNK_CTRL_FC (nn : Nat) : Field := ⟨0x10000 + nn * 0x800, 16, 3, 3⟩
def Reg.BNK_CTRL_RANGE (nn : Nat) : Field := ⟨0x10000 + nn * 0x800, 20, 1, 0⟩
def Reg.BNK_STAT_LANE (nn : Nat) : Field := ⟨0x10004 + nn * 0x800, 0, 1, 0⟩
def Reg.BNK_STAT_ALIGN (nn : Nat) : Field := ⟨0x10004 + nn * 0x800, 1, 1, 0⟩
def Reg.BNK_STAT_RELAY (nn : Nat) : Field := ⟨0x10004 + nn * 0x800, 2, 1, 0⟩
def Reg.BNK_STAT_REL (nn : Nat) : Field := ⟨0x10004 + nn * 0x800, 3, 1, 0⟩
def Reg.BNK_STAT_PEND (nn : Nat) : Field := ⟨0x10004 + nn * 0x800, 4, 1, 0⟩
def Reg.BNK_STAT_SETTLING (nn : Nat) : Field := ⟨0x10004 + nn * 0x800, 5, 1, 0⟩
def Reg.BNK_STAT_BR_PRES (nn : Nat) : Field := ⟨0x10004 + nn * 0x800, 8, 4, 0⟩
def Reg.BNK_STAT_BR_OK (nn : Nat) : Field := ⟨0x10004 + nn * 0x800, 12, 4, 0⟩
def Reg.BNK_STAT_SETTLE_CNT (nn : Nat) : Field := ⟨0x10004 + nn * 0x800, 16, 16, 0⟩
def Reg.BNK_LANE_DELAY (nn : Nat) : Field := ⟨0x10008 + nn * 0x800, 0, 16, 0⟩
def Reg.BNK_LANE_TRIM (nn : Nat) : Field := ⟨0x10008 + nn * 0x800, 16, 12, 0⟩
def Reg.BNK_BR_PRES (nn : Nat) (k : Nat) : Field := ⟨0x10040 + nn * 0x800 + k * 0x10, 0, 1, 0⟩
def Reg.BNK_BR_VALID (nn : Nat) (k : Nat) : Field := ⟨0x10040 + nn * 0x800 + k * 0x10, 1, 1, 0⟩
def Reg.BNK_BR_FIRST (nn : Nat) (k : Nat) : Field := ⟨0x10040 + nn * 0x800 + k * 0x10, 8, 6, 0⟩
def Reg.BNK_BR_COUNT (nn : Nat) (k : Nat) : Field := ⟨0x10040 + nn * 0x800 + k * 0x10, 16, 7, 0⟩
def Reg.BNK_BR_CHEM (nn : Nat) (k : Nat) : Field := ⟨0x10040 + nn * 0x800 + k * 0x10, 24, 8, 0⟩
def Reg.BNK_CHK_STAT_IDX (nn : Nat) : Field := ⟨0x10080 + nn * 0x800, 0, 6, 0⟩
def Reg.BNK_CHK_STAT_WIN (nn : Nat) : Field := ⟨0x10080 + nn * 0x800, 6, 1, 0⟩
def Reg.BNK_CHK_STAT_DWELL (nn : Nat) : Field := ⟨0x10080 + nn * 0x800, 8, 8, 2⟩
def Reg.BNK_CHK_STAT_MM_CNT (nn : Nat) : Field := ⟨0x10080 + nn * 0x800, 16, 8, 0⟩
def Reg.BNK_CHK_LAST_DIFF (nn : Nat) : Field := ⟨0x10084 + nn * 0x800, 0, 24, 0⟩
def Reg.BNK_CHK_LAST_IDX (nn : Nat) : Field := ⟨0x10084 + nn * 0x800, 24, 6, 0⟩
def Reg.BNK_CHK_LAST_FAIL (nn : Nat) : Field := ⟨0x10084 + nn * 0x800, 30, 1, 0⟩
def Reg.BNK_CHK_LAST_VALID (nn : Nat) : Field := ⟨0x10084 + nn * 0x800, 31, 1, 0⟩
def Reg.BNK_CFLAG_LO_CFLAG (nn : Nat) : Field := ⟨0x10088 + nn * 0x800, 0, 32, 0⟩
def Reg.BNK_CFLAG_HI_CFLAG (nn : Nat) : Field := ⟨0x1008c + nn * 0x800, 0, 32, 0⟩
def Reg.BNK_WIRE_LO_WFAIL (nn : Nat) : Field := ⟨0x10090 + nn * 0x800, 0, 32, 0⟩
def Reg.BNK_WIRE_HI_WFAIL (nn : Nat) : Field := ⟨0x10094 + nn * 0x800, 0, 32, 0⟩
def Reg.BNK_WIRE_LAST_LOC (nn : Nat) : Field := ⟨0x10098 + nn * 0x800, 0, 7, 0⟩
def Reg.BNK_WIRE_LAST_KIND (nn : Nat) : Field := ⟨0x10098 + nn * 0x800, 8, 2, 0⟩
def Reg.BNK_WIRE_LAST_MEAS (nn : Nat) : Field := ⟨0x10098 + nn * 0x800, 16, 12, 0⟩
def Reg.CUR_CTRL_HALL : Field := ⟨0x30000, 0, 2, 0⟩
def Reg.CUR_CTRL_CFC : Field := ⟨0x30000, 8, 3, 3⟩
def Reg.CUR_CTRL_VFC : Field := ⟨0x30000, 12, 3, 3⟩
def Reg.CUR_STAT_LANE : Field := ⟨0x30004, 0, 1, 0⟩
def Reg.CUR_STAT_ALIGN : Field := ⟨0x30004, 1, 1, 0⟩
def Reg.CUR_STAT_REL : Field := ⟨0x30004, 2, 1, 0⟩
def Reg.CUR_STAT_SEL : Field := ⟨0x30004, 3, 2, 3⟩
def Reg.CUR_STAT_FTAINT : Field := ⟨0x30004, 5, 1, 0⟩
def Reg.CUR_STAT_CTAINT : Field := ⟨0x30004, 6, 1, 0⟩
def Reg.CUR_STAT_HALL_OK : Field := ⟨0x30004, 7, 1, 0⟩
def Reg.CUR_STAT_SETTLING : Field := ⟨0x30004, 8, 1, 0⟩
def Reg.CUR_ACC_LO_ACC_LO : Field := ⟨0x30010, 0, 32, 0⟩
def Reg.CUR_ACC_HI_ACC_HI : Field := ⟨0x30014, 0, 32, 0⟩
def Reg.CUR_ACC_FRAC_FRAC : Field := ⟨0x30018, 0, 10, 0⟩
def Reg.CUR_HOLD_HOLD : Field := ⟨0x3001c, 0, 32, 0⟩
def Reg.CUR_RLINK_RLINK : Field := ⟨0x30020, 0, 20, 0⟩
def Reg.IMD_CTRL_MODE : Field := ⟨0x30040, 0, 2, 1⟩
def Reg.IMD_CTRL_ACLS : Field := ⟨0x30040, 4, 3, 1⟩
def Reg.IMD_LIM_WARN : Field := ⟨0x30044, 0, 16, 0x1f4⟩
def Reg.IMD_LIM_ALARM : Field := ⟨0x30044, 16, 16, 0x64⟩
def Reg.IMD_RESULT_RISO : Field := ⟨0x30048, 0, 16, 0⟩
def Reg.IMD_RESULT_VALID : Field := ⟨0x30048, 16, 1, 0⟩
def Reg.IMD_RESULT_LB : Field := ⟨0x30048, 17, 1, 0⟩
def Reg.IMD_RESULT_HELD : Field := ⟨0x30048, 18, 1, 0⟩
def Reg.IMD_RESULT_INJ : Field := ⟨0x30048, 19, 1, 0⟩
def Reg.IMD_RESULT_FREQ : Field := ⟨0x30048, 20, 3, 0⟩
def Reg.IMD_RESULT_LOC : Field := ⟨0x30048, 24, 8, 0xff⟩
def Reg.THM_CTRL_BAND : Field := ⟨0x31000, 0, 5, 5⟩
def Reg.THM_DIE_HOT : Field := ⟨0x31004, 0, 16, 0⟩
def Reg.THM_DIE_HOT_IDX : Field := ⟨0x31004, 16, 4, 0⟩
def Reg.THM_DIE_WARN : Field := ⟨0x31004, 20, 1, 0⟩
def Reg.THM_DIE_VEC_OFF : Field := ⟨0x31004, 21, 1, 0⟩
def Reg.THM_DIE_VALID_VALID : Field := ⟨0x31008, 0, 16, 0xffff⟩
def Reg.THM_AIR_INLET : Field := ⟨0x3100c, 0, 16, 0⟩
def Reg.THM_AIR_OUTLET : Field := ⟨0x3100c, 16, 16, 0⟩
def Reg.THM_TYPE_BL_TYPE (nn : Nat) : Field := ⟨0x31100 + nn * 0x8, 0, 32, 0⟩
def Reg.THM_TYPE_BH_TYPE (nn : Nat) : Field := ⟨0x31104 + nn * 0x8, 0, 32, 0⟩
def Reg.THM_TYPE_M_M01 : Field := ⟨0x31190, 0, 4, 5⟩
def Reg.THM_TYPE_M_M27 : Field := ⟨0x31190, 4, 12, 0⟩
def Reg.THM_CURVE_CURVE (nn : Nat) : Field := ⟨0x31200 + nn * 0x4, 0, 3, 0⟩
def Reg.THM_MCURVE_CURVE : Field := ⟨0x31250, 0, 18, 0⟩
def Reg.THM_FAIL_B_FAIL (nn : Nat) : Field := ⟨0x31300 + nn * 0x4, 0, 32, 0⟩
def Reg.THM_FAIL_M_FAIL : Field := ⟨0x31348, 0, 32, 0⟩
def Reg.EST_CTRL_LEARN : Field := ⟨0x28000, 0, 1, 1⟩
def Reg.EST_CTRL_SNAP_INT : Field := ⟨0x28000, 8, 12, 0x3c⟩
def Reg.EST_WIDTH_WWARN : Field := ⟨0x28004, 0, 10, 0x64⟩
def Reg.EST_WIDTH_WMAX : Field := ⟨0x28004, 16, 10, 0xc8⟩
def Reg.EST_REST_REST_I : Field := ⟨0x28008, 0, 12, 0xa⟩
def Reg.EST_REST_START_MV : Field := ⟨0x28008, 16, 8, 0x14⟩
def Reg.EST_COUNT_SHUNT_TOL : Field := ⟨0x2800c, 0, 16, 0x1f4⟩
def Reg.EST_COUNT_HALL_ERR : Field := ⟨0x2800c, 16, 16, 0x7d0⟩
def Reg.EST_IFAULT_IFAULT : Field := ⟨0x28010, 0, 16, 0x1388⟩
def Reg.EST_RESTORE_MAX_AGE : Field := ⟨0x28014, 0, 8, 0x1e⟩
def Reg.EST_RESTORE_SD_RATE : Field := ⟨0x28014, 8, 8, 5⟩
def Reg.EST_RESTORE_WIN : Field := ⟨0x28014, 16, 12, 0x1e⟩
def Reg.EST_CAPNOM_NOM_LO : Field := ⟨0x28018, 0, 8, 0x5a⟩
def Reg.EST_CAPNOM_NOM_HI : Field := ⟨0x28018, 8, 8, 0x69⟩
def Reg.EST_LEARN_ANCHOR_W : Field := ⟨0x2801c, 0, 8, 0x1e⟩
def Reg.EST_LEARN_MIN_DSOC : Field := ⟨0x2801c, 8, 8, 0x50⟩
def Reg.EST_LEARN_EOL : Field := ⟨0x2801c, 16, 8, 0x46⟩
def Reg.EST_LEARN_MAX_H : Field := ⟨0x2801c, 24, 8, 0x48⟩
def Reg.EST_STAT_RESTORED : Field := ⟨0x28020, 0, 1, 0⟩
def Reg.EST_STAT_RWIN : Field := ⟨0x28020, 1, 1, 0⟩
def Reg.EST_STAT_REBUILD : Field := ⟨0x28020, 2, 1, 0⟩
def Reg.EST_STAT_SWPEND : Field := ⟨0x28020, 3, 1, 0⟩
def Reg.EST_STAT_UNRES : Field := ⟨0x28020, 8, 11, 0⟩
def Reg.EST_STAT_WIDE : Field := ⟨0x28020, 20, 11, 0⟩
def Reg.EST_SNAP_LO_SNAP_LO : Field := ⟨0x28028, 0, 32, 0⟩
def Reg.EST_SNAP_HI_SNAP_HI : Field := ⟨0x2802c, 0, 32, 0⟩
def Reg.EST_MINSOC_SOC : Field := ⟨0x28030, 0, 20, 0⟩
def Reg.EST_MAXSOC_SOC : Field := ⟨0x28034, 0, 20, 0⟩
def Reg.EST_TSEL_TB0 (nn : Nat) : Field := ⟨0x28100 + nn * 0x4, 0, 3, 0⟩
def Reg.EST_TSEL_TB1 (nn : Nat) : Field := ⟨0x28100 + nn * 0x4, 4, 3, 0⟩
def Reg.EST_TSEL_TB2 (nn : Nat) : Field := ⟨0x28100 + nn * 0x4, 8, 3, 0⟩
def Reg.EST_TSEL_TB3 (nn : Nat) : Field := ⟨0x28100 + nn * 0x4, 12, 3, 0⟩
def Reg.EST_SLOT_GEN (k : Nat) : Field := ⟨0x28200 + k * 0x4, 0, 16, 0⟩
def Reg.EST_SLOT_VALID (k : Nat) : Field := ⟨0x28200 + k * 0x4, 16, 1, 0⟩
def Reg.EST_SLOT_REBUILD (k : Nat) : Field := ⟨0x28200 + k * 0x4, 17, 1, 0⟩
def Reg.EST_SLOT_SUSP (k : Nat) : Field := ⟨0x28200 + k * 0x4, 18, 1, 0⟩
def Reg.EST_SLOT_NT (k : Nat) : Field := ⟨0x28200 + k * 0x4, 24, 4, 0⟩
def Reg.EST_MDL_CTRL_MEN : Field := ⟨0x28400, 0, 1, 1⟩
def Reg.EST_MDL_CTRL_ZEN : Field := ⟨0x28400, 1, 1, 1⟩
def Reg.EST_MDL_CTRL_DEN : Field := ⟨0x28400, 2, 1, 0⟩
def Reg.EST_MDL_CTRL_DAMP : Field := ⟨0x28400, 8, 5, 0xa⟩
def Reg.EST_MDL_CTRL_DTONES : Field := ⟨0x28400, 16, 2, 1⟩
def Reg.EST_ZCFG_COH : Field := ⟨0x28404, 0, 8, 0x5a⟩
def Reg.EST_ZCFG_IMIN : Field := ⟨0x28404, 8, 8, 5⟩
def Reg.EST_ZCFG_ZAGE : Field := ⟨0x28404, 16, 16, 0xe10⟩
def Reg.EST_ADV_CFG_ISI_EN : Field := ⟨0x28408, 0, 1, 0⟩
def Reg.EST_ADV_CFG_LPI_EN : Field := ⟨0x28408, 1, 1, 0⟩
def Reg.EST_ADV_CFG_ISI_CLS : Field := ⟨0x28408, 2, 2, 1⟩
def Reg.EST_ADV_CFG_LPI_CLS : Field := ⟨0x28408, 4, 2, 1⟩
def Reg.EST_ADV_CFG_PERSIST : Field := ⟨0x28408, 8, 8, 0x3c⟩
def Reg.EST_ISI_LIM_WARN : Field := ⟨0x2840c, 0, 16, 0x32⟩
def Reg.EST_ISI_LIM_TRIP : Field := ⟨0x2840c, 16, 16, 0xc8⟩
def Reg.EST_LPI_LIM_WARN : Field := ⟨0x28410, 0, 10, 0x190⟩
def Reg.EST_LPI_LIM_TRIP : Field := ⟨0x28410, 16, 10, 0x320⟩
def Reg.EST_LPI_CFG_TMAX : Field := ⟨0x28414, 0, 8, 0xf⟩
def Reg.EST_LPI_CFG_DROP : Field := ⟨0x28414, 8, 8, 0x1e⟩
def Reg.EST_LPI_CFG_BUMP : Field := ⟨0x28414, 16, 8, 0x32⟩
def Reg.EST_MDL_STAT_RUN : Field := ⟨0x28420, 0, 1, 0⟩
def Reg.EST_MDL_STAT_STALE : Field := ⟨0x28420, 1, 1, 0⟩
def Reg.EST_MDL_STAT_DITH : Field := ⟨0x28420, 2, 1, 0⟩
def Reg.EST_MDL_STAT_CONV : Field := ⟨0x28420, 8, 11, 0⟩
def Reg.EST_MDL_STAT_ZFIT : Field := ⟨0x28420, 20, 11, 0⟩
def Reg.EST_DITH_TONE : Field := ⟨0x28424, 0, 24, 0⟩
def Reg.EST_ADV_LAST_POS : Field := ⟨0x28428, 0, 11, 0⟩
def Reg.EST_ADV_LAST_KIND : Field := ⟨0x28428, 11, 2, 0⟩
def Reg.EST_ADV_LAST_PASS : Field := ⟨0x28428, 13, 1, 0⟩
def Reg.EST_ADV_LAST_VALUE : Field := ⟨0x28428, 16, 16, 0⟩
def Reg.SLU_STAT_MODE : Field := ⟨0x20000, 0, 3, 2⟩
def Reg.SLU_STAT_CONN : Field := ⟨0x20000, 4, 2, 0⟩
def Reg.SLU_STAT_EMER : Field := ⟨0x20000, 6, 1, 0⟩
def Reg.SLU_STAT_CFG : Field := ⟨0x20000, 7, 1, 0⟩
def Reg.SLU_STAT_FB : Field := ⟨0x20000, 8, 3, 0⟩
def Reg.SLU_STAT_BRK : Field := ⟨0x20000, 11, 1, 0⟩
def Reg.SLU_STAT_WLOCK : Field := ⟨0x20000, 12, 1, 0⟩
def Reg.SLU_STAT_HELD : Field := ⟨0x20000, 13, 1, 0⟩
def Reg.SLU_STAT_CLASS : Field := ⟨0x20000, 16, 3, 0⟩
def Reg.SLU_STAT_PRE_ATT : Field := ⟨0x20000, 20, 2, 0⟩
def Reg.SLU_CAUSE_CODE : Field := ⟨0x20004, 0, 16, 0⟩
def Reg.SLU_VTH_A_OVW : Field := ⟨0x20010, 0, 16, 0x8ca0⟩
def Reg.SLU_VTH_A_OVS : Field := ⟨0x20010, 16, 16, 0x8e94⟩
def Reg.SLU_VTH_B_OVF : Field := ⟨0x20014, 0, 16, 0x9088⟩
def Reg.SLU_VTH_B_OVC : Field := ⟨0x20014, 16, 16, 0x927c⟩
def Reg.SLU_VTH_C_UVW : Field := ⟨0x20018, 0, 16, 0x6978⟩
def Reg.SLU_VTH_C_UVS : Field := ⟨0x20018, 16, 16, 0x61a8⟩
def Reg.SLU_VTH_D_UVF : Field := ⟨0x2001c, 0, 16, 0x59d8⟩
def Reg.SLU_VTH_D_UVC : Field := ⟨0x2001c, 16, 16, 0x4e20⟩
def Reg.SLU_VPERS_OVF_P : Field := ⟨0x20020, 0, 10, 0x20⟩
def Reg.SLU_VPERS_UVF_P : Field := ⟨0x20020, 16, 10, 0x140⟩
def Reg.SLU_CPERS_OVC_P : Field := ⟨0x20024, 0, 6, 4⟩
def Reg.SLU_CPERS_UVC_P : Field := ⟨0x20024, 8, 6, 0x20⟩
def Reg.SLU_ITH_A_OCD_FAST : Field := ⟨0x20028, 0, 16, 0x960⟩
def Reg.SLU_ITH_A_OCC_FAST : Field := ⟨0x20028, 16, 16, 0x5dc⟩
def Reg.SLU_ITH_B_OCD_HW : Field := ⟨0x2002c, 0, 16, 0x7d0⟩
def Reg.SLU_ITH_B_OCC_HW : Field := ⟨0x2002c, 16, 16, 0x4b0⟩
def Reg.SLU_KBRK_KBRK : Field := ⟨0x20030, 0, 16, 0x5dc⟩
def Reg.SLU_KBRK_OPEN_I : Field := ⟨0x20030, 16, 16, 0x64⟩
def Reg.SLU_VSTR_VMAX : Field := ⟨0x20034, 0, 16, 0x109a⟩
def Reg.SLU_VSTR_VMIN : Field := ⟨0x20034, 16, 16, 0⟩
def Reg.SLU_TTH_A_OTW : Field := ⟨0x20038, 0, 16, 0x1388⟩
def Reg.SLU_TTH_A_OTS : Field := ⟨0x20038, 16, 16, 0x157c⟩
def Reg.SLU_TTH_B_OTE : Field := ⟨0x2003c, 0, 16, 0x1964⟩
def Reg.SLU_TTH_B_ROR : Field := ⟨0x2003c, 16, 16, 0xa⟩
def Reg.SLU_TTH_C_UTC : Field := ⟨0x20040, 0, 16, 0⟩
def Reg.SLU_TTH_C_UTD : Field := ⟨0x20040, 16, 16, 0xf830⟩
def Reg.SLU_SOC_SOCL : Field := ⟨0x20044, 0, 10, 0x14⟩
def Reg.SLU_SOC_SOCH : Field := ⟨0x20044, 16, 10, 0x3d4⟩
def Reg.SLU_KT_FB_CLOSE : Field := ⟨0x20050, 0, 8, 0x64⟩
def Reg.SLU_KT_FB_OPEN : Field := ⟨0x20050, 8, 8, 0x64⟩
def Reg.SLU_KT_OVERLAP : Field := ⟨0x20050, 16, 8, 0x32⟩
def Reg.SLU_KT_WDWELL : Field := ⟨0x20050, 24, 8, 0x3c⟩
def Reg.SLU_PRE_PRE_DV : Field := ⟨0x20054, 0, 8, 0x14⟩
def Reg.SLU_PRE_PRE_TMAX : Field := ⟨0x20054, 8, 8, 0x1e⟩
def Reg.SLU_PRE_PRE_IMAX : Field := ⟨0x20054, 16, 8, 0x14⟩
def Reg.SLU_PRE_WELD_DV : Field := ⟨0x20054, 24, 8, 0xa⟩
def Reg.SLU_ORD_RAMP : Field := ⟨0x20058, 0, 12, 0x14⟩
def Reg.SLU_ORD_ORD_TMAX : Field := ⟨0x20058, 16, 12, 0x1f4⟩
def Reg.SLU_BRK_TW : Field := ⟨0x2005c, 0, 10, 0xc8⟩
def Reg.SLU_BRK_AUX : Field := ⟨0x2005c, 16, 3, 0⟩
def Reg.SLU_BRK_AUX_EN : Field := ⟨0x2005c, 19, 1, 0⟩
def Reg.SLU_CLR_T2 : Field := ⟨0x20060, 0, 8, 0xa⟩
def Reg.SLU_WELD_W1 : Field := ⟨0x20068, 0, 2, 0⟩
def Reg.SLU_WELD_W2 : Field := ⟨0x20068, 2, 2, 0⟩
def Reg.SLU_WELD_WELDED : Field := ⟨0x20068, 4, 3, 0⟩
def Reg.SLU_SI_CFG_FUNC (n : Nat) : Field := ⟨0x20100 + n * 0x4, 0, 3, 0⟩
def Reg.SLU_SI_CFG_WIRE (n : Nat) : Field := ⟨0x20100 + n * 0x4, 4, 2, 0⟩
def Reg.SLU_SI_CFG_DISC (n : Nat) : Field := ⟨0x20100 + n * 0x4, 8, 8, 0x32⟩
def Reg.SLU_SI_CFG_ISO_HOLD (n : Nat) : Field := ⟨0x20100 + n * 0x4, 16, 8, 0xa⟩
def Reg.SLU_SI_STAT_DEM : Field := ⟨0x20120, 0, 8, 0xff⟩
def Reg.SLU_SI_STAT_FAIL : Field := ⟨0x20120, 8, 8, 0⟩
def Reg.SLU_SI_STAT_CHA : Field := ⟨0x20120, 16, 8, 0⟩
def Reg.SLU_SI_STAT_CHB : Field := ⟨0x20120, 24, 8, 0⟩
def Reg.SLU_SI_TP_TP0_OK : Field := ⟨0x20124, 0, 1, 0⟩
def Reg.SLU_SI_TP_TP1_OK : Field := ⟨0x20124, 1, 1, 0⟩
def Reg.SLU_SRST_LVL : Field := ⟨0x20128, 0, 1, 0⟩
def Reg.SLU_SRST_CHAT : Field := ⟨0x20128, 1, 1, 0⟩
def Reg.SLU_SRST_HELD : Field := ⟨0x20128, 2, 1, 0⟩
def Reg.SLU_SRST_ACC : Field := ⟨0x20128, 8, 8, 0⟩
def Reg.SLU_SRST_IGN : Field := ⟨0x20128, 16, 8, 0⟩
def Reg.SLU_TG_CFG_SID : Field := ⟨0x20200, 0, 32, 0⟩
def Reg.SLU_TG_ETYPE_ETYPE : Field := ⟨0x20204, 0, 16, 0x88b5⟩
def Reg.SLU_TG_ETYPE_SKEW : Field := ⟨0x20204, 16, 8, 0xa⟩
def Reg.SLU_TG_ETYPE_AGE : Field := ⟨0x20204, 24, 8, 0x14⟩
def Reg.SLU_TG_PEER_PEER (k : Nat) : Field := ⟨0x20210 + k * 0x10, 0, 32, 0⟩
def Reg.SLU_TG_CTRL_DIR (k : Nat) : Field := ⟨0x20214 + k * 0x10, 0, 1, 0⟩
def Reg.SLU_TG_CTRL_TACT (k : Nat) : Field := ⟨0x20214 + k * 0x10, 1, 2, 0⟩
def Reg.SLU_TG_CTRL_PER (k : Nat) : Field := ⟨0x20214 + k * 0x10, 4, 10, 0xa⟩
def Reg.SLU_TG_CTRL_TOUT (k : Nat) : Field := ⟨0x20214 + k * 0x10, 16, 16, 0x32⟩
def Reg.SLU_TG_STAT_UP (k : Nat) : Field := ⟨0x20218 + k * 0x10, 0, 1, 0⟩
def Reg.SLU_TG_STAT_A_OK (k : Nat) : Field := ⟨0x20218 + k * 0x10, 1, 1, 0⟩
def Reg.SLU_TG_STAT_B_OK (k : Nat) : Field := ⟨0x20218 + k * 0x10, 2, 1, 0⟩
def Reg.SLU_TG_STAT_REJ (k : Nat) : Field := ⟨0x20218 + k * 0x10, 8, 8, 0⟩
def Reg.SLU_TG_STAT_SEQ (k : Nat) : Field := ⟨0x20218 + k * 0x10, 16, 16, 0⟩
def Reg.SEC_SA_STAT_OPEN : Field := ⟨0x2100, 0, 1, 0⟩
def Reg.SEC_SA_STAT_PATH : Field := ⟨0x2100, 1, 2, 0⟩
def Reg.SEC_SA_STAT_COMMIT : Field := ⟨0x2100, 3, 1, 0⟩
def Reg.SEC_SA_STAT_FAILS : Field := ⟨0x2100, 8, 8, 0⟩
def Reg.SEC_SA_STAT_LOCK : Field := ⟨0x2100, 16, 16, 0⟩
def Reg.SEC_SA_CFG_IDLE : Field := ⟨0x2104, 0, 12, 0x384⟩
def Reg.SEC_SA_CFG_MAXH : Field := ⟨0x2104, 16, 8, 8⟩
def Reg.SEC_CLOG_STAT_USED : Field := ⟨0x2108, 0, 13, 0⟩
def Reg.SEC_CLOG_STAT_NEAR : Field := ⟨0x2108, 13, 1, 0⟩
def Reg.SEC_CLOG_STAT_FULL : Field := ⟨0x2108, 14, 1, 0⟩
def Reg.SEC_CLOG_STAT_ROLLS : Field := ⟨0x2108, 16, 16, 0⟩
def Reg.SEC_CLOG_SEQ_SEQ : Field := ⟨0x210c, 0, 32, 0⟩
def Reg.BAL_CTRL_MODE : Field := ⟨0x2c000, 0, 2, 0⟩
def Reg.BAL_CTRL_AIR : Field := ⟨0x2c000, 2, 1, 0⟩
def Reg.BAL_CTRL_SHEN : Field := ⟨0x2c000, 3, 1, 1⟩
def Reg.BAL_CTRL_QUIET : Field := ⟨0x2c000, 8, 8, 0x18⟩
def Reg.BAL_CFG_BUDGET : Field := ⟨0x2c004, 0, 6, 0x28⟩
def Reg.BAL_CFG_BANK_W : Field := ⟨0x2c004, 8, 6, 8⟩
def Reg.BAL_CFG_VMIN : Field := ⟨0x2c004, 16, 16, 0x7530⟩
def Reg.BAL_VCFG_VDB : Field := ⟨0x2c008, 0, 8, 0x32⟩
def Reg.BAL_VCFG_VIMAX : Field := ⟨0x2c008, 8, 8, 0x32⟩
def Reg.BAL_VCFG_VON : Field := ⟨0x2c008, 16, 16, 0x84d0⟩
def Reg.BAL_SCFG_SDB : Field := ⟨0x2c00c, 0, 10, 0xa⟩
def Reg.BAL_SCFG_SHDWELL : Field := ⟨0x2c00c, 16, 16, 0x3e8⟩
def Reg.BAL_STAT_STATE : Field := ⟨0x2c010, 0, 2, 0⟩
def Reg.BAL_STAT_LIMITED : Field := ⟨0x2c010, 2, 1, 0⟩
def Reg.BAL_STAT_BLEED_N : Field := ⟨0x2c010, 16, 11, 0⟩
def Reg.BAL_PWR_USED : Field := ⟨0x2c014, 0, 16, 0⟩
def Reg.BAL_PWR_LIMIT : Field := ⟨0x2c014, 16, 16, 0⟩
def Reg.BAL_BLEED_LO_BLEED (nn : Nat) : Field := ⟨0x2c100 + nn * 0x8, 0, 32, 0⟩
def Reg.BAL_BLEED_HI_BLEED (nn : Nat) : Field := ⟨0x2c104 + nn * 0x8, 0, 32, 0⟩
def Reg.BAL_SHUT_POS (nn : Nat) : Field := ⟨0x2c200 + nn * 0x4, 0, 6, 0⟩
def Reg.BAL_SHUT_DIR (nn : Nat) : Field := ⟨0x2c200 + nn * 0x4, 6, 2, 0⟩
def Reg.BAL_SHUT_WHELD (nn : Nat) : Field := ⟨0x2c200 + nn * 0x4, 8, 1, 0⟩
def Reg.BAL_SHUT_DIS (nn : Nat) : Field := ⟨0x2c200 + nn * 0x4, 9, 1, 0⟩
def Reg.BAL_SHUT_IPOS (nn : Nat) : Field := ⟨0x2c200 + nn * 0x4, 16, 16, 0⟩
def Reg.GOV_CTRL_SEN : Field := ⟨0x24000, 0, 8, 0⟩
def Reg.GOV_CTRL_FRZ : Field := ⟨0x24000, 8, 8, 0⟩
def Reg.GOV_STAT_SAT : Field := ⟨0x24004, 0, 8, 0⟩
def Reg.GOV_STAT_HOLD : Field := ⟨0x24004, 8, 8, 0⟩
def Reg.GOV_STAT_FAIL : Field := ⟨0x24004, 16, 8, 0⟩
def Reg.GOV_STAT_QOVF : Field := ⟨0x24004, 24, 1, 0⟩
def Reg.GOV_QSTAT_DEPTH : Field := ⟨0x24008, 0, 7, 0⟩
def Reg.GOV_RATED_RATED : Field := ⟨0x2400c, 0, 16, 0x3e8⟩
def Reg.GOV_SPT_CTRL_MODE : Field := ⟨0x24010, 0, 2, 0⟩
def Reg.GOV_SPT_CTRL_ARANGE : Field := ⟨0x24010, 4, 2, 0⟩
def Reg.GOV_SPT_STAT_SEQ : Field := ⟨0x24014, 0, 8, 0⟩
def Reg.GOV_SPT_STAT_ACTIVE : Field := ⟨0x24014, 8, 1, 0⟩
def Reg.GOV_SPT_STAT_INH : Field := ⟨0x24014, 9, 1, 1⟩
def Reg.GOV_SPT_STAT_DITH : Field := ⟨0x24014, 10, 1, 0⟩
def Reg.GOV_SPT_STAT_CLAMP : Field := ⟨0x24014, 11, 1, 0⟩
def Reg.GOV_SPT_STAT_RBOK : Field := ⟨0x24014, 12, 1, 0⟩
def Reg.GOV_SPT_STAT_RCHG : Field := ⟨0x24014, 13, 1, 0⟩
def Reg.GOV_SPT_STAT_REFOK : Field := ⟨0x24014, 14, 1, 0⟩
def Reg.GOV_SPT_STAT_REF : Field := ⟨0x24014, 16, 16, 0⟩
def Reg.GOV_CLAMP_DIS : Field := ⟨0x24018, 0, 16, 0⟩
def Reg.GOV_CLAMP_CHG : Field := ⟨0x24018, 16, 16, 0⟩
def Reg.GOV_ACT_CTRL_AMODE : Field := ⟨0x2401c, 0, 12, 0⟩
def Reg.GOV_ACT_OUT_DUTY (k : Nat) : Field := ⟨0x24020 + k * 0x4, 0, 16, 0⟩
def Reg.GOV_ACT_OUT_FS (k : Nat) : Field := ⟨0x24020 + k * 0x4, 16, 1, 1⟩
def Reg.GOV_HOST_VAL (k : Nat) : Field := ⟨0x24040 + k * 0x4, 0, 16, 0⟩
def Reg.GOV_SLOT_CFG_TYPE (n : Nat) : Field := ⟨0x24100 + n * 0x200, 0, 3, 0⟩
def Reg.GOV_SLOT_CFG_NSEC (n : Nat) : Field := ⟨0x24100 + n * 0x200, 4, 3, 0⟩
def Reg.GOV_SLOT_CFG_DEST (n : Nat) : Field := ⟨0x24100 + n * 0x200, 8, 4, 0⟩
def Reg.GOV_SLOT_CFG_TRACK (n : Nat) : Field := ⟨0x24100 + n * 0x200, 12, 3, 0⟩
def Reg.GOV_SLOT_CFG_TREN (n : Nat) : Field := ⟨0x24100 + n * 0x200, 15, 1, 0⟩
def Reg.GOV_SLOT_CFG_HOLDMAX (n : Nat) : Field := ⟨0x24100 + n * 0x200, 16, 8, 0x20⟩
def Reg.GOV_SLOT_SRC_ASRC (n : Nat) : Field := ⟨0x24104 + n * 0x200, 0, 8, 0⟩
def Reg.GOV_SLOT_SRC_BSRC (n : Nat) : Field := ⟨0x24104 + n * 0x200, 8, 8, 0⟩
def Reg.GOV_SLOT_IDX_AIDX (n : Nat) : Field := ⟨0x24108 + n * 0x200, 0, 11, 0⟩
def Reg.GOV_SLOT_IDX_BIDX (n : Nat) : Field := ⟨0x24108 + n * 0x200, 16, 11, 0⟩
def Reg.GOV_SLOT_LIM_LO (n : Nat) : Field := ⟨0x24110 + n * 0x200, 0, 16, 0x8000⟩
def Reg.GOV_SLOT_LIM_HI (n : Nat) : Field := ⟨0x24110 + n * 0x200, 16, 16, 0x7fff⟩
def Reg.GOV_SLOT_FAILV_FAILVAL (n : Nat) : Field := ⟨0x24114 + n * 0x200, 0, 16, 0⟩
def Reg.GOV_SLOT_STAT_OUT (n : Nat) : Field := ⟨0x24118 + n * 0x200, 0, 16, 0⟩
def Reg.GOV_SLOT_STAT_SAT (n : Nat) : Field := ⟨0x24118 + n * 0x200, 16, 1, 0⟩
def Reg.GOV_SLOT_STAT_HOLD (n : Nat) : Field := ⟨0x24118 + n * 0x200, 17, 1, 0⟩
def Reg.GOV_SLOT_STAT_FAIL (n : Nat) : Field := ⟨0x24118 + n * 0x200, 18, 1, 0⟩
def Reg.GOV_SLOT_STAT_PHASE (n : Nat) : Field := ⟨0x24118 + n * 0x200, 20, 12, 0⟩
def Reg.GOV_SLOT_COEF_C (n : Nat) (m : Nat) : Field := ⟨0x24140 + n * 0x200 + m * 0x4, 0, 16, 0⟩
def Reg.ENV_CTRL_SPMODE : Field := ⟨0x20300, 0, 1, 0⟩
def Reg.ENV_CTRL_SPTO : Field := ⟨0x20300, 8, 8, 0xa⟩
def Reg.ENV_SETP_SETP : Field := ⟨0x20304, 0, 32, 0⟩
def Reg.ENV_RAMP_UP : Field := ⟨0x20308, 0, 16, 0xc8⟩
def Reg.ENV_RAMP_DN : Field := ⟨0x20308, 16, 16, 0xc8⟩
def Reg.ENV_ILIM_DMAX : Field := ⟨0x2030c, 0, 16, 0⟩
def Reg.ENV_ILIM_CMAX : Field := ⟨0x2030c, 16, 16, 0⟩
def Reg.ENV_DER_FACT : Field := ⟨0x20310, 0, 7, 0x32⟩
def Reg.ENV_DER_RECOV : Field := ⟨0x20310, 8, 12, 0x3c⟩
def Reg.ENV_MSEL_MAP : Field := ⟨0x20314, 0, 16, 0⟩
def Reg.ENV_MSEL_VALID : Field := ⟨0x20314, 16, 4, 0⟩
def Reg.ENV_LIM_D0_CONT : Field := ⟨0x20320, 0, 16, 0⟩
def Reg.ENV_LIM_D0_T10 : Field := ⟨0x20320, 16, 16, 0⟩
def Reg.ENV_LIM_C0_CONT : Field := ⟨0x20328, 0, 16, 0⟩
def Reg.ENV_LIM_C0_T10 : Field := ⟨0x20328, 16, 16, 0⟩
def Reg.ENV_LIM_D1_T2 : Field := ⟨0x20324, 0, 16, 0⟩
def Reg.ENV_LIM_D1_INF : Field := ⟨0x20324, 16, 16, 0⟩
def Reg.ENV_LIM_C1_T2 : Field := ⟨0x2032c, 0, 16, 0⟩
def Reg.ENV_LIM_C1_INF : Field := ⟨0x2032c, 16, 16, 0⟩
def Reg.ENV_STAT_DTIER : Field := ⟨0x20330, 0, 2, 2⟩
def Reg.ENV_STAT_CTIER : Field := ⟨0x20330, 2, 2, 2⟩
def Reg.ENV_STAT_HELD : Field := ⟨0x20330, 4, 1, 0⟩
def Reg.ENV_STAT_FALL : Field := ⟨0x20330, 5, 1, 0⟩
def Reg.ENV_STAT_SPTO : Field := ⟨0x20330, 6, 1, 0⟩
def Reg.ENV_STAT_DPOS : Field := ⟨0x20330, 8, 11, 0⟩
def Reg.ENV_STAT_CPOS : Field := ⟨0x20330, 20, 11, 0⟩
def Reg.ENV_REF_ENVREF : Field := ⟨0x20334, 0, 16, 0⟩
def Reg.ENV_REF_IREF : Field := ⟨0x20334, 16, 16, 0⟩
def Reg.ENV_ACCT_D10 : Field := ⟨0x20338, 0, 8, 0⟩
def Reg.ENV_ACCT_D2 : Field := ⟨0x20338, 8, 8, 0⟩
def Reg.ENV_ACCT_C10 : Field := ⟨0x20338, 16, 8, 0⟩
def Reg.ENV_ACCT_C2 : Field := ⟨0x20338, 24, 8, 0⟩
def Reg.GOV_ACT_FS_FSDUTY (k : Nat) : Field := ⟨0x24060 + k * 0x4, 0, 16, 0x7fff⟩
def Reg.GOV_ACT_FRC_FORCE (k : Nat) : Field := ⟨0x24078 + k * 0x4, 0, 16, 0x7fff⟩
def Reg.GOV_ACT_FRC_FEN (k : Nat) : Field := ⟨0x24078 + k * 0x4, 16, 1, 0⟩
def Reg.GOV_ACT_FRC_ACTIVE (k : Nat) : Field := ⟨0x24078 + k * 0x4, 17, 1, 0⟩
def Reg.MPD_STAT_READY : Field := ⟨0x5000, 0, 1, 0⟩
def Reg.MPD_STAT_SCRUB : Field := ⟨0x5000, 1, 1, 0⟩
def Reg.MPD_STAT_YLD : Field := ⟨0x5000, 8, 6, 0⟩
def Reg.MPD_STAT_CAPN : Field := ⟨0x5000, 16, 5, 0⟩
def Reg.MPD_CAP_CFG_EN : Field := ⟨0x5004, 0, 1, 1⟩
def Reg.MPD_CAP_CFG_CLS : Field := ⟨0x5004, 1, 3, 3⟩
def Reg.MPD_CAP_CFG_POST : Field := ⟨0x5004, 16, 15, 0x2710⟩
def Reg.MPD_HEAD_LO_HEAD_LO : Field := ⟨0x5008, 0, 32, 0⟩
def Reg.MPD_HEAD_HI_HEAD_HI : Field := ⟨0x500c, 0, 32, 0⟩
def Reg.MPD_ECC_CNT_CORR : Field := ⟨0x5010, 0, 16, 0⟩
def Reg.MPD_ECC_CNT_UNCORR : Field := ⟨0x5010, 16, 16, 0⟩
def Reg.MPD_ECC_ADDR_ADDR : Field := ⟨0x5014, 0, 29, 0⟩
def Reg.MPD_ECC_ADDR_VALID : Field := ⟨0x5014, 29, 1, 0⟩
def Reg.MPD_SCRUB_HOURS : Field := ⟨0x5018, 0, 8, 8⟩
def Reg.MPD_SCRUB_PROG : Field := ⟨0x5018, 16, 16, 0⟩
def Reg.MPD_OVR_FLUME : Field := ⟨0x501c, 0, 16, 0⟩
def Reg.MPD_OVR_HOPPER : Field := ⟨0x501c, 16, 16, 0⟩
def Reg.MPD_CAP_INFO_CODE (k : Nat) : Field := ⟨0x5108 + k * 0x10, 0, 16, 0⟩
def Reg.MPD_CAP_INFO_POST (k : Nat) : Field := ⟨0x5108 + k * 0x10, 16, 15, 0⟩
def Reg.MPD_CAP_INFO_VALID (k : Nat) : Field := ⟨0x5108 + k * 0x10, 31, 1, 0⟩
def Reg.HIF_FN_STAT_ACTIVE (fn : Nat) : Field := ⟨0x100000 + fn * 0x4000, 0, 1, 0⟩
def Reg.HIF_FN_STAT_HOLD (fn : Nat) : Field := ⟨0x100000 + fn * 0x4000, 1, 1, 0⟩
def Reg.HIF_FN_STAT_HELD (fn : Nat) : Field := ⟨0x100000 + fn * 0x4000, 16, 13, 0⟩
def Reg.HIF_FN_RCT_LO_BASE_LO (fn : Nat) : Field := ⟨0x100008 + fn * 0x4000, 16, 16, 0⟩
def Reg.HIF_FN_RCT_HI_BASE_HI (fn : Nat) : Field := ⟨0x10000c + fn * 0x4000, 0, 32, 0⟩
def Reg.HIF_FN_RING_OP_RING (fn : Nat) : Field := ⟨0x100010 + fn * 0x4000, 0, 10, 0⟩
def Reg.HIF_FN_RING_OP_OP (fn : Nat) : Field := ⟨0x100010 + fn * 0x4000, 10, 2, 0⟩
def Reg.HIF_FN_RING_OPSTAT_RING (fn : Nat) : Field := ⟨0x100014 + fn * 0x4000, 0, 10, 0⟩
def Reg.HIF_FN_RING_OPSTAT_BUSY (fn : Nat) : Field := ⟨0x100014 + fn * 0x4000, 10, 1, 0⟩
def Reg.HIF_FN_RING_OPSTAT_RES (fn : Nat) : Field := ⟨0x100014 + fn * 0x4000, 12, 4, 0⟩
def Reg.HIF_FN_RING_OPSTAT_LOADED (fn : Nat) : Field := ⟨0x100014 + fn * 0x4000, 16, 11, 0⟩
def Reg.HIF_FN_ERR_CODE (fn : Nat) : Field := ⟨0x100018 + fn * 0x4000, 0, 16, 0⟩
def Reg.HIF_FN_ERR_RING (fn : Nat) : Field := ⟨0x100018 + fn * 0x4000, 16, 10, 0⟩
def Reg.HIF_FN_ERR_VALID (fn : Nat) : Field := ⟨0x100018 + fn * 0x4000, 31, 1, 0⟩
def Reg.HIF_FN_PRIV_PRIV (fn : Nat) : Field := ⟨0x10001c + fn * 0x4000, 0, 6, (if fn = 0 then 0x3f else 1)⟩
def Reg.HIF_FN_WAKE_WCLS (fn : Nat) : Field := ⟨0x100020 + fn * 0x4000, 0, 3, 1⟩
def Reg.HIF_FN_WAKE_WEN (fn : Nat) : Field := ⟨0x100020 + fn * 0x4000, 3, 1, 0⟩
def Reg.HIF_FN_CACHE_MISS (fn : Nat) : Field := ⟨0x100024 + fn * 0x4000, 0, 16, 0⟩
def Reg.HIF_FN_CACHE_RES (fn : Nat) : Field := ⟨0x100024 + fn * 0x4000, 16, 13, 0⟩
def Reg.HIF_FN_PRIVn_PRIV (n : Nat) : Field := ⟨0x4800 + n * 0x4, 0, 6, (if n = 0 then 0x3f else 1)⟩
def Reg.HIF_LINK_GEN : Field := ⟨0x4400, 0, 3, 0⟩
def Reg.HIF_LINK_WIDTH : Field := ⟨0x4400, 3, 3, 0⟩
def Reg.HIF_LINK_LSTATE : Field := ⟨0x4400, 6, 2, 0⟩
def Reg.HIF_LINK_PERST : Field := ⟨0x4400, 8, 1, 1⟩
def Reg.HIF_LINK_WAKE : Field := ⟨0x4400, 9, 1, 0⟩
def Reg.HIF_LINK_NUMVF : Field := ⟨0x4400, 16, 8, 0⟩
def Reg.HIF_LINK_CFG_MAXGEN : Field := ⟨0x4404, 0, 3, 4⟩
def Reg.HIF_LINK_CFG_MAXW : Field := ⟨0x4404, 3, 3, 4⟩
def Reg.HIF_CELL_LO_BASE_LO : Field := ⟨0x4408, 12, 20, 0⟩
def Reg.HIF_CELL_HI_BASE_HI : Field := ⟨0x440c, 0, 32, 0⟩
def Reg.HIF_CACHE_USED : Field := ⟨0x4410, 0, 13, 0⟩
def Reg.HIF_CACHE_BUSY : Field := ⟨0x4410, 16, 13, 0⟩
def Reg.HIF_HOLD_HOLD_TO : Field := ⟨0x4414, 0, 8, 0x3c⟩
def Reg.HIF_CELL_STAT_VALID : Field := ⟨0x4418, 0, 11, 0⟩
def Reg.HIF_CELL_STAT_BUSY : Field := ⟨0x4418, 11, 1, 0⟩
def Reg.HIF_CELL_STAT_RDERR : Field := ⟨0x4418, 12, 1, 0⟩
def Reg.HIF_CELL_STAT_BAD : Field := ⟨0x4418, 16, 11, 0⟩
def Reg.HIF_CELL_STAT_BADV : Field := ⟨0x4418, 27, 1, 0⟩
def Reg.HIF_FLUME_STAT_OPEN : Field := ⟨0x441c, 0, 11, 0⟩
def Reg.HIF_FLUME_STAT_FULL : Field := ⟨0x441c, 16, 16, 0⟩
def Reg.HOP_CTRL_EN : Field := ⟨0x34000, 0, 1, 1⟩
def Reg.HOP_CTRL_AUTO : Field := ⟨0x34000, 1, 1, 1⟩
def Reg.HOP_CTRL_RSRATE : Field := ⟨0x34000, 8, 6, 0x14⟩
def Reg.HOP_CTRL_RPRATE : Field := ⟨0x34000, 16, 7, 0x28⟩
def Reg.HOP_SLOT_STAT_STATE (sl : Nat) : Field := ⟨0x34010 + sl * 0x10, 0, 3, 0⟩
def Reg.HOP_SLOT_STAT_PRES (sl : Nat) : Field := ⟨0x34010 + sl * 0x10, 3, 1, 0⟩
def Reg.HOP_SLOT_STAT_FOREIGN (sl : Nat) : Field := ⟨0x34010 + sl * 0x10, 4, 1, 0⟩
def Reg.HOP_SLOT_STAT_LATCH (sl : Nat) : Field := ⟨0x34010 + sl * 0x10, 5, 1, 0⟩
def Reg.HOP_SLOT_STAT_WEAR (sl : Nat) : Field := ⟨0x34010 + sl * 0x10, 8, 8, 0⟩
def Reg.HOP_SLOT_STAT_PROG (sl : Nat) : Field := ⟨0x34010 + sl * 0x10, 16, 16, 0⟩
def Reg.HOP_SLOT_SER_LO_SER (sl : Nat) : Field := ⟨0x34014 + sl * 0x10, 0, 32, 0⟩
def Reg.HOP_SLOT_SER_HI_SER (sl : Nat) : Field := ⟨0x34018 + sl * 0x10, 0, 32, 0⟩
def Reg.HOP_FR_OLD_LO_TURN : Field := ⟨0x34030, 0, 32, 0⟩
def Reg.HOP_FR_OLD_HI_TURN : Field := ⟨0x34034, 0, 32, 0⟩
def Reg.HOP_FR_NEW_LO_TURN : Field := ⟨0x34038, 0, 32, 0⟩
def Reg.HOP_FR_NEW_HI_TURN : Field := ⟨0x3403c, 0, 32, 0⟩
def Reg.HOP_RATE_RATIO : Field := ⟨0x34040, 0, 16, 0⟩
def Reg.HOP_RATE_SPAN : Field := ⟨0x34040, 16, 16, 0⟩
def Reg.HOP_BACKLOG_MIB : Field := ⟨0x34044, 0, 16, 0⟩
def Reg.HOP_BACKLOG_GAPS : Field := ⟨0x34044, 16, 16, 0⟩
def Reg.EVL_CTRL_RWIN : Field := ⟨0x36000, 0, 8, 0xa⟩
def Reg.EVL_CTRL_FRZ_TO : Field := ⟨0x36000, 8, 12, 0x258⟩
def Reg.EVL_STAT_USED : Field := ⟨0x36004, 0, 17, 0⟩
def Reg.EVL_STAT_NEAR : Field := ⟨0x36004, 17, 1, 0⟩
def Reg.EVL_STAT_FULL : Field := ⟨0x36004, 18, 1, 0⟩
def Reg.EVL_STAT_FROZEN : Field := ⟨0x36004, 19, 1, 0⟩
def Reg.EVL_STAT_QDEPTH : Field := ⟨0x36004, 21, 11, 0⟩
def Reg.EVL_OLD_LO_SEQ : Field := ⟨0x36008, 0, 32, 0⟩
def Reg.EVL_OLD_HI_SEQ : Field := ⟨0x3600c, 0, 16, 0⟩
def Reg.EVL_NEW_LO_SEQ : Field := ⟨0x36010, 0, 32, 0⟩
def Reg.EVL_NEW_HI_SEQ : Field := ⟨0x36014, 0, 16, 0⟩
def Reg.EVL_LOST_COUNT : Field := ⟨0x36018, 0, 16, 0⟩
def Reg.EVL_LOST_CODE : Field := ⟨0x36018, 16, 16, 0⟩
def Reg.EVL_LOST_STRK_LO_STRK : Field := ⟨0x3601c, 0, 32, 0⟩
def Reg.EVL_LOST_STRK_HI_STRK : Field := ⟨0x36020, 0, 32, 0⟩
def Reg.EVL_FRZ_FCOUNT : Field := ⟨0x36024, 0, 17, 0⟩
def Reg.EVL_RDIDX_IDX : Field := ⟨0x36028, 0, 16, 0⟩
def Reg.EVL_RDIDX_FRZV : Field := ⟨0x36028, 16, 1, 0⟩
def Reg.EVL_RDDATA_DATA (w : Nat) : Field := ⟨0x36040 + w * 0x4, 0, 32, 0⟩
def Reg.TIM_STAT_STATE : Field := ⟨0x3000, 0, 3, 0⟩
def Reg.TIM_STAT_TV : Field := ⟨0x3000, 3, 1, 0⟩
def Reg.TIM_STAT_TODV : Field := ⟨0x3000, 4, 1, 0⟩
def Reg.TIM_STAT_SET : Field := ⟨0x3000, 5, 1, 0⟩
def Reg.TIM_STAT_SRC : Field := ⟨0x3000, 6, 2, 0⟩
def Reg.TIM_OFS_VAL : Field := ⟨0x3004, 0, 32, 0⟩
def Reg.TIM_RATE_VAL : Field := ⟨0x3008, 0, 32, 0⟩
def Reg.TIM_CFG_ACQ_WAIT : Field := ⟨0x300c, 0, 3, 3⟩
def Reg.TIM_CFG_TOD_MAX : Field := ⟨0x300c, 4, 12, 0x3c⟩
def Reg.TIM_CFG_SLEW : Field := ⟨0x300c, 16, 10, 0x1f4⟩
def Reg.TIM_SERVO_LOCK_TH : Field := ⟨0x3010, 0, 14, 0xc8⟩
def Reg.TIM_SERVO_FARMAX : Field := ⟨0x3010, 14, 6, 0x3c⟩
def Reg.TIM_SERVO_HOLD_MAX : Field := ⟨0x3010, 20, 12, 0x168⟩
def Reg.TIM_NOW_SEC_LO_VAL : Field := ⟨0x3020, 0, 32, 0⟩
def Reg.TIM_NOW_SEC_HI_VAL : Field := ⟨0x3024, 0, 16, 0⟩
def Reg.TIM_NOW_NS_VAL : Field := ⟨0x3028, 0, 32, 0⟩
def Reg.TIM_NOW_FRAC_VAL : Field := ⟨0x302c, 0, 16, 0⟩
def Reg.TIM_PTP_CFG_PROFILE : Field := ⟨0x3040, 0, 2, 0⟩
def Reg.TIM_PTP_CFG_ROLE : Field := ⟨0x3040, 2, 2, 0⟩
def Reg.TIM_PTP_CFG_DOMAIN : Field := ⟨0x3040, 4, 7, 0⟩
def Reg.TIM_PTP_CFG_SDOID : Field := ⟨0x3040, 12, 4, 0⟩
def Reg.TIM_PTP_CFG_PRIO1 : Field := ⟨0x3040, 16, 8, 0x80⟩
def Reg.TIM_PTP_CFG_PRIO2 : Field := ⟨0x3040, 24, 8, 0x80⟩
def Reg.TIM_PTP_P_EN (n : Nat) : Field := ⟨0x3050 + n * 0x10, 0, 1, 1⟩
def Reg.TIM_PTP_P_STEP (n : Nat) : Field := ⟨0x3050 + n * 0x10, 1, 1, 0⟩
def Reg.TIM_PTP_P_UDP (n : Nat) : Field := ⟨0x3050 + n * 0x10, 2, 1, 0⟩
def Reg.TIM_PTP_P_LOGSYNC (n : Nat) : Field := ⟨0x3050 + n * 0x10, 4, 4, 0xc⟩
def Reg.TIM_PTP_P_LOGANN (n : Nat) : Field := ⟨0x3050 + n * 0x10, 8, 4, 0⟩
def Reg.TIM_PTP_P_LOGDLY (n : Nat) : Field := ⟨0x3050 + n * 0x10, 12, 4, 0⟩
def Reg.TIM_ASYM_ASYM (n : Nat) : Field := ⟨0x3054 + n * 0x10, 0, 32, 0⟩
def Reg.TIM_PSTAT_PSTATE (n : Nat) : Field := ⟨0x3058 + n * 0x10, 0, 4, 1⟩
def Reg.TIM_PSTAT_MPD (n : Nat) : Field := ⟨0x3058 + n * 0x10, 16, 16, 0⟩
def Reg.TIM_TTO_CTRL_MODE (k : Nat) : Field := ⟨0x3100 + k * 0x20, 0, 2, 0⟩
def Reg.TIM_TTO_CTRL_POL (k : Nat) : Field := ⟨0x3100 + k * 0x20, 2, 1, 0⟩
def Reg.TIM_TTO_CTRL_ARM (k : Nat) : Field := ⟨0x3100 + k * 0x20, 3, 1, 0⟩
def Reg.TIM_TTO_CTRL_ACTIVE (k : Nat) : Field := ⟨0x3100 + k * 0x20, 4, 1, 0⟩
def Reg.TIM_TTO_CTRL_LATE (k : Nat) : Field := ⟨0x3100 + k * 0x20, 5, 1, 0⟩
def Reg.TIM_TTO_CTRL_DONE (k : Nat) : Field := ⟨0x3100 + k * 0x20, 16, 16, 0⟩
def Reg.TIM_TTO_START_LO_VAL (k : Nat) : Field := ⟨0x3104 + k * 0x20, 0, 32, 0⟩
def Reg.TIM_TTO_START_HI_VAL (k : Nat) : Field := ⟨0x3108 + k * 0x20, 0, 16, 0⟩
def Reg.TIM_TTO_START_NS_VAL (k : Nat) : Field := ⟨0x310c + k * 0x20, 0, 32, 0⟩
def Reg.TIM_TTO_PERIOD_VAL (k : Nat) : Field := ⟨0x3110 + k * 0x20, 0, 32, 0⟩
def Reg.TIM_TTO_WIDTH_VAL (k : Nat) : Field := ⟨0x3114 + k * 0x20, 0, 32, 0⟩
def Reg.TIM_TTO_COUNT_VAL (k : Nat) : Field := ⟨0x3118 + k * 0x20, 0, 32, 0⟩
def Reg.TIM_TCI_CFG_EDGE (n : Nat) : Field := ⟨0x3200 + n * 0x20, 0, 2, 0⟩
def Reg.TIM_TCI_CFG_OVF (n : Nat) : Field := ⟨0x3200 + n * 0x20, 2, 1, 0⟩
def Reg.TIM_TCI_CFG_LEVEL (n : Nat) : Field := ⟨0x3200 + n * 0x20, 8, 6, 0⟩
def Reg.TIM_TCI_SEC_LO_VAL (n : Nat) : Field := ⟨0x3204 + n * 0x20, 0, 32, 0⟩
def Reg.TIM_TCI_SEC_HI_VAL (n : Nat) : Field := ⟨0x3208 + n * 0x20, 0, 18, 0⟩
def Reg.TIM_TCI_NS_VAL (n : Nat) : Field := ⟨0x320c + n * 0x20, 0, 32, 0⟩
def Reg.TIM_TCI_FRAC_VAL (n : Nat) : Field := ⟨0x3210 + n * 0x20, 0, 16, 0⟩
def Reg.TIM_IVL_CFG_SIN (k : Nat) : Field := ⟨0x3300 + k * 0x10, 0, 2, 0⟩
def Reg.TIM_IVL_CFG_SFALL (k : Nat) : Field := ⟨0x3300 + k * 0x10, 2, 1, 0⟩
def Reg.TIM_IVL_CFG_PIN (k : Nat) : Field := ⟨0x3300 + k * 0x10, 4, 2, 1⟩
def Reg.TIM_IVL_CFG_PFALL (k : Nat) : Field := ⟨0x3300 + k * 0x10, 6, 1, 0⟩
def Reg.TIM_IVL_CFG_CONT (k : Nat) : Field := ⟨0x3300 + k * 0x10, 7, 1, 0⟩
def Reg.TIM_IVL_CFG_EN (k : Nat) : Field := ⟨0x3300 + k * 0x10, 8, 1, 0⟩
def Reg.TIM_IVL_CFG_TMO (k : Nat) : Field := ⟨0x3300 + k * 0x10, 16, 16, 0⟩
def Reg.TIM_IVL_RES_VAL (k : Nat) : Field := ⟨0x3304 + k * 0x10, 0, 32, 0⟩
def Reg.TIM_IVL_RESF_VAL (k : Nat) : Field := ⟨0x3308 + k * 0x10, 0, 32, 0⟩
def Reg.TIM_IVL_TMOCNT_CNT (k : Nat) : Field := ⟨0x330c + k * 0x10, 0, 16, 0⟩
def Reg.NET_PORT_EN (n : Nat) : Field := ⟨0x33000 + n * 0x40, 0, 1, 1⟩
def Reg.NET_PORT_SPEED (n : Nat) : Field := ⟨0x33000 + n * 0x40, 1, 2, 0⟩
def Reg.NET_PORT_LINK (n : Nat) : Field := ⟨0x33000 + n * 0x40, 3, 1, 0⟩
def Reg.NET_PORT_G1 (n : Nat) : Field := ⟨0x33000 + n * 0x40, 4, 1, 0⟩
def Reg.NET_MAC_LO_MAC (n : Nat) : Field := ⟨0x33004 + n * 0x40, 0, 32, 0⟩
def Reg.NET_MAC_HI_MAC (n : Nat) : Field := ⟨0x33008 + n * 0x40, 0, 16, 0⟩
def Reg.NET_IP_ADDR (n : Nat) : Field := ⟨0x3300c + n * 0x40, 0, 32, 0⟩
def Reg.NET_MASK_ADDR (n : Nat) : Field := ⟨0x33010 + n * 0x40, 0, 32, 0⟩
def Reg.NET_GW_ADDR (n : Nat) : Field := ⟨0x33014 + n * 0x40, 0, 32, 0⟩
def Reg.NET_VLAN_SVID (n : Nat) : Field := ⟨0x33018 + n * 0x40, 0, 12, 0⟩
def Reg.NET_VLAN_SPCP (n : Nat) : Field := ⟨0x33018 + n * 0x40, 12, 3, 0⟩
def Reg.NET_VLAN_STAG (n : Nat) : Field := ⟨0x33018 + n * 0x40, 15, 1, 0⟩
def Reg.NET_VLAN_PVID (n : Nat) : Field := ⟨0x33018 + n * 0x40, 16, 12, 0⟩
def Reg.NET_VLAN_PPCP (n : Nat) : Field := ⟨0x33018 + n * 0x40, 28, 3, 7⟩
def Reg.NET_VLAN_PTAG (n : Nat) : Field := ⟨0x33018 + n * 0x40, 31, 1, 0⟩
def Reg.NET_DROP_FILT (n : Nat) : Field := ⟨0x3301c + n * 0x40, 0, 16, 0⟩
def Reg.NET_DROP_POL (n : Nat) : Field := ⟨0x3301c + n * 0x40, 16, 16, 0⟩
def Reg.NET_SVC_PORT : Field := ⟨0x33080, 0, 16, 0x1c10⟩
def Reg.NET_SVC_EN : Field := ⟨0x33080, 16, 1, 1⟩
def Reg.NET_TG_MAC_LO_VAL (k : Nat) : Field := ⟨0x33100 + k * 0x8, 0, 32, 0⟩
def Reg.NET_TG_MAC_HI_VAL (k : Nat) : Field := ⟨0x33104 + k * 0x8, 0, 32, 0⟩
def Reg.HIF_FN_CC_OFS_LO_VAL (fn : Nat) : Field := ⟨0x100040 + fn * 0x4000, 0, 32, 0⟩
def Reg.HIF_FN_CC_OFS_HI_VAL (fn : Nat) : Field := ⟨0x100044 + fn * 0x4000, 0, 32, 0⟩
def Reg.HIF_FN_CC_RATE_VAL (fn : Nat) : Field := ⟨0x100048 + fn * 0x4000, 0, 32, 0⟩
def Reg.HIF_FN_CC_CTRL_APPLY (fn : Nat) : Field := ⟨0x10004c + fn * 0x4000, 0, 1, 0⟩
def Reg.HIF_FN_CC_NOW_SEC_LO_VAL (fn : Nat) : Field := ⟨0x100050 + fn * 0x4000, 0, 32, 0⟩
def Reg.HIF_FN_CC_NOW_SEC_HI_VAL (fn : Nat) : Field := ⟨0x100054 + fn * 0x4000, 0, 16, 0⟩
def Reg.HIF_FN_CC_NOW_NS_VAL (fn : Nat) : Field := ⟨0x100058 + fn * 0x4000, 0, 32, 0⟩
def Reg.HIF_FN_CC_NOW_FRAC_VAL (fn : Nat) : Field := ⟨0x10005c + fn * 0x4000, 0, 16, 0⟩
def Reg.CAN_CTRL_INIT (c : Nat) : Field := ⟨0x32000 + c * 0x400, 0, 1, 1⟩
def Reg.CAN_CTRL_FMT (c : Nat) : Field := ⟨0x32000 + c * 0x400, 1, 2, 0⟩
def Reg.CAN_CTRL_XLFM (c : Nat) : Field := ⟨0x32000 + c * 0x400, 3, 1, 0⟩
def Reg.CAN_CTRL_AREC (c : Nat) : Field := ⟨0x32000 + c * 0x400, 4, 1, 1⟩
def Reg.CAN_CTRL_ONESHOT (c : Nat) : Field := ⟨0x32000 + c * 0x400, 5, 1, 0⟩
def Reg.CAN_CTRL_VEC (c : Nat) : Field := ⟨0x32000 + c * 0x400, 8, 6, 0⟩
def Reg.CAN_CTRL_IE_RX (c : Nat) : Field := ⟨0x32000 + c * 0x400, 14, 1, 0⟩
def Reg.CAN_CTRL_IE_TX (c : Nat) : Field := ⟨0x32000 + c * 0x400, 15, 1, 0⟩
def Reg.CAN_CTRL_IE_ERR (c : Nat) : Field := ⟨0x32000 + c * 0x400, 16, 1, 0⟩
def Reg.CAN_STAT_ESTATE (c : Nat) : Field := ⟨0x32004 + c * 0x400, 0, 2, 0⟩
def Reg.CAN_STAT_SYNC (c : Nat) : Field := ⟨0x32004 + c * 0x400, 2, 1, 0⟩
def Reg.CAN_STAT_FBANK (c : Nat) : Field := ⟨0x32004 + c * 0x400, 3, 1, 0⟩
def Reg.CAN_NBT_BRP (c : Nat) : Field := ⟨0x32008 + c * 0x400, 0, 5, 0x02⟩
def Reg.CAN_NBT_TSEG1 (c : Nat) : Field := ⟨0x32008 + c * 0x400, 5, 8, 0x3F⟩
def Reg.CAN_NBT_TSEG2 (c : Nat) : Field := ⟨0x32008 + c * 0x400, 13, 7, 0x10⟩
def Reg.CAN_NBT_SJW (c : Nat) : Field := ⟨0x32008 + c * 0x400, 20, 7, 0x10⟩
def Reg.CAN_DBT_BRP (c : Nat) : Field := ⟨0x3200c + c * 0x400, 0, 5, 0x01⟩
def Reg.CAN_DBT_TSEG1 (c : Nat) : Field := ⟨0x3200c + c * 0x400, 5, 8, 0x0B⟩
def Reg.CAN_DBT_TSEG2 (c : Nat) : Field := ⟨0x3200c + c * 0x400, 13, 7, 0x04⟩
def Reg.CAN_DBT_SJW (c : Nat) : Field := ⟨0x3200c + c * 0x400, 20, 7, 0x04⟩
def Reg.CAN_XBT_BRP (c : Nat) : Field := ⟨0x32010 + c * 0x400, 0, 5, 0x01⟩
def Reg.CAN_XBT_TSEG1 (c : Nat) : Field := ⟨0x32010 + c * 0x400, 5, 8, 0x06⟩
def Reg.CAN_XBT_TSEG2 (c : Nat) : Field := ⟨0x32010 + c * 0x400, 13, 7, 0x03⟩
def Reg.CAN_XBT_SJW (c : Nat) : Field := ⟨0x32010 + c * 0x400, 20, 7, 0x03⟩
def Reg.CAN_SSP_OFFSET (c : Nat) : Field := ⟨0x32014 + c * 0x400, 0, 8, 6⟩
def Reg.CAN_SSP_DELAY (c : Nat) : Field := ⟨0x32014 + c * 0x400, 16, 8, 0⟩
def Reg.CAN_ERR_TEC (c : Nat) : Field := ⟨0x32018 + c * 0x400, 0, 8, 0⟩
def Reg.CAN_ERR_REC (c : Nat) : Field := ⟨0x32018 + c * 0x400, 8, 8, 0⟩
def Reg.CAN_ERR_PXCNT (c : Nat) : Field := ⟨0x32018 + c * 0x400, 16, 16, 0⟩
def Reg.CAN_FLT_CFG_LEN (c : Nat) : Field := ⟨0x32020 + c * 0x400, 0, 10, 0⟩
def Reg.CAN_FLT_CFG_NM (c : Nat) : Field := ⟨0x32020 + c * 0x400, 10, 2, 2⟩
def Reg.CAN_FLT_CFG_SWAP (c : Nat) : Field := ⟨0x32020 + c * 0x400, 12, 1, 0⟩
def Reg.CAN_FLT_IDX_IDX (c : Nat) : Field := ⟨0x32024 + c * 0x400, 0, 12, 0⟩
def Reg.CAN_FLT_DATA_DATA (c : Nat) : Field := ⟨0x32028 + c * 0x400, 0, 32, 0⟩
def Reg.CAN_RXQ_CFG_DEPTH (c : Nat) (j : Nat) : Field := ⟨0x32040 + c * 0x400 + j * 0x10, 0, 7, 0x20⟩
def Reg.CAN_RXQ_CFG_DSIZE (c : Nat) (j : Nat) : Field := ⟨0x32040 + c * 0x400 + j * 0x10, 8, 2, 1⟩
def Reg.CAN_RXQ_STAT_VAL (c : Nat) (j : Nat) : Field := ⟨0x32044 + c * 0x400 + j * 0x10, 0, 32, 0⟩
def Reg.CAN_RXQ_ACK_N (c : Nat) (j : Nat) : Field := ⟨0x32048 + c * 0x400 + j * 0x10, 0, 7, 0⟩
def Reg.CAN_TXSEQ_CSEQ (c : Nat) : Field := ⟨0x32090 + c * 0x400, 0, 16, 0⟩
def Reg.CAN_MWIN_ADDR_ADDR (c : Nat) : Field := ⟨0x320a0 + c * 0x400, 0, 18, 0⟩
def Reg.CAN_MWIN_DATA_DATA (c : Nat) : Field := ⟨0x320a4 + c * 0x400, 0, 32, 0⟩
def Reg.CAN_REF_CFG_EN (c : Nat) : Field := ⟨0x320c0 + c * 0x400, 0, 1, 0⟩
def Reg.CAN_REF_CFG_PER (c : Nat) : Field := ⟨0x320c0 + c * 0x400, 1, 10, 0x64⟩
def Reg.CAN_REF_CFG_RID (c : Nat) : Field := ⟨0x320c0 + c * 0x400, 12, 11, 0⟩
def Reg.CAN_DISC_CFG_EN (c : Nat) : Field := ⟨0x320d0 + c * 0x400, 0, 1, 0⟩
def Reg.CAN_DISC_CFG_PER (c : Nat) : Field := ⟨0x320d0 + c * 0x400, 1, 8, 0xa⟩
def Reg.CAN_DISC_CFG_QID (c : Nat) : Field := ⟨0x320d0 + c * 0x400, 9, 11, 0⟩
def Reg.CAN_DISC_CFG_RBASE (c : Nat) : Field := ⟨0x320d0 + c * 0x400, 20, 11, 0⟩
def Reg.CAN_DISC_MAP_LO_MAP (c : Nat) : Field := ⟨0x320d4 + c * 0x400, 0, 32, 0⟩
def Reg.CAN_DISC_MAP_HI_MAP (c : Nat) : Field := ⟨0x320d8 + c * 0x400, 0, 32, 0⟩
def Reg.CAN_ALM_CFG_EN (c : Nat) : Field := ⟨0x320e0 + c * 0x400, 0, 1, 0⟩
def Reg.CAN_ALM_CFG_AID (c : Nat) : Field := ⟨0x320e0 + c * 0x400, 1, 11, 0⟩
def Reg.CAN_ALM_CFG_DROP (c : Nat) : Field := ⟨0x320e0 + c * 0x400, 16, 8, 0⟩
def Reg.TDM_CFG_TANDEM : Field := ⟨0x35000, 0, 1, 0⟩
def Reg.TDM_CFG_PREF : Field := ⟨0x35000, 1, 1, 0⟩
def Reg.TDM_CFG_HO_MAX : Field := ⟨0x35000, 8, 8, 0x32⟩
def Reg.TDM_CFG_DISC_WAIT : Field := ⟨0x35000, 16, 8, 0x1e⟩
def Reg.TDM_STAT_ROLE : Field := ⟨0x35004, 0, 2, 2⟩
def Reg.TDM_STAT_TOKEN : Field := ⟨0x35004, 2, 1, 0⟩
def Reg.TDM_STAT_LINK : Field := ⟨0x35004, 3, 1, 0⟩
def Reg.TDM_STAT_PAIRED : Field := ⟨0x35004, 4, 1, 0⟩
def Reg.TDM_STAT_READY : Field := ⟨0x35004, 5, 1, 0⟩
def Reg.TDM_STAT_PREADY : Field := ⟨0x35004, 6, 1, 0⟩
def Reg.TDM_STAT_LOOP : Field := ⟨0x35004, 7, 2, 1⟩
def Reg.TDM_STAT_HO : Field := ⟨0x35004, 9, 1, 0⟩
def Reg.TDM_STAT_AGE : Field := ⟨0x35004, 16, 16, 0xffff⟩
def Reg.TDM_PSER_LO_SER : Field := ⟨0x35008, 0, 32, 0⟩
def Reg.TDM_PSER_HI_SER : Field := ⟨0x3500c, 0, 32, 0⟩
def Reg.TDM_CMD_HO : Field := ⟨0x35010, 0, 1, 0⟩
def Reg.TDM_LAST_KIND : Field := ⟨0x35014, 0, 2, 0⟩
def Reg.TDM_LAST_FO : Field := ⟨0x35014, 2, 1, 0⟩
def Reg.TDM_LAST_ABAND : Field := ⟨0x35014, 3, 1, 0⟩
def Reg.TDM_LAST_CODE : Field := ⟨0x35014, 16, 16, 0⟩
def Reg.TDM_TURN_LO_TURN : Field := ⟨0x35018, 0, 32, 0⟩
def Reg.TDM_TURN_HI_TURN : Field := ⟨0x3501c, 0, 32, 0⟩
def Reg.TDM_IMG_ACC : Field := ⟨0x35020, 0, 16, 0⟩
def Reg.TDM_IMG_REJ : Field := ⟨0x35020, 16, 16, 0⟩
def Reg.PWR_STAT_STATE : Field := ⟨0x1000, 0, 3, 0⟩
def Reg.PWR_STAT_PF : Field := ⟨0x1000, 3, 1, 0⟩
def Reg.PWR_STAT_WARM : Field := ⟨0x1000, 4, 1, 0⟩
def Reg.PWR_STAT_CHG : Field := ⟨0x1000, 5, 1, 0⟩
def Reg.PWR_STAT_KEY : Field := ⟨0x1000, 6, 1, 0⟩
def Reg.PWR_STAT_HU_OK : Field := ⟨0x1000, 7, 1, 0⟩
def Reg.PWR_CMD_CMD : Field := ⟨0x1004, 0, 4, 0⟩
def Reg.PWR_CMD_KEY : Field := ⟨0x1004, 16, 16, 0⟩
def Reg.PWR_SUPPLY_AUX1 : Field := ⟨0x1008, 0, 8, 0⟩
def Reg.PWR_SUPPLY_AUX2 : Field := ⟨0x1008, 8, 8, 0⟩
def Reg.PWR_SUPPLY_COIL : Field := ⟨0x1008, 16, 8, 0⟩
def Reg.PWR_SUPPLY_HOLDUP : Field := ⟨0x1008, 24, 8, 0⟩
def Reg.PWR_DOM_BNK : Field := ⟨0x100c, 0, 18, 0⟩
def Reg.PWR_DOM_CUR : Field := ⟨0x100c, 18, 1, 0⟩
def Reg.PWR_DOM_IMD : Field := ⟨0x100c, 19, 1, 0⟩
def Reg.PWR_DOM_HPA : Field := ⟨0x100c, 20, 1, 0⟩
def Reg.PWR_DOM_HPB : Field := ⟨0x100c, 21, 1, 0⟩
def Reg.PWR_DOM_VEC : Field := ⟨0x100c, 22, 1, 0⟩
def Reg.PWR_DOM_MLR : Field := ⟨0x100c, 23, 1, 0⟩
def Reg.PWR_DOM_NET : Field := ⟨0x100c, 24, 1, 0⟩
def Reg.PWR_DOM_PCI : Field := ⟨0x100c, 25, 1, 0⟩
def Reg.PWR_START_CNT : Field := ⟨0x1010, 0, 3, 0⟩
def Reg.PWR_START_CAUSE : Field := ⟨0x1010, 8, 4, 0⟩
def Reg.PWR_START_WSRC : Field := ⟨0x1010, 12, 4, 0⟩
def Reg.PWR_START_STARTS : Field := ⟨0x1010, 16, 16, 0⟩
def Reg.PWR_STRAP_BIN : Field := ⟨0x1014, 0, 4, 0xf⟩
def Reg.PWR_STRAP_AMB : Field := ⟨0x1014, 4, 1, 0⟩
def Reg.PWR_STRAP_RAW : Field := ⟨0x1014, 16, 12, 0xfff⟩
def Reg.PWR_BRST_REQ : Field := ⟨0x1018, 0, 6, 0⟩
def Reg.PWR_BRST_BUSY : Field := ⟨0x1018, 8, 6, 0⟩
def Reg.PWR_BRST_FORCED : Field := ⟨0x1018, 16, 6, 0⟩
def Reg.PWR_BRST_CFG_TMO : Field := ⟨0x101c, 0, 10, 0xa⟩
def Reg.SEC_LC_STATE : Field := ⟨0x2000, 0, 3, 0⟩
def Reg.SEC_LC_PWCHG : Field := ⟨0x2000, 3, 1, 0⟩
def Reg.SEC_LC_ANCHOR : Field := ⟨0x2000, 4, 1, 0⟩
def Reg.SEC_LC_KEY : Field := ⟨0x2000, 5, 1, 0⟩
def Reg.SEC_LC_SVC_MAX : Field := ⟨0x2000, 8, 8, 0x18⟩
def Reg.SEC_LC_SVC_LEFT : Field := ⟨0x2000, 16, 16, 0⟩
def Reg.SEC_LC_CMD_CMD : Field := ⟨0x2004, 0, 3, 0⟩
def Reg.SEC_LC_CMD_KEY : Field := ⟨0x2004, 16, 16, 0⟩
def Reg.SEC_DBG_LEVEL : Field := ⟨0x2008, 0, 2, 0⟩
def Reg.SEC_DBG_LSH : Field := ⟨0x2008, 2, 1, 0⟩
def Reg.SEC_DBG_APPH : Field := ⟨0x2008, 3, 1, 0⟩
def Reg.SEC_DBG_VECH : Field := ⟨0x2008, 4, 1, 0⟩
def Reg.SEC_DBG_SIGNER : Field := ⟨0x2008, 5, 1, 0⟩
def Reg.SEC_DBG_FAILS : Field := ⟨0x2008, 8, 8, 0⟩
def Reg.SEC_DBG_LOCK : Field := ⟨0x2008, 16, 16, 0⟩
def Reg.SEC_DBG_CTRL_DROP : Field := ⟨0x200c, 0, 1, 0⟩
def Reg.SEC_FW_STAT_ACT : Field := ⟨0x2010, 0, 1, 0⟩
def Reg.SEC_FW_STAT_STAGED : Field := ⟨0x2010, 1, 1, 0⟩
def Reg.SEC_FW_STAT_BUSY : Field := ⟨0x2010, 2, 1, 0⟩
def Reg.SEC_FW_STAT_FALLBACK : Field := ⟨0x2010, 3, 1, 0⟩
def Reg.SEC_FW_STAT_RECOV : Field := ⟨0x2010, 4, 1, 0⟩
def Reg.SEC_FW_STAT_FUSE_SVN : Field := ⟨0x2010, 8, 8, 0⟩
def Reg.SEC_FW_STAT_RUN_SVN : Field := ⟨0x2010, 16, 8, 0⟩
def Reg.SEC_FW_STAT_STG_SVN : Field := ⟨0x2010, 24, 8, 0⟩
def Reg.SEC_FW_VER_RUN_VERSION : Field := ⟨0x2014, 0, 32, 0⟩
def Reg.SEC_FW_VER_STG_VERSION : Field := ⟨0x2018, 0, 32, 0⟩
def Reg.SEC_FW_KEYS_REVOKED : Field := ⟨0x201c, 0, 4, 0⟩
def Reg.SEC_FW_KEYS_KEYIDX : Field := ⟨0x201c, 4, 2, 0⟩
def Reg.SEC_SVC_STAT_CONN : Field := ⟨0x2020, 0, 3, 0⟩
def Reg.SEC_SVC_STAT_REJ : Field := ⟨0x2020, 8, 8, 0⟩
def Reg.SEC_ANCHOR_HASH (w : Nat) : Field := ⟨0x2040 + w * 0x4, 0, 32, 0⟩
def Reg.SEC_DENY_LO_FP (k : Nat) : Field := ⟨0x2080 + k * 0x8, 0, 32, 0⟩
def Reg.SEC_DENY_HI_FP (k : Nat) : Field := ⟨0x2084 + k * 0x8, 0, 32, 0⟩
def Reg.SYS_LS_STAT_MM24 : Field := ⟨0x30, 0, 8, 0⟩
def Reg.SYS_LS_STAT_TOTAL : Field := ⟨0x30, 8, 8, 0⟩
def Reg.SYS_LS_STAT_GROUP : Field := ⟨0x30, 16, 6, 0⟩
def Reg.SYS_LS_STAT_STEST : Field := ⟨0x30, 22, 1, 0⟩
def Reg.SYS_ID_ID : Field := ⟨0x0, 0, 32, 0x44530480⟩
def Reg.SYS_BUILD_BANKS : Field := ⟨0x4, 0, 5, 18⟩
def Reg.SYS_BUILD_MARINE : Field := ⟨0x4, 5, 1, 0⟩
def Reg.SYS_BUILD_HWREV : Field := ⟨0x4, 8, 8, 0⟩
def Reg.SYS_SER_LO_SER : Field := ⟨0x8, 0, 32, 0⟩
def Reg.SYS_SER_HI_SER : Field := ⟨0xc, 0, 32, 0⟩
def Reg.SYS_FWALL_INIT : Field := ⟨0x40, 0, 4, 0⟩
def Reg.SYS_FWALL_VALID : Field := ⟨0x40, 4, 1, 0⟩
def Reg.SYS_FWALL_COUNT : Field := ⟨0x40, 16, 16, 0⟩
def Reg.SYS_FWALL_ADDR_OFS : Field := ⟨0x44, 0, 29, 0⟩
def Reg.SYS_FWALL_ADDR_REG : Field := ⟨0x44, 30, 2, 0⟩
def Reg.BNK_BR_SER_LO_SER (nn : Nat) (k : Nat) : Field := ⟨0x10044 + nn * 0x800 + k * 0x10, 0, 32, 0⟩
def Reg.BNK_BR_SER_HI_SER (nn : Nat) (k : Nat) : Field := ⟨0x10048 + nn * 0x800 + k * 0x10, 0, 32, 0⟩
def Reg.CAN_TXREQ_TXB (c : Nat) : Field := ⟨0x32080 + c * 0x400, 0, 16, 0⟩
def Reg.CAN_TXCAN_TXB (c : Nat) : Field := ⟨0x32084 + c * 0x400, 0, 16, 0⟩
def Reg.CAN_TXPEND_TXB (c : Nat) : Field := ⟨0x32088 + c * 0x400, 0, 16, 0⟩
def Reg.CAN_TXDONE_TXB (c : Nat) : Field := ⟨0x3208c + c * 0x400, 0, 16, 0⟩
def Reg.MPD_CAP_TURN_LO_TURN (k : Nat) : Field := ⟨0x5100 + k * 0x10, 0, 32, 0⟩
def Reg.MPD_CAP_TURN_HI_TURN (k : Nat) : Field := ⟨0x5104 + k * 0x10, 0, 32, 0⟩

/-- Part 1 of the register map. -/
def regMap1 : List RegDef := [
  ⟨0x10, [], [⟨0, 32, .ro, 0, .any⟩]⟩,
  ⟨0x14, [], [⟨0, 32, .ro, 0, .any⟩]⟩,
  ⟨0x20, [], [⟨0, 8, .w1c, 0, .any⟩, ⟨8, 8, .ro, 0, .any⟩, ⟨16, 4, .ro, 0xf, .any⟩, ⟨20, 1, .w1c, 0, .any⟩, ⟨21, 1, .w1c, 0, .any⟩]⟩,
  ⟨0x10000, [(18, 0x800)], [⟨0, 1, .rwl, 0, .any⟩, ⟨8, 7, .rwl, 0x40, .range 8 64⟩, ⟨16, 3, .rwl, 3, .any⟩, ⟨20, 1, .rw, 0, .any⟩]⟩,
  ⟨0x10004, [(18, 0x800)], [⟨0, 1, .ro, 0, .any⟩, ⟨1, 1, .ro, 0, .any⟩, ⟨2, 1, .ro, 0, .any⟩, ⟨3, 1, .ro, 0, .any⟩, ⟨4, 1, .ro, 0, .any⟩, ⟨5, 1, .ro, 0, .any⟩, ⟨8, 4, .ro, 0, .any⟩, ⟨12, 4, .ro, 0, .any⟩, ⟨16, 16, .ro, 0, .any⟩]⟩,
  ⟨0x10008, [(18, 0x800)], [⟨0, 16, .ro, 0, .any⟩, ⟨16, 12, .ro, 0, .any⟩]⟩,
  ⟨0x10040, [(18, 0x800), (4, 0x10)], [⟨0, 1, .ro, 0, .any⟩, ⟨1, 1, .ro, 0, .any⟩, ⟨8, 6, .ro, 0, .any⟩, ⟨16, 7, .ro, 0, .any⟩, ⟨24, 8, .ro, 0, .any⟩]⟩,
  ⟨0x10080, [(18, 0x800)], [⟨0, 6, .ro, 0, .any⟩, ⟨6, 1, .ro, 0, .any⟩, ⟨8, 8, .ro, 2, .any⟩, ⟨16, 8, .ro, 0, .any⟩]⟩,
  ⟨0x10084, [(18, 0x800)], [⟨0, 24, .ro, 0, .any⟩, ⟨24, 6, .ro, 0, .any⟩, ⟨30, 1, .ro, 0, .any⟩, ⟨31, 1, .ro, 0, .any⟩]⟩,
  ⟨0x10088, [(18, 0x800)], [⟨0, 32, .ro, 0, .any⟩]⟩,
  ⟨0x1008c, [(18, 0x800)], [⟨0, 32, .ro, 0, .any⟩]⟩,
  ⟨0x10090, [(18, 0x800)], [⟨0, 32, .ro, 0, .any⟩]⟩,
  ⟨0x10094, [(18, 0x800)], [⟨0, 32, .ro, 0, .any⟩]⟩,
  ⟨0x10098, [(18, 0x800)], [⟨0, 7, .ro, 0, .any⟩, ⟨8, 2, .ro, 0, .any⟩, ⟨16, 12, .ro, 0, .any⟩]⟩,
  ⟨0x30000, [], [⟨0, 2, .rwl, 0, .range 0 2⟩, ⟨8, 3, .rwl, 3, .any⟩, ⟨12, 3, .rwl, 3, .any⟩]⟩,
  ⟨0x30004, [], [⟨0, 1, .ro, 0, .any⟩, ⟨1, 1, .ro, 0, .any⟩, ⟨2, 1, .ro, 0, .any⟩, ⟨3, 2, .ro, 3, .any⟩, ⟨5, 1, .ro, 0, .any⟩, ⟨6, 1, .ro, 0, .any⟩, ⟨7, 1, .ro, 0, .any⟩, ⟨8, 1, .ro, 0, .any⟩]⟩,
  ⟨0x30010, [], [⟨0, 32, .ro, 0, .any⟩]⟩,
  ⟨0x30014, [], [⟨0, 32, .ro, 0, .any⟩]⟩,
  ⟨0x30018, [], [⟨0, 10, .ro, 0, .any⟩]⟩,
  ⟨0x3001c, [], [⟨0, 32, .ro, 0, .any⟩]⟩,
  ⟨0x30020, [], [⟨0, 20, .rwl, 0, .any⟩]⟩,
  ⟨0x30040, [], [⟨0, 2, .rwl, 1, .range 0 2⟩, ⟨4, 3, .rwl, 1, .range 1 4⟩]⟩,
  ⟨0x30044, [], [⟨0, 16, .rwl, 0x1f4, .any⟩, ⟨16, 16, .rwl, 0x64, .any⟩]⟩,
  ⟨0x30048, [], [⟨0, 16, .ro, 0, .any⟩, ⟨16, 1, .ro, 0, .any⟩, ⟨17, 1, .ro, 0, .any⟩, ⟨18, 1, .ro, 0, .any⟩, ⟨19, 1, .ro, 0, .any⟩, ⟨20, 3, .ro, 0, .any⟩, ⟨24, 8, .ro, 0xff, .any⟩]⟩,
  ⟨0x31000, [], [⟨0, 5, .rwl, 5, .range 1 20⟩]⟩,
  ⟨0x31004, [], [⟨0, 16, .ro, 0, .any⟩, ⟨16, 4, .ro, 0, .any⟩, ⟨20, 1, .ro, 0, .any⟩, ⟨21, 1, .ro, 0, .any⟩]⟩,
  ⟨0x31008, [], [⟨0, 16, .ro, 0xffff, .any⟩]⟩,
  ⟨0x3100c, [], [⟨0, 16, .ro, 0, .any⟩, ⟨16, 16, .ro, 0, .any⟩]⟩,
  ⟨0x31100, [(18, 0x8)], [⟨0, 32, .rwl, 0, .pairs 16⟩]⟩,
  ⟨0x31104, [(18, 0x8)], [⟨0, 32, .rwl, 0, .pairs 16⟩]⟩,
  ⟨0x31190, [], [⟨0, 4, .ro, 5, .any⟩, ⟨4, 12, .rwl, 0, .pairs 6⟩]⟩,
  ⟨0x31200, [(18, 0x4)], [⟨0, 3, .rwl, 0, .any⟩]⟩,
  ⟨0x31250, [], [⟨0, 18, .rwl, 0, .any⟩]⟩,
  ⟨0x31300, [(18, 0x4)], [⟨0, 32, .ro, 0, .any⟩]⟩,
  ⟨0x31348, [], [⟨0, 32, .ro, 0, .any⟩]⟩,
  ⟨0x28000, [], [⟨0, 1, .rwl, 1, .any⟩, ⟨8, 12, .rw, 0x3c, .range 1 3600⟩]⟩,
  ⟨0x28004, [], [⟨0, 10, .rwl, 0x64, .any⟩, ⟨16, 10, .rwl, 0xc8, .any⟩]⟩,
  ⟨0x28008, [], [⟨0, 12, .rwl, 0xa, .any⟩, ⟨16, 8, .rwl, 0x14, .any⟩]⟩,
  ⟨0x2800c, [], [⟨0, 16, .rwl, 0x1f4, .any⟩, ⟨16, 16, .rwl, 0x7d0, .any⟩]⟩,
  ⟨0x28010, [], [⟨0, 16, .rwl, 0x1388, .any⟩]⟩,
  ⟨0x28014, [], [⟨0, 8, .rwl, 0x1e, .range 1 255⟩, ⟨8, 8, .rwl, 5, .any⟩, ⟨16, 12, .rwl, 0x1e, .range 1 3600⟩]⟩]

/-- Part 2 of the register map. -/
def regMap2 : List RegDef := [
  ⟨0x28018, [], [⟨0, 8, .rwl, 0x5a, .any⟩, ⟨8, 8, .rwl, 0x69, .any⟩]⟩,
  ⟨0x2801c, [], [⟨0, 8, .rwl, 0x1e, .any⟩, ⟨8, 8, .rwl, 0x50, .any⟩, ⟨16, 8, .rwl, 0x46, .any⟩, ⟨24, 8, .rwl, 0x48, .any⟩]⟩,
  ⟨0x28020, [], [⟨0, 1, .ro, 0, .any⟩, ⟨1, 1, .ro, 0, .any⟩, ⟨2, 1, .ro, 0, .any⟩, ⟨3, 1, .ro, 0, .any⟩, ⟨8, 11, .ro, 0, .any⟩, ⟨20, 11, .ro, 0, .any⟩]⟩,
  ⟨0x28028, [], [⟨0, 32, .ro, 0, .any⟩]⟩,
  ⟨0x2802c, [], [⟨0, 32, .ro, 0, .any⟩]⟩,
  ⟨0x28030, [], [⟨0, 20, .ro, 0, .any⟩]⟩,
  ⟨0x28034, [], [⟨0, 20, .ro, 0, .any⟩]⟩,
  ⟨0x28100, [(18, 0x4)], [⟨0, 3, .rwl, 0, .any⟩, ⟨4, 3, .rwl, 0, .any⟩, ⟨8, 3, .rwl, 0, .any⟩, ⟨12, 3, .rwl, 0, .any⟩]⟩,
  ⟨0x28200, [(8, 0x4)], [⟨0, 16, .ro, 0, .any⟩, ⟨16, 1, .ro, 0, .any⟩, ⟨17, 1, .ro, 0, .any⟩, ⟨18, 1, .ro, 0, .any⟩, ⟨24, 4, .ro, 0, .any⟩]⟩,
  ⟨0x28400, [], [⟨0, 1, .rw, 1, .any⟩, ⟨1, 1, .rw, 1, .any⟩, ⟨2, 1, .rw, 0, .any⟩, ⟨8, 5, .rw, 0xa, .range 0 20⟩, ⟨16, 2, .rw, 1, .any⟩]⟩,
  ⟨0x28404, [], [⟨0, 8, .rw, 0x5a, .range 50 99⟩, ⟨8, 8, .rw, 5, .any⟩, ⟨16, 16, .rw, 0xe10, .any⟩]⟩,
  ⟨0x28408, [], [⟨0, 1, .rwl, 0, .any⟩, ⟨1, 1, .rwl, 0, .any⟩, ⟨2, 2, .rwl, 1, .range 1 3⟩, ⟨4, 2, .rwl, 1, .range 1 3⟩, ⟨8, 8, .rwl, 0x3c, .range 10 255⟩]⟩,
  ⟨0x2840c, [], [⟨0, 16, .rw, 0x32, .any⟩, ⟨16, 16, .rwl, 0xc8, .any⟩]⟩,
  ⟨0x28410, [], [⟨0, 10, .rw, 0x190, .any⟩, ⟨16, 10, .rwl, 0x320, .any⟩]⟩,
  ⟨0x28414, [], [⟨0, 8, .rw, 0xf, .any⟩, ⟨8, 8, .rw, 0x1e, .any⟩, ⟨16, 8, .rw, 0x32, .any⟩]⟩,
  ⟨0x28420, [], [⟨0, 1, .ro, 0, .any⟩, ⟨1, 1, .ro, 0, .any⟩, ⟨2, 1, .ro, 0, .any⟩, ⟨8, 11, .ro, 0, .any⟩, ⟨20, 11, .ro, 0, .any⟩]⟩,
  ⟨0x28424, [], [⟨0, 24, .ro, 0, .any⟩]⟩,
  ⟨0x28428, [], [⟨0, 11, .ro, 0, .any⟩, ⟨11, 2, .ro, 0, .any⟩, ⟨13, 1, .ro, 0, .any⟩, ⟨16, 16, .ro, 0, .any⟩]⟩,
  ⟨0x20000, [], [⟨0, 3, .ro, 2, .any⟩, ⟨4, 2, .ro, 0, .any⟩, ⟨6, 1, .ro, 0, .any⟩, ⟨7, 1, .ro, 0, .any⟩, ⟨8, 3, .ro, 0, .any⟩, ⟨11, 1, .ro, 0, .any⟩, ⟨12, 1, .ro, 0, .any⟩, ⟨13, 1, .ro, 0, .any⟩, ⟨16, 3, .ro, 0, .any⟩, ⟨20, 2, .ro, 0, .any⟩]⟩,
  ⟨0x20004, [], [⟨0, 16, .ro, 0, .any⟩]⟩,
  ⟨0x20010, [], [⟨0, 16, .rwl, 0x8ca0, .any⟩, ⟨16, 16, .rwl, 0x8e94, .any⟩]⟩,
  ⟨0x20014, [], [⟨0, 16, .rwl, 0x9088, .any⟩, ⟨16, 16, .rwl, 0x927c, .any⟩]⟩,
  ⟨0x20018, [], [⟨0, 16, .rwl, 0x6978, .any⟩, ⟨16, 16, .rwl, 0x61a8, .any⟩]⟩,
  ⟨0x2001c, [], [⟨0, 16, .rwl, 0x59d8, .any⟩, ⟨16, 16, .rwl, 0x4e20, .any⟩]⟩,
  ⟨0x20020, [], [⟨0, 10, .rwl, 0x20, .range 1 1023⟩, ⟨16, 10, .rwl, 0x140, .range 1 1023⟩]⟩,
  ⟨0x20024, [], [⟨0, 6, .rwl, 4, .range 1 63⟩, ⟨8, 6, .rwl, 0x20, .range 1 63⟩]⟩,
  ⟨0x20028, [], [⟨0, 16, .rwl, 0x960, .any⟩, ⟨16, 16, .rwl, 0x5dc, .any⟩]⟩,
  ⟨0x2002c, [], [⟨0, 16, .rwl, 0x7d0, .any⟩, ⟨16, 16, .rwl, 0x4b0, .any⟩]⟩,
  ⟨0x20030, [], [⟨0, 16, .rwl, 0x5dc, .any⟩, ⟨16, 16, .rwl, 0x64, .any⟩]⟩,
  ⟨0x20034, [], [⟨0, 16, .rwl, 0x109a, .any⟩, ⟨16, 16, .rwl, 0, .any⟩]⟩,
  ⟨0x20038, [], [⟨0, 16, .rwl, 0x1388, .any⟩, ⟨16, 16, .rwl, 0x157c, .any⟩]⟩,
  ⟨0x2003c, [], [⟨0, 16, .rwl, 0x1964, .any⟩, ⟨16, 16, .rwl, 0xa, .range 1 65535⟩]⟩,
  ⟨0x20040, [], [⟨0, 16, .rwl, 0, .any⟩, ⟨16, 16, .rwl, 0xf830, .any⟩]⟩,
  ⟨0x20044, [], [⟨0, 10, .rwl, 0x14, .any⟩, ⟨16, 10, .rwl, 0x3d4, .any⟩]⟩,
  ⟨0x20050, [], [⟨0, 8, .rwl, 0x64, .range 10 255⟩, ⟨8, 8, .rwl, 0x64, .range 10 255⟩, ⟨16, 8, .rwl, 0x32, .range 10 255⟩, ⟨24, 8, .rwl, 0x3c, .range 20 255⟩]⟩,
  ⟨0x20054, [], [⟨0, 8, .rwl, 0x14, .range 1 255⟩, ⟨8, 8, .rwl, 0x1e, .range 1 255⟩, ⟨16, 8, .rwl, 0x14, .range 1 255⟩, ⟨24, 8, .rwl, 0xa, .range 1 255⟩]⟩,
  ⟨0x20058, [], [⟨0, 12, .rwl, 0x14, .range 1 4095⟩, ⟨16, 12, .rwl, 0x1f4, .range 10 4095⟩]⟩,
  ⟨0x2005c, [], [⟨0, 10, .rwl, 0xc8, .range 50 1000⟩, ⟨16, 3, .rwl, 0, .any⟩, ⟨19, 1, .rwl, 0, .any⟩]⟩,
  ⟨0x20060, [], [⟨0, 8, .rwl, 0xa, .range 1 255⟩]⟩,
  ⟨0x20068, [], [⟨0, 2, .ro, 0, .any⟩, ⟨2, 2, .ro, 0, .any⟩, ⟨4, 3, .ro, 0, .any⟩]⟩]

/-- Part 3 of the register map. -/
def regMap3 : List RegDef := [
  ⟨0x20100, [(8, 0x4)], [⟨0, 3, .rwl, 0, .range 0 6⟩, ⟨4, 2, .rwl, 0, .range 0 2⟩, ⟨8, 8, .rwl, 0x32, .range 10 250⟩, ⟨16, 8, .rwl, 0xa, .range 1 255⟩]⟩,
  ⟨0x20120, [], [⟨0, 8, .ro, 0xff, .any⟩, ⟨8, 8, .ro, 0, .any⟩, ⟨16, 8, .ro, 0, .any⟩, ⟨24, 8, .ro, 0, .any⟩]⟩,
  ⟨0x20124, [], [⟨0, 1, .ro, 0, .any⟩, ⟨1, 1, .ro, 0, .any⟩]⟩,
  ⟨0x20128, [], [⟨0, 1, .ro, 0, .any⟩, ⟨1, 1, .ro, 0, .any⟩, ⟨2, 1, .ro, 0, .any⟩, ⟨8, 8, .ro, 0, .any⟩, ⟨16, 8, .ro, 0, .any⟩]⟩,
  ⟨0x20200, [], [⟨0, 32, .rwl, 0, .any⟩]⟩,
  ⟨0x20204, [], [⟨0, 16, .rwl, 0x88b5, .any⟩, ⟨16, 8, .rwl, 0xa, .range 1 100⟩, ⟨24, 8, .rwl, 0x14, .range 1 255⟩]⟩,
  ⟨0x20210, [(8, 0x10)], [⟨0, 32, .rwl, 0, .any⟩]⟩,
  ⟨0x20214, [(8, 0x10)], [⟨0, 1, .rwl, 0, .any⟩, ⟨1, 2, .rwl, 0, .range 0 2⟩, ⟨4, 10, .rwl, 0xa, .range 1 1000⟩, ⟨16, 16, .rwl, 0x32, .any⟩]⟩,
  ⟨0x20218, [(8, 0x10)], [⟨0, 1, .ro, 0, .any⟩, ⟨1, 1, .ro, 0, .any⟩, ⟨2, 1, .ro, 0, .any⟩, ⟨8, 8, .ro, 0, .any⟩, ⟨16, 16, .ro, 0, .any⟩]⟩,
  ⟨0x2100, [], [⟨0, 1, .ro, 0, .any⟩, ⟨1, 2, .ro, 0, .any⟩, ⟨3, 1, .ro, 0, .any⟩, ⟨8, 8, .ro, 0, .any⟩, ⟨16, 16, .ro, 0, .any⟩]⟩,
  ⟨0x2104, [], [⟨0, 12, .rwl, 0x384, .range 60 3600⟩, ⟨16, 8, .rwl, 8, .range 1 24⟩]⟩,
  ⟨0x2108, [], [⟨0, 13, .ro, 0, .any⟩, ⟨13, 1, .ro, 0, .any⟩, ⟨14, 1, .ro, 0, .any⟩, ⟨16, 16, .ro, 0, .any⟩]⟩,
  ⟨0x210c, [], [⟨0, 32, .ro, 0, .any⟩]⟩,
  ⟨0x2c000, [], [⟨0, 2, .rw, 0, .range 0 2⟩, ⟨2, 1, .rw, 0, .any⟩, ⟨3, 1, .rw, 1, .any⟩, ⟨8, 8, .rw, 0x18, .any⟩]⟩,
  ⟨0x2c004, [], [⟨0, 6, .rw, 0x28, .range 1 60⟩, ⟨8, 6, .rw, 8, .range 1 40⟩, ⟨16, 16, .rw, 0x7530, .any⟩]⟩,
  ⟨0x2c008, [], [⟨0, 8, .rw, 0x32, .range 1 255⟩, ⟨8, 8, .rw, 0x32, .any⟩, ⟨16, 16, .rw, 0x84d0, .any⟩]⟩,
  ⟨0x2c00c, [], [⟨0, 10, .rw, 0xa, .range 1 1000⟩, ⟨16, 16, .rw, 0x3e8, .range 32 65535⟩]⟩,
  ⟨0x2c010, [], [⟨0, 2, .ro, 0, .any⟩, ⟨2, 1, .ro, 0, .any⟩, ⟨16, 11, .ro, 0, .any⟩]⟩,
  ⟨0x2c014, [], [⟨0, 16, .ro, 0, .any⟩, ⟨16, 16, .ro, 0, .any⟩]⟩,
  ⟨0x2c100, [(18, 0x8)], [⟨0, 32, .ro, 0, .any⟩]⟩,
  ⟨0x2c104, [(18, 0x8)], [⟨0, 32, .ro, 0, .any⟩]⟩,
  ⟨0x2c200, [(18, 0x4)], [⟨0, 6, .ro, 0, .any⟩, ⟨6, 2, .ro, 0, .any⟩, ⟨8, 1, .ro, 0, .any⟩, ⟨9, 1, .ro, 0, .any⟩, ⟨16, 16, .ro, 0, .any⟩]⟩,
  ⟨0x24000, [], [⟨0, 8, .rw, 0, .any⟩, ⟨8, 8, .rw, 0, .any⟩]⟩,
  ⟨0x24004, [], [⟨0, 8, .w1c, 0, .any⟩, ⟨8, 8, .ro, 0, .any⟩, ⟨16, 8, .ro, 0, .any⟩, ⟨24, 1, .w1c, 0, .any⟩]⟩,
  ⟨0x24008, [], [⟨0, 7, .ro, 0, .any⟩]⟩,
  ⟨0x2400c, [], [⟨0, 16, .rwl, 0x3e8, .range 1 65535⟩]⟩,
  ⟨0x24010, [], [⟨0, 2, .rwl, 0, .range 0 2⟩, ⟨4, 2, .rwl, 0, .range 0 2⟩]⟩,
  ⟨0x24014, [], [⟨0, 8, .ro, 0, .any⟩, ⟨8, 1, .ro, 0, .any⟩, ⟨9, 1, .ro, 1, .any⟩, ⟨10, 1, .ro, 0, .any⟩, ⟨11, 1, .ro, 0, .any⟩, ⟨12, 1, .ro, 0, .any⟩, ⟨13, 1, .ro, 0, .any⟩, ⟨14, 1, .ro, 0, .any⟩, ⟨16, 16, .ro, 0, .any⟩]⟩,
  ⟨0x24018, [], [⟨0, 16, .ro, 0, .any⟩, ⟨16, 16, .ro, 0, .any⟩]⟩,
  ⟨0x2401c, [], [⟨0, 12, .rw, 0, .pairs 6⟩]⟩,
  ⟨0x24020, [(6, 0x4)], [⟨0, 16, .ro, 0, .any⟩, ⟨16, 1, .ro, 1, .any⟩]⟩,
  ⟨0x24040, [(8, 0x4)], [⟨0, 16, .rw, 0, .any⟩]⟩,
  ⟨0x24100, [(8, 0x200)], [⟨0, 3, .rw, 0, .range 0 3⟩, ⟨4, 3, .rw, 0, .any⟩, ⟨8, 4, .rw, 0, .range 0 7⟩, ⟨12, 3, .rw, 0, .any⟩, ⟨15, 1, .rw, 0, .any⟩, ⟨16, 8, .rw, 0x20, .range 1 255⟩]⟩,
  ⟨0x24104, [(8, 0x200)], [⟨0, 8, .rw, 0, .any⟩, ⟨8, 8, .rw, 0, .any⟩]⟩,
  ⟨0x24108, [(8, 0x200)], [⟨0, 11, .rw, 0, .any⟩, ⟨16, 11, .rw, 0, .any⟩]⟩,
  ⟨0x24110, [(8, 0x200)], [⟨0, 16, .rw, 0x8000, .any⟩, ⟨16, 16, .rw, 0x7fff, .any⟩]⟩,
  ⟨0x24114, [(8, 0x200)], [⟨0, 16, .rw, 0, .any⟩]⟩,
  ⟨0x24118, [(8, 0x200)], [⟨0, 16, .ro, 0, .any⟩, ⟨16, 1, .w1c, 0, .any⟩, ⟨17, 1, .ro, 0, .any⟩, ⟨18, 1, .ro, 0, .any⟩, ⟨20, 12, .ro, 0, .any⟩]⟩,
  ⟨0x24140, [(8, 0x200), (48, 0x4)], [⟨0, 16, .rw, 0, .any⟩]⟩,
  ⟨0x20300, [], [⟨0, 1, .rw, 0, .any⟩, ⟨8, 8, .rw, 0xa, .any⟩]⟩]

/-- Part 4 of the register map. -/
def regMap4 : List RegDef := [
  ⟨0x20304, [], [⟨0, 32, .rw, 0, .any⟩]⟩,
  ⟨0x20308, [], [⟨0, 16, .rw, 0xc8, .any⟩, ⟨16, 16, .rw, 0xc8, .any⟩]⟩,
  ⟨0x2030c, [], [⟨0, 16, .rwl, 0, .any⟩, ⟨16, 16, .rwl, 0, .any⟩]⟩,
  ⟨0x20310, [], [⟨0, 7, .rwl, 0x32, .range 0 100⟩, ⟨8, 12, .rwl, 0x3c, .range 1 3600⟩]⟩,
  ⟨0x20314, [], [⟨0, 16, .rwl, 0, .any⟩, ⟨16, 4, .ro, 0, .any⟩]⟩,
  ⟨0x20320, [], [⟨0, 16, .ro, 0, .any⟩, ⟨16, 16, .ro, 0, .any⟩]⟩,
  ⟨0x20328, [], [⟨0, 16, .ro, 0, .any⟩, ⟨16, 16, .ro, 0, .any⟩]⟩,
  ⟨0x20324, [], [⟨0, 16, .ro, 0, .any⟩, ⟨16, 16, .ro, 0, .any⟩]⟩,
  ⟨0x2032c, [], [⟨0, 16, .ro, 0, .any⟩, ⟨16, 16, .ro, 0, .any⟩]⟩,
  ⟨0x20330, [], [⟨0, 2, .ro, 2, .any⟩, ⟨2, 2, .ro, 2, .any⟩, ⟨4, 1, .ro, 0, .any⟩, ⟨5, 1, .ro, 0, .any⟩, ⟨6, 1, .ro, 0, .any⟩, ⟨8, 11, .ro, 0, .any⟩, ⟨20, 11, .ro, 0, .any⟩]⟩,
  ⟨0x20334, [], [⟨0, 16, .ro, 0, .any⟩, ⟨16, 16, .ro, 0, .any⟩]⟩,
  ⟨0x20338, [], [⟨0, 8, .ro, 0, .any⟩, ⟨8, 8, .ro, 0, .any⟩, ⟨16, 8, .ro, 0, .any⟩, ⟨24, 8, .ro, 0, .any⟩]⟩,
  ⟨0x24060, [(6, 0x4)], [⟨0, 16, .rwl, 0x7fff, .any⟩]⟩,
  ⟨0x24078, [(6, 0x4)], [⟨0, 16, .rwl, 0x7fff, .any⟩, ⟨16, 1, .rwl, 0, .any⟩, ⟨17, 1, .ro, 0, .any⟩]⟩,
  ⟨0x5000, [], [⟨0, 1, .ro, 0, .any⟩, ⟨1, 1, .ro, 0, .any⟩, ⟨8, 6, .ro, 0, .any⟩, ⟨16, 5, .ro, 0, .any⟩]⟩,
  ⟨0x5004, [], [⟨0, 1, .rw, 1, .any⟩, ⟨1, 3, .rw, 3, .range 1 4⟩, ⟨16, 15, .rw, 0x2710, .range 0 30000⟩]⟩,
  ⟨0x5008, [], [⟨0, 32, .ro, 0, .any⟩]⟩,
  ⟨0x500c, [], [⟨0, 32, .ro, 0, .any⟩]⟩,
  ⟨0x5010, [], [⟨0, 16, .ro, 0, .any⟩, ⟨16, 16, .ro, 0, .any⟩]⟩,
  ⟨0x5014, [], [⟨0, 29, .ro, 0, .any⟩, ⟨29, 1, .ro, 0, .any⟩]⟩,
  ⟨0x5018, [], [⟨0, 8, .rw, 8, .range 1 72⟩, ⟨16, 16, .ro, 0, .any⟩]⟩,
  ⟨0x501c, [], [⟨0, 16, .ro, 0, .any⟩, ⟨16, 16, .ro, 0, .any⟩]⟩,
  ⟨0x5108, [(16, 0x10)], [⟨0, 16, .ro, 0, .any⟩, ⟨16, 15, .ro, 0, .any⟩, ⟨31, 1, .ro, 0, .any⟩]⟩,
  ⟨0x100000, [(256, 0x4000)], [⟨0, 1, .ro, 0, .any⟩, ⟨1, 1, .ro, 0, .any⟩, ⟨16, 13, .ro, 0, .any⟩]⟩,
  ⟨0x100008, [(256, 0x4000)], [⟨16, 16, .rw, 0, .any⟩]⟩,
  ⟨0x10000c, [(256, 0x4000)], [⟨0, 32, .rw, 0, .any⟩]⟩,
  ⟨0x100010, [(256, 0x4000)], [⟨0, 10, .wo, 0, .any⟩, ⟨10, 2, .wo, 0, .any⟩]⟩,
  ⟨0x100014, [(256, 0x4000)], [⟨0, 10, .ro, 0, .any⟩, ⟨10, 1, .ro, 0, .any⟩, ⟨12, 4, .ro, 0, .any⟩, ⟨16, 11, .ro, 0, .any⟩]⟩,
  ⟨0x100018, [(256, 0x4000)], [⟨0, 16, .ro, 0, .any⟩, ⟨16, 10, .ro, 0, .any⟩, ⟨31, 1, .w1c, 0, .any⟩]⟩,
  ⟨0x10001c, [(256, 0x4000)], [⟨0, 6, .ro, 1, .any⟩]⟩,
  ⟨0x100020, [(256, 0x4000)], [⟨0, 3, .rw, 1, .range 0 4⟩, ⟨3, 1, .rw, 0, .any⟩]⟩,
  ⟨0x100024, [(256, 0x4000)], [⟨0, 16, .ro, 0, .any⟩, ⟨16, 13, .ro, 0, .any⟩]⟩,
  ⟨0x4800, [(1, 0x4)], [⟨0, 6, .ro, 0x3F, .any⟩]⟩,
  ⟨0x4804, [(255, 0x4)], [⟨0, 6, .rw, 1, .any⟩]⟩,
  ⟨0x4400, [], [⟨0, 3, .ro, 0, .any⟩, ⟨3, 3, .ro, 0, .any⟩, ⟨6, 2, .ro, 0, .any⟩, ⟨8, 1, .ro, 1, .any⟩, ⟨9, 1, .ro, 0, .any⟩, ⟨16, 8, .ro, 0, .any⟩]⟩,
  ⟨0x4404, [], [⟨0, 3, .rw, 4, .range 1 4⟩, ⟨3, 3, .rw, 4, .oneOf [1, 2, 4]⟩]⟩,
  ⟨0x4408, [], [⟨12, 20, .rw, 0, .any⟩]⟩,
  ⟨0x440c, [], [⟨0, 32, .rw, 0, .any⟩]⟩,
  ⟨0x4410, [], [⟨0, 13, .ro, 0, .any⟩, ⟨16, 13, .ro, 0, .any⟩]⟩,
  ⟨0x4414, [], [⟨0, 8, .rw, 0x3c, .range 1 255⟩]⟩,
  ⟨0x4418, [], [⟨0, 11, .ro, 0, .any⟩, ⟨11, 1, .ro, 0, .any⟩, ⟨12, 1, .ro, 0, .any⟩, ⟨16, 11, .ro, 0, .any⟩, ⟨27, 1, .ro, 0, .any⟩]⟩]

/-- Part 5 of the register map. -/
def regMap5 : List RegDef := [
  ⟨0x441c, [], [⟨0, 11, .ro, 0, .any⟩, ⟨16, 16, .ro, 0, .any⟩]⟩,
  ⟨0x34000, [], [⟨0, 1, .rwl, 1, .any⟩, ⟨1, 1, .rw, 1, .any⟩, ⟨8, 6, .rw, 0x14, .range 1 40⟩, ⟨16, 7, .rw, 0x28, .range 1 80⟩]⟩,
  ⟨0x34010, [(2, 0x10)], [⟨0, 3, .ro, 0, .any⟩, ⟨3, 1, .ro, 0, .any⟩, ⟨4, 1, .ro, 0, .any⟩, ⟨5, 1, .ro, 0, .any⟩, ⟨8, 8, .ro, 0, .any⟩, ⟨16, 16, .ro, 0, .any⟩]⟩,
  ⟨0x34014, [(2, 0x10)], [⟨0, 32, .ro, 0, .any⟩]⟩,
  ⟨0x34018, [(2, 0x10)], [⟨0, 32, .ro, 0, .any⟩]⟩,
  ⟨0x34030, [], [⟨0, 32, .ro, 0, .any⟩]⟩,
  ⟨0x34034, [], [⟨0, 32, .ro, 0, .any⟩]⟩,
  ⟨0x34038, [], [⟨0, 32, .ro, 0, .any⟩]⟩,
  ⟨0x3403c, [], [⟨0, 32, .ro, 0, .any⟩]⟩,
  ⟨0x34040, [], [⟨0, 16, .ro, 0, .any⟩, ⟨16, 16, .ro, 0, .any⟩]⟩,
  ⟨0x34044, [], [⟨0, 16, .ro, 0, .any⟩, ⟨16, 16, .ro, 0, .any⟩]⟩,
  ⟨0x36000, [], [⟨0, 8, .rw, 0xa, .any⟩, ⟨8, 12, .rw, 0x258, .range 1 3600⟩]⟩,
  ⟨0x36004, [], [⟨0, 17, .ro, 0, .any⟩, ⟨17, 1, .ro, 0, .any⟩, ⟨18, 1, .ro, 0, .any⟩, ⟨19, 1, .ro, 0, .any⟩, ⟨21, 11, .ro, 0, .any⟩]⟩,
  ⟨0x36008, [], [⟨0, 32, .ro, 0, .any⟩]⟩,
  ⟨0x3600c, [], [⟨0, 16, .ro, 0, .any⟩]⟩,
  ⟨0x36010, [], [⟨0, 32, .ro, 0, .any⟩]⟩,
  ⟨0x36014, [], [⟨0, 16, .ro, 0, .any⟩]⟩,
  ⟨0x36018, [], [⟨0, 16, .ro, 0, .any⟩, ⟨16, 16, .ro, 0, .any⟩]⟩,
  ⟨0x3601c, [], [⟨0, 32, .ro, 0, .any⟩]⟩,
  ⟨0x36020, [], [⟨0, 32, .ro, 0, .any⟩]⟩,
  ⟨0x36024, [], [⟨0, 17, .ro, 0, .any⟩]⟩,
  ⟨0x36028, [], [⟨0, 16, .rw, 0, .any⟩, ⟨16, 1, .rw, 0, .any⟩]⟩,
  ⟨0x36040, [(16, 0x4)], [⟨0, 32, .ro, 0, .any⟩]⟩,
  ⟨0x3000, [], [⟨0, 3, .ro, 0, .any⟩, ⟨3, 1, .ro, 0, .any⟩, ⟨4, 1, .ro, 0, .any⟩, ⟨5, 1, .ro, 0, .any⟩, ⟨6, 2, .ro, 0, .any⟩]⟩,
  ⟨0x3004, [], [⟨0, 32, .ro, 0, .any⟩]⟩,
  ⟨0x3008, [], [⟨0, 32, .ro, 0, .any⟩]⟩,
  ⟨0x300c, [], [⟨0, 3, .rw, 3, .range 0 5⟩, ⟨4, 12, .rw, 0x3c, .range 1 3600⟩, ⟨16, 10, .rw, 0x1f4, .range 1 1000⟩]⟩,
  ⟨0x3010, [], [⟨0, 14, .rw, 0xc8, .range 20 10000⟩, ⟨14, 6, .rw, 0x3c, .range 1 63⟩, ⟨20, 12, .rw, 0x168, .range 1 4095⟩]⟩,
  ⟨0x3020, [], [⟨0, 32, .ro, 0, .any⟩]⟩,
  ⟨0x3024, [], [⟨0, 16, .ro, 0, .any⟩]⟩,
  ⟨0x3028, [], [⟨0, 32, .ro, 0, .any⟩]⟩,
  ⟨0x302c, [], [⟨0, 16, .ro, 0, .any⟩]⟩,
  ⟨0x3040, [], [⟨0, 2, .rw, 0, .range 0 2⟩, ⟨2, 2, .rw, 0, .range 0 2⟩, ⟨4, 7, .rw, 0, .any⟩, ⟨12, 4, .rw, 0, .any⟩, ⟨16, 8, .rw, 0x80, .any⟩, ⟨24, 8, .rw, 0x80, .any⟩]⟩,
  ⟨0x3050, [(2, 0x10)], [⟨0, 1, .rw, 1, .any⟩, ⟨1, 1, .rw, 0, .any⟩, ⟨2, 1, .rw, 0, .any⟩, ⟨4, 4, .rw, 0xc, .oneOf [0, 9, 10, 11, 12, 13, 14, 15]⟩, ⟨8, 4, .rw, 0, .range 0 3⟩, ⟨12, 4, .rw, 0, .oneOf [0, 1, 2, 3, 9, 10, 11, 12, 13, 14, 15]⟩]⟩,
  ⟨0x3054, [(2, 0x10)], [⟨0, 32, .rw, 0, .any⟩]⟩,
  ⟨0x3058, [(2, 0x10)], [⟨0, 4, .ro, 1, .any⟩, ⟨16, 16, .ro, 0, .any⟩]⟩,
  ⟨0x3100, [(4, 0x20)], [⟨0, 2, .rw, 0, .range 0 2⟩, ⟨2, 1, .rw, 0, .any⟩, ⟨3, 1, .wo, 0, .any⟩, ⟨4, 1, .ro, 0, .any⟩, ⟨5, 1, .w1c, 0, .any⟩, ⟨16, 16, .ro, 0, .any⟩]⟩,
  ⟨0x3104, [(4, 0x20)], [⟨0, 32, .rw, 0, .any⟩]⟩,
  ⟨0x3108, [(4, 0x20)], [⟨0, 16, .rw, 0, .any⟩]⟩,
  ⟨0x310c, [(4, 0x20)], [⟨0, 32, .rw, 0, .range 0 999999999⟩]⟩]

/-- Part 6 of the register map. -/
def regMap6 : List RegDef := [
  ⟨0x3110, [(4, 0x20)], [⟨0, 32, .rw, 0, .any⟩]⟩,
  ⟨0x3114, [(4, 0x20)], [⟨0, 32, .rw, 0, .any⟩]⟩,
  ⟨0x3118, [(4, 0x20)], [⟨0, 32, .rw, 0, .any⟩]⟩,
  ⟨0x3200, [(4, 0x20)], [⟨0, 2, .rw, 0, .any⟩, ⟨2, 1, .w1c, 0, .any⟩, ⟨8, 6, .ro, 0, .any⟩]⟩,
  ⟨0x3204, [(4, 0x20)], [⟨0, 32, .ro, 0, .any⟩]⟩,
  ⟨0x3208, [(4, 0x20)], [⟨0, 18, .ro, 0, .any⟩]⟩,
  ⟨0x320c, [(4, 0x20)], [⟨0, 32, .ro, 0, .any⟩]⟩,
  ⟨0x3210, [(4, 0x20)], [⟨0, 16, .ro, 0, .any⟩]⟩,
  ⟨0x3300, [(2, 0x10)], [⟨0, 2, .rw, 0, .any⟩, ⟨2, 1, .rw, 0, .any⟩, ⟨4, 2, .rw, 1, .any⟩, ⟨6, 1, .rw, 0, .any⟩, ⟨7, 1, .rw, 0, .any⟩, ⟨8, 1, .rw, 0, .any⟩, ⟨16, 16, .rw, 0, .any⟩]⟩,
  ⟨0x3304, [(2, 0x10)], [⟨0, 32, .ro, 0, .any⟩]⟩,
  ⟨0x3308, [(2, 0x10)], [⟨0, 32, .ro, 0, .any⟩]⟩,
  ⟨0x330c, [(2, 0x10)], [⟨0, 16, .ro, 0, .any⟩]⟩,
  ⟨0x33000, [(2, 0x40)], [⟨0, 1, .rw, 1, .any⟩, ⟨1, 2, .rw, 0, .range 0 2⟩, ⟨3, 1, .ro, 0, .any⟩, ⟨4, 1, .ro, 0, .any⟩]⟩,
  ⟨0x33004, [(2, 0x40)], [⟨0, 32, .ro, 0, .any⟩]⟩,
  ⟨0x33008, [(2, 0x40)], [⟨0, 16, .ro, 0, .any⟩]⟩,
  ⟨0x3300c, [(2, 0x40)], [⟨0, 32, .rw, 0, .any⟩]⟩,
  ⟨0x33010, [(2, 0x40)], [⟨0, 32, .rw, 0, .any⟩]⟩,
  ⟨0x33014, [(2, 0x40)], [⟨0, 32, .rw, 0, .any⟩]⟩,
  ⟨0x33018, [(2, 0x40)], [⟨0, 12, .rw, 0, .any⟩, ⟨12, 3, .rw, 0, .any⟩, ⟨15, 1, .rw, 0, .any⟩, ⟨16, 12, .rw, 0, .any⟩, ⟨28, 3, .rw, 7, .any⟩, ⟨31, 1, .rw, 0, .any⟩]⟩,
  ⟨0x3301c, [(2, 0x40)], [⟨0, 16, .ro, 0, .any⟩, ⟨16, 16, .ro, 0, .any⟩]⟩,
  ⟨0x33080, [], [⟨0, 16, .rw, 0x1c10, .range 1 65535⟩, ⟨16, 1, .rw, 1, .any⟩]⟩,
  ⟨0x33100, [(8, 0x8)], [⟨0, 32, .rwl, 0, .any⟩]⟩,
  ⟨0x33104, [(8, 0x8)], [⟨0, 32, .rwl, 0, .any⟩]⟩,
  ⟨0x100040, [(256, 0x4000)], [⟨0, 32, .rw, 0, .any⟩]⟩,
  ⟨0x100044, [(256, 0x4000)], [⟨0, 32, .rw, 0, .any⟩]⟩,
  ⟨0x100048, [(256, 0x4000)], [⟨0, 32, .rw, 0, .absLe 1000000000⟩]⟩,
  ⟨0x10004c, [(256, 0x4000)], [⟨0, 1, .wo, 0, .any⟩]⟩,
  ⟨0x100050, [(256, 0x4000)], [⟨0, 32, .ro, 0, .any⟩]⟩,
  ⟨0x100054, [(256, 0x4000)], [⟨0, 16, .ro, 0, .any⟩]⟩,
  ⟨0x100058, [(256, 0x4000)], [⟨0, 32, .ro, 0, .any⟩]⟩,
  ⟨0x10005c, [(256, 0x4000)], [⟨0, 16, .ro, 0, .any⟩]⟩,
  ⟨0x32000, [(3, 0x400)], [⟨0, 1, .rw, 1, .any⟩, ⟨1, 2, .rw, 0, .range 0 2⟩, ⟨3, 1, .rw, 0, .any⟩, ⟨4, 1, .rw, 1, .any⟩, ⟨5, 1, .rw, 0, .any⟩, ⟨8, 6, .rw, 0, .any⟩, ⟨14, 1, .rw, 0, .any⟩, ⟨15, 1, .rw, 0, .any⟩, ⟨16, 1, .rw, 0, .any⟩]⟩,
  ⟨0x32004, [(3, 0x400)], [⟨0, 2, .ro, 0, .any⟩, ⟨2, 1, .ro, 0, .any⟩, ⟨3, 1, .ro, 0, .any⟩]⟩,
  ⟨0x32008, [(3, 0x400)], [⟨0, 5, .rw, 0x02, .range 1 31⟩, ⟨5, 8, .rw, 0x3F, .any⟩, ⟨13, 7, .rw, 0x10, .any⟩, ⟨20, 7, .rw, 0x10, .any⟩]⟩,
  ⟨0x3200c, [(3, 0x400)], [⟨0, 5, .rw, 0x01, .range 1 31⟩, ⟨5, 8, .rw, 0x0B, .any⟩, ⟨13, 7, .rw, 0x04, .any⟩, ⟨20, 7, .rw, 0x04, .any⟩]⟩,
  ⟨0x32010, [(3, 0x400)], [⟨0, 5, .rw, 0x01, .range 1 31⟩, ⟨5, 8, .rw, 0x06, .any⟩, ⟨13, 7, .rw, 0x03, .any⟩, ⟨20, 7, .rw, 0x03, .any⟩]⟩,
  ⟨0x32014, [(3, 0x400)], [⟨0, 8, .rw, 6, .any⟩, ⟨16, 8, .ro, 0, .any⟩]⟩,
  ⟨0x32018, [(3, 0x400)], [⟨0, 8, .ro, 0, .any⟩, ⟨8, 8, .ro, 0, .any⟩, ⟨16, 16, .ro, 0, .any⟩]⟩,
  ⟨0x32020, [(3, 0x400)], [⟨0, 10, .rw, 0, .range 0 512⟩, ⟨10, 2, .rw, 2, .range 0 2⟩, ⟨12, 1, .wo, 0, .any⟩]⟩,
  ⟨0x32024, [(3, 0x400)], [⟨0, 12, .rw, 0, .any⟩]⟩]

/-- Part 7 of the register map. -/
def regMap7 : List RegDef := [
  ⟨0x32028, [(3, 0x400)], [⟨0, 32, .rw, 0, .any⟩]⟩,
  ⟨0x32040, [(3, 0x400), (2, 0x10)], [⟨0, 7, .rw, 0x20, .range 1 64⟩, ⟨8, 2, .rw, 1, .range 0 2⟩]⟩,
  ⟨0x32044, [(3, 0x400), (2, 0x10)], [⟨0, 32, .ro, 0, .any⟩]⟩,
  ⟨0x32048, [(3, 0x400), (2, 0x10)], [⟨0, 7, .wo, 0, .any⟩]⟩,
  ⟨0x32090, [(3, 0x400)], [⟨0, 16, .ro, 0, .any⟩]⟩,
  ⟨0x320a0, [(3, 0x400)], [⟨0, 18, .rw, 0, .any⟩]⟩,
  ⟨0x320a4, [(3, 0x400)], [⟨0, 32, .rw, 0, .any⟩]⟩,
  ⟨0x320c0, [(3, 0x400)], [⟨0, 1, .rw, 0, .any⟩, ⟨1, 10, .rw, 0x64, .range 1 1000⟩, ⟨12, 11, .rw, 0, .any⟩]⟩,
  ⟨0x320d0, [(3, 0x400)], [⟨0, 1, .rw, 0, .any⟩, ⟨1, 8, .rw, 0xa, .range 1 255⟩, ⟨9, 11, .rw, 0, .any⟩, ⟨20, 11, .rw, 0, .any⟩]⟩,
  ⟨0x320d4, [(3, 0x400)], [⟨0, 32, .ro, 0, .any⟩]⟩,
  ⟨0x320d8, [(3, 0x400)], [⟨0, 32, .ro, 0, .any⟩]⟩,
  ⟨0x320e0, [(3, 0x400)], [⟨0, 1, .rw, 0, .any⟩, ⟨1, 11, .rw, 0, .any⟩, ⟨16, 8, .ro, 0, .any⟩]⟩,
  ⟨0x35000, [], [⟨0, 1, .rwl, 0, .any⟩, ⟨1, 1, .rwl, 0, .any⟩, ⟨8, 8, .rwl, 0x32, .range 25 255⟩, ⟨16, 8, .rwl, 0x1e, .range 1 50⟩]⟩,
  ⟨0x35004, [], [⟨0, 2, .ro, 2, .any⟩, ⟨2, 1, .ro, 0, .any⟩, ⟨3, 1, .ro, 0, .any⟩, ⟨4, 1, .ro, 0, .any⟩, ⟨5, 1, .ro, 0, .any⟩, ⟨6, 1, .ro, 0, .any⟩, ⟨7, 2, .ro, 1, .any⟩, ⟨9, 1, .ro, 0, .any⟩, ⟨16, 16, .ro, 0xffff, .any⟩]⟩,
  ⟨0x35008, [], [⟨0, 32, .rwl, 0, .any⟩]⟩,
  ⟨0x3500c, [], [⟨0, 32, .rwl, 0, .any⟩]⟩,
  ⟨0x35010, [], [⟨0, 1, .wo, 0, .any⟩]⟩,
  ⟨0x35014, [], [⟨0, 2, .ro, 0, .any⟩, ⟨2, 1, .ro, 0, .any⟩, ⟨3, 1, .ro, 0, .any⟩, ⟨16, 16, .ro, 0, .any⟩]⟩,
  ⟨0x35018, [], [⟨0, 32, .ro, 0, .any⟩]⟩,
  ⟨0x3501c, [], [⟨0, 32, .ro, 0, .any⟩]⟩,
  ⟨0x35020, [], [⟨0, 16, .ro, 0, .any⟩, ⟨16, 16, .ro, 0, .any⟩]⟩,
  ⟨0x1000, [], [⟨0, 3, .ro, 0, .any⟩, ⟨3, 1, .ro, 0, .any⟩, ⟨4, 1, .ro, 0, .any⟩, ⟨5, 1, .ro, 0, .any⟩, ⟨6, 1, .ro, 0, .any⟩, ⟨7, 1, .ro, 0, .any⟩]⟩,
  ⟨0x1004, [], [⟨0, 4, .wo, 0, .any⟩, ⟨16, 16, .wo, 0, .any⟩]⟩,
  ⟨0x1008, [], [⟨0, 8, .ro, 0, .any⟩, ⟨8, 8, .ro, 0, .any⟩, ⟨16, 8, .ro, 0, .any⟩, ⟨24, 8, .ro, 0, .any⟩]⟩,
  ⟨0x100c, [], [⟨0, 18, .ro, 0, .any⟩, ⟨18, 1, .ro, 0, .any⟩, ⟨19, 1, .ro, 0, .any⟩, ⟨20, 1, .ro, 0, .any⟩, ⟨21, 1, .ro, 0, .any⟩, ⟨22, 1, .ro, 0, .any⟩, ⟨23, 1, .ro, 0, .any⟩, ⟨24, 1, .ro, 0, .any⟩, ⟨25, 1, .ro, 0, .any⟩]⟩,
  ⟨0x1010, [], [⟨0, 3, .ro, 0, .any⟩, ⟨8, 4, .ro, 0, .any⟩, ⟨12, 4, .ro, 0, .any⟩, ⟨16, 16, .ro, 0, .any⟩]⟩,
  ⟨0x1014, [], [⟨0, 4, .ro, 0xf, .any⟩, ⟨4, 1, .ro, 0, .any⟩, ⟨16, 12, .ro, 0xfff, .any⟩]⟩,
  ⟨0x1018, [], [⟨0, 6, .w1s, 0, .any⟩, ⟨8, 6, .ro, 0, .any⟩, ⟨16, 6, .w1c, 0, .any⟩]⟩,
  ⟨0x101c, [], [⟨0, 10, .rw, 0xa, .range 1 1000⟩]⟩,
  ⟨0x2000, [], [⟨0, 3, .ro, 0, .any⟩, ⟨3, 1, .ro, 0, .any⟩, ⟨4, 1, .ro, 0, .any⟩, ⟨5, 1, .ro, 0, .any⟩, ⟨8, 8, .rwl, 0x18, .range 1 72⟩, ⟨16, 16, .ro, 0, .any⟩]⟩,
  ⟨0x2004, [], [⟨0, 3, .wo, 0, .any⟩, ⟨16, 16, .wo, 0, .any⟩]⟩,
  ⟨0x2008, [], [⟨0, 2, .ro, 0, .any⟩, ⟨2, 1, .ro, 0, .any⟩, ⟨3, 1, .ro, 0, .any⟩, ⟨4, 1, .ro, 0, .any⟩, ⟨5, 1, .ro, 0, .any⟩, ⟨8, 8, .ro, 0, .any⟩, ⟨16, 16, .ro, 0, .any⟩]⟩,
  ⟨0x200c, [], [⟨0, 1, .wo, 0, .any⟩]⟩,
  ⟨0x2010, [], [⟨0, 1, .ro, 0, .any⟩, ⟨1, 1, .ro, 0, .any⟩, ⟨2, 1, .ro, 0, .any⟩, ⟨3, 1, .ro, 0, .any⟩, ⟨4, 1, .ro, 0, .any⟩, ⟨8, 8, .ro, 0, .any⟩, ⟨16, 8, .ro, 0, .any⟩, ⟨24, 8, .ro, 0, .any⟩]⟩,
  ⟨0x2014, [], [⟨0, 32, .ro, 0, .any⟩]⟩,
  ⟨0x2018, [], [⟨0, 32, .ro, 0, .any⟩]⟩,
  ⟨0x201c, [], [⟨0, 4, .ro, 0, .any⟩, ⟨4, 2, .ro, 0, .any⟩]⟩,
  ⟨0x2020, [], [⟨0, 3, .ro, 0, .any⟩, ⟨8, 8, .ro, 0, .any⟩]⟩,
  ⟨0x2040, [(12, 0x4)], [⟨0, 32, .rwl, 0, .any⟩]⟩,
  ⟨0x2080, [(16, 0x8)], [⟨0, 32, .rwl, 0, .any⟩]⟩]

/-- Part 8 of the register map. -/
def regMap8 : List RegDef := [
  ⟨0x2084, [(16, 0x8)], [⟨0, 32, .rwl, 0, .any⟩]⟩,
  ⟨0x30, [], [⟨0, 8, .ro, 0, .any⟩, ⟨8, 8, .ro, 0, .any⟩, ⟨16, 6, .ro, 0, .any⟩, ⟨22, 1, .ro, 0, .any⟩]⟩,
  ⟨0x0, [], [⟨0, 32, .ro, 0x44530480, .any⟩]⟩,
  ⟨0x4, [], [⟨0, 5, .ro, 18, .any⟩, ⟨5, 1, .ro, 0, .any⟩, ⟨8, 8, .ro, 0, .any⟩]⟩,
  ⟨0x8, [], [⟨0, 32, .ro, 0, .any⟩]⟩,
  ⟨0xc, [], [⟨0, 32, .ro, 0, .any⟩]⟩,
  ⟨0x40, [], [⟨0, 4, .ro, 0, .any⟩, ⟨4, 1, .w1c, 0, .any⟩, ⟨16, 16, .ro, 0, .any⟩]⟩,
  ⟨0x44, [], [⟨0, 29, .ro, 0, .any⟩, ⟨30, 2, .ro, 0, .any⟩]⟩,
  ⟨0x10044, [(18, 0x800), (4, 0x10)], [⟨0, 32, .ro, 0, .any⟩]⟩,
  ⟨0x10048, [(18, 0x800), (4, 0x10)], [⟨0, 32, .ro, 0, .any⟩]⟩,
  ⟨0x32080, [(3, 0x400)], [⟨0, 16, .w1s, 0, .any⟩]⟩,
  ⟨0x32084, [(3, 0x400)], [⟨0, 16, .w1s, 0, .any⟩]⟩,
  ⟨0x32088, [(3, 0x400)], [⟨0, 16, .ro, 0, .any⟩]⟩,
  ⟨0x3208c, [(3, 0x400)], [⟨0, 16, .w1c, 0, .any⟩]⟩,
  ⟨0x5100, [(16, 0x10)], [⟨0, 32, .ro, 0, .any⟩]⟩,
  ⟨0x5104, [(16, 0x10)], [⟨0, 32, .ro, 0, .any⟩]⟩]

/-- Every register of the map. -/
def regMap : List RegDef :=
  regMap1 ++ regMap2 ++ regMap3 ++ regMap4 ++ regMap5 ++ regMap6 ++ regMap7 ++ regMap8

end Sys2Proof.Machine
end

