-- ==== Sys2Proof/Machine/RegFile.lean ====
section
/-! DEFINITION. The register file: the value of every register field, sparse over the reset values (R15). -/
namespace Sys2Proof.Machine

/-- The stored field values: a field not listed holds its reset value. Two functions never share a window key, since
function windows have their own addresses (Registers.lean). -/
abbrev RegFile := Tab Nat

/-- The number a field's value is stored under. -/
def Field.key (f : Field) : Nat := f.off * 32 + f.lo

/-- The value of a field. -/
def RegFile.field (r : RegFile) (f : Field) : Nat := Tab.get f.rst r f.key

/-- The register file with a field set; a value beyond the field's width keeps its low bits. -/
def RegFile.setField (r : RegFile) (f : Field) (v : Nat) : RegFile := Tab.put r f.key (v % 2 ^ f.width)

/-- The register file with every field in the address range at its reset value (a block reset). -/
def RegFile.resetRange (r : RegFile) (lo hi : Nat) : RegFile :=
  Tab.drop r fun k => decide (lo * 32 ≤ k) && decide (k < hi * 32)

/-- Whether an offset from a register array's base hits one of its registers. -/
def dimsHit : List (Nat × Nat) → Nat → Bool
  | [], rem => rem == 0
  | (n, st) :: ds, rem => decide (rem / st < n) && dimsHit ds (rem % st)

/-- The register of the map at an address, when there is one (R610). -/
def regAt (off : Nat) : Option RegDef :=
  regMap.find? fun r => decide (r.base ≤ off) && dimsHit r.dims (off - r.base)

/-- The field of a register description at an address. -/
def FieldDef.at (d : FieldDef) (off : Nat) : Field := ⟨off, d.lo, d.width, d.rst⟩

/-- Whether an encoding is one the field's table does not reserve (R17).
DEDUCED (log 251). -/
def Legal.ok (l : Legal) (width v : Nat) : Bool :=
  match l with
  | .any => true
  | .range lo hi => decide (lo ≤ v) && decide (v ≤ hi)
  | .oneOf l => l.contains v
  | .pairs n => (List.range n).all fun j => bitsAt v (2 * j) 2 != 3
  | .absLe m => decide (-(m : Int) ≤ signed width v) && decide (signed width v ≤ (m : Int))

end Sys2Proof.Machine
end

