-- ==== Sys2Proof/Machine/StateMeas.lean ====
section
/-! DEFINITION. State of the sense banks, of their checks, of the current front end, of the insulation monitor and of
the temperature measurement (chapters 2 to 5). -/
namespace Sys2Proof.Machine

/-- Steps of "Table — Discovery of a bank" (R68). -/
inductive DiscStep where
  | off | lane | relay | presence | tray | survey | normal | wiring | released | surveyFailed | failed
  deriving DecidableEq, Repr

/-- What a tray ID record carries (R64). -/
structure Tray where
  valid : Bool
  chem : Nat
  first : Nat
  count : Nat
  serial : Nat
  par : Nat
  cap : Nat
  deriving DecidableEq, Repr

/-- One branch of the commissioned layout (R66). -/
structure Layout where
  fitted : Bool
  chem : Nat
  first : Nat
  count : Nat
  cap : Nat
  serial : Nat
  deriving DecidableEq, Repr

/-- The NORMAL-range check of a position (R620). -/
structure NormCheck where
  turns : Nat
  /-- Words with S = 0 in the turn in hand. -/
  words : Nat
  failed : Bool
  passed : Bool
  deriving DecidableEq, Repr

/-- One bank (R45 to R74), beside its registers. -/
structure Bank where
  /-- EN, NPOS, FC and RANGE in force (R56, R73). -/
  en : Bool
  npos : Nat
  fc : Nat
  survey : Bool
  /-- A filter or range change waiting: corner, SURVEY, order of the write (R58). -/
  chg : Option (Nat × Bool × Nat)
  step : DiscStep
  /-- Strike at which the step began, and at which PD_Bnn was switched on. -/
  stepAt : Nat
  onAt : Nat
  /-- Identity memory: serial, aperture offset, lane asymmetry, turnaround, in ps (R60, R61). -/
  serial : Nat
  aperture : Int
  asym : Int
  turnaround : Int
  /-- The last 8 one-way delays, twice their value in ps, newest first (R61). -/
  oneways : List Int
  /-- Turns without a valid measurement, and valid in-range measurements in a row (R62). -/
  noRt : Nat
  goodRt : Nat
  /-- The last computed trim code lies out of range (R62). -/
  trimOut : Bool
  /-- The trim code to apply at the next strike 0. -/
  trimNext : Option Nat
  relayCmd : Bool
  /-- Strikes the relay feedback has disagreed (R72). -/
  relayDis : Nat
  presRun : Tab Nat
  absRun : Tab Nat
  /-- Lost branches, bit k (R69), and returned branches under check (R70). -/
  lost : Nat
  returning : Nat
  trays : Tab Tray
  /-- Branches whose record passed its check (R67). -/
  trayOk : Nat
  norm : Tab NormCheck
  /-- Sums of VALUE over settled words in SURVEY range, by position (R68). -/
  surveySum : Tab Int
  surveyTurns : Nat
  /-- Positions that have passed an open-wire turn and a balance-conductor turn (R84). -/
  owPass : Nat
  bcPass : Nat
  /-- Inputs that have delivered a conversion since the harness relay closed, bit k (R68). -/
  tempSeen : Nat
  /-- Switched off by R144 until a power cycle. -/
  shut : Bool
  /-- Supply of PD_Bnn out of tolerance (R553). -/
  supplyBad : Bool
  deriving DecidableEq, Repr

/-- The checks of one bank (R75 to R100). -/
structure Check where
  /-- The wiring slot runs since this strike, plus 1 (0: it idles). -/
  wireFrom : Nat
  /-- Earlier spans of the wiring slot, first and last strike (R76, R77). -/
  wireLog : List (Nat × Nat)
  /-- Excursions of the halves of the open-wire turn in hand, µV; half h injects at position h (R78, R79). -/
  halves : Tab Nat
  /-- Class each tap took in the last open-wire turn: 0 pass, 1 high resistance, 2 open (R80). -/
  tapPrev : Tab Nat
  /-- Taps confirmed open and of high resistance. -/
  tapOpen : Nat
  tapHigh : Nat
  /-- Balance conductor: positions whose last turn failed on current or on excursion, and confirmed (R81). -/
  bcIPrev : Nat
  bcXPrev : Nat
  bcIConf : Nat
  bcXConf : Nat
  /-- Bleed state: by position the turn of its latest read, plus 1, where that read disagreed, and positions confirmed
  (R82). -/
  bleedPrev : Tab Nat
  bleedConf : Nat
  /-- Consecutive deferrals of the balance-conductor check, and positions with the strikes at which they were not pulsed
  (R77, R83). -/
  deferred : Tab Nat
  unpulsed : List (Nat × Nat)
  /-- The dwell: position, first strike, retest, waiting for a start (R86 to R90). -/
  dwPos : Nat
  dwStart : Nat
  dwTurns : Nat
  dwRetest : Bool
  dwOn : Bool
  /-- Compare window sums: strikes, position words, check words. -/
  winN : Nat
  winPos : Int
  winChk : Int
  /-- Last 16 ratios, newest first (R91). -/
  ratios : List Rat
  /-- C flags in force, and as they are from the next strike 0 (R89). -/
  cNow : Nat
  cNext : Nat
  /-- Frozen word: last VALUE and run by position (R92). -/
  frozen : Tab (Int × Nat)
  /-- Turn of the latest dwell with a result, plus 1 (R93). -/
  lastDwell : Tab Nat
  /-- Plausibility runs (R99). -/
  implaus : Tab Nat
  /-- The comparator test to repeat: position plus 1 (R98). -/
  cmpRetest : Nat
  /-- By DAC the turn of its latest readback, plus 1, where that was out of tolerance (R100). -/
  dacPrev : Tab Nat
  /-- The signature failed in this dwell (R94). -/
  sigFail : Bool
  deriving DecidableEq, Repr

/-- Selection of the current path (R112), encoded as CUR_STAT.SEL. -/
inductive Sel where
  | fine | coarse | hall | none
  deriving DecidableEq, Repr

/-- The current and bus front end (R107 to R117). -/
structure CurState where
  /-- The lane, as of a bank, and the trim code in force. -/
  lane : Bank
  trim : Nat
  /-- Corners in force. -/
  cfc : Nat
  vfc : Nat
  /-- Strikes of S still to come on the current and on the voltage channels. -/
  settleI : Nat
  settleV : Nat
  /-- Strikes of taint still to come (R111). -/
  taintF : Nat
  taintC : Nat
  fineRun : Nat
  coarseRun : Nat
  /-- The selected current of the last accepted frame, 0.1 mA; a frame has been accepted since the block was reset. -/
  held : Int
  seen : Bool
  /-- The charge accumulator in µC and its residue (R115). -/
  acc : Int
  frac : Int
  /-- The running sum of the squared count bounds of the strikes, µC² (R186). -/
  boundSq : Rat
  /-- Latest words FINE, COARSE, HALL, VSTR, VBUS. -/
  words : List Nat
  /-- Turns in a row of disagreement (R113, R114, R117). -/
  runFc : Nat
  runHs : Nat
  runVs : Nat
  /-- Turns the Hall supply has been out of tolerance, and its state in this turn (R114). -/
  supplyRun : Nat
  supplyBad : Bool
  /-- HALL words carry D under R114. -/
  hallD : Bool
  /-- Consecutive strikes at which the magnitude of the selected current is above 0.5 A. -/
  above : Nat
  deriving DecidableEq, Repr

/-- The insulation monitor (R118 to R123). -/
structure ImdState where
  relayCmd : Bool
  relayFb : Bool
  relayDis : Nat
  /-- Fast-settled periods in a row (R118). -/
  fast : Nat
  /-- Results below WARN and below ALARM in a row (R122). -/
  lowW : Nat
  lowA : Nat
  /-- A self-test result is awaited; strike of the latest self-test, plus 1 (R123). -/
  testing : Bool
  testAt : Nat
  /-- The last result in kΩ. -/
  last : Nat
  /-- The partner's result, held, is a valid one (R120). -/
  heldOk : Bool
  deriving DecidableEq, Repr

/-- One temperature input (R126 to R138). -/
structure TempState where
  /-- The value of the word, 0.01 °C. -/
  value : Int
  /-- Flags of the word. -/
  new : Bool
  /-- It lies in the approach band, and it is converted at the band rate in the turn in hand (bit A). -/
  a : Bool
  rate : Bool
  t : Bool
  o : Bool
  f : Bool
  u : Bool
  /-- Conversions in a row with O, and conversions in a row outside the band (R133, R136). -/
  oRun : Nat
  outRun : Nat
  /-- Fails its test once: test again next period (R96). -/
  retest : Bool
  /-- Failed, to carry F from the next turn (R136). -/
  failNext : Bool
  deriving DecidableEq, Repr

/-- Temperature sensing and the module's own heat (chapter 5). -/
structure ThmState where
  /-- Inputs by j of R343: bank * 32 + input, and 576 to 583. -/
  inputs : Tab TempState
  /-- By group, the period plus 1 in which an input was tested again (R96). -/
  retested : Tab Nat
  /-- Banks whose two sensors differ, bit k (R140). -/
  bankPair : Nat
  /-- Loaded curves: 34 resistances each (R127). -/
  curves : Tab (List Nat)
  /-- Sums of the die sensors over the turn in hand (16: of the highest valid one), strikes summed, and the last turn's
  means (R140, R141). -/
  dieSum : Tab Int
  dieN : Nat
  dieMean : Tab Int
  /-- Turns in a row a die sensor has been implausible. -/
  dieOff : Tab Nat
  /-- Turns in a row at or above 115 °C, and below 110 °C (R141). -/
  warnRun : Nat
  coolRun : Nat
  /-- By die sensor, strikes in a row at which it was valid and read 130 °C or more; the sensor whose run reaches two, else the
  hottest, and its value (R142). -/
  hotRun : Tab Nat
  hotIdx : Nat
  hotVal : Int
  /-- The die shutdown latch and the retention store: strike, temperature, sensor, cause; not yet recorded (R142, R143). -/
  latch : Bool
  store : Option (Nat × Int × Nat × Nat)
  /-- Bank sensors: sums of the turn, last means, difference run, warning run, shutdown run, by bank * 2 + sensor. -/
  bankSum : Tab Int
  bankMean : Tab Int
  bankDiff : Tab Nat
  bankWarn : Tab Nat
  bankHot : Tab Nat
  /-- Turns in a row M1 - M0 has been above 25 K (R146). -/
  riseRun : Nat
  deriving DecidableEq, Repr

end Sys2Proof.Machine
end

