-- ==== Sys2Proof/Machine/Inputs.lean ====
section
/-! DEFINITION. What the world outside the module brings to a strike: the operands of the command STRIKE. The values
of the converters are the outputs of their decimation filters (R53, R619), whose coefficients the manual does not give. -/
namespace Sys2Proof.Machine

/-- What a temperature converter sees of one input (R127, R128). -/
inductive TempRaw where
  /-- An NTC: its resistance in units of 0.1 ohm. -/
  | ntc (r : Nat)
  /-- A remote diode: the difference of its forward voltage at the two currents, in nV, and the ratio of the currents, which the
  manual does not give. -/
  | diode (dv ratio : Nat)
  deriving DecidableEq, Repr

/-- One input converted in a turn, with what its test conversion sees when it is the tested input (R95). -/
structure TempIn where
  input : Nat
  raw : TempRaw
  /-- NTC test: voltage at twice the current, in thousandths of the voltage of the last normal conversion. -/
  ratio : Nat
  /-- Diode test: rise of the forward voltage in µV. -/
  rise : Int
  /-- Conversions of the neighbours in the test slot: input and what its converter sees. -/
  neigh : List (Nat × TempRaw)
  deriving DecidableEq, Repr

/-- What one bank measures and sends at a strike.
DESIGN CHOICE (log 265). -/
structure BankIn where
  bank : Nat
  /-- A frame came by t0 + 4.0 µs, the strike number that the bank wrote into it, and the bits that the lane has turned in it:
  byte of the frame and bits (R28, R59). -/
  onTime : Bool
  strikeNo : Nat
  err : List (Nat × Nat)
  /-- Filter outputs of local positions 0 upward, µV. -/
  v : List Int
  /-- Filter output of the check converter, µV. -/
  check : Int
  /-- Comparator states: bit k is local position k. -/
  cmpUnder : Nat
  cmpOver : Nat
  /-- Presence loops, bit k is branch Bk. -/
  pres : Nat
  relayFb : Bool
  /-- Strike 31: the round trip of the lane in ps, none without a valid measurement (R61). -/
  roundTrip : Option Int
  /-- Wiring slot: excursions of the two halves, µV, or of the two pulses (R78, R81). -/
  exA : Nat
  exB : Nat
  /-- Bleed currents of the slot's positions before any pulse, mA (R82). -/
  bleedA : Nat
  bleedB : Nat
  /-- Bleed currents of the two pulses, mA (R81). -/
  pulseA : Nat
  pulseB : Nat
  /-- Excursion at the check converter input, µV (R94). -/
  sig : Int
  /-- Both comparator bits of the tested position read 1 (strike 31, R98). -/
  cmpOk : Bool
  /-- Readback error of the four DACs of the strike, µV (R100). -/
  dacErr : List Int
  /-- Temperature conversions of the turn (strike 31). -/
  temps : List TempIn
  /-- The two ring-oscillator sensors, 0.01 °C (R139). -/
  sens0 : Int
  sens1 : Int
  /-- Position-side and bus-side shuttle current in mA, positive out of the cells; the position whose selector's
  feedback reads closed, none where none does (R278, R279). -/
  shutI : Int
  busI : Int
  shutFb : Option Nat
  deriving DecidableEq, Repr

/-- What the current and bus front end measures and sends at a strike. -/
structure CurIn where
  onTime : Bool
  strikeNo : Nat
  err : List (Nat × Nat)
  /-- Filter outputs: 0.1 mA, 1 mA, 1 mA, 1 mV, 1 mV (R107). -/
  fine : Int
  coarse : Int
  hall : Int
  vstr : Int
  vbus : Int
  /-- The overcurrent comparators and the overload detectors (byte 32 of the frame). -/
  ocd : Bool
  occ : Bool
  fineOvl : Bool
  coarseOvl : Bool
  /-- Hall supply rails in units of 0.1 V, signed. -/
  railP : Int
  railN : Int
  /-- Supply of the front end within tolerance (byte 40). -/
  supplyOk : Bool
  roundTrip : Option Int
  deriving DecidableEq, Repr

/-- What a reader of the Millpond finds (R352): addresses of the words it corrects, and of the words it cannot correct, in
units of 8 B, each with the positions whose model state the word holds. -/
structure EccIn where
  corrected : List Nat
  bad : List (Nat × List Nat)
  deriving DecidableEq, Repr

/-- What a strike brings to the module beside the frames.
DESIGN CHOICE (log 265). -/
structure StrikeIn where
  banks : List BankIn
  cur : CurIn
  /-- At strike 0: the turn just ended, measured by the RC oscillator, ns (R39). -/
  turnNs : Nat
  /-- The 16 die sensors, 0.01 °C (R139). -/
  die : List Int
  /-- Module-level temperature conversions of the turn (strike 31). -/
  mtemps : List TempIn
  /-- Safety input channels A and B, bit n of input n, and SRST (R239, R249). -/
  siA : Nat
  siB : Nat
  srst : Bool
  /-- Test-pulse outputs read back at their commanded level (R243). -/
  tpOk0 : Bool
  tpOk1 : Bool
  /-- Coil circuits open or shorted: bit 0 K_POS, 1 K_NEG, 2 K_PRE (R225). -/
  coilBad : Nat
  /-- A setpoint readback frame came and equals the frame sent (R317). -/
  spRead : Bool
  /-- AOUT deviates by more than 0.5 % of its span (R319). -/
  aoutBad : Bool
  /-- Actuator outputs deviating, open or shorted, bit k of ACTk (R321). -/
  actBad : Nat
  /-- The commit of the strike is not complete by t0 + 8.0 µs (R344). -/
  commitLate : Bool
  /-- Current returning into SOLE_DRIVE_IN, 0.1 mA (R507). -/
  loopI : Nat
  /-- Strike 0: ranks refused bandwidth in the turn just ended, bit r (R348). -/
  yld : Nat
  /-- Auxiliary inputs and coil supply in units of 0.2 V (R548, R554). -/
  aux1 : Nat
  aux2 : Nat
  coilV : Nat
  deriving DecidableEq, Repr

/-- What discovery of a lane finds (R61, R68). -/
structure LaneIn where
  locked : Bool
  /-- Identity memory present with a right CRC: serial, aperture offset, lane asymmetry, turnaround (ps). -/
  idOk : Bool
  serial : Nat
  aperture : Int
  asym : Int
  turnaround : Int
  /-- The 32 round trips, ps. -/
  rts : List Int
  deriving DecidableEq, Repr

/-- What the insulation monitor finds in an injection period (R118). -/
structure ImdIn where
  /-- A half-period whose current still changed by more than 1 % over its last tenth. -/
  unsettled : Bool
  /-- The current settled within the first 40 % of each half-period. -/
  fast : Bool
  /-- The resistance of the plateaus in kΩ, and the leak location in percent, none where not known. -/
  riso : Nat
  loc : Option Nat
  deriving DecidableEq, Repr

/-- A command entry fetched from a CMD ring (R375): function, ring, the 64 bytes, and the bytes that the module reads at
the entry's ADDR, none where that read fails (R384). -/
structure CmdIn where
  fn : Nat
  ring : Nat
  entry : List Nat
  data : Option (List Nat)
  deriving DecidableEq, Repr

/-- What a commit writes beside the values the module holds: a valid new layout and failover set of the Commissioning
Suite, where the session carried one (R66, R234). -/
structure CommitIn where
  layout : Option (List (Nat × Layout))
  failover : Option (List Nat)
  deriving DecidableEq, Repr

/-- An Ethernet frame at a port (R457): destination MAC, EtherType, length with its VLAN tag, VLAN ID of its tag; of an
IPv4 packet, the destination, the protocol (1 ICMP, 6 TCP, 17 UDP) and the destination port, or whether an ICMP message
is an echo request; whether it is an ARP reply by which another station holds the port's address (R456). -/
structure FrameIn where
  dst : Nat
  etype : Nat
  len : Nat
  vlan : Option Nat
  ipDst : Nat
  proto : Nat
  dport : Nat
  echo : Bool
  arpHeld : Bool
  deriving DecidableEq, Repr

/-- An Announce message that a port receives (R462, R466): domain, majorSdoId, what the best master clock algorithm
compares, and PTP_TIMESCALE. -/
structure AnnounceIn where
  port : Nat
  domain : Nat
  sdo : Nat
  /-- Identity of the sending clock, and of the grandmaster. -/
  sender : Nat
  gm : Nat
  prio1 : Nat
  clkClass : Nat
  accuracy : Nat
  variance : Nat
  prio2 : Nat
  steps : Nat
  timescale : Bool
  deriving DecidableEq, Repr

/-- A Sync message with a delay measurement (R462, R463, R467): port, sender, time of sending and of arrival, ps (arrival by
the hardware clock, 0 while it stands still), mean path or link delay, ps; the AON counter at arrival, ns (R464). -/
structure SyncIn where
  port : Nat
  sender : Nat
  sent : Nat
  arrived : Nat
  delay : Nat
  aon : Nat
  deriving DecidableEq, Repr

/-- A CAN frame on a bus (R482, R488): its start of frame in units of 12.5 ns of the hardware clock; identifier; format 0
CBFF, 1 CEFF, 2 FBFF, 3 FEFF, 4 XLFF; remote; BRS and ESI; data; LEN; SDU type, VCID and acceptance field of an XLFF.
DEDUCED (log 151). -/
structure CanFrame where
  sof : Nat
  id : Nat
  fmt : Nat
  rtr : Bool
  brs : Bool
  esi : Bool
  len : Nat
  data : List Nat
  sdt : Nat
  vcid : Nat
  af : Nat
  deriving DecidableEq, Repr

/-- What a boot finds (R446, R532, R541, R567, R574): a compare group that failed the self-test; slots of the boot flash
that read back damaged; the safety configuration's CRC is right; sequence numbers of committed records whose CRC fails.
DESIGN CHOICE (log 121). -/
structure BootIn where
  badGroup : Option Nat
  badSlots : List Nat
  cfgCrcOk : Bool
  badRecs : List Nat
  deriving DecidableEq, Repr

/-- A slice of the self-check set (R36, R164, R574): whether it completes the set; slots whose working copies fail their CRC;
the compare group tested detects its mismatch. -/
structure ChkIn where
  last : Bool
  badSlots : List Nat
  groupOk : Bool
  deriving DecidableEq, Repr

/-- A KEEP frame (R512): its CRC and length are right, its strike number, serial, role and flags. -/
structure KeepIn where
  valid : Bool
  strike : Nat
  serial : Nat
  role : Nat
  flags : Nat
  deriving DecidableEq, Repr

/-- A HELLO record (R513): sender, partner named, LAYOUT and configuration CRC, image FORMAT and oldest FORMAT accepted,
nonce, proof; none while the sender has no nonce of this module. -/
structure HelloIn where
  serial : Nat
  partner : Nat
  layout : Nat
  config : Nat
  format : Nat
  oldest : Nat
  nonce : List Nat
  proof : Option (List Nat)
  deriving DecidableEq, Repr

/-- A certificate chain that a client shows (R561): SHA-384 of its root, whether every certificate is within its validity by
the hardware clock, SHA-256 of the client certificate, its organizational unit (0 OBSERVER, 1 OPERATOR, 2 SERVICE, else none
of them), the number of its public key. -/
structure CertIn where
  root : List Nat
  valid : Bool
  fp : List Nat
  unit : Nat
  key : Nat
  deriving DecidableEq, Repr

/-- A TLS handshake at a port (R560, R561): the parameters it settles on are those of R560, without resumption and early
data; the client's chain. -/
structure TlsIn where
  port : Nat
  params : Bool
  cert : CertIn
  deriving DecidableEq, Repr

/-- A debug request (R576): the level, the signature, and the chain it carries, none where the signer is the debug
authority. -/
structure DebugIn where
  level : Nat
  sig : List Nat
  chain : Option CertIn
  deriving DecidableEq, Repr

end Sys2Proof.Machine
end

