-- ==== Sys2Proof/Machine/StateBase.lean ====
section
/-! DEFINITION. State of the turn monitor, of the fault system and of the event log. Registers live in the register
file; the structures here hold what the rules give the module beside its registers. -/
namespace Sys2Proof.Machine

/-- The paths a register is reached by (R611, R612). -/
inductive Path where
  | pf0
  | vf (n : Nat)
  | svc (conn : Nat)
  | dbg
  deriving DecidableEq, Repr

/-- Who sent a command, and how its completion finds back (R375, R376, R562): the service connection, or function and CMD
ring; CID, HEAD after the entry was consumed, IRQ of CFLG. -/
structure CmdRef where
  svc : Option Nat
  fn : Nat
  ring : Nat
  cid : Nat
  head : Nat
  irq : Bool
  deriving DecidableEq, Repr

/-- The turn monitor and the strike timer (R21 to R40). -/
structure SysState where
  /-- CORE is powered: off after a die shutdown and while no supply is there (R142, R546). -/
  core : Bool
  /-- The strike number of the latest strike, 64 bits (R21). -/
  strike : Nat
  /-- The strike number before the first strike (R462): times run from it. -/
  first : Nat
  /-- Consecutive deadline misses by task ID (R36). -/
  miss : Tab Nat
  /-- Consecutive misses of the application-core tasks by code, and the turn of the latest (R478). -/
  appMiss : Tab (Nat × Nat)
  /-- Task IDs finished, or stopped, in the turn in hand (R35). -/
  done : List Nat
  /-- By turn task, what the monitor recorded last: start strike, and strike of the finish or of the stop at the deadline
  (R34). -/
  runs : Tab (Nat × Nat)
  /-- Heartbeat written in the turn in hand (R39). -/
  beat : Bool
  /-- Turns in a row ended without a heartbeat (R39). -/
  noBeat : Nat
  /-- Turn in which the self-check set in hand began, plus 1; 0 before the first slice (R36). -/
  chkBegin : Nat
  /-- Slices of the set done (R36). -/
  chkDone : Nat
  /-- The self-check lapse of the set in hand has been raised. -/
  chkLate : Bool
  /-- By position, the turn of its latest fit (R36, task 7). -/
  fitAt : Tab Nat
  /-- By position, its spectrum is marked stale: 1 after 60 000 turns without a fit, 2 after 600 000 (R36). -/
  fitLate : Tab Nat
  /-- Strike of the latest keep-alive marker the banks accepted (R39). -/
  alive : Nat
  deriving DecidableEq, Repr

/-- A fault in effect (R19, R20, R226 to R229). -/
structure Active where
  code : Nat
  /-- Subject, as in "Table — Event subject", 32 bits. -/
  subj : Nat
  cls : Nat
  /-- Turn of the raise. -/
  turn : Nat
  /-- Event-type cause: absent once the event has passed (R226). -/
  event : Bool
  /-- Strike since which the condition is absent, none while it is present. -/
  absent : Option Nat
  /-- Held by repeated latches (R229). -/
  held : Bool
  deriving DecidableEq, Repr

/-- One record on its way to the event log (R444). -/
structure EvRec where
  code : Nat
  cls : Nat
  clear : Bool
  /-- The hardware clock held valid time. -/
  tv : Bool
  strike : Nat
  subj : Nat
  rpt : Nat
  span : Nat
  data : List Nat
  deriving DecidableEq, Repr

/-- A committed record: its sequence number beside the record; whether its CRC is right (R444, R446). -/
structure EvSlot where
  seq : Nat
  crcOk : Bool
  rcd : EvRec
  deriving DecidableEq, Repr

/-- An open fold (R447): the key and data of its occurrences, first and last strike, count. -/
structure Fold where
  rcd : EvRec
  first : Nat
  last : Nat
  count : Nat
  deriving DecidableEq, Repr

/-- The fault system. -/
structure FaultState where
  active : List Active
  /-- Per cause: count of latches at class 3 and strike of the latest (R229). -/
  latches : Tab (Nat × Nat)
  /-- Decisions of the hardware path that supervision has not written yet (R208, R231). -/
  hwRecords : List EvRec
  /-- Last raise times of causes raised at most once a second, plus 1. -/
  paced : Tab Nat
  deriving DecidableEq, Repr

/-- The event log (R444 to R451). -/
structure EvlState where
  /-- Committed records, oldest first, in MRAM. -/
  slots : List EvSlot
  /-- Sequence number of the next record. -/
  nextSeq : Nat
  /-- The write queue of 1 024 entries. -/
  queue : List EvRec
  /-- Latest ordinary record of each foldable kind (its code, subject and class with CLEAR) and its strike. -/
  recent : List (EvRec × Nat)
  folds : List Fold
  /-- A full write queue has lost records: 0x0145 is due at the first space. -/
  lostDue : Bool
  /-- Ordinary recording has stopped (R448). -/
  full : Bool
  /-- Strike at which the freeze in force began. -/
  frozenAt : Nat
  /-- Power-fail detection has closed the folds (R447). -/
  noFold : Bool
  /-- The read window of each path: index and FRZV (R612). -/
  window : Tab (Nat × Nat)
  /-- Records copied to the record area of the cartridges (R434). -/
  copied : Nat
  deriving DecidableEq, Repr

end Sys2Proof.Machine
end

