-- ==== Sys2Proof/Machine/StateEst.lean ====
section
/-! DEFINITION. State of the certified estimator (chapter 6). States of charge are in ppm, charge and capacity in µC. -/
namespace Sys2Proof.Machine

/-- What the last narrowing of a position rests on: 1 rest correction, 2 start correction, 3 restore, 4 capacity; its turn
and the generation of the OCV table (R149). -/
structure Evid where
  kind : Nat
  turn : Nat
  gen : Nat
  deriving DecidableEq, Repr

/-- A start anchor of capacity learning and what has been counted since (R165 to R167). -/
structure Anchor where
  lo : Rat
  hi : Rat
  /-- Charge taken from the position and its uncertainty. -/
  q : Rat
  eq : Rat
  strike : Nat
  /-- Charge put in, in the present stretch of charging. -/
  chargeIn : Rat
  /-- Strikes with SEL NONE and with a held current, counted by the estimator, at the anchor. -/
  none0 : Nat
  held0 : Nat
  deriving DecidableEq, Repr

/-- The certified state of a position (R149) and what the estimator keeps beside it. -/
structure EstPos where
  lo : Rat
  hi : Rat
  capLo : Rat
  capHi : Rat
  learned : Bool
  /-- REST: the rest timer in turns; lowest and highest position temperature since the rest began; the timer value at which
  the next correction is due, 0 before the first. -/
  rest : Nat
  tMin : Int
  tMax : Int
  nextAt : Nat
  /-- Words of the second in hand: count and sum; means of whole seconds, newest first, by second number (R155). -/
  secN : Nat
  secSum : Int
  means : List (Nat × Rat)
  evid : Option Evid
  anchor : Option Anchor
  /-- Start correction (R176): still open; the first whole second after the release; conditions held; made. -/
  startSec : Option Nat
  startOk : Bool
  startDone : Bool
  /-- Balancing counters at the last completed SUP: bleed, shuttle, error. -/
  bleed0 : Int
  shut0 : Int
  err0 : Rat
  /-- A fresh correction is due after a generation switch (R163). -/
  fresh : Bool
  deriving DecidableEq, Repr

/-- One entry of a certified snapshot (R170). -/
structure SnapEntry where
  lo : Rat
  hi : Rat
  capLo : Rat
  capHi : Rat
  evidTurn : Option Nat
  temp : Int
  used : Bool
  learned : Bool
  slot : Nat
  tray : Nat
  deriving DecidableEq, Repr

/-- A certified snapshot: the strike of its SUP, the running totals of charge at that SUP, its generations, its entries. -/
structure Snapshot where
  strike : Nat
  q : Int
  eq : Rat
  gens : List Nat
  entries : Tab SnapEntry
  deriving DecidableEq, Repr

/-- The figures held for a delivered snapshot (R169, R171): strike, and the running totals at its SUP. -/
structure SnapFig where
  strike : Nat
  q : Int
  eq : Rat
  deriving DecidableEq, Repr

/-- The certified estimator (R149 to R177). -/
structure EstState where
  pos : Tab EstPos
  /-- Per-strike uncertainty since the last completed SUP, µC; strikes with SEL NONE and held since reset (R153, R166). -/
  countErr : Rat
  noneN : Nat
  heldN : Nat
  /-- Charge accumulator at the last completed SUP; running totals of charge and uncertainty since reset. -/
  acc0 : Int
  totQ : Int
  totEq : Rat
  /-- Largest magnitude of the selected current in the turn in hand, 0.1 mA. -/
  iMax : Nat
  /-- K_POS or K_NEG has closed since the reset (R176). -/
  everClosed : Bool
  /-- Table slot by bank * 4 + branch in force (R160). -/
  tsel : Tab Nat
  /-- Working copies in service, tables whose build runs, and built copies that wait for the switch, by slot. -/
  copies : Tab (List Nat)
  building : Tab (List Nat)
  built : Tab (List Nat)
  /-- Slots to suspend at the next strike 0 (R164). -/
  suspNext : List Nat
  /-- Strike of the first entry to RUN since the reset (R169, R172). -/
  firstRun : Option Nat
  /-- Strike of the latest completed SUP since the reset, and the position temperatures it saw. -/
  supStrike : Option Nat
  supTemp : Tab Int
  /-- Strike of the latest periodic snapshot, or of the first entry to RUN; a periodic snapshot that waits to be received,
  and the strike of its production; snapshots whose completion is due, and the latest and previous delivered ones. -/
  snapAt : Nat
  waiting : Option (Snapshot × Nat)
  deliver : List SnapFig
  snapNow : Option SnapFig
  snapPrev : Option SnapFig
  /-- The restore window has closed (R177). -/
  windowDone : Bool
  deriving DecidableEq, Repr

end Sys2Proof.Machine
end

