-- ==== Sys2Proof/Machine/StateHost.lean ====
section
/-! DEFINITION. State of the host interface: functions, rings, entries and flumes (chapters 14 and 15). -/
namespace Sys2Proof.Machine

/-- An entry due to a CPL or EVT ring (R376, R378): the bytes before TS, the bytes after it up to byte 30, its flags, and
the certified snapshots that its write delivers (R403). -/
structure HostEntry where
  evt : Bool
  ring : Nat
  lead : List Nat
  tail : List Nat
  delayed : Bool
  again : Bool
  irq : Bool
  snap : Option SnapFig
  deriving DecidableEq, Repr

/-- A loaded ring (R369 to R374): host-owned fields of its context, module-owned fields. -/
structure Ring where
  kind : Nat
  base : Nat
  log2n : Nat
  pair : Nat
  vec : Nat
  ien : Bool
  modcnt : Nat
  modtime : Nat
  minCls : Nat
  clr : Bool
  midx : Nat
  hidx : Nat
  armed : Bool
  error : Bool
  /-- Events not written since the last overflow entry, SEQ and strike of the first (R378). -/
  drop : Nat
  dropSeq : Nat
  dropStrike : Nat
  /-- Entries written since the ring was armed, and strike of the first (R382). -/
  since : Nat
  firstAt : Option Nat
  /-- Strike at which an UNLOAD began. -/
  unloading : Option Nat
  /-- Commands fetched and not complete (R375). -/
  flight : List CmdRef
  deriving DecidableEq, Repr

/-- PCI capabilities ("Table — PCI identity and capabilities"). -/
inductive PciCap where
  | powerManagement | pciExpress | msix | aer | ari | sriov | serialNumber
  deriving DecidableEq, Repr

/-- What the configuration space of a function reads for its identity (R44, R358, R359). -/
structure PciIdentity where
  vendor : Nat
  device : Nat
  classCode : Nat
  subVendor : Nat
  subsystem : Nat
  intPin : Nat
  caps : List PciCap
  /-- Vectors of the MSI-X table. -/
  vectors : Nat
  /-- Device Serial Number, First VF Offset, VF Stride, InitialVFs and TotalVFs, where the function has the capability. -/
  serialNo : Option Nat
  vfs : Option (Nat × Nat × Nat)
  deriving DecidableEq, Repr

/-- One PCI function (R364, R385 to R389, R469). -/
structure HostFn where
  d0 : Bool
  bme : Bool
  /-- MSI-X enabled; vectors unmasked; pending bits. -/
  msix : Bool
  unmasked : List Nat
  pend : List Nat
  pmeEn : Bool
  pmeStatus : Bool
  /-- Strike of the latest PM_PME, plus 1. -/
  pmeAt : Nat
  /-- EVT rings events are due to: ring, MINCLS, CLR; kept through PERST_N. -/
  subs : List (Nat × Nat × Bool)
  held : List HostEntry
  /-- The last 16 entries issued, oldest first (R389). -/
  issued : List HostEntry
  /-- Strike at which the function stopped being suspended. -/
  resumedAt : Nat
  /-- The function has been reset (R385), and the rings loaded since: other contexts count as fresh. -/
  wasReset : Bool
  loaded : List Nat
  /-- Client clock in force: OFS in ns, RATE, A in ns (R469). -/
  ofs : Int
  rate : Int
  a : Nat
  deriving DecidableEq, Repr

/-- An open flume (R404 to R416). -/
structure Flume where
  kind : Nat
  fields : Nat
  first : Nat
  count : Nat
  start : Nat
  stop : Option Nat
  decim : Nat
  flush : Nat
  /-- Next unit: a strike, turn or sequence number. -/
  next : Nat
  delivered : Nat
  gaps : Nat
  /-- A gap record to deliver first: first and last unit not delivered, CAUSE. -/
  gap : Option (Nat × Nat × Nat)
  /-- The buffer in hand: address, size, DID; bytes written, records begun, strike of the first record. -/
  buf : Option (Nat × Nat × Nat)
  fill : Nat
  recs : Nat
  firstAt : Nat
  /-- Rest of a record longer than the buffer that it was begun in; the snapshot a record carries. -/
  rest : List Nat
  snap : Option SnapFig
  /-- Capture flumes: the trigger turn of the capture. -/
  capt : Nat
  /-- A capture flume has been overrun: its last buffer has still to be completed with TRUNC (R349). -/
  trunc : Bool
  /-- Impedance flumes: records written and not yet delivered, by strike number. -/
  queue : List (Nat × List Nat)
  deriving DecidableEq, Repr

/-- A service connection (R560, R561): its role, 0 Observer, 1 Operator, 2 Service; the client's fingerprint; the strike of
its latest message. -/
structure SvcConn where
  role : Nat
  /-- 0 ETH-A, 1 ETH-B. -/
  port : Nat
  client : List Nat
  lastAt : Nat
  deriving DecidableEq, Repr

/-- A write of host memory that the module issued: function, address, bytes. -/
abbrev HostWrite := Nat × Nat × List Nat

/-- The host interface (R357 to R421). Rings and flumes by function * 1024 + ring. -/
structure HostState where
  fns : Tab HostFn
  rings : Tab Ring
  flumes : Tab Flume
  /-- VFs that exist, and ARI Capable Hierarchy. -/
  numVf : Nat
  ari : Bool
  /-- PME_Turn_Off has been received, and PME_TO_Ack sent (R388). -/
  turnOff : Bool
  /-- Entries ready to be written: function and entry, oldest first. -/
  ready : List (Nat × HostEntry)
  /-- Context cache, most recently used first (R372). -/
  cache : List Nat
  /-- Cell context entries read, in force from the next strike 0 (R419). -/
  cellNext : Tab (List Nat)
  /-- Outputs of the latest command that had any: writes of host memory, MSI-X messages, functions that sent PM_PME. -/
  writes : List HostWrite
  msgs : List (Nat × Nat)
  pmes : List Nat
  /-- Messages to service connections: connection, bytes (R562). -/
  svcOut : List (Nat × List Nat)
  /-- Service connections open, in the order in which they were opened; the number of the next. -/
  conns : Tab SvcConn
  connNext : Nat
  deriving DecidableEq, Repr

end Sys2Proof.Machine
end

