-- ==== Sys2Proof/Machine/StateSluice.lean ====
section
/-! DEFINITION. State of Sluice, of the safety inputs and telegrams, of the configuration authority and of the
balancing schedule (chapters 8, 9 and 10). -/
namespace Sys2Proof.Machine

/-- Where a contactor sequence stands (R216, R220, R221). -/
inductive Seq where
  /-- No sequence runs: CONN is OPEN or CLOSED. -/
  | idle
  /-- K_PRE energised for W1, its feedback awaited; W1 dwell; K_PRE opening. -/
  | w1Close | w1Dwell | w1Open
  /-- K_NEG energised for W2, its feedback awaited; W2 dwell. -/
  | w2Close | w2Dwell
  /-- K_PRE energised for precharge, its feedback awaited; precharge; K_POS closing; overlap; K_PRE opening. -/
  | preClose | precharge | posClose | overlap | preOpen
  /-- Orderly opening: clamp falling; K_POS opening; the 20 ms after its feedback opened. -/
  | ramp
  /-- The current has been low for 32 strikes; the next SEV opens K_POS. -/
  | lowSeen
  | posOpen | negDelay
  /-- A connection is given up: the next SEV de-energises K_PRE and K_NEG. -/
  | abandon
  /-- Every coil is off: the openings are awaited. -/
  | opening
  deriving DecidableEq, Repr

/-- What a request to Sluice asks for (R215, R219, R227). -/
inductive ReqKind where
  | connect | openString | reset
  deriving DecidableEq, Repr

/-- A waiting request: its kind, whether it comes from a Service or Safety Authority session, and the command to
complete (R228, R397). -/
structure Req where
  kind : ReqKind
  privileged : Bool
  cmd : Option CmdRef
  deriving DecidableEq, Repr

/-- Sums over the words of a position in one turn: accepted by R209 (count, sum, lowest, highest); with S, O and D at 0
(count, sum); with S, O, C and D at 0 (count, sum). -/
structure PosTurn where
  n : Nat
  sum : Int
  lo : Int
  hi : Int
  q : Nat
  qsum : Int
  r : Nat
  rsum : Int
  /-- A word of the turn carried C or O (R281). -/
  co : Bool
  deriving DecidableEq, Repr

/-- Sluice (R208 to R237). -/
structure SluState where
  seq : Seq
  /-- Strike of the sequence's last step. -/
  stepAt : Nat
  /-- Coils energised. -/
  kPos : Bool
  kNeg : Bool
  kPre : Bool
  /-- Strike of the latest change of each feedback contact. -/
  fbAt : Tab Nat
  /-- Strike of the latest energising and de-energising, by coil 0 K_POS, 1 K_NEG, 2 K_PRE. -/
  onAt : Tab Nat
  offAt : Tab Nat
  /-- Strike from which FB_CLOSE is counted, plus 1; 0 while the contact reads closed or the coil is off (R216). -/
  closeFrom : Tab Nat
  /-- Strike from which FB_OPEN is counted, plus 1; 0 while the contact reads open or the coil is on (R224). -/
  openFrom : Tab Nat
  /-- Weld reference: VSTR - VBUS in mV and the selected current in 0.1 mA; strikes of current above 0.5 A (R217). -/
  refV : Int
  refI : Int
  weldRun : Nat
  /-- VSTR - VBUS of the latest accepted frame of CUR, mV. -/
  gapV : Int
  /-- The weld test in hand has failed. -/
  weldFail : Bool
  /-- Precharge: strikes within PRE_DV and above PRE_IMAX in a row, strike of the start (R218). -/
  preRun : Nat
  preIRun : Nat
  preAt : Nat
  /-- Strikes of the precharge attempts (R215). -/
  attempts : List Nat
  /-- The clamp's magnitude limit in an orderly opening, in 1/32 of 0.1 mA; strike of the decision (R220). -/
  ordLim : Nat
  ordAt : Nat
  /-- Strikes in a row with the current at or below OPEN_I. -/
  lowRun : Nat
  /-- Strike of the BRK_TRIP pulse in hand, plus 1 (R223). -/
  brkAt : Nat
  /-- The breaker's auxiliary input has read open in the pulse in hand (R223). -/
  auxOpen : Bool
  /-- The check of R224 has raised 0x0725 in this opening. -/
  afterOpen : Bool
  /-- Weld lockout, in MRAM (R224). -/
  weldLock : Bool
  /-- Threshold set in force, whether one is, and a set waiting for the next strike 0 (R211). -/
  thr : RegFile
  cfg : Bool
  thrNext : Option RegFile
  /-- Strikes in a row that each hardware-path test has been met (R212). -/
  ovf : Tab Nat
  uvf : Tab Nat
  ovc : Tab Nat
  uvc : Tab Nat
  ocdFast : Nat
  occFast : Nat
  ocdHw : Nat
  occHw : Nat
  /-- A fast comparator bit has read set in the turn in hand, and in the last turn (R226). -/
  fastSeen : Bool × Bool
  fastPrev : Bool × Bool
  /-- Missing frames in a row by source (18 is CUR), and the turns of those in the last 1 000 turns. -/
  missRun : Tab Nat
  missed : List (Nat × Nat)
  /-- Supervision runs (turns) by position. -/
  ovw : Tab Nat
  ovs : Tab Nat
  uvw : Tab Nat
  uvs : Tab Nat
  noMean : Tab Nat
  env14 : Nat
  env15 : Nat
  vmax : Nat
  vmin : Nat
  /-- Temperature runs (conversions) by input: OTW, OTS, OTE, UTC, UTD, ROR, and the last 10 s of values. -/
  otw : Tab Nat
  ots : Tab Nat
  ote : Tab Nat
  utc : Tab Nat
  utd : Tab Nat
  ror : Tab Nat
  hist : Tab (List (Nat × Int))
  /-- By position, strikes at which the over and the under comparator read set, in the turn in hand and the last (R226). -/
  cmpNow : Tab (Nat × Nat)
  cmpPrev : Tab (Nat × Nat)
  /-- Positions whose words R209 accepts at the present strike. -/
  used : List Nat
  /-- Requests waiting for the next completed SUP. -/
  reqs : List Req
  /-- Reset requests acted on by the latest SUP that acted on any (R251). -/
  acted : List Req
  /-- Failover set, in MRAM (R234). -/
  failover : List Nat
  /-- Coil circuits bad in the turn in hand and in the last turn (R225). -/
  coilNow : Nat
  coilPrev : Nat
  coilBoth : Nat
  deriving DecidableEq, Repr

/-- One channel of a safety input (R239 to R244). -/
structure Channel where
  /-- Level of the last counted sample, and counted samples in a row at it. -/
  last : Bool
  run : Nat
  /-- The channel has a filtered value; the filtered level; the level latched at strike 0. -/
  known : Bool
  level : Bool
  lat : Bool
  /-- The level was a filtered one when it was latched. -/
  seen : Bool
  /-- What the samples of the test pulse in hand or last ended showed: the contact was closed at its strike 0; low at strikes
  4 to 15; high again within 8 strikes after it; the other channel did not change in it (R242). -/
  pClosed : Bool
  pLow : Bool
  pBack : Bool
  pOther : Bool
  /-- Test pulses failed in a row and passed in a row; held in demand by R243; has passed a pulse (R244). -/
  fail : Nat
  ok : Nat
  held : Bool
  pass : Bool
  deriving DecidableEq, Repr

/-- One safety input (R238 to R248). -/
structure SafetyIn where
  a : Channel
  b : Channel
  /-- The conditions of R244 have been met. -/
  begun : Bool
  /-- In demand by its channels (R240). -/
  demand : Bool
  /-- Strike since which the channels disagree, plus 1; the discrepancy latch, in MRAM, and whether both channels have
  shown demand since it was set (R241). -/
  discAt : Nat
  latch : Bool
  latchBoth : Bool
  /-- Strike at which an ISOLATE input left demand, plus 1; its isolation request holds (R245). -/
  isoAt : Nat
  iso : Bool
  deriving DecidableEq, Repr

/-- One telegram connection (R252 to R259). -/
structure TgConn where
  /-- In use since a strike at which its configuration was seen. -/
  live : Bool
  /-- SEQ of the next telegram sent. -/
  txSeq : Nat
  /-- Last accepted SEQ, and whether any has been accepted since the start or a timeout. -/
  last : Nat
  started : Bool
  /-- The open pairs: SEQ, port, bytes, strike of arrival. -/
  pairs : List (Nat × Nat × List Nat × Nat)
  /-- Decided telegrams waiting for SEV: ports (1 A, 2 B, 3 both) and bytes. -/
  ready : List (Nat × List Nat)
  /-- CNT reference; ISOL of the last COMMAND; the timeout's isolation. -/
  cnt : Option Nat
  isol : Bool
  toutIso : Bool
  /-- Strike of the last accepted telegram, or of the start; the timeout has been raised since. -/
  accAt : Nat
  timedOut : Bool
  /-- Telegrams accepted in a row on port A alone, on port B alone, and complete pairs in a row. -/
  onlyA : Nat
  onlyB : Nat
  both : Nat
  deriving DecidableEq, Repr

/-- One test-pulse output (R242, R243). -/
structure TestPulse where
  /-- Turns in a row it has read wrong, and right; its readback was wrong in the turn in hand; it holds the inputs. -/
  bad : Nat
  good : Nat
  now : Bool
  hold : Bool
  /-- Turn of the last pulse judged, plus 1. -/
  judged : Nat
  deriving DecidableEq, Repr

/-- Safety inputs, SRST and telegrams. -/
structure SioState where
  inputs : Tab SafetyIn
  tp0 : TestPulse
  tp1 : TestPulse
  /-- SRST: last sample and samples in a row at it; strike of the last falling filtered edge or of the reset; latest
  rising edge, plus 1; rising edges of the last second; strike of the rise; 0x074D is raised (R249 to R251). -/
  srstLast : Bool
  srstRun : Nat
  lowAt : Nat
  edgeAt : Nat
  edges : List Nat
  highAt : Nat
  heldDone : Bool
  conns : Tab TgConn
  /-- Telegrams sent in the turn in hand: connection, ports and bytes. -/
  sent : List (Nat × Nat × List Nat)
  deriving DecidableEq, Repr

/-- Table content of an OCV slot, of an envelope map slot or of an NTC curve: its bytes. -/
abbrev TableBytes := List Nat

/-- The safety configuration in MRAM: every RWL field value, the tables, the layout, the failover set, the password
and the string key (R234, R262, R265, R622). -/
structure SafetyConfig where
  fields : RegFile
  /-- OCV slots 0 to 7, map slots 8 to 11, NTC curves 16 to 23. -/
  tables : Tab TableBytes
  /-- Branch layouts by bank * 4 + branch. -/
  layout : Tab Layout
  failover : List Nat
  /-- Argon2id salt and tag. -/
  salt : List Nat
  tag : List Nat
  key : Option (List Nat)
  /-- A threshold set has been committed (R211). -/
  hasThr : Bool
  deriving DecidableEq, Repr

/-- A change-log entry: its 128 bytes. -/
abbrev ClogEntry := List Nat

/-- The open session (R261 to R268). -/
structure Session where
  path : Path
  /-- SEC_SA_STAT.PATH code, client fingerprint. -/
  code : Nat
  client : List Nat
  number : Nat
  restricted : Bool
  openedAt : Nat
  lastAt : Nat
  /-- The OPEN entry is written. -/
  logged : Bool
  /-- Fields written in the session (old value, new value by field key), staged tables, password and key. -/
  tables : Tab TableBytes
  password : Option (List Nat)
  key : Option (List Nat)
  deriving DecidableEq, Repr

/-- The configuration authority and the change log (R261 to R269). -/
structure AuthState where
  session : Option Session
  /-- A commit is running: the session that closed and the strike of the close (R265). -/
  commit : Option (Session × Nat)
  /-- Completion due to SESSION_CLOSE. -/
  closeCmd : Option CmdRef
  /-- The committed configuration, in MRAM. -/
  committed : SafetyConfig
  /-- CRC-32 of the last commit, as the CLOSE entry carries it. -/
  crcAfter : Nat
  /-- Password failures F, and the lockout left in strikes, in MRAM; a lockout runs (R263). -/
  fails : Nat
  lock : Nat
  lockOn : Bool
  /-- Change-log entries in use, oldest first; SEQ of the next entry; session numbers given (R267). -/
  log : List ClogEntry
  nextSeq : Nat
  sessions : Nat
  rolls : Nat
  /-- A session was aborted: it, until the ABORT entry is written (R265). -/
  aborted : Option Session
  /-- Threshold set refused at the close in hand (R211). -/
  refused : Bool
  /-- Entries copied to the record area of the cartridges (R434). -/
  copied : Nat
  deriving DecidableEq, Repr

/-- Shuttle direction, encoded as BAL_SHUT.DIR. -/
inductive ShutDir where
  | off | out | inn
  deriving DecidableEq, Repr

/-- A bank's bleed and shuttle command (R280). -/
structure BalCmd where
  bleed : Nat
  pos : Nat
  dir : ShutDir
  deriving DecidableEq, Repr

/-- Balancing (R275 to R290). -/
structure BalState where
  /-- By bank: command computed by the BAL of the turn in hand, and command applied. -/
  next : Tab BalCmd
  now : Tab BalCmd
  /-- Shuttle of a bank: connected position and direction, strike of the change in hand (plus 1), strike of the
  connection; old connection ramping down. -/
  shutAt : Tab Nat
  dwellAt : Tab Nat
  /-- Strike of the selector's last move, plus 1; the current the shuttle is set to, mA (R278). -/
  selAt : Tab Nat
  shutSet : Tab Nat
  /-- Turns the position-side current has been out of 3.0 A ±3 % and strikes the feedback has disagreed (R290). -/
  shutIBad : Tab Nat
  shutFbBad : Tab Nat
  /-- The current was out of tolerance in the turn in hand. -/
  shutINow : Tab Bool
  /-- Bleed current last read since release, mA, plus 1 (R275). -/
  read : Tab Nat
  /-- Hardware counters: bleed charge and shuttle charge by position, in 1/320 µC (R279). -/
  bleedQ : Tab Int
  shutQ : Tab Int
  /-- Uncertainty of both, in 1/320 µC (R153). -/
  balErr : Tab Rat
  /-- What the present strike adds to it; positions with a bleed switch or the shuttle on at a strike of the turn (R154). -/
  errNow : Tab Rat
  onTurn : List Nat
  /-- Turns in a row the dissipation has exceeded 1.1 times the limit (R287). -/
  dissRun : Nat
  /-- Quiet period: running with its end turn; end of the last one, turn (R288). -/
  quiet : Option Nat
  quietEnd : Option Nat
  /-- The last quiet period ended early: another one is due. -/
  again : Bool
  /-- Bleed candidates of the latest BAL: turn since when, excess at that turn (R289), and present excess; µC, or µV in
  VOLT mode. -/
  cand : Tab (Nat × Rat)
  excess : Tab Rat
  /-- Position-side and bus-side current of each shuttle at the latest strike, mA, positive out of the cells (R279). -/
  loss : Tab (Int × Int)
  /-- The schedule removes bleeders (R287); 0x0904 has been noted for the present candidates. -/
  shed : Bool
  zeroSeen : Bool
  /-- Withhold the shuttle of a bank in the next balance-conductor turn (R83). -/
  withhold : Nat
  deriving DecidableEq, Repr

end Sys2Proof.Machine
end

