-- ==== Sys2Proof/Machine/StateStore.lean ====
section
/-! DEFINITION. State of the Millpond: its ring records, captures and errors (chapter 13). -/
namespace Sys2Proof.Machine

/-- A strike record of the strike ring (R343): sample words by global position (not listed: vacant), the CUR words, the
missing bits and SEL, the accumulator and its residue. -/
structure StrikeRec where
  strike : Nat
  words : Tab Nat
  cur : List Nat
  /-- [17:0] banks, [18] CUR. -/
  miss : Nat
  sel : Nat
  /-- The selected or held current, 0.1 mA: what the strike added to the accumulator, in 1/320 µC. -/
  iSel : Int
  acc : Int
  frac : Int
  /-- Positions whose words R209 accepts. -/
  used : List Nat
  /-- The square of the strike's count bound, µC², and their running sum (R186). -/
  bound1 : Rat
  bound : Rat
  /-- Tones that run (R195). -/
  tones : Nat
  deriving DecidableEq, Repr

/-- A turn record of the turn ring (R343): the check results and the temperature words by input, and what the packed
turn takes beside it (R424): accumulator and residue before strike 0, and the bank table. -/
structure TurnRec where
  turn : Nat
  captured : Bool
  chkLast : List Nat
  temps : List (Nat × Nat)
  acc0 : Int
  frac0 : Int
  banks : List Nat
  /-- Inputs that are not fitted in the turn; ts of the positions served (R194). -/
  unfit : List Nat
  ts : Tab Rat
  /-- What turn flumes deliver beside the record (R411): the certified interval in ppm, the string block. -/
  cert : Tab (Nat × Nat)
  block : List Nat
  deriving DecidableEq, Repr

/-- A capture (R350). -/
structure Capture where
  turn : Nat
  code : Nat
  cls : Nat
  post : Nat
  deriving DecidableEq, Repr

/-- The Millpond (R342 to R354). -/
structure MpdState where
  /-- Strike of the newest committed record (MPD_HEAD). -/
  head : Nat
  /-- Records in the rings, newest first. -/
  recs : List StrikeRec
  turns : List TurnRec
  /-- Records whose commit is late, oldest first (R344). -/
  late : List (StrikeRec × Option TurnRec)
  /-- Captures by k, and captures made. -/
  caps : Tab Capture
  capCount : Nat
  /-- Strikes of the corrected errors, and strike and block of the uncorrectable ones, of the last hour (R353). -/
  corrected : List Nat
  uncorrected : List (Nat × Nat)
  /-- Strike at which the scrub pass in hand began. -/
  scrubAt : Nat
  /-- Poisoned words by address in units of 8 B (R352). -/
  poison : List Nat
  deriving DecidableEq, Repr

end Sys2Proof.Machine
end

