-- ==== Sys2Proof/Machine/StateHopper.lean ====
section
/-! DEFINITION. State of the Hopper archive: chunks, cartridges, slots, the compressor and the lifetime tier
(chapter 16). -/
namespace Sys2Proof.Machine

/-- A chunk (R423, R428): its sequence number, gap or data, first turn and turns, GCAUSE, the strike and turn records it
packs (oldest first), raw and stored lengths, and its 256-byte header. -/
structure Chunk where
  seq : Nat
  gap : Bool
  first : Nat
  turns : Nat
  cause : Nat
  recs : List StrikeRec
  trecs : List TurnRec
  raw : Nat
  stored : Nat
  header : List Nat
  deriving DecidableEq, Repr

/-- A cartridge and its content (R422, R428, R429, R433, R434). -/
structure Cartridge where
  serial : Nat
  /-- Label valid; serial of the admitting module; admissions; CLEAN; newest CSEQ on the label. -/
  label : Bool
  owner : Nat
  admissions : Nat
  clean : Bool
  newest : Nat
  /-- Committed chunks, oldest first; minute records; copied records; seals. -/
  chunks : List Chunk
  minutes : List (List Nat)
  records : List (List Nat)
  seals : List (List Nat)
  deriving DecidableEq, Repr

/-- A Hopper slot (R435 to R440). -/
structure HopSlot where
  cart : Option Cartridge
  /-- CSEQ of the last chunk issued to this cartridge in order. -/
  done : Nat
  /-- An eject runs: strike of the fetch, its command, the last CSEQ it waits for. -/
  ejectAt : Option Nat
  ejectCmd : Option CmdRef
  ejectSeq : Nat
  deriving DecidableEq, Repr

/-- Sums of a position over a minute (R433). -/
structure MinPos where
  means : Rat
  n : Nat
  lo : Option Int
  hi : Option Int
  tLo : Option Int
  tHi : Option Int
  s : Nat
  o : Nat
  c : Nat
  d : Nat
  bal : Int
  deriving DecidableEq, Repr

/-- The minute in hand (R433). -/
structure Minute where
  first : Nat
  turns : Nat
  iN : Nat
  iSum : Int
  iLo : Option Int
  iHi : Option Int
  vN : Nat
  vSum : Int
  vLo : Option Int
  vHi : Option Int
  /-- Energies in Wh. -/
  eDis : Rat
  eChg : Rat
  cls : Nat
  faults : Nat
  riso : Option Nat
  die : Int
  m0 : Int
  missing : Nat
  gapTurns : Nat
  pos : Tab MinPos
  deriving DecidableEq, Repr

/-- The Hoppers (R422 to R441). -/
structure HopState where
  a : HopSlot
  b : HopSlot
  /-- First turn of the open chunk; none before the first turn packed since the start. -/
  next : Option Nat
  /-- First turn passed with EN = 0. -/
  off : Option Nat
  /-- Gaps not yet written as chunks: first turn, turns, GCAUSE. -/
  gaps : List (Nat × Nat × Nat)
  /-- Closed chunks not yet committed on every cartridge that writes, oldest first. -/
  staging : List Chunk
  /-- Next CSEQ and SHA-256 of the last chunk header, kept in MRAM; last turn of the last committed chunk. -/
  seq : Nat
  prev : Nat
  lastTurn : Option Nat
  /-- Raw and stored lengths of the last 3 600 chunks. -/
  ratios : List (Nat × Nat)
  minute : Minute
  /-- Minute records due (R433). -/
  minDue : List (List Nat)
  /-- Hour of the last seal; what the hour in hand covers: chunk headers and copied records. -/
  hour : Nat
  sealed : List (List Nat)
  deriving DecidableEq, Repr

end Sys2Proof.Machine
end

