-- ==== Sys2Proof/Syntax.lean ====
section
/-! DEFINITION. The commands of the block: one constructor per row of the opcode table. An operand is what the world
outside the module brings to the step: the word written, the message received, the level measured. -/
namespace Sys2Proof

open Sys2Proof.Machine

/-- The commands.
DESIGN CHOICE (log 3). -/
inductive Instr where
  /-- R27. At each strike instant every converter samples, frames travel and are checked, the hardware path compares, the intake commits and the Governor writes its outputs. -/
  | strike (i : StrikeIn)
  /-- R344. A commit not complete by t0 + 8.0 µs raises 0x0A06 at class 3 and becomes visible when it completes. -/
  | intakeCommitLate
  /-- R152. The certified estimator and Sluice supervision run in strikes 0 to 3: charge counting, rest corrections, supervision tests and request handling. -/
  | sup (e : EccIn)
  /-- R180. The vector engine makes one model step per position and accumulates impedance data in strikes 4 to 19. -/
  | mest
  /-- R214. Event-driven safety tasks run in strikes 4 to 19: contactor steps, telegram pairs and safety inputs. -/
  | sev
  /-- R329. The dispatch envelope computes the six limits, the pulse accounts, the tier in force and ENVREF in strikes 20 to 22. -/
  | env
  /-- R286. The balancing schedule chooses and admits bleed and shuttle commands within the dissipation budget in strikes 23 to 25. -/
  | bal
  /-- R515. The turn image is built and sent over the Millrace link in strikes 26 to 29. -/
  | img
  /-- R36. A slice of the self-check set runs in strikes 30 and 31. -/
  | chk (r : ChkIn)
  /-- R197. The vector engine fits the spectra of one position in background time and updates its precursor indices. -/
  | fit
  /-- R35. A turn task not finished at its deadline is stopped, its outputs discarded and the miss raised with the fault of its task. -/
  | deadlineMiss (task g : Nat)
  /-- R39. Two turns in a row without a lockstep heartbeat raise 0x0129 and make the hardware path open the contactors. -/
  | heartbeatMissing
  /-- R39. A bank that has received no valid keep-alive marker for 250 ms opens the contactors through the bank trip path. -/
  | keepaliveTimeout (nn : Nat)
  /-- R73. A write of EN, NPOS, FC or RANGE is judged against the contactor state and either refused or accepted for later effect. -/
  | bnkCtrlWrite (path : Path) (nn : Nat) (w : Word)
  /-- R73. An accepted EN or NPOS change takes effect at strike 0 of the next turn, powering, removing or rediscovering banks. -/
  | bankConfigApply
  /-- R58. A written or deferred corner or range change takes effect at a strike 0 and starts the settling count of its bank. -/
  | filterChangeApply
  /-- R68. Switching on PD_Bnn starts the discovery sequence of the bank. -/
  | bankDiscovery (nn : Nat)
  /-- R68. The bank lane locks, its identity memory is read and its trim is set from 32 round-trip measurements, or 0x0203 is raised. -/
  | laneLock (nn : Nat) (r : LaneIn)
  /-- R67. The tray ID record of a branch is read and compared with the commissioned layout. -/
  | trayIdCheck (nn k : Nat) (bytes : List Nat)
  /-- R68. After 32 turns in SURVEY range every position must read within range, or 0x020B is raised and the bank stays unreleased. -/
  | surveyCheck (nn : Nat)
  /-- R620. The NORMAL-range check of a position passes at its 32nd qualifying turn or fails at the first overrange word. -/
  | normalRangeCheck (nn p : Nat)
  /-- R68. A bank whose discovery steps have all succeeded is released and D clears on its checked positions. -/
  | bankRelease (nn : Nat)
  /-- R62. A trim out of range or no valid measurement for 32 or 1 000 turns raises 0x0206 or 0x0205 and sets D on the bank. -/
  | alignmentLost (nn : Nat)
  /-- R62. After 8 consecutive valid measurements within range the bank applies the trim at the next strike 0 and clears D. -/
  | alignmentRegained (nn : Nat)
  /-- R69. A branch reading absent at two consecutive strikes is lost, its positions are D-flagged and 0x0207 or 0x0208 is raised. -/
  | branchLost (nn k : Nat)
  /-- R70. A lost branch present for 64 consecutive strikes has its tray ID, NORMAL-range and wiring checks run again. -/
  | branchReturn (nn k : Nat) (bytes : List Nat)
  /-- R72. Harness relay feedback that disagrees with its command for more than 20 ms raises 0x020D at class 3. -/
  | relayFeedbackFault (nn : Nat)
  /-- R88. At the end of a compare window the mean difference of position and check words gives a pass, a mismatch or no result. -/
  | checkDwellEnd (nn : Nat)
  /-- R92. A released position delivering an identical VALUE in 64 consecutive words raises 0x0304. -/
  | frozenWord (nn p : Nat)
  /-- R93. A position without a dwell result for four cycles raises 0x0312. -/
  | checkCoverageLapse (nn p : Nat)
  /-- R99. Comparator and word disagreeing for the settling count plus 32 strikes raise 0x030E. -/
  | comparatorImplausible (nn p : Nat)
  /-- R114. A Hall supply out of tolerance for 2 turns raises 0x0406 and sets D on HALL words. -/
  | hallSupplyFault
  /-- R108. A write of CFC, VFC or the Hall mode is refused with 0x0408 while connected, otherwise applied. -/
  | curCtrlWrite (path : Path) (w : Word)
  /-- R118. At the end of an injection period the monitor gives a result or steps its frequency, and thresholds are judged. -/
  | imdPeriodEnd (r : ImdIn)
  /-- R123. At entry to RUN and every 24 hours the monitor measures with its internal 200 kΩ resistor connected. -/
  | imdSelfTest
  /-- R123. Coupling relay feedback disagreeing for more than 20 ms raises 0x0413. -/
  | imdRelayFault (feedback : Bool) (ms : Nat)
  /-- R126. A write of temperature type or curve fields is refused with 0x0507 while connected. -/
  | thmConfigWrite (path : Path) (off : Nat) (w : Word)
  /-- R140. A ring-oscillator sensor off the median by more than 8 K for 100 turns is marked failed. -/
  | dieSensorImplausible (k : Nat)
  /-- R141. A die turn mean at or above 115 °C for 10 turns raises 0x0510 and switches PD_VEC off. -/
  | dieWarning
  /-- R141. After 10 000 turns below 110 °C PD_VEC is switched on again. -/
  | dieCooled
  /-- R142. A die sensor at 130 °C at two strikes sets the latch, trips the contactors, records to AON and powers CORE off. -/
  | dieShutdown
  /-- R144. A bank sensor turn mean at or above 115 °C for 10 turns raises 0x0512. -/
  | bankWarning (nn k : Nat)
  /-- R144. A bank sensor at 130 °C at two strikes raises 0x0513 and switches PD_Bnn off until a power cycle. -/
  | bankShutdown (nn k : Nat)
  /-- R145. At power-up the start is released once the hottest die sensor reads below 105 °C. -/
  | dieHoldRelease (hottest : Int)
  /-- R146. Outlet above inlet by more than 25 K for 60 000 turns raises 0x0505. -/
  | outletRiseAlarm
  /-- R162. A working copy build finishes and is either discarded as invalid or marked for the generation switch. -/
  | tableBuildComplete (k : Nat)
  /-- R163. At the strike 0 after a completed build the slot's generation increments and the new copy comes into service. -/
  | generationSwitch
  /-- R169. Every SNAP_INT seconds a certified snapshot is produced for delivery to snapshot flumes. -/
  | snapshotPeriodic
  /-- R403. The issue of the completion that carries a snapshot's last byte delivers it and updates EST_SNAP. -/
  | snapshotDeliver
  /-- R403. A periodic snapshot received by no flume within 1 s is discarded. -/
  | snapshotDiscard
  /-- R177. The restore window closes after WIN seconds, raising 0x0602 when no restore was accepted. -/
  | restoreWindowClose
  /-- R182. When PD_VEC returns the model resumes over the gap or reinitialises its positions. -/
  | vecResume
  /-- R195. At the end of a block of frequency k the DFT coefficients are accepted or rejected and a spectrum point formed. -/
  | impedanceBlockEnd (k : Nat)
  /-- R201. 600 s after an end of charge the relaxation bump is evaluated for P2. -/
  | platingBumpEnd (g : Nat)
  /-- R204. A trip request from the impedance engine is checked by the lockstep pair and its persistence timer advanced. -/
  | advisoryRequest (crcOk : Bool)
  /-- R204. A persistence timer reaching PERSIST raises 0x0641 or 0x0643 at its configured class. -/
  | advisoryPersist (kind g : Nat)
  /-- R212. A hardware-path test held for its persistence latches its fault and opens by emergency opening. -/
  | hwTestMet (code subj : Nat)
  /-- R212. A supervision test held for its persistence raises its fault with its class and opening kind. -/
  | supervisionTestMet (code subj : Nat)
  /-- R211. At the first strike 0 after a session close the committed threshold set takes effect or is discarded with 0x072B. -/
  | thresholdSetApply
  /-- R216. A feedback contact changing state advances the contactor sequence in the next SEV. -/
  | contactFeedbackChange (k : Nat) (closed : Bool)
  /-- R217. After WDWELL a weld test is judged, failing with 0x0724 and weld lockout or passing to the next step. -/
  | weldTestJudge
  /-- R218. The voltage difference within PRE_DV at 32 strikes completes precharge and energises K_POS. -/
  | prechargeComplete
  /-- R218. Precharge not complete within PRE_TMAX raises 0x0726 and opens K_PRE and K_NEG. -/
  | prechargeTimeout
  /-- R218. Precharge current above PRE_IMAX at 32 strikes raises 0x0727. -/
  | prechargeOvercurrent
  /-- R216. After OVERLAP K_PRE is de-energised, and CONN becomes CLOSED when its feedback reads open. -/
  | overlapElapsed
  /-- R216. A feedback contact not closed within FB_CLOSE of its coil raises 0x0722. -/
  | feedbackCloseTimeout (k : Nat)
  /-- R224. A feedback contact not open within FB_OPEN, or closed without command, raises 0x0723 and sets the weld lockout. -/
  | feedbackOpenTimeout (k : Nat)
  /-- R220. The current at or below OPEN_I for 32 strikes lets the next SEV de-energise K_POS. -/
  | openCurrentLow
  /-- R220. 20 ms after K_POS feedback opens K_NEG is de-energised. -/
  | kNegDelayEnd
  /-- R219. ORD_TMAX elapsing raises 0x0729 and turns the orderly opening into an emergency opening. -/
  | orderlyTimeout
  /-- R223. At the end of TW BRK_TRIP is released and the breaker's opening is checked. -/
  | breakerPulseEnd
  /-- R225. A coil circuit open or shorted in two consecutive turns raises 0x0732. -/
  | coilCircuitFault (k : Nat)
  /-- R226. A class 2 fault clears when its condition has been absent for T2 seconds. -/
  | class2Clear (code subj : Nat)
  /-- R239. A safety input channel's filtered level changes after 32 samples at the new level. -/
  | siLevelChange (n ch : Nat)
  /-- R241. Channels disagreeing for longer than DISC raise 0x0748 and latch the input in demand. -/
  | siDiscrepancy (n : Nat)
  /-- R242. TP0 or TP1 goes low for 16 strikes and the inputs fed from it are checked: the output, and the turn of its pulse. -/
  | testPulse (tp turn : Nat)
  /-- R243. A test-pulse output reading wrong for 2 turns raises 0x074A and holds inputs in demand. -/
  | tpReadbackFault (tp : Nat)
  /-- R245. ISO_HOLD after an ISOLATE input leaves demand the isolation request ends. -/
  | isoHoldEnd (n : Nat)
  /-- R249. A filtered rising edge of SRST is accepted as a reset request or ignored with 0x074E. -/
  | srstEdge
  /-- R251. SRST high for 60 s raises 0x074D. -/
  | srstHeld
  /-- R250. SRST stops chattering after 1 s without a rising edge. -/
  | srstChatterEnd
  /-- R254. A sending connection sends a STATUS telegram on both ports in each turn whose number mod PER is 0. -/
  | telegramSend (k : Nat)
  /-- R255. A received telegram copy is checked and opens or completes a pair. -/
  | telegramReceive (k port : Nat) (bytes : List Nat)
  /-- R256. SKEW passing without the second copy lets the single copy be accepted. -/
  | telegramSkewExpiry (k : Nat)
  /-- R259. No accepted telegram for TOUT raises 0x0750 and applies TACT. -/
  | telegramTimeout (k : Nat)
  /-- R264. A session without an RWL write or session command for IDLE seconds, or open for MAXH hours, closes. -/
  | sessionIdleTimeout
  /-- R264. Loss of the owning path closes the session. -/
  | sessionPathLost (path : Path)
  /-- R265. The new safety configuration copy is written, the pointer switched and the CLOSE entry written. -/
  | sessionCommitComplete (c : CommitIn)
  /-- R263. A password lockout counted down to zero admits open attempts again. -/
  | passwordLockoutEnd
  /-- R278. A change of shuttle target or direction ramps down, switches the selector and ramps up. -/
  | shuttleChange (nn : Nat)
  /-- R288. A quiet period ends after its length, or early when the current exceeds REST_I. -/
  | quietPeriodEnd
  /-- R287. Measured dissipation above 1.1 × limit for 10 turns raises 0x0901. -/
  | dissipationExcess
  /-- R289. A bleed candidate for 48 h whose excess has not halved raises 0x0905. -/
  | bleedNonconvergence (g : Nat)
  /-- R290. Shuttle current or selector feedback out of tolerance raises 0x0902 or 0x0903 and disables the shuttle. -/
  | shuttleFault (nn code : Nat)
  /-- R307. A write to the GOV block enters the write queue, or is discarded with 0x0801 when the queue is full. -/
  | govWrite (path : Path) (off : Nat) (w : Word)
  /-- R299. A slot whose hold count reaches HOLDMAX enters FAIL and raises 0x0803. -/
  | slotFail (n : Nat)
  /-- R299. A slot leaves FAIL after 32 consecutive strikes with every used input present. -/
  | slotFailExit (n : Nat)
  /-- R317. A missing or differing readback frame at 2 strikes raises 0x0810. -/
  | setpointReadbackFault
  /-- R319. An analog output deviation over 0.5 % in 2 turns raises 0x0811. -/
  | aoutReadbackFault
  /-- R321. An actuator output deviation or open or short circuit in 2 turns raises 0x0813. -/
  | actReadbackFault (k : Nat)
  /-- R320. An accepted MODE or ARANGE change runs through relay opening, gain switching and relay closing. -/
  | analogRangeChange
  /-- R320. At t0 + 3 ms RCHG returns to 0 and AOUT follows REF in the new range. -/
  | rangeChangeComplete
  /-- R333. A write of ENV_SETP refreshes the dispatch setpoint and its timeout. -/
  | setpointWrite (path : Path) (w : Word)
  /-- R333. No setpoint refresh for SPTO raises 0x0760 and takes the setpoint as 0. -/
  | setpointTimeout
  /-- R335. At the sixteenth strike 0 without new limits 0x0763 is raised and the clamp falls in hardware. -/
  | envelopeStale
  /-- R349. A ring reader whose lag exceeds 170 000 turns moves forward, ends or leaves a gap as its kind lays down. -/
  | readerOverrun (reader : Option (Nat × Nat))
  /-- R353. The scrubber reads and corrects or poisons every Millpond word once per HOURS. -/
  | scrubPass (e : EccIn)
  /-- R354. Initialisation of the Millpond completes and the intake may start. -/
  | millpondReady (readA readB : Bool)
  /-- R360. The PCIe link trains and functions become ready within 1 s. -/
  | linkUp (gen width : Nat)
  /-- R384. The PCIe link goes down, with or without the PME_Turn_Off handshake, suspending every function. -/
  | linkDown
  /-- R385. PERST_N asserted resets every function, keeping wake settings. -/
  | perstAssert
  /-- R388. PERST_N deasserted releases WAKE_N and lets the link train. -/
  | perstDeassert
  /-- R385. A function-level reset unloads rings, ends flumes and resets the function window. -/
  | functionLevelReset (fn : Nat)
  /-- R386. A function enters or leaves D3hot or has Bus Master Enable changed, suspending or resuming it. -/
  | functionPowerChange (fn : Nat) (d0 bme pmeEn clear : Bool)
  /-- R389. Held entries of a resumed function are written to their reloaded rings with DELAYED. -/
  | heldEntryFlush (fn : Nat)
  /-- R389. Held entries whose ring is not reloaded within HOLD_TO are discarded with 0x0B08. -/
  | holdTimeout (fn : Nat)
  /-- R388. PME_Turn_Off stops the flush and is acknowledged within 10 µs. -/
  | pmeTurnOff
  /-- R388. PM_PME is resent every 128 ms until PME_Status is cleared. -/
  | pmeResend (fn : Nat)
  /-- R370. A LOAD through HIF_FN_RING_OP reads and checks the context and starts or resumes the ring. -/
  | ringLoad (fn r : Nat) (ctx : Option (List Nat))
  /-- R371. An UNLOAD stops the ring, ends its flume or commands and writes back the context. -/
  | ringUnload (fn r : Nat) (late : Bool)
  /-- R368. A write of the ring context slice base is refused with 0x0B04 while a ring is loaded. -/
  | rctBaseWrite (fn : Nat) (hi : Bool) (w : Word)
  /-- R366. A write of HIF_FN_PRIVn grants privileges, refusing a second DISPATCH holder. -/
  | privWrite (path : Path) (n : Nat) (w : Word)
  /-- R380. A doorbell write updates a ring's host index and arm bit, or is discarded with 0x0B06. -/
  | doorbell (fn r : Nat) (lo hi : Option Word)
  /-- R374. A completion or event entry is written to its ring with its phase. -/
  | entryWrite (fn r : Nat)
  /-- R382. MODTIME after the first entry since arming the ring's message is sent. -/
  | modtimeExpiry (fn r : Nat)
  /-- R384. A host memory read ending in error or without completion within 50 ms puts the ring in ERROR. -/
  | hostReadTimeout (fn r : Nat)
  /-- R418. A write of HIF_CELL_HI starts a read of the whole cell context table. -/
  | cellTableRead (path : Path) (w : Word)
  /-- R418. The table read completes, keeping valid entries and raising 0x0B0D or 0x0B0E. -/
  | cellTableReadDone (data : Option (List Nat))
  /-- R398. Returns the strike number at fetch. -/
  | nopCmd (c : CmdIn)
  /-- R405. Binds an FLM ring to a flume of the given kind, selection and window. -/
  | flumeOpen (c : CmdIn)
  /-- R407. Ends a flume and closes its last buffer with END. -/
  | flumeClose (c : CmdIn)
  /-- R398. Returns the flume's lag and gap count. -/
  | flumeStat (c : CmdIn)
  /-- R379. The flume engine writes the next record into the posted buffers, closing full buffers with a completion. -/
  | flumeRecord (fn r : Nat) (desc : List Nat) (e : EccIn) (bad : List Nat)
  /-- R379. A buffer is closed when its flush time has passed since its first record. -/
  | flumeFlush (fn r : Nat)
  /-- R406. A flume ends with END at the last unit of its window. -/
  | flumeEnd (fn r : Nat) (desc : List Nat)
  /-- R333. The setpoint command writes ENV_SETP for a function with DISPATCH. -/
  | setpoint (c : CmdIn)
  /-- R399. Queues all selected GOV_HOSTk writes or none of them. -/
  | hostInput (c : CmdIn)
  /-- R350. Records a capture of the pre-trigger window on command. -/
  | capture (c : CmdIn)
  /-- R403. Writes a certified snapshot of the latest SUP to host memory. -/
  | snapCert (c : CmdIn)
  /-- R190. Writes a model snapshot of θ and its variances to host memory. -/
  | snapModel (c : CmdIn)
  /-- R173. Checks a certified snapshot and applies the restored intervals under R174. -/
  | restoreCert (c : CmdIn)
  /-- R190. Checks a model snapshot and restores θ for the positions that pass. -/
  | restoreModel (c : CmdIn)
  /-- R401. Stores starting parameter values for the next initialisation of a slot's positions. -/
  | modelStart (c : CmdIn)
  /-- R215. Requests a connection, decided at the next completed SUP. -/
  | connectReq (c : CmdIn)
  /-- R219. Requests an orderly opening, decided at the next completed SUP. -/
  | openReq (c : CmdIn)
  /-- R227. Requests a reset of latched faults, acted on at the next completed SUP. -/
  | resetReq (c : CmdIn)
  /-- R224. Clears the weld lockout in a Safety Authority session. -/
  | weldClear (c : CmdIn)
  /-- R261. Opens a Safety Authority session when the password and conditions pass. -/
  | sessionOpen (c : CmdIn)
  /-- R265. Closes the session and completes when its commit is done. -/
  | sessionClose (c : CmdIn)
  /-- R266. Stages a new password for the commit. -/
  | passwordSet (c : CmdIn)
  /-- R170. Stages the string key for the commit. -/
  | keySet (c : CmdIn)
  /-- R402. Validates and stages an OCV table, envelope map or NTC curve for the commit. -/
  | tableLoad (c : CmdIn)
  /-- R269. Erases the change log and writes a ROLL entry when SEQ and hash match. -/
  | clogRoll (c : CmdIn)
  /-- R418. Reads selected cell context entries into the module. -/
  | cellRefresh (c : CmdIn)
  /-- R449. Returns the newest committed event-log SEQ. -/
  | evlogMark (c : CmdIn)
  /-- R450. Fixes the indexed view of the event log. -/
  | evlogFreeze (c : CmdIn)
  /-- R450. Ends a freeze of the event-log view. -/
  | evlogRelease (c : CmdIn)
  /-- R451. Erases the event log after proof of the newest record and commits 0x0142. -/
  | evlogClear (c : CmdIn)
  /-- R440. Removes a cartridge from the writer set and prepares it for removal. -/
  | hopEject (c : CmdIn)
  /-- R437. Admits a pending or ejected cartridge, erasing it when asked. -/
  | hopAdmit (c : CmdIn)
  /-- R569. Writes and verifies a firmware image in the inactive slot. -/
  | fwStage (c : CmdIn)
  /-- R569. Switches to the staged image with a cold reset, or updates named blocks live. -/
  | fwActivate (c : CmdIn)
  /-- R570. A block not running its new part within 1 s reverts every named block and raises 0x121F. -/
  | liveUpdateTimeout
  /-- R423. The compressor closes a chunk of 1 000 turns and places it in Hopper staging. -/
  | chunkClose
  /-- R428. A chunk's header is written and read back on a cartridge, committing it. -/
  | chunkCommit (k wear : Nat)
  /-- R431. A gap chunk covers turns that no data chunk holds and raises 0x0C0A. -/
  | gapChunk
  /-- R433. The summary of a minute is written to the lifetime area within 2 s of its end. -/
  | minuteRecord
  /-- R434. Each event-log record and change-log entry is copied to every writing cartridge within 1 s. -/
  | recordAreaCopy
  /-- R434. At each whole hour a signed seal of the hour's chunks and records is written. -/
  | hourSeal
  /-- R436. A cartridge present for 500 ms is powered and its label read, then admitted or held pending. -/
  | cartridgeInsert (k : Nat) (c : Cartridge) (readable : Bool)
  /-- R439. Presence lost for 10 ms without an eject makes the slot EMPTY and raises 0x0C02. -/
  | cartridgeRemoved (k : Nat)
  /-- R439. An unrecoverable write error or full wear makes the slot FAILED. -/
  | cartridgeFailed (k wear : Nat)
  /-- R438. The resync copy finishes and the slot becomes IN_SYNC. -/
  | resyncComplete (k : Nat)
  /-- R440. The ejected cartridge is committed, labelled CLEAN, powered off and its latch released. -/
  | ejectComplete (k : Nat)
  /-- R446. The writer commits the next queued event record with VALID written last. -/
  | eventRecordCommit
  /-- R447. A fold closes after RWIN without an occurrence or at its count limit and queues its summary. -/
  | foldClose
  /-- R450. A freeze ends after FRZ_TO and raises 0x0144. -/
  | freezeTimeout
  /-- R457. A received frame is filtered and rate-limited and passed to its class. -/
  | ethFrameReceive (port : Nat) (f : FrameIn)
  /-- R479. A port's link goes up or down, raising 0x0F01 on an enabled port. -/
  | ethLinkChange (port : Nat) (up g1 : Bool)
  /-- R462. An accepted Announce takes part in master selection. -/
  | ptpAnnounce (a : AnnounceIn)
  /-- R463. A Sync with a delay measurement sets the clock once or steers its rate and time state. -/
  | ptpSync (x : SyncIn)
  /-- R462. With no offset measured by ACQ_WAIT the clock is set from the AON counter or to second 0. -/
  | acqWaitExpiry (aon : Nat)
  /-- R464. No Sync for three Announce intervals enters HOLDOVER or TOD. -/
  | masterLost
  /-- R464. After HOLD_MAX in HOLDOVER the state becomes TOD and 0x0D05 is raised. -/
  | holdoverExpiry
  /-- R469. A write of APPLY puts the staged client clock offset and rate in force. -/
  | clientClockApply (fn : Nat) (w : Word)
  /-- R472. A write of ARM puts a trigger output's mode and times in force. -/
  | ttoArm (path : Path) (k : Nat) (w : Word)
  /-- R471. A trigger output issues a pulse at its programmed time. -/
  | ttoPulse (k : Nat)
  /-- R474. A capture input edge is timestamped and queued. -/
  | tciEdge (n : Nat) (rising : Bool) (part : Nat)
  /-- R475. A read of TIM_TCIn_SEC_LO removes the oldest entry and latches its words. -/
  | tciRead (path : Path) (n : Nat)
  /-- R476. A START pending after TMO is dropped and TMOCNT advances. -/
  | intervalTimeout (k : Nat)
  /-- R485. A CAN configuration write is refused outside INIT, and clearing INIT integrates the controller. -/
  | canInitWrite (path : Path) (c rel : Nat) (w : Word)
  /-- R489. A valid received frame is filtered and written to a receive queue or dropped. -/
  | canFrameReceive (c : Nat) (f : CanFrame)
  /-- R489. A write of CAN_RXQj_ACK returns entries to the controller. -/
  | canRxAck (c j : Nat) (w : Word)
  /-- R491. A W1S write of CAN_TXREQ hands a checked buffer to the controller. -/
  | canTxRequest (c : Nat) (w : Word)
  /-- R493. A W1S write of CAN_TXCAN cancels a buffer at once or holds the cancellation. -/
  | canTxCancel (c : Nat) (w : Word) (sof : Option Nat)
  /-- R494. A transmit completes, sent or cancelled, and a transmit event entry is written. -/
  | canTxComplete (c : Nat) (sof : Option Nat) (loop : Nat)
  /-- R494. A write of CAN_TEF_ACK returns transmit event entries. -/
  | canTefAck (c : Nat) (w : Word)
  /-- R491. An access to the message window reads or writes message RAM and advances ADDR. -/
  | canMwinAccess (path : Path) (c : Nat) (w : Option Word)
  /-- R487. A write of CAN_FLT_DATA updates the open bank or is refused with 0x0E0D. -/
  | canFilterWrite (path : Path) (c : Nat) (w : Word)
  /-- R487. A requested bank swap takes effect at the next start of frame or bus idle. -/
  | canFilterSwap (c : Nat)
  /-- R498. A reference message becomes pending in each turn whose number mod PER is 0. -/
  | canReferenceMessage (c : Nat)
  /-- R499. A reference message not begun within PER / 2 turns is withdrawn. -/
  | referenceWithdraw (c : Nat)
  /-- R500. A discovery request is sent every PER seconds and the answers of the round judged. -/
  | discoveryRequest (c : Nat)
  /-- R502. Entry to bus-off raises 0x0E01 and the controller recovers or waits. -/
  | canBusOff (c : Nat)
  /-- R502. After 128 sequences of 11 recessive bits the controller rejoins the bus. -/
  | canBusOffRecovery (c : Nat)
  /-- R512. A KEEP frame from the partner keeps the link up and reports its flags. -/
  | keepFrameReceive (k : KeepIn)
  /-- R512. 32 strikes without a valid KEEP frame take the link down and raise 0x1002. -/
  | millraceLinkDown
  /-- R513. A HELLO record is checked for pairing. -/
  | helloReceive (h : HelloIn)
  /-- R516. A standby accepts or rejects the turn image and loads its state. -/
  | imageReceive (bytes : List Nat) (whole : Bool)
  /-- R516. An image age above 4 turns raises 0x1003. -/
  | imageAgeAlarm
  /-- R514. In RUN, at pairing or DISC_WAIT, the module decides its role and may claim the token. -/
  | roleDecide (pref : Bool)
  /-- R508. The lockstep pair asserts the claim and the grant latches 40 µs later if the loop stays FREE. -/
  | tokenClaim
  /-- R508. After back-off the module retries its claim at a strike 0. -/
  | claimBackoffEnd
  /-- R509. The claim drops in hardware or at a handover and every enabled driver turns off within 10 µs. -/
  | claimDrop (hw : Bool)
  /-- R507. A loop current in the fault band for more than 1 ms raises 0x1006. -/
  | loopFaultBand
  /-- R511. The loop reading disagreeing with the partner's claim for 2 turns raises 0x1005. -/
  | loopDisagree
  /-- R519. A write of TDM_CMD.HO requests a handover, decided at the next SUP. -/
  | handoverRequest (path : Path) (w : Word)
  /-- R523. HO_MAX elapsing abandons the handover with 0x1009. -/
  | handoverTimeout
  /-- R521. A standby reading FREE for 32 strikes claims the token and takes over the state. -/
  | failoverTake
  /-- R518. A partner not ready for 1 s raises 0x100B on the active module. -/
  | partnerNotReady
  /-- R538. Supply returning after both inputs were low for 1 s resets the module and starts it. -/
  | powerOnReset (cycle : Bool) (ohms : Nat)
  /-- R539. A cold reset clears the blocks of its column and starts the module. -/
  | coldReset (ohms : Nat)
  /-- R532. The module boots, loads its configuration, initialises the Millpond and sets the clock. -/
  | startSequence (r : BootIn)
  /-- R533. At the first strike 0 with every start condition met the module enters RUN. -/
  | runEntry
  /-- R534. A start not in RUN within 8 s fails and leads to a cold reset or BRAKE. -/
  | startTimeout
  /-- R541. The processors restart while the hardware paths keep protecting the string. -/
  | warmReset
  /-- R541. Keep-alive markers and supervision resume and 0x110D is recorded. -/
  | warmResetComplete (estOk : Bool)
  /-- R541. A warm reset not complete in 250 ms raises 0x1105, and in 1 s escalates to a cold reset. -/
  | warmResetOverrun
  /-- R543. A write of PWR_BRST requests a block to go idle and resets it. -/
  | blockReset (path : Path) (w : Word)
  /-- R543. A block not idle at TMO is reset by force with 0x1106. -/
  | blockResetTimeout (k : Nat)
  /-- R544. Returns from TRIM to RUN. -/
  | pwrCmdRun (path : Path) (w : Word)
  /-- R544. Opens the string and enters TRIM. -/
  | pwrCmdTrim (path : Path) (w : Word)
  /-- R545. Starts entry to STANDSTILL. -/
  | pwrCmdStandstill (path : Path) (w : Word)
  /-- R544. Requests a warm reset. -/
  | pwrCmdWarm (path : Path) (w : Word)
  /-- R544. Requests a cold reset. -/
  | pwrCmdCold (path : Path) (w : Word)
  /-- R536. Leaves BRAKE with CNT at 3 and a cold reset. -/
  | pwrCmdRetry (path : Path) (w : Word)
  /-- R545. After the string opens, records and staging are written, relays opened and domains switched off. -/
  | standstillEntry (relays : Nat)
  /-- R547. CHG_DET or KEY_WAKE wakes the module from STANDSTILL into a start. -/
  | wake (key level : Bool)
  /-- R549. The hold-up bus below 17.0 V for 100 µs starts the power-down sequence. -/
  | powerFail
  /-- R548. One auxiliary input below 18 V for 10 ms raises 0x1102. -/
  | auxInputLow (k : Nat)
  /-- R548. Every 24 h the hold-up store is measured, raising 0x1108 below 2.0 s. -/
  | holdupTest (tenths : Nat)
  /-- R553. The coil supply below 20 V for 10 ms while not OPEN raises 0x1109. -/
  | coilSupplyLow
  /-- R556. A lifecycle command to COMMISSION. -/
  | lcCommission (path : Path) (w : Word)
  /-- R556. A lifecycle command to FIELD, checked and applied at commit. -/
  | lcField (path : Path) (w : Word)
  /-- R556. A lifecycle command to SERVICE. -/
  | lcService (path : Path) (w : Word)
  /-- R557. A lifecycle command to RETIRED, effective at the second write. -/
  | lcRetired (path : Path) (w : Word)
  /-- R556. After SVC_MAX hours in SERVICE the module returns to FIELD. -/
  | serviceTimeout
  /-- R561. A service client connects and its certificate chain decides its role or refusal. -/
  | tlsConnect (c : TlsIn)
  /-- R562. A COMMAND message carries a command entry under the connection's role. -/
  | serviceCommand (conn : Nat) (msg : List Nat)
  /-- R562. A REG_READ message returns a PF0 BAR0 register. -/
  | serviceRegRead (conn : Nat) (msg : List Nat)
  /-- R563. A REG_WRITE message writes a register if the role admits it. -/
  | serviceRegWrite (conn : Nat) (msg : List Nat)
  /-- R560. A connection without a message for 900 s is closed. -/
  | serviceIdleClose (conn : Nat)
  /-- R576. A signed debug request is granted or refused under the debug matrix. -/
  | debugChallenge (r : DebugIn)
  /-- R576. A debug lockout ends and requests are admitted again. -/
  | debugLockoutEnd
  /-- R581. A write of SEC_DBG_CTRL.DROP ends the grant, with a warm reset after HALT. -/
  | debugDrop (path : Path) (w : Word)
  /-- R581. Loss of the port presence for 100 ms ends the grant. -/
  | debugPresenceLost
  /-- R579. A halt, step, resume, breakpoint or core register write acts on the main core and is replayed to the checker. -/
  | debugRunControl (proc kind taken : Nat)
  /-- R580. A debug write to SRAM or the Millpond is accepted only while its owner is halted. -/
  | debugMemoryWrite (mem owner addr : Nat) (bytes : List Nat)
  /-- R573. A compare group mismatch stops both cores and leads to a warm reset. -/
  | lockstepMismatch (group : Nat)
  /-- R573. An uncorrectable error in the lockstep partition stops both cores and leads to a warm reset. -/
  | lockstepEccError
  /-- R617. A write blocked by the bus firewall is reported and raises 0x0130. -/
  | firewallBlock (init reg ofs : Nat)
  /-- R16. A write to a register without behaviour of its own sets its fields under its access codes, RWL and reserved rules. -/
  | registerWrite (path : Path) (off size : Nat) (w : BitVec 64)
  /-- R553. The supply of a switched domain goes out of tolerance, raising 0x110A at class 3 for PD_CUR and PD_IMD, or at class 1 with the domain switched off for the others. -/
  | domainSupplyFault (d : Nat) (bad : Bool)
  /-- R546. In STANDSTILL, with both 24 V inputs absent and the string below 40 V or the keeper off by strap, AON loses its supply and the AON counter becomes invalid. -/
  | aonSupplyLoss (low : Bool)
  /-- R612. A read of a LO register latches its HI partner or group for the reading path. -/
  | loReadLatch (path : Path) (off : Nat)
  /-- R359. The host writes NumVFs and VF Enable in the SR-IOV capability, bringing VFs into or out of existence. -/
  | vfEnable (n : Nat) (ari : Bool)
  /-- R382. The host unmasks an MSI-X vector, or enables MSI-X, and a pending message is sent. -/
  | vectorUnmask (fn : Nat) (enable : Bool) (unmasked : List Nat)
  /-- R502. A CAN controller detects a bus error, signals it, updates its error counters and may enter error passive, cancelling a held cancellation. -/
  | canErrorFrame (c : Nat) (sof : Option Nat) (more : Bool)
  /-- R482. A frame of a format above CAN_CTRL.FMT makes the controller stop taking part, reintegrate after 11 recessive bits and increment PXCNT. -/
  | protocolException (c : Nat)
  /-- R493. A transmitting controller loses arbitration, keeping the frame pending or cancelling it at that bit when a cancellation is held. -/
  | arbitrationLoss (c : Nat) (sof : Option Nat)
  /-- R569. A firmware stage finishes writing and reading back the inactive slot, sets STAGED and completes FW_STAGE. -/
  | stageComplete (ok : Bool)
  /-- R543. A block asked to go idle reports idle within TMO, and its reset is asserted at once. -/
  | blockIdle (k : Nat)
  /-- R570. A block reset in a live update reports its new part running, leading to the next block or to the pointer switch and completion. -/
  | newPartRunning (k : Nat)
  deriving DecidableEq, Repr

end Sys2Proof
end

