-- ==== Sys2Proof/Decode.lean ====
section
/-! DEFINITION. Commands as table words. The opcode table gives no row bits: a command reaches the module as a write, a
message, a frame or an event, not as a word, so no word spells one. -/
namespace Sys2Proof

/-- The command a table word spells: none, for every width and word.
DESIGN CHOICE (log 5). -/
def decodeTableWord (_nbits _w : Nat) : Option Instr := none

end Sys2Proof
end

