-- ==== Sys2Proof/Config.lean ====
section
/-! DEFINITION. What the spec leaves to the implementation or does not state: constants without a body, so that no
proof can rest on their values, and the exact physical constants. -/
namespace Sys2Proof.Config

/-- A value the spec leaves open, by the count of such values taken so far.
DESIGN CHOICE (log 17). -/
opaque freeNat : Nat → Nat

/-- The natural logarithm of a positive rational, as the module computes it (R127, R95).
DESIGN CHOICE (log 15). -/
opaque ln : Rat → Rat

/-- The exponential, as the module computes it.
DESIGN CHOICE (log 15). -/
opaque exp : Rat → Rat

/-- The square root, as the module computes it.
DESIGN CHOICE (log 15). -/
opaque sqrt : Rat → Rat

/-- The cosine of an angle in turns, as the module computes it.
DESIGN CHOICE (log 15). -/
opaque cosTurn : Rat → Rat

/-- The sine of an angle in turns, as the module computes it.
DESIGN CHOICE (log 15). -/
opaque sinTurn : Rat → Rat

/-- 2π, as the module holds it.
DESIGN CHOICE (log 15). -/
opaque twoPi : Rat

/-- Rounding of an exact value to fp32 (R185).
DESIGN CHOICE (log 14). -/
opaque fp32 : Rat → Rat

/-- The bits of an fp32 number.
DESIGN CHOICE (log 264). -/
opaque fp32Bits : Rat → Nat

/-- The open-circuit voltage, in V, outside the grid of a table: the manual gives none (R183).
DESIGN CHOICE (log 258). -/
opaque ocvOutside : List Nat → Rat → Rat → Rat

/-- The slopes of the open-circuit voltage against state of charge and temperature outside the grid of a table: the manual
gives none (R183).
DESIGN CHOICE (log 64). -/
opaque ocvSlopeOutside : List Nat → Rat → Rat → Rat × Rat

/-- Process noise variance per second that the manual does not state: state entries 1 to 4, parameter gam (R186).
DESIGN CHOICE (log 65). -/
opaque noiseRate : Nat → Rat

/-- Eigenvalues and unit eigenvectors of a symmetric matrix, as the module computes them (R187).
DESIGN CHOICE (log 261). -/
opaque eigen : List (List Rat) → List (Rat × List Rat)

/-- Half of the impulse response of a filter corner, from its end to its centre: the coefficients are not part of the manual
(R619).
DESIGN CHOICE (log 260). -/
opaque halfTap : Nat → Nat → Rat

/-- The Levenberg-Marquardt fit of R197 from a start to points (frequency, real, imaginary, weight): its parameters when
it converges.
DESIGN CHOICE (log 66). -/
opaque zFit : List Rat → List (Rat × Rat × Rat × Rat) → Option (List Rat)

/-- Rounding of an exact quantity to a whole number of its unit where the spec states no direction.
DESIGN CHOICE (log 16). -/
opaque round : Rat → Int

/-- The factory curve of M0 and M1: 34 resistances, not given by the manual (R127).
DESIGN CHOICE (log 259). -/
opaque factoryCurve : List Nat

/-- SHA-256 of a byte string, as a number of 256 bits.
DESIGN CHOICE (log 18). -/
opaque sha256 : List Nat → Nat

/-- SHA-384 of a byte string, as a number of 384 bits. -/
opaque sha384 : List Nat → Nat

/-- HMAC-SHA-256 of a byte string under a key, as a number of 256 bits.
DESIGN CHOICE (log 18). -/
opaque hmac256 : List Nat → List Nat → Nat

/-- The Argon2id hash of a password under a salt (R262).
DESIGN CHOICE (log 18). -/
opaque argon2 : List Nat → List Nat → List Nat

/-- Salt and tag of the password on the label (R558).
DESIGN CHOICE (log 246). -/
opaque labelSalt : List Nat
/-- DESIGN CHOICE (log 246). -/
opaque labelTag : List Nat

/-- Whether an ECDSA P-384 signature of a byte string verifies under a key.
DESIGN CHOICE (log 18). -/
opaque ecdsaOk : Nat → List Nat → List Nat → Bool

/-- The ECDSA P-384 signature of a byte string under the module identity key.
DESIGN CHOICE (log 18). -/
opaque ecdsaSign : List Nat → List Nat

/-- The CRC-32 of the commissioned layout, by its fields: the manual does not give the bytes that it covers (R170).
DESIGN CHOICE (log 60, 60). -/
opaque layoutCrc : List Nat → Nat

/-- The Zstandard frame of a byte string, as the compressor makes it (R427).
DESIGN CHOICE (log 18). -/
opaque zstd : List Nat → List Nat

/-- The PI servo: rate in 1e-12 and new integral state, from the integral state and an offset in ps (R463).
DESIGN CHOICE (log 143). -/
opaque servo : Int → Int → Int × Int

/-- The PTP clock identity of the module by the MAC address of ETH-A (R466).
DESIGN CHOICE (log 262). -/
opaque clockIdentity : Nat → Nat

/-- Whether a transmit buffer header asks for a transmit event entry: the manual does not place the bit TEF (R494).
DESIGN CHOICE (log 153). -/
opaque tefAsked : List Nat → Bool

/-- A random byte string of the module's random source.
DESIGN CHOICE (log 18). -/
opaque random : Nat → List Nat

/-- The filter corner in force of bank `nn` of the partner during turn `turn`: R102 asks whether it equals the own one,
and no frame carries it.
DESIGN CHOICE (log 164). -/
opaque partnerCorner (turn nn : Nat) : Nat

/-- Whether the partner's inlet lies outside -20 °C to +60 °C in turn `turn`: R102 asks it, and no frame carries it.
DESIGN CHOICE (log 164). -/
opaque partnerInletOutside (turn : Nat) : Bool

end Sys2Proof.Config
end

