-- ==== Sys2Proof/Machine/StateCan.lean ====
section
/-! DEFINITION. State of the CAN controllers (chapter 18). -/
namespace Sys2Proof.Machine

/-- One receive queue, or the transmit event queue: entries held, free-running indices, frames lost. -/
structure CanQueue where
  fill : Nat
  get : Nat
  put : Nat
  lost : Nat
  deriving DecidableEq, Repr

/-- The frame a controller sends: what it is (0 reference message, 1 alarm frame, 2 discovery request, 3 + k buffer k) and
its start of frame in units of 12.5 ns. -/
abbrev CanTx := Nat × Nat

/-- One CAN controller (R481 to R502). -/
structure CanCtl where
  /-- Filter words by CAN_FLT_IDX; elements in use of the bank in force; LEN of a swap that waits (R487). -/
  filters : Tab Nat
  len : Nat
  swap : Option Nat
  rx0 : CanQueue
  rx1 : CanQueue
  tef : CanQueue
  /-- The frame on the bus. -/
  tx : Option CanTx
  /-- By buffer: attempts, arbitration lost at least once, cancellation held (R493, R494). -/
  attempts : Tab Nat
  alost : Nat
  hold : Nat
  /-- Start of frame at which arbitration was lost last (R495). -/
  lostTo : Option Nat
  /-- Error counters, not saturated; INIT has been 1 since the entry to bus-off (R502). -/
  tec : Nat
  recv : Nat
  rejoin : Bool
  /-- Reference message: turn since which one is pending; messages sent since INIT was left; start of frame, number and TV
  of the latest (R498). -/
  refPend : Option Nat
  refSent : Nat
  refLast : Option (Nat × Nat × Bool)
  /-- TV at the start of frame of the reference message on the bus. -/
  refTv : Bool
  /-- Turn in which a reference message was last made pending, plus 1. -/
  refTurn : Nat
  /-- Discovery: rounds begun; strike of the latest, plus 1; its request is pending; its start of frame; nodes that have
  answered it; consecutive rounds missed by a node that had answered (R500). -/
  round : Nat
  roundAt : Nat
  discPend : Bool
  discSof : Option Nat
  answered : List Nat
  absent : Tab Nat
  /-- Alarm frames waiting, oldest first: their 8 bytes (R501). -/
  alarms : List (List Nat)
  deriving DecidableEq, Repr

/-- The CAN controllers, and the frame that the latest completion sent: controller, identifier, data. -/
structure CanState where
  ctl : Tab CanCtl
  sent : Option (Nat × Nat × List Nat)
  deriving DecidableEq, Repr

end Sys2Proof.Machine
end

