-- ==== Sys2Proof/Machine/StateGov.lean ====
section
/-! DEFINITION. State of the Governor and of the dispatch envelope (chapters 11 and 12). -/
namespace Sys2Proof.Machine

/-- The state of a loop slot (R300 to R306). Numbers are Q1.15 as integers; `i` is Q10.30. -/
structure GovSlot where
  /-- Biquad histories by section: x1, x2, y1, y2. -/
  sec : List (Int × Int × Int × Int)
  i : Int
  d : Int
  bPrev : Option Int
  /-- Repetitive memory, errors, running sum, phase, and strikes since the memory was cleared. -/
  mem : Tab Int
  ebuf : Tab Int
  run : Int
  p : Nat
  filled : Nat
  /-- Hold count; in FAIL; strikes in a row with every used input present while in FAIL. -/
  hold : Nat
  fail : Bool
  clean : Nat
  out : Int
  /-- The slot tracked at the latest strike (R305). -/
  tracked : Bool
  deriving DecidableEq, Repr

/-- An entry of the write queue: address, word, and the session of an accepted RWL change (R307). -/
structure GovEntry where
  addr : Nat
  val : Nat
  rwl : Option Session
  deriving DecidableEq, Repr

/-- A running dither tone (R314): frequency, first strike, strikes left, amplitude. -/
structure Tone where
  k : Nat
  n0 : Nat
  left : Nat
  amp : Int
  deriving DecidableEq, Repr

/-- A MODE or ARANGE change in progress (R320): its t0, and MODE and ARANGE before it. -/
structure RangeChange where
  t0 : Nat
  mode : Nat
  range : Nat
  deriving DecidableEq, Repr

/-- The Governor (R292 to R325). -/
structure GovState where
  slots : Tab GovSlot
  queue : List GovEntry
  /-- Clamp limits latched at strike 0, Q1.15 of RATED (R311). -/
  dis : Nat
  chg : Nat
  tones : List Tone
  /-- Frames are being sent; strikes in a row whose readback failed (R317). -/
  sending : Bool
  rbBad : Nat
  /-- The frame of the latest strike, 64 bits, none on an idle line; AOUT as REF, none with the relay open. -/
  frame : Option Nat
  aout : Option Int
  /-- ARANGE of the gain network. -/
  range : Nat
  change : Option RangeChange
  /-- Turns in a row AOUT and each actuator output deviated (R319, R321). -/
  aoutBad : Nat
  actBad : Tab Nat
  /-- Forced duty in force, and 0x0820 raised for it (R338). -/
  forcing : Bool
  forced : Bool
  deriving DecidableEq, Repr

/-- The envelope of one direction: limits C, 10 s and 2 s in A, accounts in A·s, exhausted accounts, tier (0 2 s, 1 10 s,
2 continuous) and limit in force (R329, R331). -/
structure EnvDir where
  l : List Rat
  b10 : Rat
  b2 : Rat
  x10 : Bool
  x2 : Bool
  tier : Nat
  inf : Rat
  deriving DecidableEq, Repr

/-- The dispatch envelope (R326 to R336). -/
structure EnvState where
  dis : EnvDir
  chg : EnvDir
  /-- Reference in A; last target; turns in a row without VSTR. -/
  iref : Rat
  target : Rat
  miss : Nat
  /-- The setpoint latched at strike 20 (R333), and INHIBIT at strike 20 (R334). -/
  setp : Int
  inh : Bool
  /-- Strike of the latest refresh of the setpoint since reset. -/
  setpAt : Option Nat
  /-- Limits and ENVREF written by the ENV of the turn, for the next strike 0. -/
  written : Option (Rat × Rat × Int)
  /-- Clamp limits in A; strikes 0 without new limits; the hardware fall runs (R335). -/
  disA : Rat
  chgA : Rat
  stale : Nat
  falling : Bool
  /-- The next ENV fills the accounts (R336); an ENV has completed since CONN became CLOSED (R216, R312). -/
  fresh : Bool
  connOk : Bool
  /-- Maps in service by slot, and maps for the next strike 0 (R327). -/
  maps : Tab TableBytes
  mapNext : Tab TableBytes
  deriving DecidableEq, Repr

end Sys2Proof.Machine
end

