-- ==== Sys2Proof/Machine/StateModel.lean ====
section
/-! DEFINITION. State of the model estimator and of the impedance engine (chapter 7). Model quantities are rationals in SI
units, each rounded to fp32 by Config.fp32. -/
namespace Sys2Proof.Machine

/-- The published outputs of a position (R191): MSOC and its deviation, VOCV, VPOL, TCORE, θ, NIS, FLAGS. -/
structure ModelOut where
  soc : Rat
  sd : Rat
  ocv : Rat
  pol : Rat
  core : Rat
  theta : List Rat
  nis : Rat
  converged : Bool
  stale : Bool
  reinit : Bool
  noTable : Bool
  deriving DecidableEq, Repr

/-- A relaxation bump in progress (R201): the turn of the end of charge, the frozen model's state and parameters, the
residuals at 10 s and at the latest step, the largest since 10 s. -/
structure Bump where
  turn : Nat
  x : List Rat
  theta : List Rat
  r10 : Option Rat
  last : Rat
  top : Rat
  deriving DecidableEq, Repr

/-- An accepted fit (R197, R198): R0, L, RCT, Q, A, SIG and the mean temperature of its points. -/
structure Fit where
  par : List Rat
  temp : Rat
  deriving DecidableEq, Repr

/-- The model of a position (R183 to R191, R199 to R202). -/
structure ModelPos where
  /-- x = soc, v1, v2, h, tc and its covariance. -/
  x : List Rat
  p : List (List Rat)
  /-- θ = r0, r1, tau1, r2, tau2, hmax, gam, cap, ileak and its covariance. -/
  theta : List Rat
  q : List (List Rat)
  /-- The constant open-circuit voltage of a position without a table. -/
  const : Rat
  nisRun : Nat
  steps : Nat
  out : Option ModelOut
  /-- A CHG block has been accepted since the last end of charge. -/
  charged : Bool
  bump : Option Bump
  p1 : Rat
  p2 : Rat
  /-- Fits of the CHG and the GEN spectrum. -/
  fitChg : Option Fit
  fitGen : Option Fit
  /-- The warnings of R202 are raised. -/
  isiWarned : Bool
  lpiWarned : Bool
  deriving DecidableEq, Repr

/-- A spectrum point (R195). -/
structure Point where
  re : Rat
  im : Rat
  strike : Nat
  coh : Rat
  rsd : Rat
  temp : Rat
  /-- Excitation: 1 ripple, 2 dither, 3 both. -/
  src : Nat
  deriving DecidableEq, Repr

/-- A block of a frequency for a position: accepted, tagged CHG, its coefficients, mean temperature, dithered (R194). -/
structure ZBlock where
  ok : Bool
  chg : Bool
  iRe : Rat
  iIm : Rat
  vRe : Rat
  vIm : Rat
  temp : Rat
  dither : Bool
  deriving DecidableEq, Repr

/-- What the mailbox holds for the lockstep pair: a request (R203), kind 1 ISI, 2 LPI; or a warning (R202), kind 3 ISI, 4 LPI;
position; index value; turn; sequence number. -/
structure AdvReq where
  kind : Nat
  pos : Nat
  value : Nat
  turn : Nat
  seq : Nat
  deriving DecidableEq, Repr

/-- The model estimator and the impedance engine. -/
structure ModelState where
  pos : Tab ModelPos
  /-- Positions to initialise at the next step: true with starting parameters, false with their own (R189). -/
  fresh : Tab Bool
  /-- Turn of the last completed step, plus 1; turn of the last completed MEST, plus 1. -/
  lastTurn : Nat
  zTurn : Nat
  /-- By strike, the accumulator in 1/320 µC and the running sum of squared count bounds, kept from the last completed step
  (R181, R186). -/
  kept : Tab (Int × Rat)
  /-- By position, what balancing adds to the squared bounds since the last completed step, µC² (R186). -/
  balSq : Tab Rat
  /-- Turn at which PD_VEC went off (R182). -/
  offAt : Option Nat
  /-- Host-loaded starting values by OCV slot (R401). -/
  starts : Tab (List Rat)
  /-- Start strike of the block in hand by k; strikes at which MEST missed its deadline, of the blocks in hand (R194). -/
  zStart : Tab Nat
  zMiss : List Nat
  /-- Blocks by position * 24 + k, newest first, at most 16; points by (position * 24 + k) * 2 + spectrum (0 GEN, 1 CHG). -/
  blocks : Tab (List ZBlock)
  points : Tab Point
  /-- By k: how many of the latest blocks in a row had a current amplitude below IMIN (R196). -/
  quiet : Tab Nat
  /-- Frequencies asked of the Governor (R196). -/
  want : List Nat
  /-- The position FIT visits next. -/
  fitNext : Nat
  mailbox : List AdvReq
  seq : Nat
  /-- Persistence timers by position * 2 + kind - 1: first and latest passing request (R204). -/
  timers : Tab (Nat × Nat)
  /-- Cell context entries by position, 256 bytes each, read and in force (R417 to R419). -/
  cells : Tab (List Nat)
  deriving DecidableEq, Repr

end Sys2Proof.Machine
end

