-- ==== Sys2Proof/Machine/StatePower.lean ====
section
/-! DEFINITION. State of the resets, of the starts, of the power states and of the supplies (chapter 20). -/
namespace Sys2Proof.Machine

/-- Power and resets (R529 to R553). -/
structure PwrState where
  /-- The die hold of a power-up keeps the start (R145). -/
  hold : Bool
  /-- A power-down sequence has switched CORE off (R549). -/
  down : Bool
  /-- The start has booted and loaded its configuration (R532); the safety configuration is valid (R533). -/
  booted : Bool
  cfgOk : Bool
  /-- The boot stopped: the start will fail (R573, R574). -/
  stopped : Bool
  /-- Power commands that wait for the next completed SUP: CMD, and whether it came from a Service connection (R544). -/
  cmds : List (Nat × Bool)
  /-- RUN, and TRIM once the string is open, at the next strike 0 (R544). -/
  toRun : Bool
  toTrim : Bool
  /-- A cold reset is due, with its value of CAUSE; a warm reset is due, with its value of WSRC. -/
  coldDue : Option Nat
  warmDue : Option Nat
  /-- Strike of the assertion of the warm reset that runs; 0x1105 has been raised for it (R541). -/
  warmAt : Nat
  warmLate : Bool
  /-- What is recorded after the warm reset: code, class, data. -/
  after : List (Nat × Nat × List Nat)
  /-- Block resets by bit of PWR_BRST: strike of the request; blocks in reset until the next strike 0 (R543). -/
  brstAt : Tab Nat
  brstOff : Nat
  /-- The wake latched in AON: 6 CHG_DET, 7 KEY_WAKE (R547). -/
  wake : Option Nat
  /-- A wake to record at the start that follows. -/
  woken : Option Nat
  /-- The strap measurement to record at the start: ambiguous or reserved (R537). -/
  strapBad : Bool
  /-- Strike of the power-fail detection whose sequence runs; one that waits for a warm reset; the load is shed; SUP has
  decided (R548, R549, R551). -/
  failAt : Option Nat
  failWaits : Bool
  shed : Bool
  decided : Bool
  /-- Strikes in a row each auxiliary input has been below 18 V, and the coil supply below 20 V while CONN is not OPEN. -/
  auxLow : Tab Nat
  coilLow : Nat
  /-- Strike of the latest hold-up test, plus 1. -/
  huAt : Nat
  /-- AON has no supply (R546). -/
  aonOff : Bool
  deriving DecidableEq, Repr

/-- The first start after the factory, at the release of its power-on reset. -/
def PwrState.initial : PwrState :=
  { hold := false, down := false, booted := false, cfgOk := false, stopped := false, cmds := [], toRun := false
    toTrim := false, coldDue := none, warmDue := none, warmAt := 0, warmLate := false, after := [], brstAt := []
    brstOff := 0, wake := none, woken := none, strapBad := false, failAt := none, failWaits := false, shed := false
    decided := false, auxLow := [], coilLow := 0, huAt := 0, aonOff := false }

end Sys2Proof.Machine
end

