-- ==== Sys2Proof/Machine/Memory.lean ====
section
/-! DEFINITION. Addressed memories of bytes, in one canonical form: addresses rise strictly and no listed byte is 0. -/
namespace Sys2Proof.Machine

/-- A memory; an address that is not listed reads as 0. -/
abbrev Memory := List Host.Cell

/-- The byte at an address.
DESIGN CHOICE (log 9). -/
def Memory.read (m : Memory) (a : Nat) : Byte :=
  match m with
  | [] => 0
  | (k, v) :: r => if k = a then v else Memory.read r a

/-- Writes one byte. -/
def Memory.write (m : Memory) (a : Nat) (v : Byte) : Memory :=
  match m with
  | [] => if v = 0 then [] else [(a, v)]
  | (k, w) :: r =>
    if a < k then (if v = 0 then (k, w) :: r else (a, v) :: (k, w) :: r)
    else if a = k then (if v = 0 then r else (a, v) :: r)
    else (k, w) :: Memory.write r a v

/-- Every address of a memory lies above `a`. -/
def Memory.above (m : Memory) (a : Nat) : Bool :=
  match m with
  | [] => true
  | (k, _) :: _ => decide (a < k)

/-- The canonical form. -/
def Memory.wf (m : Memory) : Bool :=
  match m with
  | [] => true
  | (k, v) :: r => v != 0 && Memory.above r k && Memory.wf r

/-- Writes bytes from an address on. -/
def Memory.writeBytes (m : Memory) (a : Nat) (l : List Nat) : Memory :=
  match l with
  | [] => m
  | b :: r => (m.write a (BitVec.ofNat 8 b)).writeBytes (a + 1) r

/-- The bytes from an address on. -/
def Memory.readBytes (m : Memory) (a : Nat) : Nat → List Nat
  | 0 => []
  | n + 1 => (m.read a).toNat :: m.readBytes (a + 1) n

end Sys2Proof.Machine
end

