-- ==== Sys2Proof/Machine/StateSec.lean ====
section
/-! DEFINITION. State of the lifecycle, of the firmware, of the debug port and of the lockstep pair (chapter 21). -/
namespace Sys2Proof.Machine

/-- A firmware image that a slot holds, as its header gives it; hashes of the parts of types 1 to 7 (R565). -/
structure FwImage where
  version : Nat
  svn : Nat
  key : Nat
  revoke : Nat
  tif : Nat
  tifMin : Nat
  hashes : List (List Nat)
  deriving DecidableEq, Repr

/-- A live update that runs (R570): its command, its MASK, the blocks still to reset (bits of PWR_BRST), the block in hand
and the strike of its reset, once made. -/
structure LiveUpdate where
  cmd : CmdRef
  mask : Nat
  todo : List Nat
  cur : Nat
  resetAt : Option Nat
  deriving DecidableEq, Repr

/-- Lifecycle, firmware, debug and lockstep (R555 to R583). -/
structure SecState where
  /-- The lifecycle state, in MRAM and OTP: 0 BLANK, 1 COMMISSION, 2 FIELD, 3 SERVICE, 4 RETIRED. -/
  lc : Nat
  /-- A transition that takes effect at the commit of the session in hand (R556). -/
  lcNext : Option Nat
  /-- The first write of RETIRED: its strike and its path (R557). -/
  retire : Option (Nat × Path)
  /-- Strike at which SERVICE began. -/
  svcAt : Nat
  /-- A PASSWORD entry has been committed (R558). -/
  pwChanged : Bool
  /-- The module identity key has not been erased (R559). -/
  identity : Bool
  /-- Slots 0 and 1 of the boot flash: the image each holds whole; the pointer; the image that runs (R566, R567). -/
  slots : Tab FwImage
  active : Nat
  run : FwImage
  /-- OTP fuses: security versions blown, revoked keys (R567). -/
  fuseSvn : Nat
  revoked : Nat
  /-- A FW_STAGE that runs: its command and the image it writes; a whole activation whose cold reset is due: its strike. -/
  stage : Option (CmdRef × FwImage)
  coldAt : Option Nat
  live : Option LiveUpdate
  /-- The latest nonce that the debug port gave (R576). -/
  nonce : List Nat
  /-- Failed debug authentications in a row and the lockout left in strikes, in MRAM; a lockout runs (R576). -/
  fails : Nat
  lock : Nat
  lockOn : Bool
  /-- Halted processors: 0 the lockstep pair, 1 to 4 the application cores, 5 the vector engine (R575). -/
  halted : List Nat
  /-- The replay queue of 16 entries: run-control actions that the checker has still to take (R579). -/
  replay : List Nat
  /-- The lockstep pair is to release its claim in the next SUP (R578). -/
  release : Bool
  /-- The token is not claimed while HALT is in force (R578). -/
  noClaim : Bool
  /-- Strikes of the lockstep mismatches of the last 24 h (R573). -/
  mismatches : List Nat
  /-- Compare group that the next CHK slice tests; the group that failed the boot self-test, in the retention store
  (R574). -/
  group : Nat
  badGroup : Option Nat
  /-- The debug port reports the latest write refused (R580). -/
  refused : Bool
  deriving DecidableEq, Repr

/-- The image of the factory: its version, security version, key and part hashes as the reset values of the SEC registers
show them. -/
def FwImage.factory : FwImage :=
  { version := 0, svn := 0, key := 0, revoke := 0, tif := 0, tifMin := 0, hashes := List.replicate 7 [] }

/-- As shipped: BLANK, the factory image in slot 0. -/
def SecState.initial : SecState :=
  { lc := 0, lcNext := none, retire := none, svcAt := 0, pwChanged := false, identity := true
    slots := [(0, FwImage.factory)], active := 0, run := FwImage.factory, fuseSvn := 0, revoked := 0
    stage := none, coldAt := none, live := none, nonce := [], fails := 0, lock := 0, lockOn := false, halted := []
    replay := [], release := false, noClaim := false, mismatches := [], group := 0, badGroup := none
    refused := false }

end Sys2Proof.Machine
end

