-- ==== Sys2Proof/Machine/StateTandem.lean ====
section
/-! DEFINITION. State of tandem operation (chapter 19). -/
namespace Sys2Proof.Machine

/-- Why the lockstep pair wants to claim the token (R508, R514, R520, R521, R523). -/
inductive Want where
  | none | start | handover | reclaim | failover
  deriving DecidableEq, Repr

/-- Tandem operation (R505 to R525). -/
structure TdmState where
  /-- A handover trigger decided and not yet taken up: KIND of TDM_LAST and the code (R234, R519). -/
  trigger : Option (Nat × Nat)
  /-- The claim is asserted, since this strike; it has dropped in hardware since the reset (R508, R509). -/
  claim : Bool
  claimAt : Nat
  blocked : Bool
  want : Want
  /-- Turn at whose strike 0 a claim is retried after back-off (R508). -/
  retry : Option Nat
  /-- The role has been decided (R514). -/
  decided : Bool
  /-- Strikes in a row the loop reads FREE, and in the fault band (R507, R521). -/
  freeRun : Nat
  bandRun : Nat
  /-- Strikes of the turn compared under R511, those that disagreed, and turns in a row of disagreement. -/
  cmpN : Nat
  cmpBad : Nat
  disRun : Nat
  /-- Strikes without a valid KEEP frame, valid frames in a row, flags of the last one, strike of the latest change of CLAIM
  (R512). -/
  keepMiss : Nat
  keepGood : Nat
  flags : Nat
  flagAt : Nat
  /-- The latest KEEP frame sent (R512). -/
  keepOut : Option KeepIn
  /-- The latest HELLO sent (R513), its nonce, and the nonce of the latest received. -/
  helloOut : Option HelloIn
  nonce : List Nat
  pnonce : Option (List Nat)
  /-- Images accepted in a row since the module was last not ready; turn of the last; the image (R516 to R518); the Governor
  part waits for strike 0. -/
  imgRun : Nat
  imgTurn : Option Nat
  held : List Nat
  govDue : Bool
  /-- The outgoing buffer of the turn image region: the latest image sent (R515). -/
  image : List Nat
  /-- Handover: turn of the decision, first turn whose SUP found the coupling relay open, turn in which the final image was
  last sent; claim released; coils before the release (R520). -/
  hoAt : Nat
  /-- Code of the fault of the failover set that the handover in progress answers, alone or merged into it (R519, R523). -/
  hoFault : Option Nat
  hoOpen : Option Nat
  finalAt : Option Nat
  released : Bool
  coils : Bool × Bool × Bool
  /-- NOGRANT is shown in KEEP frames (R523). -/
  noGrant : Bool
  /-- Strike since which the partner has been not ready, plus 1 (R518). -/
  notReadyAt : Nat
  /-- Consecutive compared turns of difference by position, and of the current (R102). -/
  cross : Tab Nat
  crossI : Nat
  /-- Power-fail detection has been latched (R523). -/
  failing : Bool
  deriving DecidableEq, Repr

end Sys2Proof.Machine
end

