-- ==== Sys2Proof/Machine/StateTime.lean ====
section
/-! DEFINITION. State of the Ethernet ports, of the hardware clock and of the timed pulses (chapter 17). -/
namespace Sys2Proof.Machine

/-- The classes of accepted frames (R457). -/
inductive FrameClass where
  | ptp | telegram | service
  deriving DecidableEq, Repr

/-- PTP messages that a port sends (R466). -/
inductive PtpMsg where
  | sync | followUp | announce | delayReq | pdelayReq
  deriving DecidableEq, Repr

/-- What a frame carries: a PTP message, the 64 bytes of a telegram, a message of the service protocol (R457). -/
inductive TxBody where
  | ptp (m : PtpMsg)
  | telegram (l : List Nat)
  | service (l : List Nat)
  deriving DecidableEq, Repr

/-- A frame to send: destination MAC, none where the protocol that finds it is not the module's to give; source MAC; VLAN ID
and priority code point of its tag; EtherType; content (R252, R458, R459). -/
structure TxFrame where
  dst : Option Nat
  src : Nat
  vlan : Option (Nat × Nat)
  etype : Nat
  body : TxBody
  deriving DecidableEq, Repr

/-- What a port has to send (R458): frames waiting, oldest first; the time in ns that the frame in hand still takes. -/
structure TxPort where
  waiting : List TxFrame
  busy : Nat
  deriving DecidableEq, Repr

/-- The Ethernet ports (R455 to R459). -/
structure NetState where
  /-- By port: what it has to send; the frames that it began to send in the latest strike, in order (R458). -/
  tx : Tab TxPort
  began : Tab (List TxFrame)
  /-- By port: another station holds the IPv4 address, and the address has not been rewritten (R456). -/
  conflict : Tab Bool
  /-- By port and class: second, and frames accepted in it (R457). -/
  rate : Tab (Nat × Nat)
  /-- Strike of the latest 0x0F03 by port, plus 1. -/
  raised : Tab Nat
  /-- What became of the latest frame: the class it was passed to. -/
  passed : Option FrameClass
  deriving DecidableEq, Repr

/-- A master heard, and the strike of its latest Announce (R462). -/
structure Master where
  ann : AnnounceIn
  heard : Nat
  deriving DecidableEq, Repr

/-- Mode and times of a trigger output in force, ns (R471, R472): mode 1 ONCE, 2 PERIODIC. -/
structure TtoPlan where
  mode : Nat
  start : Nat
  width : Nat
  period : Nat
  count : Nat
  deriving DecidableEq, Repr

/-- One trigger output: what it is armed with, the time of its next pulse and the pulses issued; end of the pulse being issued; an ARM (with
the time before which it issues nothing) or a write of MODE off that waits for that end. -/
structure Tto where
  armed : Option TtoPlan
  next : Nat
  issued : Nat
  pulse : Option Nat
  pend : Option (Option (TtoPlan × Nat))
  deriving DecidableEq, Repr

/-- One interval unit (R476): a pending START and its time, in units of 0.5 ns, and whether it was repeated. -/
structure Ivl where
  pend : Option Nat
  dup : Bool
  deriving DecidableEq, Repr

/-- The hardware clock and what reads it (R460 to R477). -/
structure TimeState where
  masters : List Master
  /-- The master followed: port and sender; strike of its latest Sync or of the selection; an offset of it has been
  measured. -/
  sel : Option (Nat × Nat)
  syncAt : Nat
  /-- PTP_TIMESCALE of the master last followed. -/
  tai : Bool
  /-- Integral state of the servo; its last 64 rates, latest first (R463, R464). -/
  integral : Int
  rates : List Int
  /-- Sync messages in a row within LOCK_TH, and beyond it. -/
  near : Nat
  far : Nat
  /-- Strike at which the holdover began. -/
  holdAt : Nat
  /-- The AON counter: seconds last written, whether by the PTP timescale, age in s of that write when the clock was set
  or the write made, strike of that; AON has kept its supply since the write. -/
  aonSec : Nat
  aonTai : Bool
  aonAge : Nat
  aonAt : Nat
  aonOk : Bool
  tto : Tab Tto
  /-- Capture queues: time in units of 0.5 ns and whether rising (R475); time of the latest edge. -/
  tci : Tab (List (Nat × Bool))
  edgeAt : Nat
  ivl : Tab Ivl
  deriving DecidableEq, Repr

end Sys2Proof.Machine
end

