-- ==== Sys2Proof/Machine/Initial.lean ====
section
/-! DEFINITION. The parts of the state as a power-on reset leaves them (R539): nothing measured, no channel, ring, chunk or
session, every count 0. Where the spec gives no reset value for what stands beside the registers, this is the model's
choice. -/
namespace Sys2Proof.Machine

/-- A bank before its first discovery.
DESIGN CHOICE (log 6). -/
def Bank.initial : Bank :=
  { en := false, npos := 64, fc := 3, survey := false, chg := none, step := .off, stepAt := 0, onAt := 0
    serial := 0, aperture := 0, asym := 0, turnaround := 0, oneways := [], noRt := 0, goodRt := 0
    trimOut := false, trimNext := none, relayCmd := false, relayDis := 0, presRun := [], absRun := [], lost := 0
    returning := 0, trays := [], trayOk := 0, norm := [], surveySum := [], surveyTurns := 0, owPass := 0
    bcPass := 0, tempSeen := 0, shut := false, supplyBad := false }

/-- The checks of a bank at reset.
DESIGN CHOICE (log 6). -/
def Check.initial : Check :=
  { wireFrom := 0, wireLog := [], halves := [], tapPrev := [], tapOpen := 0, tapHigh := 0, bcIPrev := 0
    bcXPrev := 0, bcIConf := 0, bcXConf := 0, bleedPrev := [], bleedConf := 0, deferred := [], unpulsed := [], dwPos := 0
    dwStart := 0, dwTurns := 2, dwRetest := false, dwOn := false, winN := 0, winPos := 0, winChk := 0, ratios := []
    cNow := 0, cNext := 0, frozen := [], lastDwell := [], implaus := [], cmpRetest := 0, dacPrev := []
    sigFail := false }

def SysState.initial : SysState :=
  { core := true, strike := 0, first := 0, miss := [], appMiss := [], done := [], runs := [], beat := false, noBeat := 0
    chkBegin := 0, chkDone := 0, chkLate := false, fitAt := [], fitLate := [], alive := 0 }

def FaultState.initial : FaultState := { active := [], latches := [], hwRecords := [], paced := [] }

def EvlState.initial : EvlState :=
  { slots := [], nextSeq := 1, queue := [], recent := [], folds := [], lostDue := false, full := false, frozenAt := 0
    noFold := false, window := [], copied := 0 }

def CurState.initial : CurState :=
  { lane := Bank.initial, trim := 0, cfc := 3, vfc := 3, settleI := 0, settleV := 0, taintF := 0, taintC := 0
    fineRun := 0, coarseRun := 0, held := 0, seen := false, acc := 0, frac := 0, boundSq := 0, words := [], runFc := 0, runHs := 0, runVs := 0, supplyRun := 0
    supplyBad := false, hallD := false, above := 0 }

def ImdState.initial : ImdState :=
  { relayCmd := false, relayFb := false, relayDis := 0, fast := 0, lowW := 0, lowA := 0, testing := false, testAt := 0, heldOk := false
    last := 0 }

def ThmState.initial : ThmState :=
  { inputs := [], retested := [], bankPair := 0, curves := [], dieSum := [], dieN := 0, dieMean := [], dieOff := [], warnRun := 0, coolRun := 0
    hotRun := [], hotIdx := 0, hotVal := 0, latch := false, store := none, bankSum := [], bankMean := [], bankDiff := []
    bankWarn := [], bankHot := [], riseRun := 0 }

def SluState.initial : SluState :=
  { seq := .idle, stepAt := 0, kPos := false, kNeg := false, kPre := false, fbAt := [], onAt := [], offAt := []
    closeFrom := [], openFrom := [], refV := 0, refI := 0, weldRun := 0, gapV := 0, weldFail := false, preRun := 0
    preIRun := 0, preAt := 0, attempts := [], ordLim := 0, ordAt := 0, lowRun := 0, brkAt := 0, auxOpen := false
    afterOpen := false, weldLock := false
    thr := [], cfg := false, thrNext := none, ovf := [], uvf := [], ovc := [], uvc := [], ocdFast := 0, occFast := 0
    ocdHw := 0, occHw := 0, fastSeen := (false, false), fastPrev := (false, false), missRun := [], missed := []
    ovw := [], ovs := [], uvw := [], uvs := [], noMean := [], env14 := 0, env15 := 0, vmax := 0, vmin := 0, otw := []
    ots := [], ote := [], utc := [], utd := [], ror := [], hist := [], cmpNow := [], cmpPrev := [], used := [], reqs := [], acted := []
    failover := []
    coilNow := 0, coilPrev := 0, coilBoth := 0 }

def TestPulse.initial : TestPulse := { bad := 0, good := 0, now := false, hold := false, judged := 0 }

/-- DESIGN CHOICE (log 6). -/
def SioState.initial : SioState :=
  { inputs := [], tp0 := TestPulse.initial, tp1 := TestPulse.initial, srstLast := false, srstRun := 0, lowAt := 0
    edgeAt := 0, edges := [], highAt := 0, heldDone := false, conns := [], sent := [] }

/-- As shipped: no commissioned layout, no tables, no threshold set, the label's password.
DESIGN CHOICE (log 8, 181). -/
def SafetyConfig.factory : SafetyConfig :=
  { fields := [], tables := [], layout := [], failover := [], salt := Config.labelSalt, tag := Config.labelTag
    key := none, hasThr := false }

def AuthState.initial : AuthState :=
  { session := none, commit := none, closeCmd := none, committed := SafetyConfig.factory, crcAfter := 0, fails := 0
    lock := 0, lockOn := false, log := [], nextSeq := 1, sessions := 0, rolls := 0, aborted := none, refused := false
    copied := 0 }

def BalState.initial : BalState :=
  { next := [], now := [], shutAt := [], dwellAt := [], selAt := [], shutSet := [], shutIBad := [], shutFbBad := [], shutINow := [], read := []
    bleedQ := [], shutQ := [], balErr := [], errNow := [], onTurn := [], dissRun := 0, quiet := none, quietEnd := none, again := false, cand := []
    excess := [], loss := [], shed := false, zeroSeen := false, withhold := 0 }

def EstState.initial : EstState :=
  { pos := [], countErr := 0, noneN := 0, heldN := 0, acc0 := 0, totQ := 0, totEq := 0, iMax := 0, everClosed := false
    tsel := [], copies := [], building := [], built := [], suspNext := [], firstRun := none, supStrike := none
    supTemp := [], snapAt := 0, waiting := none, deliver := [], snapNow := none, snapPrev := none, windowDone := false }

def ModelState.initial : ModelState :=
  { pos := [], fresh := [], lastTurn := 0, zTurn := 0, kept := [], balSq := [], offAt := none, starts := [], zStart := [], zMiss := [], blocks := []
    points := [], quiet := [], want := [], fitNext := 0, mailbox := [], seq := 0, timers := [], cells := [] }

def GovState.initial : GovState :=
  { slots := [], queue := [], dis := 0, chg := 0, tones := [], sending := false, rbBad := 0, frame := none, aout := none
    range := 0, change := none, aoutBad := 0, actBad := [], forcing := false, forced := false }

def EnvDir.initial : EnvDir := { l := [0, 0, 0], b10 := 0, b2 := 0, x10 := true, x2 := true, tier := 2, inf := 0 }

def EnvState.initial : EnvState :=
  { dis := EnvDir.initial, chg := EnvDir.initial, iref := 0, target := 0, miss := 0, setp := 0, inh := true, setpAt := none
    written := none, disA := 0, chgA := 0, stale := 0, falling := false, fresh := true, connOk := false, maps := []
    mapNext := [] }

def MpdState.initial : MpdState :=
  { head := 0, recs := [], turns := [], late := [], caps := [], capCount := 0, corrected := [], uncorrected := []
    scrubAt := 0, poison := [] }

def TdmState.initial : TdmState :=
  { trigger := none, claim := false, claimAt := 0, blocked := false, want := .none, retry := none, decided := false
    freeRun := 0, bandRun := 0, cmpN := 0, cmpBad := 0, disRun := 0, keepMiss := 0, keepGood := 0, flags := 0
    flagAt := 0, keepOut := none, helloOut := none
    nonce := [], pnonce := none, imgRun := 0, imgTurn := none, held := [], govDue := false, image := []
    hoAt := 0, hoFault := none, hoOpen := none, finalAt := none, released := false, coils := (false, false, false), noGrant := false
    notReadyAt := 0, cross := [], crossI := 0, failing := false }

def HostFn.initial : HostFn :=
  { d0 := true, bme := false, msix := false, unmasked := [], pend := [], pmeEn := false, pmeStatus := false, pmeAt := 0
    subs := [], held := [], issued := [], resumedAt := 0, wasReset := false, loaded := [], ofs := 0, rate := 0, a := 0 }

def HostState.initial : HostState :=
  { fns := [], rings := [], flumes := [], numVf := 0, ari := false, turnOff := false, ready := [], cache := []
    cellNext := [], writes := [], msgs := [], pmes := [], svcOut := [], conns := [], connNext := 0 }

def HopSlot.empty : HopSlot := { cart := none, done := 0, ejectAt := none, ejectCmd := none, ejectSeq := 0 }

def Minute.start (turn : Nat) : Minute :=
  { first := turn, turns := 0, iN := 0, iSum := 0, iLo := none, iHi := none, vN := 0, vSum := 0, vLo := none, vHi := none
    eDis := 0, eChg := 0, cls := 0, faults := 0, riso := none, die := 0, m0 := 0, missing := 0, gapTurns := 0, pos := [] }

def HopState.initial : HopState :=
  { a := HopSlot.empty, b := HopSlot.empty, next := none, off := none, gaps := [], staging := [], seq := 1, prev := 0
    lastTurn := none, ratios := [], minute := Minute.start 0, minDue := [], hour := 0, sealed := [] }

def NetState.initial : NetState := { tx := [], began := [], conflict := [], rate := [], raised := [], passed := none }

def TimeState.initial : TimeState :=
  { masters := [], sel := none, syncAt := 0, tai := false, integral := 0, rates := [], near := 0, far := 0, holdAt := 0
    aonSec := 0, aonTai := false, aonAge := 0, aonAt := 0, aonOk := false, tto := [], tci := [], edgeAt := 0, ivl := [] }

def CanState.initial : CanState := { ctl := [], sent := none }

end Sys2Proof.Machine
end

