-- ==== Sys2Proof/Machine/State.lean ====
section
/-! DEFINITION. The state of the module, plain data, and the state right after reset. -/
namespace Sys2Proof.Machine

/-- Why the machine stops with a fault: no command of this block does.
DESIGN CHOICE (log 4). -/
inductive Fault where
  deriving DecidableEq, Repr

/-- Why a command has no meaning here.
DESIGN CHOICE (log 4). -/
inductive Refusal where
  /-- Raised by a command whose meaning is not written yet. Safe: nothing is said of it. -/
  | notModelled (mnemonic : String)
  deriving DecidableEq, Repr

structure State where
  pending : List Instr
  /-- Count of free values taken: the model's own field (see Config.freeNat). -/
  free : Nat
  regs : RegFile
  /-- Latched HI words by path number and register (R612). -/
  latch : Tab Nat
  /-- Word the latest read of each path returned. -/
  readData : Tab Nat
  sys : SysState
  flt : FaultState
  evl : EvlState
  bnk : Tab Bank
  chk : Tab Check
  cur : CurState
  imd : ImdState
  thm : ThmState
  slu : SluState
  sio : SioState
  auth : AuthState
  est : EstState
  mdl : ModelState
  bal : BalState
  gov : GovState
  env : EnvState
  mpd : MpdState
  tdm : TdmState
  hif : HostState
  hop : HopState
  net : NetState
  tim : TimeState
  can : CanState
  /-- Addressed memories by number: 0 to 2 the message RAM of CAN-A to CAN-C (R491), 3 on-die SRAM and 4 the Millpond as a
  debugger has written them (R580). -/
  ram : Tab Memory
  pwr : PwrState
  sec : SecState
  deriving DecidableEq, Repr

/-- The module right after its first power-on reset, as shipped: START, every register at its reset value (R15, R539), no
time, nothing in memory.
DESIGN CHOICE (log 6, 8, 181). -/
def State.reset : State :=
  { pending := [], free := 0, regs := [], latch := [], readData := [], sys := SysState.initial, flt := FaultState.initial
    evl := EvlState.initial, bnk := [], chk := [], cur := CurState.initial, imd := ImdState.initial
    thm := ThmState.initial, slu := SluState.initial, sio := SioState.initial, auth := AuthState.initial
    est := EstState.initial, mdl := ModelState.initial, bal := BalState.initial, gov := GovState.initial
    env := EnvState.initial, mpd := MpdState.initial, tdm := TdmState.initial, hif := HostState.initial
    hop := HopState.initial, net := NetState.initial, tim := TimeState.initial, can := CanState.initial
    ram := []
    pwr := PwrState.initial, sec := SecState.initial }

end Sys2Proof.Machine
end

