-- ==== Sys2Proof/Machine/Ops.lean ====
section
/-! DEFINITION. The named operations every family uses: registers, time, the event log's queue, raising and clearing
faults, openings, captures, and the mode of the module. -/
namespace Sys2Proof.Machine

/-! ## Registers -/

/-- The value of a register field.
DESIGN CHOICE (log 7). -/
def State.reg (s : State) (f : Field) : Nat := s.regs.field f

/-- The state with a register field set. -/
def State.setReg (s : State) (f : Field) (v : Nat) : State := { s with regs := s.regs.setField f v }

/-- Whether a one-bit field reads 1. -/
def State.flag (s : State) (f : Field) : Bool := s.reg f == 1

/-- The state with a one-bit field set to a truth value. -/
def State.setFlag (s : State) (f : Field) (b : Bool) : State := s.setReg f (bit b)

/-- Adds to a field that saturates at its largest value. -/
def State.addSat (s : State) (f : Field) (n : Nat) : State := s.setReg f (sat (2 ^ f.width - 1) (s.reg f + n))

/-- Sets or clears one bit of a field of bits. -/
def State.setBit (s : State) (f : Field) (k : Nat) (b : Bool) : State := s.setReg f (putBit (s.reg f) k b)

/-- One bit of a field of bits. -/
def State.bitOf (s : State) (f : Field) (k : Nat) : Bool := bitAt (s.reg f) k

/-! ## Addressed memories -/

/-- A memory by its number.
DESIGN CHOICE (log 9, 10). -/
def State.memory (s : State) (k : Nat) : Memory := s.ram.get [] k

/-- Writes bytes into a memory from an address on. -/
def State.writeMem (k a : Nat) (l : List Nat) (s : State) : State :=
  { s with ram := s.ram.put k ((s.memory k).writeBytes a l) }

/-! ## Time -/

/-- Strikes in a millisecond (R11) and in a second (R22).
DESIGN CHOICE (log 11). -/
def msStrikes : Nat := 32
/-- DESIGN CHOICE (log 11). -/
def secStrikes : Nat := 32000

/-- The number of the latest strike, its turn, its place in the turn (R21, R22).
DESIGN CHOICE (log 11). -/
def State.now (s : State) : Nat := s.sys.strike
def State.turn (s : State) : Nat := s.now / 32
def State.phase (s : State) : Nat := s.now % 32

/-- The next strike is strike 0 of a turn: changes that take effect at strike 0 are made here.
DEDUCED (log 13). -/
def State.atStrike0 (s : State) : Bool := s.phase == 31

/-- Strikes since an earlier strike; what lies before the set of the clock counts from the first strike (R462). -/
def State.since (s : State) (n : Nat) : Nat := s.now - max n s.sys.first

/-- The time a strike stamp plus 1 (0: none) has run is at least `d` strikes. -/
def State.elapsed (s : State) (stamp d : Nat) : Bool := stamp != 0 && decide (d ≤ s.since (stamp - 1))

/-! ## Power, role and contactors -/

/-- Values of PWR_STAT.STATE. -/
def pwStart : Nat := 0
def pwRun : Nat := 1
def pwTrim : Nat := 2
def pwEntry : Nat := 3
def pwBrake : Nat := 4
/-- DESIGN CHOICE (log 182). -/
def pwStandstill : Nat := 5

/-- An application core works: rings, flumes, Hopper staging, CAN alarms and discovery, the PTP stack and the service protocol
run while one does; the manual does not say which core runs what (R31, R577).
DESIGN CHOICE (log 266). -/
def State.appsRun (s : State) : Bool := !(List.range 4).all fun k => s.sec.halted.contains (k + 1)

def State.power (s : State) : Nat := s.reg Reg.PWR_STAT_STATE
def State.inRun (s : State) : Bool := s.power == pwRun
def State.runOrTrim (s : State) : Bool := s.power == pwRun || s.power == pwTrim

/-- The grant of the drive token is latched (R214). -/
def State.token (s : State) : Bool := s.flag Reg.TDM_STAT_TOKEN
def State.roleSolo (s : State) : Bool := s.reg Reg.TDM_STAT_ROLE == 0
def State.roleActive (s : State) : Bool := s.reg Reg.TDM_STAT_ROLE == 1
def State.roleStandby (s : State) : Bool := s.reg Reg.TDM_STAT_ROLE == 2

/-- K_POS or K_NEG is closed, as their feedback contacts read (R47, R73, R108). -/
def State.contactorClosed (s : State) : Bool :=
  s.bitOf Reg.SLU_STAT_FB 0 || s.bitOf Reg.SLU_STAT_FB 1

/-- Values of SLU_STAT.CONN. -/
def connOpen : Nat := 0
def connPrecharge : Nat := 1
def connClosed : Nat := 2
def connOpening : Nat := 3

def State.conn (s : State) : Nat := s.reg Reg.SLU_STAT_CONN
def State.setConn (s : State) (c : Nat) : State := s.setReg Reg.SLU_STAT_CONN c

/-- The governing class: the highest class in effect (R20). -/
def State.govClass (s : State) : Nat := s.flt.active.foldl (fun a f => max a f.cls) 0

/-- The code that set the governing class: that of the earliest fault of the class still in effect. -/
def State.govCode (s : State) : Nat :=
  match s.flt.active.find? fun f => f.cls == s.govClass with
  | some f => f.code
  | none => 0

/-- A fault of a code, and of a code and subject, is in effect. -/
def State.inEffect (s : State) (code : Nat) : Bool := s.flt.active.any fun f => f.code == code
def State.inEffectOn (s : State) (code subj : Nat) : Bool :=
  s.flt.active.any fun f => f.code == code && f.subj == subj

/-! ## Event subjects ("Table — Event subject") -/

def subjNone : Nat := 0
def subjPos (g : Nat) : Nat := 0x10000000 + g
def subjTap (bank t : Nat) : Nat := 0x20000000 + bank * 0x10000 + t
def subjTemp (j : Nat) : Nat := 0x30000000 + j
def subjRing (fn r : Nat) : Nat := 0x40000000 + fn * 0x10000 + r
/-- DEDUCED (log 19). -/
def subjNum (n : Nat) : Nat := 0x50000000 + n
def subjHopper (sl : Nat) : Nat := 0x60000000 + sl

/-! ## The event log's queue (R446, R447) -/

/-- Two records are of one kind for folding: same code, class, CLEAR and subject. -/
def EvRec.sameKind (a b : EvRec) : Bool :=
  a.code == b.code && a.cls == b.cls && a.clear == b.clear && a.subj == b.subj

/-- Classes 0 to 2 fold, but for 0x0610, 0x0511 and 0x0142 (R447). -/
def EvRec.foldable (r : EvRec) : Bool :=
  decide (r.cls ≤ 2) && r.code != 0x0610 && r.code != 0x0511 && r.code != 0x0142

/-- EVL_CTRL.RWIN in strikes. -/
def State.foldWindow (s : State) : Nat := s.reg Reg.EVL_CTRL_RWIN * 3200

/-- The open fold a record falls into. -/
def State.openFold (s : State) (r : EvRec) : Option Fold :=
  s.evl.folds.find? fun f => f.rcd.sameKind r && decide (r.strike ≤ f.last + s.foldWindow)

/-- A recent ordinary record that a record folds into. -/
def State.recentKin (s : State) (r : EvRec) : Bool :=
  s.evl.recent.any fun e => e.1.sameKind r && decide (r.strike ≤ e.2 + s.foldWindow)

/-- Counts a record that is not written (R448): the first one's code and strike stand beside the count. -/
def State.loseRecord (s : State) (r : EvRec) : State :=
  let s1 := if s.reg Reg.EVL_LOST_COUNT = 0 then
      ((s.setReg Reg.EVL_LOST_CODE r.code).setReg Reg.EVL_LOST_STRK_LO_STRK (r.strike % 2 ^ 32)).setReg
        Reg.EVL_LOST_STRK_HI_STRK (r.strike / 2 ^ 32)
    else s
  s1.addSat Reg.EVL_LOST_COUNT 1

/-- Places a record in the write queue of 1 024 entries; one that finds it full is lost (R446). -/
def State.enqueue (s : State) (r : EvRec) : State :=
  if s.evl.queue.length < 1024 then
    { s with evl := { s.evl with
        queue := s.evl.queue ++ [r]
        recent := if r.foldable then (r, r.strike) :: s.evl.recent.filter (fun e => !e.1.sameKind r)
          else s.evl.recent } }
  else
    let s1 := s.loseRecord r
    { s1 with evl := { s1.evl with lostDue := true } }

/-- Records an occurrence: it joins an open fold, opens one, or is queued (R446, R447). -/
def State.record (s : State) (r : EvRec) : State :=
  if r.foldable && decide (0 < s.foldWindow) && !s.evl.noFold then
    match s.openFold r with
    | some f =>
      { s with evl := { s.evl with
          folds := s.evl.folds.map fun g =>
            if g = f then { g with rcd := { g.rcd with data := r.data }, last := r.strike, count := g.count + 1 }
            else g } }
    | none =>
      if s.recentKin r && decide (s.evl.folds.length < 64) then
        { s with evl := { s.evl with
            folds := s.evl.folds ++ [{ rcd := r, first := r.strike, last := r.strike, count := 1 }] } }
      else s.enqueue r
  else s.enqueue r

/-- A record of an event now. -/
def State.event (s : State) (code cls subj : Nat) (clear : Bool) (data : List Nat) : EvRec :=
  { code := code, cls := cls, clear := clear, tv := s.flag Reg.TIM_STAT_TV, strike := s.now, subj := subj
    rpt := 0, span := 0, data := data }

/-- An event of class 0: it is recorded and nothing else (R19).
DEDUCED (log 20). -/
def State.note (s : State) (code subj : Nat) (data : List Nat) : State :=
  s.record (s.event code 0 subj false data)

/-! ## Captures (R350) -/

/-- A capture triggered by a code and class in the turn in hand: triggers of one turn make one capture, which carries
the code of the highest class, the lower code on a tie. -/
def State.capture (s : State) (code cls : Nat) : State :=
  let k := (s.mpd.capCount + 15) % 16
  let last := s.mpd.caps.get { turn := 0, code := 0, cls := 0, post := 0 } k
  if s.mpd.capCount ≠ 0 ∧ last.turn = s.turn then
    if last.cls < cls ∨ (last.cls = cls ∧ (code < last.code ∨ last.code = 0) ∧ code ≠ 0) then
      { s with mpd := { s.mpd with caps := s.mpd.caps.put k { last with code := code, cls := cls } } }
    else s
  else
    let post := s.reg Reg.MPD_CAP_CFG_POST
    let c : Capture := { turn := s.turn, code := code, cls := cls, post := post }
    let s1 := { s with mpd := { s.mpd with
      caps := s.mpd.caps.put (s.mpd.capCount % 16) c, capCount := s.mpd.capCount + 1 } }
    s1.note 0x0A09 subjNone (leBytes 8 s.turn ++ leBytes 2 post ++ leBytes 2 code)

/-- The capture a fault triggers. -/
def State.captureFault (s : State) (code cls : Nat) : State :=
  if s.flag Reg.MPD_CAP_CFG_EN ∧ s.reg Reg.MPD_CAP_CFG_CLS ≤ cls then s.capture code cls else s

/-! ## Faults in effect (R19, R20, R226 to R229) -/

/-- Changes the fault of a code and subject, where it is in effect. -/
def State.mapFault (s : State) (code subj : Nat) (g : Active → Active) : State :=
  { s with flt := { s.flt with active := s.flt.active.map fun (f : Active) =>
      if f.code == code && f.subj == subj then g f else f } }

/-- Puts a fault in effect: an active fault of the same code and subject keeps the higher class. -/
def State.activate (s : State) (code cls subj : Nat) (event : Bool) : State :=
  let a : Active := { code := code, subj := subj, cls := cls, turn := s.turn, event := event
                      absent := if event then some s.now else none, held := false }
  if s.inEffectOn code subj then
    s.mapFault code subj fun f => { a with cls := max f.cls cls, held := f.held }
  else { s with flt := { s.flt with active := s.flt.active ++ [a] } }

/-- Whether a latch of a cause now is its third or a later one of the running count (R229).
DEDUCED (log 179). -/
def State.latchCount (s : State) (code : Nat) : Nat :=
  let e := s.flt.latches.get (0, 0) code
  if e.1 = 0 ∨ 3600 * secStrikes < s.since e.2 then 1 else e.1 + 1

/-- The record of a decision: supervision writes those of the hardware path, and all of a warm reset, in the order in which
they were taken, at its next completed SUP (R208, R231).
DEDUCED (log 22). -/
def State.logDecision (hw : Bool) (r : EvRec) (s : State) : State :=
  if hw || s.flag Reg.PWR_STAT_WARM then { s with flt := { s.flt with hwRecords := s.flt.hwRecords ++ [r] } }
  else s.record r

/-- Counts a latch at class 3 and holds the fault from the third one on, with 0x0733 (R229). -/
def State.countLatch (hw : Bool) (s : State) (code subj : Nat) : State :=
  let n := s.latchCount code
  let s1 := { s with flt := { s.flt with latches := s.flt.latches.put code (n, s.now) } }
  if 3 ≤ n then
    let s2 := s1.mapFault code subj fun f => { f with held := true }
    (s2.logDecision hw (s2.event 0x0733 1 subjNone false (leBytes 2 code))).activate 0x0733 1 subjNone true
  else s1

/-- A fault is latched: it is in effect at class 3 or 4. -/
def State.isLatched (s : State) (code subj : Nat) : Bool :=
  s.flt.active.any fun f => f.code == code && f.subj == subj && decide (3 ≤ f.cls)

/-! ## Openings (R219 to R224) -/

/-- A threshold of the set in force, from offset 0x10 to 0x60 (R211). -/
def State.thr (s : State) (f : Field) : Nat := s.slu.thr.field f

/-- The kinds of safety-input function that open by orderly opening (R245). -/
def funcTripO : Nat := 3

/-- Whether a class 3 fault of a code opens by orderly opening (R212, R219, R236, R245, R259). -/
def State.orderlyCode (s : State) (code : Nat) : Bool :=
  [0x070D, 0x0711, 0x0713, 0x0714, 0x0715, 0x0716, 0x0717, 0x0719, 0x071D, 0x0750].contains code
    || (decide (0x0740 ≤ code) && decide (code ≤ 0x0747)
        && s.reg (Reg.SLU_SI_CFG_FUNC (code - 0x0740)) == funcTripO)

/-- De-energises a coil: K_POS 0, K_NEG 1, K_PRE 2. Its FB_OPEN counts from here while its contact reads closed. -/
def State.coilOff (k : Nat) (s : State) : State :=
  let was := match k with | 0 => s.slu.kPos | 1 => s.slu.kNeg | _ => s.slu.kPre
  if was then
    { s with slu := { s.slu with
        kPos := s.slu.kPos && k != 0, kNeg := s.slu.kNeg && k != 1, kPre := s.slu.kPre && k != 2
        offAt := s.slu.offAt.put k s.now, closeFrom := s.slu.closeFrom.put k 0
        openFrom := if s.bitOf Reg.SLU_STAT_FB k then s.slu.openFrom.put k (s.now + 1) else s.slu.openFrom } }
  else s

/-- Energises a coil. Its FB_CLOSE counts from here while its contact reads open. -/
def State.coilOn (k : Nat) (s : State) : State :=
  { s with slu := { s.slu with
      kPos := s.slu.kPos || k == 0, kNeg := s.slu.kNeg || k == 1, kPre := s.slu.kPre || k == 2
      onAt := s.slu.onAt.put k s.now, afterOpen := false, openFrom := s.slu.openFrom.put k 0
      closeFrom := if s.bitOf Reg.SLU_STAT_FB k then s.slu.closeFrom else s.slu.closeFrom.put k (s.now + 1) } }

/-- Every coil off. -/
def State.coilsOff (s : State) : State := ((s.coilOff 0).coilOff 1).coilOff 2

/-- Moves the contactor sequence to a step. -/
def State.toSeq (q : Seq) (s : State) : State := { s with slu := { s.slu with seq := q, stepAt := s.now } }

/-- INHIBIT of the Governor's next frames (R216, R220, R221). -/
def State.inhibit (b : Bool) (s : State) : State := s.setFlag Reg.GOV_SPT_STAT_INH b

/-- BRK_TRIP begins its pulse (R223), while the drivers are enabled. -/
def State.startBreaker (s : State) : State :=
  if s.token then
    (s.setFlag Reg.SLU_STAT_BRK true).coilsOff |> fun s =>
      { s with slu := { s.slu with brkAt := s.now + 1, auxOpen := false } }
  else s

/-- The emergency opening itself (R221): all coils off, INHIBIT, CONN becomes OPENING. -/
def State.dropCoils (s : State) : State :=
  let s1 := (s.coilsOff).inhibit true
  if s.conn = connOpen then s1
  else ((s1.setConn connOpening).setFlag Reg.SLU_STAT_EMER true).toSeq .opening

/-- The magnitude of the selected current, 0.1 mA. -/
def State.iMag (s : State) : Nat := s.cur.held.natAbs

/-- The value that R222 compares with KBRK: the current, or a fast threshold when its comparator decided, in 0.1 mA. -/
def State.breakingCurrent (s : State) (code : Nat) : Nat :=
  let th := if code = 0x0705 then s.thr Reg.SLU_ITH_A_OCD_FAST
    else if code = 0x0706 then s.thr Reg.SLU_ITH_A_OCC_FAST else 0
  max s.iMag (th * 10000)

/-- Whether an emergency opening decided by a code raises 0x0730 (R222). -/
def State.breakerNeeded (s : State) (code : Nat) : Bool :=
  s.conn != connOpen
    && (decide (s.thr Reg.SLU_KBRK_KBRK * 10000 < s.breakingCurrent code)
        || s.reg Reg.CUR_STAT_SEL == 3)

/-- Class 4 comes to govern: the pulse of R223 begins, when class 4 did not govern before. -/
def State.breakerIfNew (before : Nat) (s : State) : State := if before < 4 then s.startBreaker else s

/-- Raises 0x0730 at class 4 beside an emergency opening (R222). -/
def State.raiseBreaking (hw : Bool) (s : State) : State :=
  let before := s.govClass
  ((s.logDecision hw (s.event 0x0730 4 subjNone false [])).activate 0x0730 4 subjNone true).captureFault 0x0730 4
    |>.breakerIfNew before

/-- An emergency opening decided by a code (R221, R222); `hw`: by the hardware path. A module without the token drives no
coil (R233). -/
def State.emergencyOpen (hw : Bool) (code : Nat) (s : State) : State :=
  if s.token then
    let s1 := if s.breakerNeeded code then s.raiseBreaking hw else s
    s1.dropCoils
  else s

/-- An orderly opening begins (R220): CONN becomes OPENING and the clamp falls from the magnitude of the current. In
PRECHARGE the next SEV de-energises K_PRE and K_NEG (R235). -/
def State.orderlyOpen (s : State) : State :=
  if s.token && s.conn == connClosed then
    let s1 := ((s.setConn connOpening).setFlag Reg.SLU_STAT_EMER false).toSeq .ramp
    { s1 with slu := { s1.slu with ordLim := s.iMag * 32, ordAt := s.now, lowRun := 0 } }
  else if s.token && s.conn == connPrecharge then s.toSeq .abandon
  else s

/-! ## The drive token (R505, R509) -/

/-- The insulation monitor stops: relay open, no injection, no valid result (R119, R121). -/
def State.imdStop (s : State) : State :=
  { s with
    imd := { s.imd with relayCmd := false, testing := false, lowW := 0, lowA := 0, fast := 0 }
    regs := (s.regs.setField Reg.IMD_RESULT_INJ 0).setField Reg.IMD_RESULT_VALID 0 }

/-- The claim drops, and with it the grant and every driver, that of BRK_TRIP among them (R214); `hw`: in hardware, after which
no claim is made until the reset. A module without the token is STANDBY.
DESIGN CHOICE (log 284). -/
def State.dropClaim (hw : Bool) (s : State) : State :=
  let s1 := (if s.imd.relayCmd then s.imdStop else s).coilsOff
  { ((s1.setFlag Reg.TDM_STAT_TOKEN false).setFlag Reg.SLU_STAT_BRK false).setReg Reg.TDM_STAT_ROLE 2 with
    tdm := { s1.tdm with claim := false, want := .none, retry := none, blocked := s1.tdm.blocked || hw } }

/-- A handover is given up with 0x1009 (R523); `hw`: by a decision of the hardware path. -/
def State.hoAbandon (hw : Bool) (s : State) : State :=
  let s1 := (s.setFlag Reg.TDM_STAT_HO false).setFlag Reg.TDM_LAST_ABAND true
  let s2 := { s1 with tdm := { s1.tdm with hoOpen := none, finalAt := none, released := false } }
  ((s2.logDecision hw (s2.event 0x1009 1 subjNone false [])).activate 0x1009 1 subjNone true).captureFault 0x1009 1

/-- An opening decided before the release of the claim ends a handover (R523). -/
def State.hoStop (hw : Bool) (s : State) : State :=
  if s.flag Reg.TDM_STAT_HO && !s.tdm.released then s.hoAbandon hw else s

/-- What a fault of class 3 or 4 does to the string (R219, R223, R235). `before` is the class that governed before. -/
def State.openFor (hw : Bool) (code cls before : Nat) (s : State) : State :=
  if cls = 4 then (s.breakerIfNew before).emergencyOpen hw code
  else if s.orderlyCode code && s.conn == connClosed then s.orderlyOpen
  else if s.orderlyCode code && s.conn == connOpening then s
  else s.emergencyOpen hw code

/-- A class 3 fault of the failover set, decided by supervision on an active module whose standby reports ready, leads
to a handover in place of an opening, while CONN is CLOSED (R234, R235). -/
def State.handsOver (code cls : Nat) (hw : Bool) (s : State) : Bool :=
  cls == 3 && !hw && s.roleActive && s.conn == connClosed && s.flag Reg.TDM_STAT_PREADY && s.slu.failover.contains code

/-- Raises a fault (R18 to R20): its record, its class, its capture, its latch, its opening. `hw`: the hardware path
decided it. A fault that is latched already is not latched again (R229).
DEDUCED (log 19, 22). -/
def State.raiseAs (hw : Bool) (code cls subj : Nat) (event : Bool) (data : List Nat) (s : State) : State :=
  let before := s.govClass
  let r := s.event code cls subj false data
  let s : State := { s with hop := { s.hop with minute := { s.hop.minute with faults := s.hop.minute.faults + 1 } } }
  let s1 := s.logDecision hw r
  if cls = 0 then s1
  else
    let s2 := (s1.activate code cls subj event).captureFault code cls
    if cls < 3 then s2
    else
      let s3 := if cls = 3 && !s.isLatched code subj then s2.countLatch hw code subj else s2
      if s3.handsOver code cls hw then
        { s3 with tdm := { s3.tdm with trigger := some (2, code) } }
      else (s3.hoStop hw).openFor hw code cls before

/-- Raises a fault of event type, decided by supervision or another block (R226).
DEDUCED (log 20, 21). -/
def State.raise (code cls subj : Nat) (data : List Nat) (s : State) : State := s.raiseAs false code cls subj true data

/-- Raises a fault whose condition lasts until its owner marks it absent, where it is not yet in effect.
DEDUCED (log 21). -/
def State.raiseLevel (code cls subj : Nat) (data : List Nat) (s : State) : State :=
  if s.flt.active.any fun f => f.code == code && f.subj == subj && decide (cls ≤ f.cls) then
    s.mapFault code subj fun f => { f with absent := none }
  else s.raiseAs false code cls subj false data

/-- The condition of a lasting fault has gone.
DEDUCED (log 21). -/
def State.goneAt (code subj : Nat) (s : State) : State :=
  s.mapFault code subj fun f => { f with absent := f.absent.or (some s.now) }

/-- Raises a lasting fault while its condition holds and marks it absent otherwise.
DEDUCED (log 21). -/
def State.level (holds : Bool) (code cls subj : Nat) (data : List Nat) (s : State) : State :=
  if holds then s.raiseLevel code cls subj data else s.goneAt code subj

/-- Takes a fault out of effect and records its clearing (R226 to R228, R444). -/
def State.clearFault (f : Active) (s : State) : State :=
  let s1 := { s with flt := { s.flt with active := s.flt.active.filter fun g => !(g.code == f.code && g.subj == f.subj) } }
  s1.record (s1.event f.code f.cls f.subj true [])

/-- Raises a cause of class 0 or 1 at most once a second per key (R255, R617 and others). -/
def State.raisePaced (key code cls subj : Nat) (data : List Nat) (s : State) : State :=
  let last := s.flt.paced.get 0 key
  if last = 0 ∨ secStrikes ≤ s.since (last - 1) then
    let s1 := { s with flt := { s.flt with paced := s.flt.paced.put key (s.now + 1) } }
    if cls = 0 then s1.note code subj data else s1.raise code cls subj data
  else s

/-! ## Mode (R232) -/

/-- An isolation request of a safety input or a telegram is active (R245, R258, R259). -/
def State.isoRequest (s : State) : Bool :=
  s.sio.inputs.any (fun e => e.2.iso) || s.sio.conns.any fun e => e.2.isol || e.2.toutIso

/-- An enabled bank, or CUR, is unreleased, or a bank is in SURVEY (R232). -/
def State.unreleased (s : State) : Bool :=
  s.bnk.any (fun e => e.2.en && (e.2.step != .released || e.2.survey)) || !s.flag Reg.CUR_STAT_REL

/-- The isolation conditions of R232. Lifecycle 0 is BLANK and 4 RETIRED. -/
def State.isolated (s : State) : Bool :=
  !s.slu.cfg || !s.inRun || s.unreleased || s.slu.weldLock
    || s.reg Reg.SEC_LC_STATE == 0 || s.reg Reg.SEC_LC_STATE == 4 || s.isoRequest

/-- Values of SLU_STAT.MODE. -/
def modeNormal : Nat := 0
def modeDerated : Nat := 1
def modeIsolated : Nat := 2
def modeTripped : Nat := 3
def modeBreaker : Nat := 4

/-- MODE takes the first of the cases of R232 that applies. -/
def State.mode (s : State) : Nat :=
  if s.govClass = 4 then modeBreaker else if s.govClass = 3 then modeTripped
  else if s.isolated then modeIsolated else if s.govClass = 2 then modeDerated else modeNormal

end Sys2Proof.Machine
end

