-- ==== Sys2Proof/Machine/Flags.lean ====
section
/-! DEFINITION. The sample word and its flags S, O, C and D (R49 to R57, R76, R77), and what the hardware path accepts
of a word (R209). -/
namespace Sys2Proof.Machine

/-- Settling counts of FC0 to FC7 ("Table — Filter corners, settling and group delay"). -/
def settleCount (fc : Nat) : Nat := [3, 5, 9, 17, 33, 81, 321, 1601].getD fc 17

/-- Group delay in strikes: (settling count - 1) / 2 (R53). -/
def groupDelay (fc : Nat) : Nat := (settleCount fc - 1) / 2

/-- The 32-bit sample word (R49). -/
def sampleWord (value : Int) (fs fo fc fd : Bool) (strike : Nat) : Nat :=
  unsigned 24 value * 256 + bit fs * 128 + bit fo * 64 + bit fc * 32 + bit fd * 16 + strike % 16

/-- VALUE and the flags of a word. -/
def wValue (w : Nat) : Int := signed 24 (w / 256)
def wS (w : Nat) : Bool := bitAt w 7
def wO (w : Nat) : Bool := bitAt w 6
def wC (w : Nat) : Bool := bitAt w 5
def wD (w : Nat) : Bool := bitAt w 4

/-- The placeholder of a missing frame and of a vacant position (R28, R65). -/
def placeholder (strike : Nat) : Nat := sampleWord 0 false false false true strike

/-- VALUE of a filtered input within the linear limit (R50). -/
def linear (survey : Bool) (v : Int) : Int :=
  if survey then clampInt (-8000000) 8000000 v else clampInt (-600000) 5400000 v

/-- O: the filtered input lies outside the measuring range (R45, R50). -/
def overrange (survey : Bool) (v : Int) : Bool :=
  if survey then decide (v < -8000000) || decide (8000000 < v)
  else decide (v < -500000) || decide (5200000 < v)

/-! ## Banks as the rest of the model reads them -/

def State.bank (s : State) (nn : Nat) : Bank := s.bnk.get Bank.initial nn
def State.setBank (s : State) (nn : Nat) (b : Bank) : State := { s with bnk := s.bnk.put nn b }
def State.updBank (nn : Nat) (f : Bank → Bank) (s : State) : State := s.setBank nn (f (s.bank nn))
def State.check (s : State) (nn : Nat) : Check := s.chk.get Check.initial nn
def State.setCheck (s : State) (nn : Nat) (c : Check) : State := { s with chk := s.chk.put nn c }
def State.updCheck (nn : Nat) (f : Check → Check) (s : State) : State := s.setCheck nn (f (s.check nn))

/-- PD_Bnn is on. -/
def State.bankOn (s : State) (nn : Nat) : Bool := s.bitOf Reg.PWR_DOM_BNK nn

/-- The banks populated in the build (R6). -/
def State.populated (s : State) : Nat := s.reg Reg.SYS_BUILD_BANKS

/-- The commissioned layout of branch `k` of a bank (R66). -/
def State.layout (s : State) (nn k : Nat) : Layout :=
  s.auth.committed.layout.get
    { fitted := false, chem := 0, first := 0, count := 0, cap := 0, serial := 0 } (nn * 4 + k)

/-- The branch that serves a local position, when one does. -/
def State.branchOf (s : State) (nn p : Nat) : Option Nat :=
  (List.range 4).find? fun k =>
    let l := s.layout nn k
    l.fitted && decide (l.first ≤ p) && decide (p < l.first + l.count)

/-- The positions a branch serves. -/
def State.branchPositions (s : State) (nn k : Nat) : List Nat :=
  let l := s.layout nn k
  if l.fitted then range l.first (l.first + l.count) else []

/-- A position is vacant (R65). -/
def State.vacant (s : State) (nn p : Nat) : Bool :=
  !(s.bank nn).en || decide ((s.bank nn).npos ≤ p)

/-- The branch of a position has passed its check, is released and does not read absent (R68 to R70). -/
def State.branchGood (s : State) (nn p : Nat) : Bool :=
  match s.branchOf nn p with
  | some k => s.bitOf (Reg.BNK_STAT_BR_OK nn) k && decide ((s.bank nn).absRun.get 0 k < 2)
  | none => false

/-- A position is released: its bank and its branch are (R68). -/
def State.released (s : State) (nn p : Nat) : Bool :=
  !s.vacant nn p && (s.bank nn).step == .released && s.branchGood nn p

/-- The wiring slot acted on a position's input at strike `m` (R75, R76): a position that was not pulsed under R83 was not
acted on. A bleed switch that stays closed and is read counts as acted on.
DESIGN CHOICE (log 275). -/
def State.slotActed (s : State) (nn p m : Nat) : Bool :=
  let c := s.check nn
  decide (p / 2 = m % 32) && !c.unpulsed.contains (p, m)
    && ((c.wireFrom != 0 && decide (c.wireFrom - 1 ≤ m)) || c.wireLog.any fun e => decide (e.1 ≤ m) && decide (m ≤ e.2))

/-- D of a word committed at strike `n`, for a cause that the hardware path skips (R52, R209). -/
def State.dSkip (s : State) (nn p n : Nat) : Bool :=
  let b := s.bank nn
  let c := s.check nn
  s.vacant nn p || b.step != .released || !s.branchGood nn p || bitAt c.tapOpen p || bitAt c.tapOpen (p + 1)
    || s.slotActed nn p (n - groupDelay b.fc)

/-- D because strike alignment is not assured (R62). -/
def State.dAlign (s : State) (nn : Nat) : Bool := !s.flag (Reg.BNK_STAT_ALIGN nn)

/-- A word carries S: the settling count runs (R56).
DEDUCED (log 28). -/
def State.settling (s : State) (nn : Nat) : Bool := decide (0 < s.reg (Reg.BNK_STAT_SETTLE_CNT nn))

/-- The sample word of a local position at strike `n` from its filtered input. -/
def State.posWord (s : State) (nn p n : Nat) (v : Int) : Nat :=
  let b := s.bank nn
  if s.vacant nn p then placeholder n
  else sampleWord (linear b.survey v) (s.settling nn) (overrange b.survey v) (bitAt (s.check nn).cNow p)
    (s.dSkip nn p n || s.dAlign nn) n

/-- The hardware path compares a word of an accepted frame (R209). -/
def State.compared (s : State) (nn p n : Nat) : Bool := !s.settling nn && !s.dSkip nn p n

/-- The comparator states of a position are compared at a strike, but for the strike of its comparator test (R209). -/
def State.cmpCompared (s : State) (nn p : Nat) : Bool :=
  !s.vacant nn p && (s.bank nn).step == .released && s.flag (Reg.BNK_STAT_RELAY nn)

/-- The position the comparator test of a bank acts on in the turn in hand: a test to repeat takes the place of the one
scheduled, which is not made up for (R98).
DESIGN CHOICE (log 276). -/
def State.cmpTested (s : State) (nn : Nat) : Nat :=
  if (s.check nn).cmpRetest = 0 then s.turn % 64 else (s.check nn).cmpRetest - 1

end Sys2Proof.Machine
end

