-- ==== Sys2Proof/Machine/Crc.lean ====
section
/-! DEFINITION. The cyclic checks of the manual: CRC-32 of R59, CRC-32C of R252 and CRC-8 of R64. -/
namespace Sys2Proof.Machine

/-- One reflected division step by a polynomial. -/
def crcStep (poly c : Nat) : Nat := if c % 2 = 1 then (c / 2) ^^^ poly else c / 2

/-- A reflected CRC register after one more byte. -/
def crcByte (poly c b : Nat) : Nat :=
  let x := c ^^^ (b % 256)
  crcStep poly (crcStep poly (crcStep poly (crcStep poly
    (crcStep poly (crcStep poly (crcStep poly (crcStep poly x)))))))

/-- CRC-32 as in R59: polynomial 0x04C1_1DB7 reflected, initial value and final inversion 0xFFFF_FFFF. -/
def crc32 (l : List Nat) : Nat := l.foldl (crcByte 0xEDB88320) 0xFFFFFFFF ^^^ 0xFFFFFFFF

/-- CRC-32C as in R252: polynomial 0x1EDC_6F41 reflected. -/
def crc32c (l : List Nat) : Nat := l.foldl (crcByte 0x82F63B78) 0xFFFFFFFF ^^^ 0xFFFFFFFF

/-- One step of the unreflected CRC-8 of R64. -/
def crc8Step (c : Nat) : Nat := if 128 ≤ c then (c * 2 % 256) ^^^ 7 else c * 2

/-- CRC-8 as in R64: polynomial 0x07, initial value 0, no reflection, no final XOR. -/
def crc8 (l : List Nat) : Nat :=
  l.foldl (fun c b => crc8Step (crc8Step (crc8Step (crc8Step (crc8Step (crc8Step (crc8Step
    (crc8Step (c ^^^ (b % 256)))))))))) 0

end Sys2Proof.Machine
end

