-- ==== Sys2Proof/Machine/Operands.lean ====
section
/-! DEFINITION. Register writes (R15 to R17, R261, R267, R268, R614, R615) and the change log they fill. -/
namespace Sys2Proof.Machine

/-! ## The Safety Authority session -/

/-- The session of a path, when that path has one open (R261). -/
def State.sessionOf (s : State) (p : Path) : Option Session :=
  match s.auth.session with
  | some x => if x.path = p then some x else none
  | none => none

/-- Entries of the change log still free of the 4 096. -/
def State.clogFree (s : State) : Nat := 4096 - s.auth.log.length

/-- The session's path may write a WRITE, TABLE, KEY, PASSWORD or WELD_CLEAR entry: full form, and an entry free beside
the 2 kept ones (R268). -/
def State.clogRoom (s : State) (x : Session) : Bool := !x.restricted && decide (2 < s.clogFree)

/-- The change-log registers after a change of the log (R274). -/
def State.clogRegs (s : State) : State :=
  let n := s.auth.log.length
  let s1 := ((s.setReg Reg.SEC_CLOG_STAT_USED n).setFlag Reg.SEC_CLOG_STAT_NEAR (decide (3840 ≤ n))).setFlag
    Reg.SEC_CLOG_STAT_FULL (decide (4096 ≤ n))
  (s1.setReg Reg.SEC_CLOG_SEQ_SEQ (s.auth.nextSeq - 1)).setReg Reg.SEC_CLOG_STAT_ROLLS (sat 0xFFFF s.auth.rolls)

/-- What a change-log entry carries beside its sequence number, chain, CRC and valid byte (R267). -/
structure ClogFields where
  kind : Nat
  path : Nat
  session : Nat
  client : List Nat
  addr : Nat
  old : Nat
  new : Nat
  crcAfter : Nat
  cflags : Nat
  pseq : Nat
  phash : List Nat
  deriving DecidableEq, Repr

/-- The 16 first bytes of the SHA-256 of an entry. -/
def hash16 (l : List Nat) : List Nat := (beBytes 32 (Config.sha256 l)).take 16

/-- The 128 bytes of an entry ("Table — Change log entry"). -/
def clogBytes (seq strike : Nat) (prev : List Nat) (e : ClogFields) : List Nat :=
  let body := leBytes 4 seq ++ leBytes 8 strike ++ [e.kind, e.path] ++ leBytes 2 e.session ++ padTo 16 e.client
    ++ leBytes 4 e.addr ++ leBytes 4 e.old ++ leBytes 4 e.new ++ leBytes 4 e.crcAfter ++ [e.cflags, 0, 0, 0]
    ++ leBytes 4 e.pseq ++ padTo 16 e.phash ++ List.replicate 24 0 ++ padTo 16 prev ++ List.replicate 8 0
  body ++ leBytes 4 (crc32 body) ++ [0, 0, 0, 0xA5]

/-- Writes a change-log entry while one is free (R267, R268): alarms 0x1208 and 0x1209 at 3 840 and 4 096 entries. -/
def State.clogWrite (e : ClogFields) (s : State) : State :=
  if s.auth.log.length < 4096 then
    let prev := match s.auth.log.getLast? with
      | some l => hash16 l
      | none => []
    let s1 := { s with auth := { s.auth with
      log := s.auth.log ++ [clogBytes s.auth.nextSeq s.now prev e], nextSeq := s.auth.nextSeq + 1 } }
    let s2 := s1.clogRegs
    let n := s2.auth.log.length
    let s3 := if n = 3840 then s2.raise 0x1208 1 subjNone [] else s2
    if n = 4096 then s3.raise 0x1209 1 subjNone [] else s3
  else s

/-- An entry of a session, with the rest zero. -/
def Session.entry (x : Session) (kind : Nat) : ClogFields :=
  { kind := kind, path := x.code, session := x.number % 65536, client := x.client, addr := 0, old := 0, new := 0
    crcAfter := 0, cflags := 0, pseq := 0, phash := [] }

/-! ## Register writes -/

/-- What a write would do to one register: fields set by RW, W1C and W1S, changes of RWL fields, reserved encodings. -/
structure WritePlan where
  sets : List (Field × Nat)
  rwl : List (Field × Nat)
  bad : Nat
  deriving DecidableEq, Repr

/-- Encodings that two fields of a register reserve together: the value of the second field against the first
(IMD_LIM, EST_WIDTH, EST_CAPNOM, EST_ISI_LIM, EST_LPI_LIM, SLU_SOC, SLU_TG_CTRL, GOV_SLOT_LIM). -/
def crossOk (off lo : Nat) (w : Nat → Nat → Nat) : Bool :=
  if off = 0x30044 ∧ lo = 16 then decide (w 16 16 ≤ w 0 16)
  else if off = 0x28004 ∧ lo = 16 then decide (w 0 10 ≤ w 16 10)
  else if off = 0x28018 ∧ lo = 8 then decide (w 0 8 ≤ w 8 8)
  else if off = 0x2840C ∧ lo = 16 then decide (w 0 16 ≤ w 16 16)
  else if off = 0x28410 ∧ lo = 16 then decide (w 0 10 ≤ w 16 10) && decide (w 16 10 ≤ 1000)
  else if off = 0x28410 ∧ lo = 0 then decide (w 0 10 ≤ 1000)
  else if off = 0x20044 ∧ lo = 16 then decide (w 0 10 < w 16 10)
  else if 0x20214 ≤ off ∧ off < 0x20294 ∧ (off - 0x20214) % 16 = 0 ∧ lo = 16 then decide (2 * w 4 10 ≤ w 16 16)
  else if 0x24110 ≤ off ∧ off < 0x25100 ∧ (off - 0x24110) % 0x200 = 0 ∧ lo = 16 then
    decide (signed 16 (w 0 16) ≤ signed 16 (w 16 16))
  else true

/-- The plan of one field of a register written with word `w`. -/
def planField (s : State) (off w : Nat) (p : WritePlan) (d : FieldDef) : WritePlan :=
  let f := d.at off
  let old := s.reg f
  let v := bitsAt w d.lo d.width
  -- the register as it reads once the fields before this one are written
  let seen := fun lo wd => match p.sets.find? (fun e => e.1.lo == lo) with
    | some e => e.2
    | none => match p.rwl.find? (fun e => e.1.lo == lo) with
      | some e => e.2
      | none => if lo = d.lo then v else s.reg ⟨off, lo, wd, match regAt off with
        | some r => match r.fields.find? (fun e => e.lo == lo) with
          | some e => e.rst
          | none => 0
        | none => 0⟩
  let legal := d.legal.ok d.width v && crossOk off d.lo seen
  match d.acc with
  | .rw => if legal then { p with sets := p.sets ++ [(f, v)] } else { p with bad := p.bad + 1 }
  | .rwl =>
    if legal then (if v = old then p else { p with rwl := p.rwl ++ [(f, v)] }) else { p with bad := p.bad + 1 }
  | .w1c => { p with sets := p.sets ++ [(f, old - (old &&& v))] }
  | .w1s => { p with sets := p.sets ++ [(f, old ||| v)] }
  | .ro => p
  | .wo => p

/-- The plan of a write of word `w` at an address. -/
def writePlan (s : State) (off w : Nat) : WritePlan :=
  match regAt off with
  | some r => r.fields.foldl (planField s off w) { sets := [], rwl := [], bad := 0 }
  | none => { sets := [], rwl := [], bad := 0 }

/-- The word of stored fields at an address, RSV and WO bits 0 (R15). -/
def State.storedWord (s : State) (off : Nat) : Nat :=
  match regAt off with
  | some r => r.fields.foldl (fun a d => if d.acc == .wo then a else a + s.reg (d.at off) * 2 ^ d.lo) 0
  | none => 0

/-- Sets a list of fields. -/
def State.setFields (l : List (Field × Nat)) (s : State) : State := l.foldl (fun s e => s.setReg e.1 e.2) s

/-- The number of a path for the fault subject and the latches: PF0 0, VFn n, debug 512, service connections 1024
up. -/
def Path.num : Path → Nat
  | .pf0 => 0
  | .vf n => n
  | .svc c => 1024 + c
  | .dbg => 512

/-- The word a read of a path returns. -/
def State.returns (p : Path) (v : Nat) (s : State) : State := { s with readData := s.readData.put p.num v }

/-- Function of a path, for a HIF event's subject. -/
def Path.fn : Path → Nat
  | .vf n => n
  | _ => 0

/-- An interface error concerning a function, at class 0 (R384): recorded at most once a second per function, and
reported in HIF_FN_ERR each time. -/
def State.hifFaultOn (fn r code subj : Nat) (s : State) : State :=
  (s.setFields [(Reg.HIF_FN_ERR_CODE fn, code), (Reg.HIF_FN_ERR_RING fn, r), (Reg.HIF_FN_ERR_VALID fn, 1)]).raisePaced
    (code * 256 + fn) code 0 subj []

def State.hifFault (fn r code : Nat) (s : State) : State := s.hifFaultOn fn r code (subjRing fn r)

/-- One event of block HIF per reserved encoding written (R17, R384).
DEDUCED (log 252). -/
def State.noteBad (p : Path) (n : Nat) (s : State) : State :=
  (List.range n).foldl (fun s _ => s.hifFault p.fn 0 0x0B01) s

/-- A write of a register through a path, under its access codes (R15 to R17, R267, R268). RWL fields change only while
the path has its session open and the change log has room; otherwise they keep their values and one event is recorded.
DEDUCED (log 256). -/
def State.writeWord (p : Path) (off : Nat) (w : Nat) (s : State) : State :=
  let pl := writePlan s off w
  let s1 := (s.noteBad p pl.bad)
  let s2 :=
    if pl.rwl = [] then s1.setFields pl.sets
    else match s1.sessionOf p with
      | none => (s1.note 0x1201 subjNone (leBytes 4 off)).setFields pl.sets
      | some x =>
        if s1.clogRoom x then
          let old := s1.storedWord off
          let t := (s1.setFields pl.sets).setFields pl.rwl
          let t1 := t.clogWrite { x.entry 0x02 with addr := off, old := old, new := t.storedWord off }
          { t1 with auth := { t1.auth with session := some { x with lastAt := s.now } } }
        else (s1.raise 0x120B 1 subjNone (leBytes 4 off)).setFields pl.sets
  s2

/-- Writes that arrive during a warm reset are discarded (R614), and none arrives with CORE off. -/
def State.deaf (s : State) : Bool := s.flag Reg.PWR_STAT_WARM || !s.sys.core

/-- A word whose field `d` is replaced by the value the register holds: a refused field keeps its value.
DEDUCED (log 251). -/
def keepField (s : State) (f : Field) (w : Nat) : Nat :=
  w - bitsAt w f.lo f.width * 2 ^ f.lo + s.reg f * 2 ^ f.lo

/-- A word with every field whose encoding its table reserves replaced by the value the register holds (R17). -/
def State.legalWord (s : State) (off w : Nat) : Nat :=
  match regAt off with
  | some r => r.fields.foldl (fun w d =>
      if d.legal.ok d.width (bitsAt w d.lo d.width) then w else keepField s (d.at off) w) w
  | none => w

end Sys2Proof.Machine
end

