-- ==== Sys2Proof/Machine/Hooks.lean ====
section
/-! DEFINITION. Small operations on the state of later chapters that earlier chapters call. -/
namespace Sys2Proof.Machine

/-- A replaced tray returns its positions to the certified state after a reset (R175). -/
def State.estNewTray (nn k : Nat) (s : State) : State :=
  { s with est := { s.est with pos := s.est.pos.drop fun g => g / 64 == nn && s.branchOf nn (g % 64) == some k } }

/-- Positions the model initialises at its next step; a pending start with starting parameters stays one (R189). -/
def State.mdlFresh (theta : Bool) (g : Nat) (s : State) : State :=
  { s with mdl := { s.mdl with fresh := s.mdl.fresh.put g (theta || s.mdl.fresh.get false g) } }

/-- A replaced tray: its positions start with starting parameters (R189). -/
def State.mdlNewTray (nn k : Nat) (s : State) : State :=
  forAll (s.branchPositions nn k) (fun p s => s.mdlFresh true (nn * 64 + p)) s

/-- A position was released: it starts with its own parameters (R189). -/
def State.mdlReleased (nn p : Nat) (s : State) : State := s.mdlFresh false (nn * 64 + p)

/-- The outputs of every position read STALE until a completed step (R141, R191). -/
def State.mdlStale (s : State) : State :=
  ({ s with mdl := { s.mdl with pos := s.mdl.pos.map fun (e : Nat × ModelPos) =>
      (e.1, { e.2 with out := e.2.out.map fun (o : ModelOut) => { o with stale := true } }) } }).setFields
    [(Reg.EST_MDL_STAT_STALE, 1), (Reg.EST_MDL_STAT_RUN, 0)]

/-- PD_VEC goes off: the outputs are stale, blocks in progress are discarded and the persistence timers restart (R141, R182,
R205, R207). -/
def State.mdlSuspend (s : State) : State :=
  let t := s.mdlStale
  { t with mdl := { t.mdl with
      offAt := t.mdl.offAt.or (some s.turn), zStart := [], zMiss := [], timers := [], mailbox := [], want := [] } }

/-- CORE and every switched domain lose their power; AON stays (R142, R546). -/
def State.coreOff (s : State) : State :=
  (State.dropClaim true { s with sys := { s.sys with core := false } }).setFields
    [(Reg.PWR_DOM_CUR, 0), (Reg.PWR_DOM_IMD, 0), (Reg.PWR_DOM_BNK, 0), (Reg.PWR_DOM_HPA, 0),
     (Reg.PWR_DOM_HPB, 0), (Reg.PWR_DOM_VEC, 0), (Reg.PWR_DOM_MLR, 0), (Reg.PWR_DOM_NET, 0), (Reg.PWR_DOM_PCI, 0)]

end Sys2Proof.Machine
end

