-- ==== Sys2Proof/Machine/SecOps.lean ====
section
/-! DEFINITION. Lifecycle, image slots and debug level: the operations that resets, commits and commands share
(R555 to R581). -/
namespace Sys2Proof.Machine

/-- Lifecycle states (R555). -/
def lcBlank : Nat := 0
def lcCommission : Nat := 1
def lcField : Nat := 2
def lcService : Nat := 3
def lcRetired : Nat := 4

/-- Debug levels (R575). -/
def dbgShut : Nat := 0
def dbgObserve : Nat := 1
def dbgHalt : Nat := 2

/-- An image still meets the fuses: its security version and its key (R566, R567). -/
def State.fwCurrent (s : State) (i : FwImage) : Bool := decide (s.sec.fuseSvn ≤ i.svn) && !bitAt s.sec.revoked i.key

/-- The image a slot of the boot flash holds. -/
def State.fwSlot (s : State) (k : Nat) : Option FwImage := (s.sec.slots.find? fun e => e.1 == k).map (·.2)

/-- The slot that is not active, and the valid image staged there. -/
def State.fwOther (s : State) : Nat := 1 - s.sec.active
def State.fwStaged (s : State) : Option FwImage := (s.fwSlot s.fwOther).filter fun i => s.fwCurrent i

/-- A stage or an activation runs. -/
def State.fwBusy (s : State) : Bool := s.sec.stage.isSome || s.sec.coldAt.isSome || s.sec.live.isSome

/-- A trust anchor is set: SEC_ANCHORw is not all zero. -/
def State.anchorSet (s : State) : Bool := (List.range 12).any fun w => s.reg (Reg.SEC_ANCHOR_HASH w) != 0

/-- The SEC status registers show what MRAM, OTP and the boot flash hold (R583). -/
def State.secRegs (s : State) : State :=
  let x := s.sec
  let stg := s.fwStaged
  s.setFields [(Reg.SEC_LC_STATE, x.lc), (Reg.SEC_LC_PWCHG, bit x.pwChanged), (Reg.SEC_LC_ANCHOR, bit s.anchorSet),
    (Reg.SEC_LC_KEY, bit s.auth.committed.key.isSome), (Reg.SEC_FW_STAT_ACT, x.active),
    (Reg.SEC_FW_STAT_STAGED, bit stg.isSome), (Reg.SEC_FW_STAT_BUSY, bit s.fwBusy), (Reg.SEC_FW_STAT_FUSE_SVN, x.fuseSvn),
    (Reg.SEC_FW_STAT_RUN_SVN, x.run.svn), (Reg.SEC_FW_STAT_STG_SVN, (stg.map (·.svn)).getD 0),
    (Reg.SEC_FW_VER_RUN_VERSION, x.run.version), (Reg.SEC_FW_VER_STG_VERSION, (stg.map (·.version)).getD 0),
    (Reg.SEC_FW_KEYS_REVOKED, x.revoked), (Reg.SEC_FW_KEYS_KEYIDX, x.run.key), (Reg.SEC_DBG_FAILS, sat 255 x.fails),
    (Reg.SEC_DBG_LOCK, sat 65535 ((x.lock + secStrikes - 1) / secStrikes)), (Reg.SEC_DBG_LSH, bit (x.halted.contains 0)),
    (Reg.SEC_DBG_APPH, bit (x.halted.any fun p => decide (1 ≤ p) && decide (p ≤ 4))),
    (Reg.SEC_DBG_VECH, bit (x.halted.contains 5))]

/-- The paths that write command registers: PF0 and a Service connection (R544, R563). -/
def State.powerPath (s : State) (p : Path) : Bool :=
  match p with
  | .pf0 => true
  | .svc c => s.hif.conns.any fun e => e.1 == c && e.2.role == 2
  | _ => false

/-! ## Blocks of a live update (R543, R570) -/

/-- A request for a block that is not BUSY. -/
def State.brstRequest (k : Nat) (s : State) : State :=
  if s.bitOf Reg.PWR_BRST_BUSY k then s
  else
    let s1 := (s.setBit Reg.PWR_BRST_REQ k true).setBit Reg.PWR_BRST_BUSY k true
    { s1 with pwr := { s1.pwr with brstAt := s1.pwr.brstAt.put k s.now } }

/-- The blocks of a MASK in order, as bits of PWR_BRST: VEC, NET, HOP, CAN-A, CAN-B, CAN-C. -/
def fwBlocks (mask : Nat) : List Nat :=
  (if bitAt mask 0 then [0] else []) ++ (if bitAt mask 1 then [1] else []) ++ (if bitAt mask 2 then [2] else [])
    ++ if bitAt mask 3 then [3, 4, 5] else []

/-- A live update ends without effect: every named block is reset again, with the running image's part.
DEDUCED (log 204). -/
def State.liveRevert (s : State) : State :=
  match s.sec.live with
  | some l => (forEach (fwBlocks l.mask) State.brstRequest { s with sec := { s.sec with live := none } }).secRegs
  | none => s

/-- A block reset, a boot and a warm reset leave no processor halted and no action to replay. -/
def SecState.running (x : SecState) : SecState := { x with halted := [], replay := [], release := false, noClaim := false }

/-- The grant in force ends; the end of a HALT grant leads to a warm reset (R581).
DEDUCED (log 211). -/
def State.dbgEnd (s : State) : State :=
  let was := s.reg Reg.SEC_DBG_LEVEL
  if was = dbgShut then s
  else
    let s1 := ({ s with
      sec := s.sec.running
      pwr := { s.pwr with warmDue := if was = dbgHalt then s.pwr.warmDue.or (some 4) else s.pwr.warmDue } }).setFields
        [(Reg.SEC_DBG_LEVEL, dbgShut), (Reg.SEC_DBG_SIGNER, 0)]
    (s1.note 0x1219 subjNone []).secRegs

/-- "Table — Debug matrix": who a level is granted to, 0 L and 1 S, none where it is refused; START is as BRAKE (R577).
DEDUCED (log 210). -/
def debugSigner (lc level power : Nat) : Option Nat :=
  if power = pwEntry ∨ power = pwStandstill then none
  else if lc = lcBlank ∨ lc = lcRetired then some 0
  else if level = dbgObserve then some 1
  else if lc = lcField ∨ power = pwRun then none
  else some 1

/-- A power state that does not grant the level in force ends the grant (R581). -/
def State.dbgCheck (s : State) : State :=
  let l := s.reg Reg.SEC_DBG_LEVEL
  if l ≠ dbgShut ∧ debugSigner s.sec.lc l s.power ≠ some (s.reg Reg.SEC_DBG_SIGNER) then s.dbgEnd else s

/-- What retirement erases (R557).
DEDUCED (log 192). -/
def State.retired (s : State) : State :=
  let c := s.auth.committed
  let anchors := (List.range 12).map fun w => (Reg.SEC_ANCHOR_HASH w, 0)
  let deny := (List.range 16).flatMap fun k => [(Reg.SEC_DENY_LO_FP k, 0), (Reg.SEC_DENY_HI_FP k, 0)]
  let s1 := { s with
    sec := { s.sec with identity := false }
    auth := { s.auth with committed := { c with
      salt := [], tag := [], key := none
      fields := c.fields.drop fun k => decide (0x2040 * 32 ≤ k) && decide (k < 0x2100 * 32) } } }
  (s1.setFields (anchors ++ deny)).dropClaim false

/-- A lifecycle transition takes effect (R556, R557). -/
def State.setLifecycle (n : Nat) (s : State) : State :=
  let s1 := ({ s with sec := { s.sec with lc := n, lcNext := none, retire := none, svcAt := s.now } }).setReg
    Reg.SEC_LC_SVC_LEFT (if n = lcService then s.reg Reg.SEC_LC_SVC_MAX * 60 else 0)
  let s2 := if n = lcRetired then s1.retired else s1
  ((s2.note 0x1217 subjNone []).dbgEnd).secRegs

end Sys2Proof.Machine
end

