-- ==== Sys2Proof/Machine/Means.lean ====
section
/-! DEFINITION. What supervision and other readers take of a turn from the Millpond: sums over the strike records that are
visible (R29, R210). -/
namespace Sys2Proof.Machine

/-- A word without S, O and D. -/
def clean (w : Nat) : Bool := !wS w && !wO w && !wD w

/-! ## The words of CUR -/

def wFine (w : List Nat) : Nat := w.getD 0 0
def wCoarse (w : List Nat) : Nat := w.getD 1 0
def wHall (w : List Nat) : Nat := w.getD 2 0
def wVstr (w : List Nat) : Nat := w.getD 3 0
def wVbus (w : List Nat) : Nat := w.getD 4 0

/-- fine_ok and coarse_ok of R112. -/
def fineOk (w : List Nat) : Bool := clean (wFine w) && decide ((wValue (wFine w)).natAbs ≤ 1800000)
def coarseOk (w : List Nat) : Bool := clean (wCoarse w)

/-- CUR_STAT.SEL as a path, and back. -/
def selOf : Nat → Sel
  | 0 => .fine
  | 1 => .coarse
  | 2 => .hall
  | _ => .none
def Sel.code : Sel → Nat
  | .fine => 0
  | .coarse => 1
  | .hall => 2
  | .none => 3

/-- The selected current in 0.1 mA. -/
def selectedCurrent (sel : Sel) (w : List Nat) : Int :=
  match sel with
  | .fine => wValue (wFine w)
  | .coarse => wValue (wCoarse w) * 10
  | .hall => wValue (wHall w) * 10
  | .none => wValue (wCoarse w) * 10

/-- The word of the path a record names. -/
def StrikeRec.selWord (r : StrikeRec) : Nat := r.cur.getD (min r.sel 2) 0

/-- The word of a position in a record. -/
def StrikeRec.posWord (r : StrikeRec) (g : Nat) : Nat := r.words.get (placeholder r.strike) g

/-! ## Records of a turn -/

/-- The visible records of a turn: those of the turn in hand and of the one before lie among the newest 64. -/
def State.recsOf (s : State) (turn : Nat) : List StrikeRec :=
  (s.mpd.recs.take 64).filter fun r => r.strike / 32 == turn

/-- The visible records of the turn before the present one. -/
def State.lastRecs (s : State) : List StrikeRec := if s.turn = 0 then [] else s.recsOf (s.turn - 1)

/-! ## Sums of a position -/

/-- Sums of a position that nothing has measured. -/
def PosTurn.zero : PosTurn := { n := 0, sum := 0, lo := 0, hi := 0, q := 0, qsum := 0, r := 0, rsum := 0, co := false }

/-- What the sums take from a word. -/
def PosTurn.sees (t : PosTurn) (accepted : Bool) (w : Nat) : PosTurn :=
  let v := wValue w
  let t1 := if accepted then
      { t with n := t.n + 1, sum := t.sum + v
               lo := if t.n = 0 ∨ v < t.lo then v else t.lo, hi := if t.n = 0 ∨ t.hi < v then v else t.hi }
    else t
  let t2 := if clean w then { t1 with q := t1.q + 1, qsum := t1.qsum + v } else t1
  let t3 := if clean w && !wC w then { t2 with r := t2.r + 1, rsum := t2.rsum + v } else t2
  { t3 with co := t3.co || wC w || wO w }

/-- The sums of a position over records; a record tells which of its words R209 accepts. -/
def posSums (l : List StrikeRec) (g : Nat) : PosTurn :=
  l.foldl (fun t r => t.sees (r.used.contains g) (r.posWord g)) PosTurn.zero

/-- The sums of a position over the turn that ended. -/
def State.lastTurn (s : State) (g : Nat) : PosTurn := posSums s.lastRecs g

/-! ## Sums of the string -/

/-- The current of a record can be read: a frame was missing and the held current stands, or the word of the path is no
placeholder (R116, R352). -/
def StrikeRec.hasCurrent (r : StrikeRec) : Bool := bitAt r.miss 18 || r.selWord != placeholder r.strike

/-- Count and sum of the selected currents of records, 0.1 mA. -/
def currentSum (l : List StrikeRec) : Nat × Int :=
  l.foldl (fun a r => if r.hasCurrent then (a.1 + 1, a.2 + r.iSel) else a) (0, 0)

/-- Count and sum of the clean words of a channel of CUR over records. -/
def channelSum (ch : List Nat → Nat) (l : List StrikeRec) : Nat × Int :=
  l.foldl (fun a r => if clean (ch r.cur) then (a.1 + 1, a.2 + wValue (ch r.cur)) else a) (0, 0)

/-- Count, FINE and COARSE of the records in which both can be compared, 0.1 mA (R113). -/
def fineCoarseSum (l : List StrikeRec) : Nat × Int × Int :=
  l.foldl (fun a r =>
    if fineOk r.cur && coarseOk r.cur then (a.1 + 1, a.2.1 + wValue (wFine r.cur), a.2.2 + wValue (wCoarse r.cur) * 10)
    else a) (0, 0, 0)

/-- Count, HALL and the selected shunt path of the records in which both can be compared, 0.1 mA (R114). -/
def hallSum (l : List StrikeRec) : Nat × Int × Int :=
  l.foldl (fun a r =>
    if decide (r.sel < 2) && clean r.selWord && clean (wHall r.cur) then
      (a.1 + 1, a.2.1 + wValue (wHall r.cur) * 10, a.2.2 + selectedCurrent (selOf r.sel) r.cur)
    else a) (0, 0, 0)

/-- Count and sum of the selected current and of VSTR over the turn that ended. -/
def State.lastI (s : State) : Nat × Int := currentSum s.lastRecs
def State.lastV (s : State) : Nat × Int := channelSum wVstr s.lastRecs

end Sys2Proof.Machine
end

