-- ==== Sys2Proof/Machine/Banks.lean ====
section
/-! DEFINITION. The sense banks (chapter 2): what a strike does to a bank, its discovery, its tray branches, its
alignment, its range and corner changes, and the writes of BNK_CTRL. -/
namespace Sys2Proof.Machine

/-- The numbers of the banks. -/
def bankNos : List Nat := List.range 18

/-- The number CUR takes where a command names a lane.
DEDUCED (log 49). -/
def curNo : Nat := 18

/-- Subject of a fault of a whole bank.
DEDUCED (log 48). -/
def subjBank (nn : Nat) : Nat := subjTap nn 0

/-- The global number of a local position. -/
def globalPos (nn p : Nat) : Nat := nn * 64 + p

/-- The positions of a bank that are not vacant. -/
def State.positions (s : State) (nn : Nat) : List Nat := if (s.bank nn).en then List.range (s.bank nn).npos else []

/-- The branches fitted in the commissioned layout (R66). -/
def State.fittedBranches (s : State) (nn : Nat) : List Nat :=
  (List.range 4).filter fun k => (s.layout nn k).fitted

/-- A bank's frames flow: its lane has locked and its identity is read (R68).
DEDUCED (log 30). -/
def State.sendsFrames (s : State) (nn : Nat) : Bool :=
  (s.bank nn).en && s.bankOn nn
    && match (s.bank nn).step with | .off => false | .lane => false | .failed => false | _ => true

/-! ## The strike frame (R28, R59) -/

/-- Strikes into the dwell in progress. -/
def Check.into (c : Check) (n : Nat) : Nat := n - c.dwStart

/-- The compare window is open at a strike (R87). -/
def State.windowOpen (s : State) (nn : Nat) : Bool :=
  let c := s.check nn
  c.dwOn && decide (c.dwStart ≤ s.now) && decide (settleCount (s.bank nn).fc ≤ c.into s.now)
    && decide (c.into s.now < c.dwTurns * 32)

/-- The check word of a strike (R49, R87). -/
def State.checkWord (s : State) (b : BankIn) : Nat :=
  let k := s.bank b.bank
  sampleWord (linear k.survey b.check) (s.settling b.bank || !s.windowOpen b.bank) (overrange k.survey b.check) false
    (k.step != .released || s.dAlign b.bank) s.now

/-- Bytes with the bits turned that a lane has turned in them. -/
def hit (err : List (Nat × Nat)) (l : List Nat) : List Nat :=
  err.foldl (fun l e => l.set e.1 (l.getD e.1 0 ^^^ e.2 % 256)) l

/-- The comparator states of a frame: bit 2k under, bit 2k + 1 over threshold of position k; and back. -/
def cmpStates (lo hi : Nat) : Nat :=
  (List.range 64).foldl (fun a k => a + (bit (bitAt lo k) + 2 * bit (bitAt hi k)) * 4 ^ k) 0
def cmpBits (w part : Nat) : Nat :=
  (List.range 64).foldl (fun a k => a + bit (bitAt w (2 * k + part)) * 2 ^ k) 0

/-- Bytes 0 to 315 of a bank's frame ("Table — Bank strike frame"). The fields of bytes 292 to 299 and 300 to 315 have no
layout in the manual: presence, relay and supply a byte each, the round trip in ps and the trim code.
DESIGN CHOICE (log 274). -/
def State.bankBody (s : State) (b : BankIn) : List Nat :=
  let nn := b.bank
  let temps := s.phase == 31
  [nn, bit temps + 2 * bit (s.windowOpen nn) + 4 * bit b.relayFb + 8 * bit ((s.bank nn).step == .released)]
    ++ leBytes 2 (if temps then 452 else 320) ++ leBytes 8 b.strikeNo
    ++ (List.range 64).flatMap (fun p => leBytes 4 (s.posWord nn p s.now (b.v.getD p 0))) ++ leBytes 4 (s.checkWord b)
    ++ [(s.check nn).dwPos, 0, 0, 0] ++ leBytes 16 (cmpStates b.cmpUnder b.cmpOver)
    ++ [b.pres % 16, bit b.relayFb, bit (!(s.bank nn).supplyBad), 0, 0, 0, 0, 0]
    ++ leBytes 8 (b.roundTrip.getD 0).toNat ++ leBytes 2 (s.reg (Reg.BNK_LANE_TRIM nn)) ++ List.replicate 6 0

/-- The first 320 bytes of a bank's frame. -/
def State.bankFrame (s : State) (b : BankIn) : List Nat := let l := s.bankBody b; l ++ leBytes 4 (crc32 l)

/-- A frame is accepted at strike `n`: it came in time, its CRC over all but its last 4 bytes is right, it carries the number
of its source and of the strike (R28, R59). -/
def frameAccepted (onTime : Bool) (rx : List Nat) (src n : Nat) : Bool :=
  let k := rx.length - 4
  onTime && leAt rx k 4 == crc32 (rx.take k) && rx.getD 0 256 == src && leAt rx 4 8 == n

/-- What the controller takes of a bank's frame: nothing where it is not accepted, and the comparator states as received.
The sample words of an accepted frame are read by `frameWords`. -/
def State.received (s : State) (b : BankIn) : BankIn :=
  if b.onTime then
    let rx := hit b.err (s.bankFrame b)
    if frameAccepted b.onTime rx b.bank s.now then
      { b with cmpUnder := cmpBits (leAt rx 276 16) 0, cmpOver := cmpBits (leAt rx 276 16) 1 }
    else { b with onTime := false }
  else b

/-- The frame of a bank, received, is accepted at the present strike. -/
def State.frameOk (s : State) (b : BankIn) : Bool := s.sendsFrames b.bank && b.onTime

/-- The words of a bank's frame, local position 0 first, the check word last; placeholders for a missing frame (R28, R49,
R52). -/
def State.frameWords (s : State) (b : BankIn) (ok : Bool) : List Nat :=
  if ok then
    let rx := hit b.err (s.bankBody b)
    (List.range 65).map fun p => leAt rx (12 + 4 * p) 4
  else List.replicate 65 (placeholder s.now)

/-! ## What a strike does to a bank -/

/-- The C flags of a bank as BNK_CFLAG shows them. -/
def State.showCFlags (nn : Nat) (s : State) : State :=
  let c := (s.check nn).cNow
  (s.setReg (Reg.BNK_CFLAG_LO_CFLAG nn) (c % 2 ^ 32)).setReg (Reg.BNK_CFLAG_HI_CFLAG nn) (c / 2 ^ 32)

/-- Strike 0: the trim step decided in the turn before is applied (R61), C flags change (R89), and the excursions of
the last open-wire turn give way. -/
def State.bankTurnStart (nn : Nat) (s : State) : State :=
  let s1 := match (s.bank nn).trimNext with
    | some t => (s.setReg (Reg.BNK_LANE_TRIM nn) t).updBank nn fun b => { b with trimNext := none }
    | none => s
  (s1.updCheck nn fun c => { c with cNow := c.cNext, halves := [] }).showCFlags nn

/-- Harness relay feedback at a strike (R72).
DEDUCED (log 33). -/
def State.bankRelay (nn : Nat) (fb : Bool) (s : State) : State :=
  let s1 := s.setFlag (Reg.BNK_STAT_RELAY nn) fb
  if fb == (s.bank nn).relayCmd then
    (s1.updBank nn fun b => { b with relayDis := 0 }).goneAt 0x020D (subjBank nn)
  else s1.updBank nn fun b => { b with relayDis := b.relayDis + 1 }

/-- Presence of one branch at a strike (R68 to R71). -/
def State.branchPresence (nn pres k : Nat) (s : State) : State :=
  let p := bitAt pres k
  ((s.setBit (Reg.BNK_STAT_BR_PRES nn) k p).setFlag (Reg.BNK_BR_PRES nn k) p).updBank nn fun b =>
    { b with presRun := b.presRun.put k (if p then b.presRun.get 0 k + 1 else 0)
             absRun := b.absRun.put k (if p then 0 else b.absRun.get 0 k + 1) }

/-- The trim code that a mean of one-way delays asks for, in exact arithmetic (R60, R61). The delays are kept twice
their value. -/
def wantTrim (b : Bank) : Rat :=
  let n : Rat := (b.oneways.length : Nat)
  let avg : Rat := if b.oneways = [] then 0 else (b.oneways.foldl (· + ·) 0 : Int) / (2 * n)
  (60000 - avg - (b.aperture : Rat)) / 5

/-- The filtered one-way delay in ps. -/
def meanDelay (b : Bank) : Rat :=
  if b.oneways = [] then 0 else (b.oneways.foldl (· + ·) 0 : Int) / (2 * ((b.oneways.length : Nat) : Rat))

/-- A trim code lies within range (R62). -/
def trimInRange (w : Rat) : Bool := decide (0 ≤ w) && decide (w ≤ 4000)

/-- The lane of a bank or of CUR after the round-trip measurement of strike 31 (R61, R62). `applied`: trim code in
force; `assured`: alignment is assured. -/
def laneMeasured (assured : Bool) (applied : Nat) (rt : Option Int) (b : Bank) : Bank :=
  match rt with
  | none => { b with noRt := b.noRt + 1, goodRt := 0 }
  | some r =>
    let b1 := { b with oneways := ((r - b.turnaround - b.asym) :: b.oneways).take 8, noRt := 0 }
    let w := wantTrim b1
    let inr := trimInRange w
    let d : Rat := w - (applied : Rat)
    let step : Option Nat :=
      if assured && inr then
        if 5 ≤ d then some (applied + 1) else if d ≤ -5 then some (applied - 1) else none
      else none
    { b1 with goodRt := if inr then b1.goodRt + 1 else 0, trimOut := !inr, trimNext := step.or b1.trimNext }

/-- Strike 31: round trip and trim of a bank (R61). -/
def State.bankRoundTrip (nn : Nat) (rt : Option Int) (s : State) : State :=
  let b1 := laneMeasured (s.flag (Reg.BNK_STAT_ALIGN nn)) (s.reg (Reg.BNK_LANE_TRIM nn)) rt (s.bank nn)
  let s1 := (s.setBank nn b1).setReg (Reg.BNK_LANE_DELAY nn) (unsigned 16 (Config.round (meanDelay b1 / 2)))
  if rt.isSome then s1.goneAt 0x0206 (subjBank nn) else s1

/-- The NORMAL-range check of a position sees one word (R620); at strike 31 the turn is judged. The placeholder of a missing
frame is a word with S = 0 and O = 0. -/
def normSees (last : Bool) (w : Nat) (c : NormCheck) : NormCheck :=
  if c.failed || c.passed then c
  else if !wS w && wO w then { c with failed := true }
  else
    let k := if wS w then c.words else c.words + 1
    if last then { c with words := 0, turns := if 24 ≤ k then c.turns + 1 else c.turns } else { c with words := k }

/-- The NORMAL-range checks of a bank at a strike. -/
def State.bankNorm (nn : Nat) (words : List Nat) (s : State) : State :=
  s.updBank nn fun b => { b with norm := b.norm.map fun e => (e.1, normSees (s.phase == 31) (words.getD e.1 0) e.2) }

/-- SURVEY averaging of discovery: words with S = 0 are summed; whole turns of them are counted (R68). -/
def State.bankSurvey (nn : Nat) (words : List Nat) (s : State) : State :=
  let b := s.bank nn
  if b.step == .survey && b.survey && !s.settling nn then
    let sums := (s.positions nn).foldl (fun t p => t.put p (t.get 0 p + wValue (words.getD p 0))) b.surveySum
    s.setBank nn { b with surveySum := sums, surveyTurns := b.surveyTurns + 1 }
  else s

/-- One strike of the settling count has passed (R56).
DEDUCED (log 247). -/
def State.settleTick (nn : Nat) (s : State) : State :=
  let c := s.reg (Reg.BNK_STAT_SETTLE_CNT nn)
  let s1 := s.setReg (Reg.BNK_STAT_SETTLE_CNT nn) (c - 1)
  s1.setFlag (Reg.BNK_STAT_SETTLING nn) (decide (1 < c))

/-- Every position of a list has passed its open-wire and its balance-conductor turn (R84). -/
def wiringDone (b : Bank) (l : List Nat) : Bool := l.all fun p => bitAt b.owPass p && bitAt b.bcPass p

/-- Clears the wiring passes of positions, so that they are checked again. -/
def wiringAgain (l : List Nat) (b : Bank) : Bank :=
  { b with owPass := l.foldl (fun a p => putBit a p false) b.owPass
           bcPass := l.foldl (fun a p => putBit a p false) b.bcPass }

/-- Moves a bank to a discovery step. -/
def State.toStep (nn : Nat) (d : DiscStep) (s : State) : State :=
  s.updBank nn fun b => { b with step := d, stepAt := s.now }

/-- The order number of a range or corner change written now: later than every waiting one.
DEDUCED (log 29). -/
def State.nextOrder (s : State) : Nat :=
  1 + s.bnk.foldl (fun a e => match e.2.chg with | some (_, _, o) => max a o | none => a) 0

/-- The module itself selects a range for a bank, at the next strike 0 (R56, R68). -/
def State.selectRange (nn : Nat) (survey : Bool) (s : State) : State :=
  s.updBank nn fun b =>
    let fc := match b.chg with | some (f, _, _) => f | none => b.fc
    { b with chg := if fc = b.fc ∧ survey = b.survey then none else some (fc, survey, s.nextOrder) }

/-- The step after the tray records: SURVEY with the contactors open, the NORMAL-range check otherwise (R68, R525). -/
def State.afterTrays (nn : Nat) (s : State) : State :=
  if s.contactorClosed then
    let s1 := s.toStep nn .normal
    s1.updBank nn fun b =>
      { b with norm := (s.positions nn).map fun p => (p, { turns := 0, words := 0, failed := false, passed := false }) }
  else ((s.toStep nn .survey).selectRange nn true).updBank nn fun b => { b with surveySum := [], surveyTurns := 0, norm := [] }

/-- A returned branch whose NORMAL-range and wiring checks have all passed is released (R70).
DEDUCED (log 33); DESIGN CHOICE (log 278). -/
def State.branchProgress (nn k : Nat) (s : State) : State :=
  let b := s.bank nn
  let l := s.branchPositions nn k
  if bitAt b.returning k && l.all (fun p => (b.norm.get ⟨0, 0, false, false⟩ p).passed) && wiringDone b l then
    let s1 := (s.setBit (Reg.BNK_STAT_BR_OK nn) k true).updBank nn fun b =>
      { b with returning := putBit b.returning k false, norm := b.norm.drop fun p => l.contains p }
    forAll l (fun p s => (s.updCheck nn fun c => { c with lastDwell := c.lastDwell.put p (s.turn + 1) }).mdlReleased nn p) s1
  else s

/-- Discovery moves on where a step of it needs no command: relay, presence, NORMAL range settled (R68). -/
def State.bankProgress (nn : Nat) (s : State) : State :=
  let b := s.bank nn
  match b.step with
  | .relay =>
    if s.flag (Reg.BNK_STAT_RELAY nn) then (s.toStep nn .presence).updBank nn fun b => { b with tempSeen := 0 } else s
  | .presence =>
    if (s.fittedBranches nn).all (fun k => decide (64 ≤ b.presRun.get 0 k)) then
      (s.toStep nn .tray).updBank nn fun b => { b with trays := [], trayOk := 0 }
    else s
  | .normal =>
    if !b.survey && b.chg.isNone && !s.settling nn && b.norm.all (fun e => e.2.passed) && s.phase == 31 then
      (s.toStep nn .wiring).updBank nn (wiringAgain (List.range 64))
    else s
  | .released => forEach (List.range 4) (State.branchProgress nn) s
  | _ => s

/-- What the present strike does to a bank before its words are taken. -/
def State.bankStrikeHead (b : BankIn) (s : State) : State :=
  let nn := b.bank
  let s1 := doIf (s.phase == 0) (State.bankTurnStart nn) s
  if s1.frameOk b then forEach (List.range 4) (State.branchPresence nn b.pres) (s1.bankRelay nn b.relayFb) else s1

/-- What the present strike does to a bank after its words are taken. -/
def State.bankStrikeTail (b : BankIn) (words : List Nat) (s : State) : State :=
  let nn := b.bank
  let s0 := if s.sendsFrames nn then s.bankNorm nn words else s
  let s1 := if s0.frameOk b then s0.bankSurvey nn words else s0
  let s2 := doIf (s1.phase == 31 && s1.sendsFrames nn) (State.bankRoundTrip nn b.roundTrip) s1
  (s2.settleTick nn).bankProgress nn

/-! ## Register writes -/

/-- The address of BNK_CTRL of a bank. -/
def bnkCtrlAt (nn : Nat) : Nat := 0x10000 + nn * 0x800

/-- A write may change RWL fields: its path holds the session and the change log has room (R261, R268). -/
def State.mayRwl (s : State) (p : Path) : Bool :=
  match s.sessionOf p with
  | some x => s.clogRoom x
  | none => false

/-- A write from which refused RWL fields have been taken: where no other RWL field would change, the want of a session is
recorded here (R16).
DEDUCED (log 32). -/
def State.writeRest (p : Path) (off w : Nat) (s : State) : State :=
  (if (writePlan s off w).rwl = [] ∧ (s.sessionOf p).isNone then s.note 0x1201 subjNone (leBytes 4 off) else s).writeWord p off w

/-- A refused field of a write word keeps the value it has, with the record of the refusal.
DEDUCED (log 32). -/
def refuseIf (c : Bool) (f : Field) (rec_ : State → State) (a : State × Nat) : State × Nat :=
  if c then (rec_ a.1, keepField a.1 f a.2) else a

/-- BNK_STAT.PEND: a change waits while a contactor is closed (R58). -/
def State.showPend (nn : Nat) (s : State) : State :=
  s.setFlag (Reg.BNK_STAT_PEND nn) ((s.bank nn).chg.isSome && s.contactorClosed)

/-- The range or corner written to a bank waits for a strike 0, or withdraws a waiting change (R56 to R58). A write that leaves
the waiting change as it is keeps its place.
DEDUCED (log 28). -/
def State.noteChange (nn : Nat) (oldRange : Nat) (s : State) : State :=
  let b := s.bank nn
  let fc := s.reg (Reg.BNK_CTRL_FC nn)
  let r := s.reg (Reg.BNK_CTRL_RANGE nn)
  let sv := if r = oldRange then (match b.chg with | some (_, v, _) => v | none => b.survey) else r == 1
  let order := match b.chg with
    | some (f, v, o) => if f = fc ∧ v = sv then o else s.nextOrder
    | none => s.nextOrder
  let chg := if fc = b.fc ∧ sv = b.survey then none else some (fc, sv, order)
  (s.updBank nn fun b => { b with chg := chg }).showPend nn

/-- A write of BNK_CTRL (R6, R47, R58, R65, R73). EN beyond the build, EN that leaves a gap, and EN, NPOS or SURVEY while
a contactor is closed are refused: the field keeps its value. The refusal under a closed contactor is recorded with a session
or without, beside the want of one.
DEDUCED (log 32). -/
def State.bnkCtrlWrite (p : Path) (nn : Nat) (w : Nat) (s : State) : State :=
  let may := s.mayRwl p
  let en := s.reg (Reg.BNK_CTRL_EN nn)
  let wEn := bitsAt w 0 1
  let wNpos := bitsAt w 8 7
  let oldRange := s.reg (Reg.BNK_CTRL_RANGE nn)
  let closed := s.contactorClosed
  let chEn := wEn != en
  let chNpos := wNpos != s.reg (Reg.BNK_CTRL_NPOS nn) && decide (8 ≤ wNpos) && decide (wNpos ≤ 64)
  let beyond := may && chEn && wEn == 1 && decide (s.populated ≤ nn)
  let gap := may && chEn && !beyond
    && ((wEn == 1 && decide (0 < nn) && !s.flag (Reg.BNK_CTRL_EN (nn - 1)))
        || (wEn == 0 && decide (nn < 17) && s.flag (Reg.BNK_CTRL_EN (nn + 1))))
  let whileClosed := closed && !beyond && !gap && chEn
  let note := fun (s : State) => s.note 0x020C (subjBank nn) []
  let a := refuseIf beyond (Reg.BNK_CTRL_EN nn) (fun s => s.raise 0x0201 1 (subjBank nn) []) (s, w)
  let a := refuseIf gap (Reg.BNK_CTRL_EN nn) (fun s => s.raise 0x0202 1 (subjBank nn) []) a
  let a := refuseIf whileClosed (Reg.BNK_CTRL_EN nn) note a
  let a := refuseIf (closed && chNpos) (Reg.BNK_CTRL_NPOS nn) (if whileClosed then id else note) a
  let a := refuseIf (closed && bitsAt w 20 1 == 1 && oldRange == 0) (Reg.BNK_CTRL_RANGE nn) note a
  let only := fun (x : Nat) => if s.populated ≤ nn then keepField s (Reg.BNK_CTRL_RANGE nn)
    (keepField s (Reg.BNK_CTRL_FC nn) (keepField s (Reg.BNK_CTRL_NPOS nn) x)) else x
  let put := fun (x : State) => if whileClosed || (closed && chNpos) then x.writeRest p (bnkCtrlAt nn) (only a.2)
    else x.writeWord p (bnkCtrlAt nn) (only a.2)
  (put a.1).noteChange nn oldRange

/-- BNK_CTRL_WRITE. A write during a warm reset is discarded (R614). -/
def execBnkCtrlWrite (path : Path) (nn : Nat) (w : Word) (s : State) : Host.Outcome State Fault Refusal :=
  .next (if !s.deaf && decide (nn < 18) then s.bnkCtrlWrite path nn w.toNat else s)

/-! ## Changes at strike 0 -/

/-- The settling count that a change of range or corner starts (R56). -/
def changeCount (rangeToo : Bool) (fc : Nat) : Nat := if rangeToo then 32 + settleCount fc else settleCount fc

/-- The dwell of the check converter for a corner, in turns (R86). -/
def dwellTurns (fc : Nat) : Nat := (settleCount fc + 16 + 31) / 32

/-- The first strike 0 at or after a strike. -/
def nextStrike0 (n : Nat) : Nat := (n + 31) / 32 * 32

/-- The dwell in progress ends without a result; the next starts on the same position at the first strike 0 after the
last S-flagged word (R90). -/
def State.restartDwell (nn count : Nat) (s : State) : State :=
  let d := dwellTurns (s.bank nn).fc
  (s.updCheck nn fun c =>
    { c with dwStart := nextStrike0 (s.now + 1 + count), dwTurns := d, winN := 0, winPos := 0, winChk := 0
             sigFail := false }).setReg (Reg.BNK_CHK_STAT_DWELL nn) d

/-- The waiting change of a bank takes effect (R56, R57). -/
def State.applyChange (nn : Nat) (s : State) : State :=
  match (s.bank nn).chg with
  | none => s
  | some (fc, sv, _) =>
    let cnt := changeCount (sv != (s.bank nn).survey) fc
    let s1 := (s.updBank nn fun b => { b with fc := fc, survey := sv, chg := none }).setFlag (Reg.BNK_STAT_PEND nn) false
    if s.bankOn nn then
      ((s1.setReg (Reg.BNK_STAT_SETTLE_CNT nn) cnt).setFlag (Reg.BNK_STAT_SETTLING nn) true).restartDwell nn cnt
    else s1

/-- The order of the waiting change of a bank, none without one. -/
def Bank.order (b : Bank) : Option Nat := b.chg.map fun c => c.2.2

/-- A deferred change may take effect at this strike 0: no other bank is settling and none was written earlier (R58).
DEDUCED (log 29). -/
def State.changeTurn (s : State) (nn : Nat) : Bool :=
  bankNos.all (fun m => m == nn || !s.settling m)
    && match (s.bank nn).order with
      | some o => s.bnk.all fun e => match e.2.order with | some o' => decide (o ≤ o') | none => true
      | none => false

/-- The waiting changes of the banks at a strike 0: all of them with the string open, at most one with it closed.
DEDUCED (log 29). -/
def State.applyChanges (s : State) : State :=
  if s.contactorClosed then
    forEach bankNos State.showPend (match bankNos.find? s.changeTurn with
      | some nn => s.applyChange nn
      | none => s)
  else forEach bankNos State.applyChange s

/-- A bank newly enabled: its domain is switched on (R73). It starts in NORMAL range, as discovery does, whatever RANGE reads:
a RANGE of 1 that was written before waits for another write.
DESIGN CHOICE (log 277). -/
def State.bankAdded (nn : Nat) (s : State) : State :=
  let b := s.bank nn
  let s1 := (s.setBank nn { Bank.initial with
    en := true, npos := s.reg (Reg.BNK_CTRL_NPOS nn), fc := s.reg (Reg.BNK_CTRL_FC nn), shut := b.shut }).setReg
      (Reg.BNK_CHK_STAT_DWELL nn) (dwellTurns (s.reg (Reg.BNK_CTRL_FC nn)))
  if b.shut then s1 else (s1.setBit Reg.PWR_DOM_BNK nn true).setCheck nn Check.initial

/-- The status registers of a bank whose domain is off. -/
def State.bankStatusOff (nn : Nat) (s : State) : State :=
  s.setFields [(Reg.BNK_STAT_LANE nn, 0), (Reg.BNK_STAT_ALIGN nn, 0), (Reg.BNK_STAT_RELAY nn, 0),
    (Reg.BNK_STAT_REL nn, 0), (Reg.BNK_STAT_SETTLING nn, 0), (Reg.BNK_STAT_BR_PRES nn, 0),
    (Reg.BNK_STAT_BR_OK nn, 0), (Reg.BNK_STAT_SETTLE_CNT nn, 0)]

/-- The domain of a bank goes off: every switch and its relay open, nothing of it runs (R73, R144). -/
def State.bankPowerOff (nn : Nat) (s : State) : State :=
  ((s.setBit Reg.PWR_DOM_BNK nn false).bankStatusOff nn).updBank nn fun b =>
    { b with step := .off, relayCmd := false, lost := 0, returning := 0, norm := [] }

/-- The checks of a bank under a new number of positions: a dwell on a position that is vacant now gives way to one on
position 0, a comparator test waiting for such a position is dropped, and its findings go with it (R65, R86, R98). -/
def State.checksCut (nn npos : Nat) (s : State) : State :=
  let c := s.check nn
  let keep := fun (m : Nat) => m % 2 ^ npos
  let s1 := s.setCheck nn { c with
    cmpRetest := if npos < c.cmpRetest then 0 else c.cmpRetest, cNow := keep c.cNow, cNext := keep c.cNext
    bcIConf := keep c.bcIConf, bcXConf := keep c.bcXConf, bleedConf := keep c.bleedConf, tapOpen := c.tapOpen % 2 ^ (npos + 1)
    tapHigh := c.tapHigh % 2 ^ (npos + 1), frozen := c.frozen.drop fun p => decide (npos ≤ p)
    lastDwell := c.lastDwell.drop fun p => decide (npos ≤ p) }
  if npos ≤ c.dwPos then
    let d := dwellTurns (s.bank nn).fc
    ((s1.updCheck nn fun c =>
      { c with dwPos := 0, dwRetest := false, dwStart := nextStrike0 (s.now + 1), dwTurns := d, winN := 0, winPos := 0
               winChk := 0, sigFail := false }).setReg (Reg.BNK_CHK_STAT_IDX nn) 0).setReg (Reg.BNK_CHK_STAT_DWELL nn) d
  else s1

/-- The steps of discovery from presence on run again (R73). -/
def State.rediscover (nn : Nat) (s : State) : State :=
  (((s.checksCut nn (s.reg (Reg.BNK_CTRL_NPOS nn))).setFields [(Reg.BNK_STAT_REL nn, 0), (Reg.BNK_STAT_BR_OK nn, 0)]).updBank nn fun b =>
    { b with npos := s.reg (Reg.BNK_CTRL_NPOS nn), lost := 0, returning := 0, norm := [], trays := [], trayOk := 0
             presRun := [], surveySum := [], surveyTurns := 0 }).toStep nn .presence

/-- An accepted EN or NPOS takes effect (R73). -/
def State.applyConfig (nn : Nat) (s : State) : State :=
  let b := s.bank nn
  let en := s.flag (Reg.BNK_CTRL_EN nn)
  if en && !b.en then s.bankAdded nn
  else if !en && b.en then (s.bankPowerOff nn).updBank nn fun b => { b with en := false }
  else if en && s.reg (Reg.BNK_CTRL_NPOS nn) != b.npos then
    if s.sendsFrames nn then s.rediscover nn else s.updBank nn fun b => { b with npos := s.reg (Reg.BNK_CTRL_NPOS nn) }
  else s

/-- BANK_CONFIG_APPLY: every accepted change, just before the strike 0 at which it counts. -/
def execBankConfigApply (s : State) : Host.Outcome State Fault Refusal :=
  .next (if s.atStrike0 && s.runOrTrim then forEach bankNos State.applyConfig s else s)

/-! ## Discovery -/

/-- BANK_DISCOVERY: PD_Bnn has been switched on (R68). -/
def execBankDiscovery (nn : Nat) (s : State) : Host.Outcome State Fault Refusal :=
  .next (if (s.bank nn).en && s.bankOn nn && (s.bank nn).step == .off then
      (s.toStep nn .lane).updBank nn fun b => { b with onAt := s.now }
    else s)

/-- The lane and the identity of a bank after discovery's measurements (R61, R68). -/
def lockedLane (r : LaneIn) (b : Bank) : Bank :=
  { b with serial := r.serial, aperture := r.aperture, asym := r.asym, turnaround := r.turnaround
           oneways := (r.rts.map fun t => t - r.turnaround - r.asym).reverse, noRt := 0, goodRt := 0 }

/-- A bank whose lane has locked. The trim comes from the mean of all 32 measurements; the last 8 go on. -/
def State.laneLocked (nn : Nat) (r : LaneIn) (s : State) : State :=
  let b := lockedLane r (s.bank nn)
  let w := wantTrim b
  let ok := trimInRange w
  let s1 := s.setBank nn { b with oneways := b.oneways.take 8, trimOut := !ok, relayCmd := true, relayDis := 0 }
  let s2 := s1.setFields [(Reg.BNK_STAT_LANE nn, 1), (Reg.BNK_STAT_ALIGN nn, bit ok),
    (Reg.BNK_LANE_DELAY nn, unsigned 16 (Config.round (meanDelay b / 2)))]
  let s3 := if ok then s2.setReg (Reg.BNK_LANE_TRIM nn) (Config.round w).toNat
    else s2.raiseLevel 0x0205 2 (subjBank nn) []
  (s3.goneAt 0x0203 (subjBank nn)).toStep nn .relay

/-- The lane or the identity of a bank failed (R63, R68). -/
def State.laneFailed (nn : Nat) (s : State) : State :=
  (s.raiseLevel 0x0203 3 (subjBank nn) []).toStep nn .failed

/-- The record of a tray ID device (R64). -/
def parseTray (l : List Nat) : Tray :=
  { valid := l.length == 32 && l.getD 31 256 == crc8 (l.take 31) && l.getD 0 0 == 1
    chem := l.getD 1 0, first := l.getD 2 0, count := l.getD 3 0, serial := leAt l 4 8, par := leAt l 14 2
    cap := leAt l 16 4 }

/-- A record matches the commissioned layout but for its serial (R67). -/
def Tray.matches (t : Tray) (l : Layout) : Bool :=
  t.valid && t.chem == l.chem && t.first == l.first && t.count == l.count && t.cap == l.cap

/-- The registers of a branch show its record. -/
def State.showTray (nn k : Nat) (t : Tray) (s : State) : State :=
  let s1 := s.setFlag (Reg.BNK_BR_VALID nn k) t.valid
  if t.valid then s1.setFields [(Reg.BNK_BR_FIRST nn k, t.first), (Reg.BNK_BR_COUNT nn k, t.count),
    (Reg.BNK_BR_CHEM nn k, t.chem), (Reg.BNK_BR_SER_LO_SER nn k, t.serial % 2 ^ 32),
    (Reg.BNK_BR_SER_HI_SER nn k, t.serial / 2 ^ 32)] else s1

/-- Checks the record of a branch (R67): a mismatch raises 0x020A, another serial records 0x0210 and passes. -/
def State.checkTray (nn k : Nat) (t : Tray) (s : State) : State :=
  let l := s.layout nn k
  let s1 := (s.showTray nn k t).updBank nn fun b =>
    { b with trays := b.trays.put k t, trayOk := putBit b.trayOk k (t.matches l) }
  if t.matches l then
    let s2 := s1.goneAt 0x020A (subjTap nn k)
    if t.serial = l.serial then s2
    else ((s2.note 0x0210 (subjTap nn k) (leBytes 8 l.serial ++ leBytes 8 t.serial)).estNewTray nn k).mdlNewTray nn k
  else s1.raiseLevel 0x020A 1 (subjTap nn k) []

/-- A branch still waits for its record in the tray step. -/
def State.trayWaits (s : State) (nn k : Nat) : Bool :=
  (s.bank nn).step == .tray && (s.layout nn k).fitted && !(s.bank nn).trays.any fun e => e.1 == k

/-- TRAY_ID_CHECK. After the last record the bank goes on to the next step, whether or not every record passed. -/
def execTrayIdCheck (nn k : Nat) (bytes : List Nat) (s : State) : Host.Outcome State Fault Refusal :=
  .next (if decide (k < 4) && s.trayWaits nn k then
      let s1 := s.checkTray nn k (parseTray bytes)
      if (List.range 4).any (s1.trayWaits nn) then s1 else s1.afterTrays nn
    else s)

/-- The mean a position read over the SURVEY turns lies between -0.5 V and +5.2 V. -/
def surveyGood (b : Bank) (p : Nat) : Bool :=
  let v := b.surveySum.get 0 p
  let n : Int := b.surveyTurns
  decide (-500000 * n ≤ v) && decide (v ≤ 5200000 * n)

/-- The survey of a bank (R68): the first failing position is named, and the bank returns to NORMAL range. -/
def State.surveyJudged (nn : Nat) (s : State) : State :=
  let b := s.bank nn
  match (s.positions nn).find? fun p => !surveyGood b p with
  | some p => ((s.raiseLevel 0x020B 1 (subjPos (globalPos nn p)) []).toStep nn .surveyFailed).selectRange nn false
  | none => (s.toStep nn .normal).selectRange nn false

/-- SURVEY_CHECK, after 32 turns of settled words. -/
def execSurveyCheck (nn : Nat) (s : State) : Host.Outcome State Fault Refusal :=
  .next (if (s.bank nn).step == .survey && decide (32 * 32 ≤ (s.bank nn).surveyTurns) then s.surveyJudged nn else s)

/-- The check of a position is complete but not acted on. -/
def State.normDue (s : State) (nn p : Nat) : Bool :=
  match (s.bank nn).norm.find? fun e => e.1 == p with
  | some e => !e.2.passed && (e.2.failed || decide (32 ≤ e.2.turns))
  | none => false

/-- A position has passed its NORMAL-range check (R620); when it was the last of its branch, the wiring checks of the
branch begin (R70). -/
def State.normPassed (nn p : Nat) (s : State) : State :=
  let s1 := s.updBank nn fun b => { b with norm := b.norm.map fun e => if e.1 = p then (e.1, { e.2 with passed := true }) else e }
  match s.branchOf nn p with
  | some k =>
    let l := s.branchPositions nn k
    if bitAt (s.bank nn).returning k && l.all fun q => ((s1.bank nn).norm.get ⟨0, 0, false, false⟩ q).passed then
      s1.updBank nn (wiringAgain l)
    else s1
  | none => s1

/-- A position has failed it: the bank, or the returning branch, stays unreleased. -/
def State.normFailed (nn p : Nat) (s : State) : State :=
  let s1 := s.raiseLevel 0x020B 1 (subjPos (globalPos nn p)) []
  if (s.bank nn).step == .released then
    match s.branchOf nn p with
    | some k => s1.updBank nn fun b =>
        { b with returning := putBit b.returning k false
                 norm := b.norm.drop fun q => (s.branchPositions nn k).contains q }
    | none => s1
  else (s1.toStep nn .surveyFailed).updBank nn fun b => { b with norm := [] }

/-- NORMAL_RANGE_CHECK. -/
def execNormalRangeCheck (nn p : Nat) (s : State) : Host.Outcome State Fault Refusal :=
  .next (if s.normDue nn p then
      if ((s.bank nn).norm.get ⟨0, 0, false, false⟩ p).failed then s.normFailed nn p else s.normPassed nn p
    else s)

/-- The number of the first module-level input. -/
def tempM : Nat := 576

/-- Type of input `j`: 0 not fitted, 1 NTC, 2 remote diode (R126). -/
def State.tempType (s : State) (j : Nat) : Nat :=
  if j < tempM then
    let i := j % 32
    if i < 16 then bitsAt (s.reg (Reg.THM_TYPE_BL_TYPE (j / 32))) (2 * i) 2
    else bitsAt (s.reg (Reg.THM_TYPE_BH_TYPE (j / 32))) (2 * (i - 16)) 2
  else if j < tempM + 2 then 1
  else bitsAt (s.reg Reg.THM_TYPE_M_M27) (2 * (j - tempM - 2)) 2

def State.tempFitted (s : State) (j : Nat) : Bool := s.tempType j != 0

/-- Every fitted temperature input of a bank has delivered a conversion since the harness relay closed, or has failed (R68). -/
def State.tempsReady (s : State) (nn : Nat) : Bool :=
  (List.range 32).all fun i =>
    !s.tempFitted (nn * 32 + i) || bitAt (s.bank nn).tempSeen i
      || s.thm.inputs.any fun e => e.1 == nn * 32 + i && e.2.f

/-- The last step of discovery has succeeded: every position has passed its wiring checks, and its NORMAL-range check where
one was due.
DEDUCED (log 279). -/
def State.releaseDue (s : State) (nn : Nat) : Bool :=
  (s.bank nn).en && (s.bank nn).step == .wiring && wiringDone (s.bank nn) (s.positions nn)
    && (s.bank nn).norm.all (fun e => e.2.passed) && s.tempsReady nn

/-- A bank is released (R68): D clears for every position whose branch has passed its check. The time without a dwell of R93
counts from here for a position that has had none.
DESIGN CHOICE (log 278). -/
def State.releaseBank (nn : Nat) (s : State) : State :=
  let b := s.bank nn
  let ok := (List.range 4).foldl (fun a k =>
    putBit a k (bitAt b.trayOk k && !bitAt b.lost k && decide (b.absRun.get 0 k < 2))) 0
  let s1 := ((s.setFields [(Reg.BNK_STAT_REL nn, 1), (Reg.BNK_STAT_BR_OK nn, ok)]).toStep nn .released).updBank nn
    fun b => { b with norm := [], returning := 0 }
  let s1 : State := { s1 with bal := { s1.bal with read := s1.bal.read.drop fun g => g / 64 == nn } }
  forAll (s.positions nn) (fun p s =>
    ((s.updCheck nn fun c => { c with lastDwell := c.lastDwell.put p (s.turn + 1) }).goneAt 0x020B
      (subjPos (globalPos nn p))).mdlReleased nn p) s1

/-- BANK_RELEASE. -/
def execBankRelease (nn : Nat) (s : State) : Host.Outcome State Fault Refusal :=
  .next (if s.releaseDue nn then s.releaseBank nn else s)

/-! ## Tray branches -/

/-- A fitted branch has read absent at two strikes and is not yet treated as lost (R69), in a bank released or not. -/
def State.lossDue (s : State) (nn k : Nat) : Bool :=
  s.sendsFrames nn && (s.layout nn k).fitted && decide (2 ≤ (s.bank nn).absRun.get 0 k) && !bitAt (s.bank nn).lost k

/-- A branch is lost: 0x0207 under a closed contactor, 0x0208 with both open (R69). -/
def State.loseBranch (nn k : Nat) (s : State) : State :=
  let l := s.branchPositions nn k
  let s1 := (s.setBit (Reg.BNK_STAT_BR_OK nn) k false).updBank nn fun b =>
    { b with lost := putBit b.lost k true, returning := putBit b.returning k false
             norm := b.norm.drop fun p => l.contains p }
  if s.contactorClosed then s1.raiseLevel 0x0207 3 (subjTap nn k) [] else s1.raiseLevel 0x0208 1 (subjTap nn k) []

/-- BRANCH_LOST. -/
def execBranchLost (nn k : Nat) (s : State) : Host.Outcome State Fault Refusal :=
  .next (if decide (k < 4) && s.lossDue nn k then s.loseBranch nn k else s)

/-- A lost branch has read present for 64 strikes (R70). -/
def State.returnDue (s : State) (nn k : Nat) : Bool :=
  bitAt (s.bank nn).lost k && decide (64 ≤ (s.bank nn).presRun.get 0 k)

/-- The bank has still to read the tray records of its discovery. -/
def DiscStep.beforeTrays (d : DiscStep) : Bool := [.off, .lane, .relay, .presence].contains d

/-- A branch returns: its record is checked, and the NORMAL-range check of its positions begins where it passes; in a bank
whose discovery goes on, its wiring checks run again and the release waits for both. Before the tray step of discovery the
record is left to that step; a bank whose survey failed takes no further step (R68, R70).
DEDUCED (log 279). -/
def State.returnBranch (nn k : Nat) (t : Tray) (s : State) : State :=
  let s0 := ((s.goneAt 0x0207 (subjTap nn k)).goneAt 0x0208 (subjTap nn k)).updBank nn fun b =>
    { b with lost := putBit b.lost k false }
  if (s.bank nn).step.beforeTrays then s0
  else
    let s2 := s0.checkTray nn k t
    if bitAt (s2.bank nn).trayOk k && (s.bank nn).step != .surveyFailed then
      let l := s.branchPositions nn k
      s2.updBank nn fun b =>
        { wiringAgain (if b.step == .released then [] else l) b with
            returning := if b.step == .released then putBit b.returning k true else b.returning
            norm := l.foldl (fun t p => t.put p { turns := 0, words := 0, failed := false, passed := false }) b.norm }
    else s2

/-- BRANCH_RETURN. -/
def execBranchReturn (nn k : Nat) (bytes : List Nat) (s : State) : Host.Outcome State Fault Refusal :=
  .next (if decide (k < 4) && s.returnDue nn k then s.returnBranch nn k (parseTray bytes) else s)

/-- RELAY_FEEDBACK_FAULT: more than 20 ms of disagreement (R72). -/
def execRelayFeedbackFault (nn : Nat) (s : State) : Host.Outcome State Fault Refusal :=
  .next (if decide (20 * msStrikes < (s.bank nn).relayDis) then s.raiseLevel 0x020D 3 (subjBank nn) [] else s)

end Sys2Proof.Machine
end

