-- ==== Sys2Proof/Machine/Checks.lean ====
section
/-! DEFINITION. The measurement checks (chapter 3): wiring slot, bleed state read, check converter, multiplexer
signature, frozen words, comparators and threshold DACs. -/
namespace Sys2Proof.Machine

/-! ## The wiring slot (R75 to R84) -/

/-- The wiring slot of a bank runs: harness relay closed, range NORMAL (R76). -/
def State.slotRuns (s : State) (nn : Nat) : Bool :=
  s.sendsFrames nn && s.flag (Reg.BNK_STAT_RELAY nn) && !(s.bank nn).survey

/-- Keeps the record of the spans in which the slot has run, for D under R77. -/
def State.slotSpan (nn : Nat) (s : State) : State :=
  s.updCheck nn fun c =>
    if s.slotRuns nn then (if c.wireFrom = 0 then { c with wireFrom := s.now + 1 } else c)
    else if c.wireFrom = 0 then c
    else { c with wireFrom := 0
                  wireLog := (c.wireFrom - 1, s.now - 1) :: c.wireLog.filter fun e => decide (s.now ≤ e.2 + 800) }

/-- Class of an excursion in µV ("Table — Open-wire excursion classes"): 0 pass, 1 high resistance, 2 open. -/
def excursionClass (x : Nat) : Nat := if x ≤ 10000 then 0 else if x ≤ 80000 then 1 else 2

/-- The class of a half, none while it has not run in the turn. -/
def Check.half (c : Check) (h : Nat) : Option Nat := (c.halves.find? fun e => e.1 == h).map fun e => excursionClass e.2

/-- The better of two classes.
DEDUCED (log 34). -/
def betterClass : Option Nat → Option Nat → Option Nat
  | some a, some b => some (min a b)
  | some a, none => some a
  | none, b => b

/-- The class a tap takes from the halves that test it (R80): halves t - 1 and t, of a bank of `npos` positions. -/
def Check.ownClass (c : Check) (npos t : Nat) : Option Nat :=
  betterClass (if t = 0 then none else c.half (t - 1)) (if t < npos then c.half t else none)

/-- The class of a tap in an open-wire turn (R80). A tap tested by one half alone takes its class only when the other
tap of that half took a better one.
DEDUCED (log 34). -/
def Check.tapClass (c : Check) (npos t : Nat) : Nat :=
  let other := if t = 0 then 1 else npos - 1
  match c.ownClass npos t with
  | none => 0
  | some a =>
    if t = 0 ∨ t = npos then (match c.ownClass npos other with | some b => if b < a then a else 0 | none => 0) else a

/-- The excursion that gave a tap its class, µV: the smallest of its halves that have run. -/
def Check.tapMeas (c : Check) (npos t : Nat) : Nat :=
  match c.halves.filter fun e => (e.1 == t && decide (t < npos)) || e.1 + 1 == t with
  | [] => 0
  | e :: r => r.foldl (fun a x => min a x.2) e.2

/-- Positions with a confirmed wiring failure that has not since passed. -/
def Check.wireFail (c : Check) (p : Nat) : Bool :=
  bitAt c.tapOpen p || bitAt c.tapOpen (p + 1) || bitAt c.tapHigh p || bitAt c.tapHigh (p + 1) || bitAt c.bcIConf p
    || bitAt c.bcXConf p || bitAt c.bleedConf p

/-- BNK_WIRE shows the confirmed failures. -/
def State.showWire (nn : Nat) (s : State) : State :=
  let c := s.check nn
  let m := (List.range 64).foldl (fun a p => putBit a p (c.wireFail p)) 0
  s.setFields [(Reg.BNK_WIRE_LO_WFAIL nn, m % 2 ^ 32), (Reg.BNK_WIRE_HI_WFAIL nn, m / 2 ^ 32)]

/-- BNK_WIRE_LAST describes a confirmed failure. -/
def State.wireLast (nn loc kind meas : Nat) (s : State) : State :=
  s.setFields [(Reg.BNK_WIRE_LAST_LOC nn, loc), (Reg.BNK_WIRE_LAST_KIND nn, kind),
    (Reg.BNK_WIRE_LAST_MEAS nn, sat 4095 meas)]

/-- The faults of a tap confirmed open or of high resistance, and their end at a pass (R80). BNK_WIRE_LAST changes when a
failure is confirmed that was not; MEAS counts whole units of 0.1 mV, what is left over is dropped (R106).
DESIGN CHOICE (log 280, 283). -/
def State.tapFaults (nn t cls prev meas : Nat) (s : State) : State :=
  if cls = 0 then
    (((s.updCheck nn fun c => { c with tapOpen := putBit c.tapOpen t false, tapHigh := putBit c.tapHigh t false }).goneAt
      0x0306 (subjTap nn t)).goneAt 0x0307 (subjTap nn t)).goneAt 0x0308 (subjTap nn t)
  else if cls = 2 ∧ prev = 2 then
    let s1 := doIf (!bitAt (s.check nn).tapOpen t) (State.wireLast nn t 0 (meas / 100))
      (s.updCheck nn fun c => { c with tapOpen := putBit c.tapOpen t true })
    if s.contactorClosed then s1.raiseLevel 0x0306 3 (subjTap nn t) [] else s1.raiseLevel 0x0307 1 (subjTap nn t) []
  else if cls = 1 ∧ prev = 1 then
    (doIf (!bitAt (s.check nn).tapHigh t) (State.wireLast nn t 1 (meas / 100))
      (s.updCheck nn fun c => { c with tapHigh := putBit c.tapHigh t true })).raiseLevel 0x0308 1 (subjTap nn t) []
  else s

/-- One tap is classed in an open-wire turn, its halves having run.
DEDUCED (log 34, 35). -/
def State.judgeTap (nn t : Nat) (s : State) : State :=
  let c := s.check nn
  let npos := (s.bank nn).npos
  let cls := c.tapClass npos t
  let prev := c.tapPrev.get 0 t
  (s.updCheck nn fun c => { c with tapPrev := c.tapPrev.put t cls }).tapFaults nn t cls prev (c.tapMeas npos t)

/-- The taps whose halves have all run once slot `sl` has: its own two, and the top tap at the top slot. -/
def slotTaps (npos sl : Nat) : List Nat :=
  [2 * sl, 2 * sl + 1].filter (fun t => decide (t ≤ npos)) ++ (if 2 * sl + 2 = npos then [npos] else [])

/-- A position passes an open-wire turn when both its taps were tested and took Pass in it (R84).
DEDUCED (log 35). -/
def State.openWirePass (nn : Nat) (p : Nat) (s : State) : State :=
  let c := s.check nn
  let n := (s.bank nn).npos
  if decide (p < n) && (c.ownClass n p).isSome && (c.ownClass n (p + 1)).isSome
      && c.tapPrev.get 0 p == 0 && c.tapPrev.get 0 (p + 1) == 0
      && c.wireFrom != 0 && decide (c.wireFrom ≤ s.turn * 32 + 1) then
    s.updBank nn fun b => { b with owPass := putBit b.owPass p true }
  else s

/-- An open-wire slot (R78 to R80). -/
def State.openWireSlot (b : BankIn) (sl : Nat) (s : State) : State :=
  let nn := b.bank
  let npos := (s.bank nn).npos
  if 2 * sl < npos then
    let s1 := s.updCheck nn fun c =>
      { c with halves := if 2 * sl + 1 < npos then (c.halves.put (2 * sl) b.exA).put (2 * sl + 1) b.exB
                         else c.halves.put (2 * sl) b.exA }
    let s2 := forAll (slotTaps npos sl) (State.judgeTap nn) s1
    let ps := (if sl = 0 then [] else [2 * sl - 1]) ++ [2 * sl] ++ (if 2 * sl + 2 = npos then [2 * sl + 1] else [])
    (forAll ps (State.openWirePass nn) s2).showWire nn
  else s

/-- The shuttle of a bank is connected to a position (R83, R277).
DEDUCED (log 80). -/
def State.shuttleOn (s : State) (nn p : Nat) : Bool :=
  s.reg (Reg.BAL_SHUT_DIR nn) != 0 && s.reg (Reg.BAL_SHUT_POS nn) == p

/-- One balance-conductor pulse with its current in mA and its excursion in µV (R81). A balance-conductor turn in which it is
not read (SURVEY range, a deferral, a missing frame) neither counts nor breaks the two consecutive failing turns.
DESIGN CHOICE (log 280, 281). -/
def State.pulseRead (nn p i x : Nat) (s : State) : State :=
  let c := s.check nn
  let s0 := s.updCheck nn fun c => { c with deferred := c.deferred.put p 0 }
  if 120 ≤ i ∧ x ≤ 2000 then
    let s1 := s0.updCheck nn fun c =>
      { c with bcIPrev := putBit c.bcIPrev p false, bcXPrev := putBit c.bcXPrev p false
               bcIConf := putBit c.bcIConf p false, bcXConf := putBit c.bcXConf p false }
    ((s1.goneAt 0x0309 (subjPos (globalPos nn p))).goneAt 0x030A (subjPos (globalPos nn p))).updBank nn fun b =>
      { b with bcPass := putBit b.bcPass p true }
  else
    let again := bitAt c.bcIPrev p || bitAt c.bcXPrev p
    let s1 := s0.updCheck nn fun c =>
      { c with bcIPrev := putBit c.bcIPrev p (decide (i < 120)), bcXPrev := putBit c.bcXPrev p (decide (2000 < x)) }
    let s2 := if again && decide (i < 120) then
        (doIf (!bitAt c.bcIConf p) (State.wireLast nn p 2 i)
          (s1.updCheck nn fun c => { c with bcIConf := putBit c.bcIConf p true })).raiseLevel 0x0309 1
          (subjPos (globalPos nn p)) []
      else s1
    if again && decide (2000 < x) then
      (doIf (!bitAt c.bcXConf p) (State.wireLast nn p 3 (x / 100))
        (s2.updCheck nn fun c => { c with bcXConf := putBit c.bcXConf p true })).raiseLevel
        0x030A 2 (subjPos (globalPos nn p)) []
    else s2

/-- A position at a balance-conductor strike: not pulsed and deferred while the shuttle is connected to it (R83). The
sixteenth deferral in a row withholds the shuttle in the next balance-conductor turn. The bank pulses whether or not its frame
is accepted, and the pulse is read where it is.
DESIGN CHOICE (log 275). -/
def State.pulseOne (ok : Bool) (nn p i x : Nat) (s : State) : State :=
  if s.vacant nn p then s
  else if s.shuttleOn nn p then
    let k := (s.check nn).deferred.get 0 p + 1
    let s1 := s.updCheck nn fun c =>
      { c with deferred := c.deferred.put p k
               unpulsed := (p, s.now) :: c.unpulsed.filter fun e => decide (s.now ≤ e.2 + 800) }
    if 16 ≤ k then { s1 with bal := { s1.bal with withhold := putBit s1.bal.withhold nn true } } else s1
  else if ok then s.pulseRead nn p i x
  else s.updCheck nn fun c => { c with deferred := c.deferred.put p 0 }

/-- A balance-conductor slot. -/
def State.pulseSlot (ok : Bool) (b : BankIn) (sl : Nat) (s : State) : State :=
  ((s.pulseOne ok b.bank (2 * sl) b.pulseA b.exA).pulseOne ok b.bank (2 * sl + 1) b.pulseB b.exB).showWire b.bank

/-- The bleed switch of a position is commanded on; a bank ignores the command of the position its shuttle is connected
to (R277). -/
def State.bleedOn (s : State) (nn p : Nat) : Bool :=
  bitAt (s.bal.now.get { bleed := 0, pos := 0, dir := .off } nn).bleed p && !s.shuttleOn nn p

/-- The bleed current of a position against its commanded switch: two consecutive turns, each with a read (R82). -/
def State.bleedRead (nn p i : Nat) (s : State) : State :=
  if s.vacant nn p then s
  else
    let g := globalPos nn p
    let s0 := { s with bal := { s.bal with read := s.bal.read.put g (i + 1) } }
    let bad := if s.bleedOn nn p then decide (i < 120) else decide (30 ≤ i)
    let last := (s.check nn).bleedPrev.get 0 p
    let again := last != 0 && last == s.turn
    let s1 := s0.updCheck nn fun c => { c with bleedPrev := c.bleedPrev.put p (if bad then s.turn + 1 else 0) }
    if bad && again then
      (s1.updCheck nn fun c => { c with bleedConf := putBit c.bleedConf p true }).raiseLevel 0x030B 1 (subjPos g) []
    else if bad then s1
    else (s1.updCheck nn fun c => { c with bleedConf := putBit c.bleedConf p false }).goneAt 0x030B (subjPos g)

/-- The wiring slot of a strike. -/
def State.wiringSlot (b : BankIn) (s : State) : State :=
  let nn := b.bank
  let sl := s.phase
  let s0 := s.slotSpan nn
  if s0.slotRuns nn then
    let ok := s0.frameOk b
    let s1 := if ok then (s0.bleedRead nn (2 * sl) b.bleedA).bleedRead nn (2 * sl + 1) b.bleedB else s0
    if s.turn % 4 = 3 then s1.pulseSlot ok b sl else if ok then s1.openWireSlot b sl else s1
  else s0

/-! ## The check converter (R85 to R93) -/

/-- Starts the dwells of a bank whose harness relay has closed (R75, R86). -/
def State.dwellBegin (nn : Nat) (s : State) : State :=
  if s.sendsFrames nn && s.flag (Reg.BNK_STAT_RELAY nn) then
    if (s.check nn).dwOn then s
    else
      let d := dwellTurns (s.bank nn).fc
      ((s.updCheck nn fun c =>
        { c with dwOn := true, dwPos := 0, dwRetest := false, dwTurns := d, winN := 0, winPos := 0, winChk := 0
                 dwStart := nextStrike0 (s.now + s.reg (Reg.BNK_STAT_SETTLE_CNT nn)) }).setReg
        (Reg.BNK_CHK_STAT_IDX nn) 0).setReg (Reg.BNK_CHK_STAT_DWELL nn) d
  else s.updCheck nn fun c => { c with dwOn := false }

/-- One strike of the compare window: the pair of words qualifies when neither carries S, O or D (R88). -/
def State.windowStrike (b : BankIn) (words : List Nat) (s : State) : State :=
  let nn := b.bank
  let open_ := s.windowOpen nn
  let s0 := s.setFlag (Reg.BNK_CHK_STAT_WIN nn) open_
  let w := words.getD (s.check nn).dwPos 0
  let k := words.getD 64 0
  if open_ && s.frameOk b && clean w && clean k then
    s0.updCheck nn fun c => { c with winN := c.winN + 1, winPos := c.winPos + wValue w, winChk := c.winChk + wValue k }
  else s0

/-- The multiplexer signature at a strike of a dwell, in either range (R76, R94).
DEDUCED (log 37). -/
def State.signature (b : BankIn) (s : State) : State :=
  let nn := b.bank
  let c := s.check nn
  if c.dwOn && decide (c.dwStart ≤ s.now) && s.flag (Reg.BNK_STAT_RELAY nn) && s.frameOk b then
    let good := if s.phase = c.dwPos / 2 then decide (5000 ≤ b.sig) else decide (b.sig.natAbs < 5000)
    if good then s
    else (s.updCheck nn fun c => { c with sigFail := true }).raiseLevel 0x0305 3 (subjPos (globalPos nn c.dwPos)) []
  else s

/-- The module inlet, 0.01 °C: the value of M0. -/
def State.inlet (s : State) : Int :=
  match s.thm.inputs.find? fun e => e.1 == 576 with
  | some e => e.2.value
  | none => 0

/-- The inlet counts as outside -20 °C to +60 °C: by its value, or because M0 has failed or has not been converted
(R138). -/
def State.inletExtended (s : State) : Bool :=
  match s.thm.inputs.find? fun e => e.1 == 576 with
  | some e => e.2.f || e.2.u || decide (e.2.value < -2000) || decide (6000 < e.2.value)
  | none => true

/-- Tolerance in µV of the check compare, by range, mean of the position word and inlet ("Table — Check compare
tolerance"). -/
def checkTolerance (survey ext : Bool) (mean : Rat) : Nat :=
  if survey then (if ext then 20500 else 10500)
  else if mean < 0 then (if ext then 4200 else 2200)
  else if mean ≤ 4500000 then (if ext then 1400 else 800)
  else (if ext then 2200 else 1200)

/-- The mean of the last 16 ratios exceeds 150 ppm in magnitude (R91).
DEDUCED (log 36). -/
def ratioBad (l : List Rat) : Bool :=
  let m : Rat := l.foldl (· + ·) 0 / 16
  l.length == 16 && (decide (150 / 1000000 < m) || decide (m < -150 / 1000000))

/-- Keeps the ratio of a dwell and judges the last 16 (R91).
DEDUCED (log 36). -/
def State.keepRatio (nn : Nat) (diff mean : Rat) (s : State) : State :=
  if 1000000 ≤ mean then
    let l := (diff / mean :: (s.check nn).ratios).take 16
    (s.updCheck nn fun c => { c with ratios := l }).level (ratioBad l) 0x0303 3 (subjBank nn) []
  else s

/-- The next dwell, on a position (R86).
DESIGN CHOICE (log 257). -/
def State.nextDwell (nn p : Nat) (retest : Bool) (s : State) : State :=
  let d := dwellTurns (s.bank nn).fc
  ((s.updCheck nn fun c =>
    { c with dwPos := p, dwRetest := retest, dwStart := nextStrike0 (s.now + 1), dwTurns := d, winN := 0, winPos := 0
             winChk := 0, sigFail := false }).setReg (Reg.BNK_CHK_STAT_IDX nn) p).setReg (Reg.BNK_CHK_STAT_DWELL nn) d

/-- The position after `p` in the order of R86. -/
def State.dwellAfter (s : State) (nn p : Nat) : Nat := if p + 1 < (s.bank nn).npos then p + 1 else 0

/-- A dwell with a result (R88 to R91).
DEDUCED (log 38). -/
def State.dwellResult (nn : Nat) (s : State) : State :=
  let c := s.check nn
  let p := c.dwPos
  let g := subjPos (globalPos nn p)
  let diff : Rat := ((c.winPos - c.winChk : Int) : Rat) / (c.winN : Rat)
  let mean : Rat := (c.winPos : Rat) / (c.winN : Rat)
  let tol : Rat := (checkTolerance (s.bank nn).survey s.inletExtended mean : Nat)
  let fail := decide (tol < diff) || decide (diff < -tol)
  let s1 := s.setFields [(Reg.BNK_CHK_LAST_DIFF nn, unsigned 24 (Config.round diff)), (Reg.BNK_CHK_LAST_IDX nn, p),
    (Reg.BNK_CHK_LAST_FAIL nn, bit fail), (Reg.BNK_CHK_LAST_VALID nn, 1)]
  let s2 := (s1.updCheck nn fun c =>
    { c with lastDwell := c.lastDwell.put p (s.turn + 1), cNext := putBit c.cNext p fail }).goneAt
      0x0312 g
  let s3 := s2.keepRatio nn diff mean
  if fail then
    if c.dwRetest then (s3.raiseAs false 0x0302 3 g false []).nextDwell nn (s.dwellAfter nn p) false
    else ((s3.raiseAs false 0x0301 1 g false []).addSat (Reg.BNK_CHK_STAT_MM_CNT nn) 1).nextDwell nn p true
  else ((s3.goneAt 0x0301 g).goneAt 0x0302 g).nextDwell nn (s.dwellAfter nn p) false

/-- The compare window of the dwell in progress has ended. -/
def State.dwellDue (s : State) (nn : Nat) : Bool :=
  let c := s.check nn
  c.dwOn && decide (c.dwStart + c.dwTurns * 32 ≤ s.now + 1)

/-- CHECK_DWELL_END. With fewer than 16 qualifying strikes the same position is dwelt on again.
DESIGN CHOICE (log 257). -/
def execCheckDwellEnd (nn : Nat) (s : State) : Host.Outcome State Fault Refusal :=
  .next (if s.dwellDue nn then
      let c := s.check nn
      let s1 := doIf (!c.sigFail) (State.goneAt 0x0305 (subjPos (globalPos nn c.dwPos))) s
      if c.winN < 16 then s1.nextDwell nn c.dwPos c.dwRetest else s1.dwellResult nn
    else s)

/-! ## Frozen words, coverage, comparators and DACs (R92, R93, R97 to R100) -/

/-- The frozen-word run of a position sees the VALUE of an accepted frame (R92); a word delivered while the position is not
released breaks the run. -/
def State.frozenSees (nn p w : Nat) (s : State) : State :=
  if s.released nn p then
    let e := (s.check nn).frozen.get (0, 0) p
    let v := wValue w
    let same := e.2 != 0 && decide (e.1 = v)
    let s1 := s.updCheck nn fun c => { c with frozen := c.frozen.put p (v, if same then e.2 + 1 else 1) }
    if same then s1 else s1.goneAt 0x0304 (subjPos (globalPos nn p))
  else s.updCheck nn fun c => { c with frozen := c.frozen.put p (0, 0) }

/-- FROZEN_WORD: 64 words in a row with one VALUE. -/
def execFrozenWord (nn p : Nat) (s : State) : Host.Outcome State Fault Refusal :=
  .next (if s.released nn p && decide (64 ≤ ((s.check nn).frozen.get (0, 0) p).2) then
      s.raiseLevel 0x0304 3 (subjPos (globalPos nn p)) []
    else s)

/-- Turns of a cycle of the check converter over a bank. -/
def State.cycleTurns (s : State) (nn : Nat) : Nat := (s.bank nn).npos * dwellTurns (s.bank nn).fc

/-- A released position has had no dwell with a result for 4 cycles (R93). -/
def State.coverageLapsed (s : State) (nn p : Nat) : Bool :=
  s.released nn p
    && decide ((s.check nn).lastDwell.get (s.turn + 1) p + 4 * s.cycleTurns nn ≤ s.turn + 1)

/-- CHECK_COVERAGE_LAPSE. -/
def execCheckCoverageLapse (nn p : Nat) (s : State) : Host.Outcome State Fault Refusal :=
  .next (if s.coverageLapsed nn p then s.raiseLevel 0x0312 2 (subjPos (globalPos nn p)) [] else s)

/-- The comparator thresholds in force, µV (R211). -/
def State.overThreshold (s : State) : Int := s.slu.thr.field Reg.SLU_VTH_B_OVC * 100
def State.underThreshold (s : State) : Int := s.slu.thr.field Reg.SLU_VTH_D_UVC * 100

/-- A word and its comparator bits disagree by more than 100 mV (R99). -/
def State.implausible (s : State) (v : Int) (lowBit highBit : Bool) : Bool :=
  (highBit && decide (v < s.overThreshold - 100000)) || (lowBit && decide (s.underThreshold + 100000 < v))
    || (!highBit && decide (s.overThreshold + 100000 < v)) || (!lowBit && decide (v < s.underThreshold - 100000))

/-- The comparator test acts on a position at this strike (R98). -/
def State.testedNow (s : State) (nn p : Nat) : Bool := s.phase == 31 && s.cmpTested nn == p

/-- The plausibility run of a position sees a strike. -/
def State.plausSees (b : BankIn) (p w : Nat) (s : State) : State :=
  let nn := b.bank
  if s.released nn p && !wS w && !wD w && !s.testedNow nn p then
    let bad := s.implausible (wValue w) (bitAt b.cmpUnder p) (bitAt b.cmpOver p)
    let s1 := s.updCheck nn fun c => { c with implaus := c.implaus.put p (if bad then c.implaus.get 0 p + 1 else 0) }
    if bad then s1 else s1.goneAt 0x030E (subjPos (globalPos nn p))
  else s

/-- COMPARATOR_IMPLAUSIBLE: the settling count plus 32 strikes of disagreement. -/
def execComparatorImplausible (nn p : Nat) (s : State) : Host.Outcome State Fault Refusal :=
  .next (if decide (settleCount (s.bank nn).fc + 32 ≤ (s.check nn).implaus.get 0 p) then
      s.raiseLevel 0x030E 3 (subjPos (globalPos nn p)) []
    else s)

/-- The comparator test of strike 31 (R98): a failing test is repeated in the next turn, and a second failure counts. -/
def State.comparatorTest (b : BankIn) (s : State) : State :=
  let nn := b.bank
  let p := s.cmpTested nn
  if s.phase == 31 && s.frameOk b && !s.vacant nn p && s.flag (Reg.BNK_STAT_RELAY nn) then
    if b.cmpOk then (s.updCheck nn fun c => { c with cmpRetest := 0 }).goneAt 0x030D (subjPos (globalPos nn p))
    else if (s.check nn).cmpRetest = 0 then s.updCheck nn fun c => { c with cmpRetest := p + 1 }
    else (s.updCheck nn fun c => { c with cmpRetest := 0 }).raiseLevel 0x030D 3 (subjPos (globalPos nn p)) []
  else s

/-- The readback of one threshold DAC of 128 (R100): DACs 2p and 2p + 1 are those of position p, read in rising order, and the
two turns are consecutive, each with a readback.
DESIGN CHOICE (log 282). -/
def State.dacRead (nn d : Nat) (err : Int) (s : State) : State :=
  let bad := decide (10000 < err.natAbs)
  let last := (s.check nn).dacPrev.get 0 d
  let s1 := s.updCheck nn fun c => { c with dacPrev := c.dacPrev.put d (if bad then s.turn + 1 else 0) }
  let other := if d % 2 = 0 then d + 1 else d - 1
  if bad && last != 0 && last == s.turn then s1.raiseLevel 0x030F 3 (subjPos (globalPos nn (d / 2))) []
  else if bad || (s1.check nn).dacPrev.get 0 other != 0 then s1
  else s1.goneAt 0x030F (subjPos (globalPos nn (d / 2)))

/-- The DACs read back at a strike.
DESIGN CHOICE (log 282). -/
def State.dacReadback (b : BankIn) (s : State) : State :=
  if s.frameOk b && s.flag (Reg.BNK_STAT_RELAY b.bank) then
    forEach (List.range 4) (fun j => State.dacRead b.bank (s.phase * 4 + j) (b.dacErr.getD j 0)) s
  else s

/-- Every check of a bank at a strike. -/
def State.checksStrike (b : BankIn) (words : List Nat) (s : State) : State :=
  let nn := b.bank
  let s1 := (s.dwellBegin nn).windowStrike b words
  let s2 := if s1.frameOk b then
      forAll (s1.positions nn) (fun p s => (s.frozenSees nn p (words.getD p 0)).plausSees b p (words.getD p 0)) s1
    else s1
  (((s2.signature b).comparatorTest b).dacReadback b).wiringSlot b

end Sys2Proof.Machine
end

