-- ==== Sys2Proof/Machine/CurrentBus.lean ====
section
/-! DEFINITION. String current, bus voltage and insulation (chapter 4), and what banks and CUR share: lane lock,
alignment, corner changes. -/
namespace Sys2Proof.Machine

/-! ## CUR at a strike (R107 to R117) -/

/-- CUR sends frames: its domain is on and its lane has locked. -/
def State.curFlows (s : State) : Bool :=
  s.flag Reg.PWR_DOM_CUR && s.flag Reg.CUR_STAT_LANE

/-- The CUR frame of the present strike, received, is accepted (R28). -/
def State.curOk (s : State) (c : CurIn) : Bool := s.curFlows && c.onTime

/-- A HALL sensor is fitted (CUR_CTRL.HALL). -/
def State.hallFitted (s : State) : Bool := s.reg Reg.CUR_CTRL_HALL != 0

/-- D of every CUR word (R110). -/
def State.curD (s : State) : Bool := !s.flag Reg.CUR_STAT_REL || !s.flag Reg.CUR_STAT_ALIGN

/-- One CUR word from its filtered value, its linear limit and its measuring range (R50, R107). -/
def curWord (v : Int) (limit rng : Nat) (fs extraO fc fd : Bool) (n : Nat) : Nat :=
  sampleWord (clampInt (-(limit : Int)) limit v) fs (decide (rng < v.natAbs) || extraO) fc fd n

/-- The five words that CUR forms at a strike. -/
def State.curForms (s : State) (c : CurIn) : List Nat :=
  let n := s.now
  let si := decide (0 < s.cur.settleI)
  let sv := decide (0 < s.cur.settleV)
  let cc := s.inEffect 0x0403
  let d := s.curD
  [curWord c.fine 2100000 2000000 si (decide (0 < s.cur.taintF)) cc d n,
   curWord c.coarse 2600000 2500000 si (decide (0 < s.cur.taintC)) cc d n,
   curWord c.hall 3150000 3000000 si false false (d || s.cur.hallD) n,
   curWord c.vstr 4600000 4500000 sv false false d n, curWord c.vbus 4600000 4500000 sv false false d n]

/-- A supply rail reading in 0.1 V lies outside 14.25 V to 15.75 V in magnitude (R114). -/
def railBad (r : Int) : Bool := decide (r.natAbs * 10 < 1425) || decide (1575 < r.natAbs * 10)

/-- Bytes 0 to 59 of a CUR frame ("Table — CUR strike frame"), the lane's bytes as in a bank frame.
DESIGN CHOICE (log 274). -/
def State.curBody (s : State) (c : CurIn) : List Nat :=
  [0x20, 8 * bit (s.flag Reg.CUR_STAT_REL) + 16 * bit (!railBad c.railP && !railBad c.railN)] ++ leBytes 2 64
    ++ leBytes 8 c.strikeNo ++ (s.curForms c).flatMap (leBytes 4)
    ++ [bit c.ocd + 2 * bit c.occ + 4 * bit c.fineOvl + 8 * bit c.coarseOvl, 0, 0, 0]
    ++ leBytes 2 (unsigned 16 c.railP) ++ leBytes 2 (unsigned 16 c.railN) ++ [bit c.supplyOk, 0, 0, 0]
    ++ leBytes 8 (c.roundTrip.getD 0).toNat ++ leBytes 2 s.cur.trim ++ List.replicate 6 0

/-- The 64 bytes of a CUR frame: its CRC-32 covers bytes 0 to 59 (R107). -/
def State.curFrame (s : State) (c : CurIn) : List Nat := let l := s.curBody c; l ++ leBytes 4 (crc32 l)

/-- What the controller takes of a CUR frame: its comparators and rails as received, and nothing of a frame that is not
accepted but the firing of the overload detectors, which acts in the front end (R28, R111). -/
def State.curReceived (s : State) (c : CurIn) : CurIn :=
  if c.onTime then
    let rx := hit c.err (s.curFrame c)
    if frameAccepted c.onTime rx 0x20 s.now then
      let b := rx.getD 32 0
      { c with ocd := bitAt b 0, occ := bitAt b 1, railP := signed 16 (leAt rx 36 2), railN := signed 16 (leAt rx 38 2) }
    else { c with onTime := false }
  else c

/-- The five words of a CUR frame, or placeholders. -/
def State.curWords (s : State) (c : CurIn) : List Nat :=
  if s.curOk c then
    let rx := hit c.err (s.curBody c)
    (List.range 5).map fun k => leAt rx (12 + 4 * k) 4
  else List.replicate 5 (placeholder s.now)

/-- hall_ok of R112. -/
def State.hallOk (s : State) (w : List Nat) : Bool := s.hallFitted && clean (wHall w) && !s.inEffect 0x0405

/-- The selection state machine of R112, with the runs of the present strike. -/
def selectPath (sel : Sel) (fo co ho : Bool) (fineRun coarseRun : Nat) : Sel :=
  let fallback := if co then .coarse else if ho then .hall else .none
  match sel with
  | .fine => if fo then .fine else fallback
  | .coarse => if !co then (if ho then .hall else .none) else if 32 ≤ fineRun then .fine else .coarse
  | .hall => if co && decide (32 ≤ coarseRun) then .coarse else if ho then .hall else .none
  | .none => if fo then .fine else fallback

/-- The path selection of a strike whose frame was accepted (R112). -/
def State.pathSelect (w : List Nat) (s : State) : State :=
  let fo := fineOk w
  let co := coarseOk w
  let fr := if fo && decide ((wValue (wFine w)).natAbs ≤ 1600000) then s.cur.fineRun + 1 else 0
  let cr := if co && decide ((wValue (wCoarse w)).natAbs ≤ 2400000) then s.cur.coarseRun + 1 else 0
  if s.flag Reg.CUR_STAT_REL then
    let sel := selectPath (selOf (s.reg Reg.CUR_STAT_SEL)) fo co (s.hallOk w) fr cr
    let s1 := ({ s with cur := { s.cur with fineRun := fr, coarseRun := cr, held := selectedCurrent sel w } }).setReg
      Reg.CUR_STAT_SEL sel.code
    s1.level (sel == .none) 0x0404 3 subjNone []
  else ({ s with cur := { s.cur with held := selectedCurrent .none w } }).setReg Reg.CUR_STAT_SEL 3

/-- The accumulator after the charge of one strike (R115). -/
def accumulate (q : Int) (c : CurState) : CurState :=
  let f := c.frac + q
  { c with acc := c.acc + f.tdiv 320, frac := f.tmod 320 }

/-- The Hall supply of the turn that ended: run of turns out of tolerance; D ends with a turn within it. A turn is out of
tolerance when a rail is at any of its accepted strikes, and within it when no frame came.
DESIGN CHOICE (log 42). -/
def State.hallTurn (s : State) : State :=
  if s.cur.supplyBad then { s with cur := { s.cur with supplyRun := s.cur.supplyRun + 1, supplyBad := false } }
  else ({ s with cur := { s.cur with supplyRun := 0, hallD := false } }).goneAt 0x0406 subjNone

/-- Strike 0: the Hall supply of the turn that ended is judged, and a trim step of the lane is applied. -/
def State.curTurnStart (s : State) : State :=
  let s1 := s.hallTurn
  let c := s1.cur
  { s1 with cur := { c with
      trim := c.lane.trimNext.getD c.trim, lane := { c.lane with trimNext := none } } }

/-- The overload detectors start or extend the taint in the front end, whether or not its frame is accepted (R111). -/
def State.taintSees (c : CurIn) (s : State) : State :=
  let n := settleCount s.cur.cfc
  { s with cur := { s.cur with
      taintF := if c.fineOvl then n else s.cur.taintF, taintC := if c.coarseOvl then n else s.cur.taintC } }

/-- CUR_STAT follows the words of the strike: FTAINT, CTAINT and SETTLING read 1 while a word carries the flag.
DEDUCED (log 52). -/
def State.showCur (s : State) : State :=
  s.setFields [(Reg.CUR_STAT_FTAINT, bit (decide (0 < s.cur.taintF))),
    (Reg.CUR_STAT_CTAINT, bit (decide (0 < s.cur.taintC))),
    (Reg.CUR_STAT_SETTLING, bit (decide (0 < s.cur.settleI) || decide (0 < s.cur.settleV))),
    (Reg.CUR_STAT_HALL_OK, bit (s.hallFitted && !s.cur.hallD && !s.inEffect 0x0405))]

/-- CUR before its words of the strike are taken.
DESIGN CHOICE (log 42). -/
def State.curStrikeHead (c : CurIn) (s : State) : State :=
  let s1 := doIf (s.phase == 0) State.curTurnStart s
  let s2 := if s1.flag Reg.PWR_DOM_CUR then s1.taintSees c else s1
  if s2.curOk c && s2.hallFitted && (railBad c.railP || railBad c.railN) then
    { s2 with cur := { s2.cur with supplyBad := true } }
  else s2

/-- One strike of taint and of settling has passed. -/
def CurState.tick (c : CurState) : CurState :=
  { c with taintF := c.taintF - 1, taintC := c.taintC - 1, settleI := c.settleI - 1, settleV := c.settleV - 1 }

/-- CUR once its words are taken: selection, accumulation, countdowns (R111 to R116). Without an accepted frame the
current of the last one is accumulated, and counted in CUR_HOLD, whatever kept the frame away; before the first accepted frame
none is held.
DEDUCED (log 52). -/
def State.curStrikeTail (c : CurIn) (w : List Nat) (s : State) : State :=
  let ok := s.curOk c
  let s1 := if ok then s.pathSelect w else doIf s.cur.seen (fun s => s.addSat Reg.CUR_HOLD_HOLD 1) s
  let q := s1.cur.held
  let s2 := { s1 with cur := accumulate q { s1.cur with
    words := w, seen := s1.cur.seen || ok
    above := if 5000 < q.natAbs then s1.cur.above + 1 else 0 } }
  let s3 := s2.showCur
  let s4 := { s3 with cur := s3.cur.tick }
  if s4.phase = 31 ∧ s4.curFlows then
    { s4 with cur := { s4.cur with
      lane := laneMeasured (s4.flag Reg.CUR_STAT_ALIGN) s4.cur.trim c.roundTrip s4.cur.lane } }
  else s4

/-! ## The turn compares, made in SUP -/

/-- Two means differ by more than a fixed part plus a share of the larger magnitude. -/
def meansDiffer (a b fixed share : Rat) : Bool :=
  let m := max (abs a) (abs b)
  decide (fixed + share * m < abs (a - b))

/-- A run of disagreeing turns, restarted by an agreeing one. -/
def runNext (bad : Bool) (n : Nat) : Nat := if bad then n + 1 else 0

/-- FINE against COARSE over the last turn (R113). -/
def State.compareFineCoarse (s : State) : State :=
  let (n, f, c) := fineCoarseSum s.lastRecs
  if 24 ≤ n then
    let bad := meansDiffer ((f : Rat) / n) ((c : Rat) / n) 5000 (2 / 1000)
    let run := runNext bad s.cur.runFc
    let s1 := { s with cur := { s.cur with runFc := run } }
    if 16 ≤ run then s1.raiseLevel 0x0403 3 subjNone [] else if bad then s1 else s1.goneAt 0x0403 subjNone
  else s

/-- HALL against the selected shunt path over the last turn (R114). -/
def State.compareHall (s : State) : State :=
  let (n, h, c) := hallSum s.lastRecs
  if 24 ≤ n ∧ s.hallFitted then
    let bad := meansDiffer ((h : Rat) / n) ((c : Rat) / n) 50000 (2 / 100)
    let run := runNext bad s.cur.runHs
    let s1 := { s with cur := { s.cur with runHs := run } }
    if 16 ≤ run then s1.raiseLevel 0x0405 2 subjNone [] else if bad then s1 else s1.goneAt 0x0405 subjNone
  else s

/-- Every global position that is not vacant. -/
def State.allPositions (s : State) : List Nat :=
  bankNos.flatMap fun nn => (s.positions nn).map (globalPos nn)

/-- The mean of a position over the last turn, words with S, O and D at 0, µV.
DEDUCED (log 248). -/
def State.cleanMean (s : State) (g : Nat) : Rat :=
  let t := s.lastTurn g
  (t.qsum : Rat) / (t.q : Rat)

/-- VSTR against the sum of the positions over the last turn (R117). -/
def State.compareString (s : State) : State :=
  let l := s.allPositions
  let ready := bankNos.all (fun nn => !(s.bank nn).en || (s.bank nn).step == .released)
    && l.all (fun g => decide (24 ≤ (s.lastTurn g).q)) && decide (0 < s.lastV.1) && l != []
  if ready then
    let v : Rat := (s.lastV.2 : Rat) / (s.lastV.1 : Rat) * 1000
    let sum : Rat := l.foldl (fun a g => a + s.cleanMean g) 0
    let i : Rat := abs ((s.lastI.2 : Rat) / (s.lastI.1 : Rat))
    let lim : Rat := 2000000 + abs v * 2 / 1000 + i * (s.reg Reg.CUR_RLINK_RLINK : Rat) / 10000
    let bad := decide (lim < abs (v - sum))
    let run := runNext bad s.cur.runVs
    let s1 := { s with cur := { s.cur with runVs := run } }
    if 16 ≤ run then s1.raiseLevel 0x0407 2 subjNone [] else if bad then s1 else s1.goneAt 0x0407 subjNone
  else s

/-- The path compares of SUP. -/
def State.pathCompare (s : State) : State := s.compareFineCoarse.compareHall.compareString

/-! ## Lanes of banks and of CUR -/

/-- CUR's lane after the measurements of its start (R110): it is released with its lane, identity and trim. -/
def State.curLocked (r : LaneIn) (s : State) : State :=
  let b := lockedLane r s.cur.lane
  let w := wantTrim b
  let ok := trimInRange w
  let s1 := { s with cur := { s.cur with
    lane := { b with oneways := b.oneways.take 8, trimOut := !ok, step := .released }
    trim := if ok then (Config.round w).toNat else s.cur.trim } }
  let s2 := s1.setFields [(Reg.CUR_STAT_LANE, 1), (Reg.CUR_STAT_ALIGN, bit ok), (Reg.CUR_STAT_REL, 1)]
  (s2.goneAt 0x0401 subjNone).level (!ok) 0x0402 2 subjNone []

/-- LANE_LOCK of a bank, or of CUR (number 18). -/
def execLaneLock (nn : Nat) (r : LaneIn) (s : State) : Host.Outcome State Fault Refusal :=
  .next (if nn = curNo then
      if s.flag Reg.PWR_DOM_CUR && !s.flag Reg.CUR_STAT_LANE then
        if r.locked && r.idOk then s.curLocked r
        else ({ s with cur := { s.cur with lane := { s.cur.lane with step := .failed } } }).raiseLevel 0x0401 3 subjNone []
      else s
    else if (s.bank nn).step == .lane then
      if r.locked && r.idOk then s.laneLocked nn r else s.laneFailed nn
    else s)

/-- Alignment of a lane cannot be assured any longer (R62). -/
def misaligned (b : Bank) : Bool := b.trimOut || decide (1000 ≤ b.noRt)

/-- ALIGNMENT_LOST (R62, R110): 0x0205 or 0x0402 and D in every word; 0x0206 after 32 turns without a measurement. -/
def execAlignmentLost (nn : Nat) (s : State) : Host.Outcome State Fault Refusal :=
  .next (if nn = curNo then
      if s.curFlows && s.flag Reg.CUR_STAT_ALIGN && misaligned s.cur.lane then
        (s.setFlag Reg.CUR_STAT_ALIGN false).raiseLevel 0x0402 2 subjNone []
      else s
    else if s.sendsFrames nn then
      if s.flag (Reg.BNK_STAT_ALIGN nn) && misaligned (s.bank nn) then
        (s.setFlag (Reg.BNK_STAT_ALIGN nn) false).raiseLevel 0x0205 2 (subjBank nn) []
      else if 32 ≤ (s.bank nn).noRt then s.raiseLevel 0x0206 1 (subjBank nn) []
      else s
    else s)

/-- ALIGNMENT_REGAINED: 8 valid measurements in a row with a code within range; the code applies from the next strike 0,
just before which the command comes. -/
def execAlignmentRegained (nn : Nat) (s : State) : Host.Outcome State Fault Refusal :=
  .next (if nn = curNo then
      if s.curFlows && !s.flag Reg.CUR_STAT_ALIGN && decide (8 ≤ s.cur.lane.goodRt) && s.atStrike0 then
        (({ s with cur := { s.cur with trim := (Config.round (wantTrim s.cur.lane)).toNat } }).setFlag
          Reg.CUR_STAT_ALIGN true).goneAt 0x0402 subjNone
      else s
    else if s.sendsFrames nn && !s.flag (Reg.BNK_STAT_ALIGN nn) && decide (8 ≤ (s.bank nn).goodRt) && s.atStrike0 then
      ((s.setReg (Reg.BNK_LANE_TRIM nn) (Config.round (wantTrim (s.bank nn))).toNat).setFlag
        (Reg.BNK_STAT_ALIGN nn) true).goneAt 0x0205 (subjBank nn)
    else s)

/-! ## Corners and CUR_CTRL -/

/-- Corners of CUR written but not in force take effect (R108). -/
def State.applyCurCorners (s : State) : State :=
  let cf := s.reg Reg.CUR_CTRL_CFC
  let vf := s.reg Reg.CUR_CTRL_VFC
  ({ s with cur := { s.cur with
      cfc := cf, vfc := vf
      settleI := if cf = s.cur.cfc then s.cur.settleI else settleCount cf
      settleV := if vf = s.cur.vfc then s.cur.settleV else settleCount vf } }).showCur

/-- FILTER_CHANGE_APPLY: the changes due at the strike 0 that follows. -/
def execFilterChangeApply (s : State) : Host.Outcome State Fault Refusal :=
  .next (if s.atStrike0 then s.applyChanges.applyCurCorners else s)

/-- The address of CUR_CTRL. -/
def curCtrlAt : Nat := 0x30000

/-- CUR_CTRL_WRITE: HALL, CFC and VFC keep their values while a contactor is closed, recorded as 0x0408 where one of them would
change, with a session or without (R16, R108). A reserved HALL is recorded under R17.
DEDUCED (log 270). -/
def State.curCtrlWrite (p : Path) (w : Nat) (s : State) : State :=
  let v := s.legalWord curCtrlAt w
  let changes := [(Reg.CUR_CTRL_HALL, bitsAt v 0 2), (Reg.CUR_CTRL_CFC, bitsAt v 8 3), (Reg.CUR_CTRL_VFC, bitsAt v 12 3)].any
    fun e => s.reg e.1 != e.2
  if s.contactorClosed && changes then
    let keepHall := fun (x : Nat) => if bitsAt w 0 2 = 3 then x else keepField s Reg.CUR_CTRL_HALL x
    (s.note 0x0408 subjNone []).writeRest p curCtrlAt
      (keepHall (keepField s Reg.CUR_CTRL_CFC (keepField s Reg.CUR_CTRL_VFC w)))
  else s.writeWord p curCtrlAt w

def execCurCtrlWrite (path : Path) (w : Word) (s : State) : Host.Outcome State Fault Refusal :=
  .next (if s.deaf then s else s.curCtrlWrite path w.toNat)

/-- HALL_SUPPLY_FAULT: two turns out of tolerance (R114). -/
def execHallSupplyFault (s : State) : Host.Outcome State Fault Refusal :=
  .next (if s.hallFitted && decide (2 ≤ s.cur.supplyRun) then
      ({ s with cur := { s.cur with hallD := true } }).raiseLevel 0x0406 1 subjNone []
    else s)

/-! ## The insulation monitor (R118 to R123) -/

/-- The monitor injects: it holds the token, its domain is on, MODE allows it and no handover is in progress (R119 to
R121). -/
def State.imdWanted (s : State) : Bool :=
  s.token && s.flag Reg.PWR_DOM_IMD && !s.flag Reg.TDM_STAT_HO
    && (s.reg Reg.IMD_CTRL_MODE == 1 || (s.reg Reg.IMD_CTRL_MODE == 2 && !s.contactorClosed))

/-- The monitor may not inject any longer: it ends at once (R119, R121). -/
def State.imdCheck (s : State) : State :=
  if !s.imdWanted && (s.imd.relayCmd || s.flag Reg.IMD_RESULT_INJ) then s.imdStop else s

/-- Strike 0: the coupling relay closes and injection starts at 2 Hz; a result taken from the partner is in force from then
until the first own one (R120, R121). -/
def State.imdTurn (s : State) : State :=
  if s.imdWanted && !s.imd.relayCmd then
    ({ s with imd := { s.imd with relayCmd := true, fast := 0, lowW := 0, lowA := 0 } }).setFields
      [(Reg.IMD_RESULT_INJ, 1), (Reg.IMD_RESULT_FREQ, 0), (Reg.IMD_RESULT_VALID, bit (s.flag Reg.IMD_RESULT_HELD && s.imd.heldOk))]
  else s.imdCheck

/-- A write of IMD_CTRL: a MODE that forbids the injection ends it (R121). -/
def State.imdCtrlWrite (p : Path) (w : Nat) (s : State) : State := (s.writeWord p Reg.IMD_CTRL_MODE.off w).imdCheck

/-- A result, kΩ, as RISO holds it. -/
def risoOf (k : Nat) : Nat := if 50000 < k then 0xFFFF else k

/-- A result against a threshold (R122): below it in two results the fault is raised; absent only from 10 % above. -/
def State.imdJudge (low : Nat) (riso lim code cls : Nat) (s : State) : State :=
  if 2 ≤ low then s.raiseLevel code cls subjNone []
  else if lim * 11 < riso * 10 then s.goneAt code subjNone else s

/-- The thresholds of R122 against a result; a lower bound counts only when it lies above both.
DEDUCED (log 44). -/
def State.imdLimits (riso : Nat) (lb : Bool) (s : State) : State :=
  let w := s.reg Reg.IMD_LIM_WARN
  let a := s.reg Reg.IMD_LIM_ALARM
  if lb && !(decide (w < riso) && decide (a < riso)) then s
  else
    let lw := if riso < w then s.imd.lowW + 1 else 0
    let la := if riso < a then s.imd.lowA + 1 else 0
    (({ s with imd := { s.imd with lowW := lw, lowA := la } }).imdJudge lw riso w 0x0410 1).imdJudge la riso a 0x0411
      (s.reg Reg.IMD_CTRL_ACLS)

/-- A result is published. -/
def State.imdResult (r : ImdIn) (lb : Bool) (s : State) : State :=
  let k := risoOf r.riso
  (({ s with imd := { s.imd with last := k } }).setFields
    [(Reg.IMD_RESULT_RISO, k), (Reg.IMD_RESULT_VALID, 1), (Reg.IMD_RESULT_LB, bit lb), (Reg.IMD_RESULT_HELD, 0),
     (Reg.IMD_RESULT_LOC, r.loc.getD 0xFF)]).imdLimits k lb

/-- The self-test result lies within 10 % of 200 kΩ in parallel with the last result (R123). -/
def selfTestGood (last got : Nat) : Bool :=
  let want : Rat := if last = 0xFFFF then 200 else 200 * last / (200 + last)
  decide (abs ((got : Rat) - want) ≤ want / 10)

/-- A period whose current settled. -/
def State.imdSettled (r : ImdIn) (s : State) : State :=
  let fast := if r.fast then s.imd.fast + 1 else 0
  let f := s.reg Reg.IMD_RESULT_FREQ
  let up := decide (8 ≤ fast) && decide (0 < f)
  let s1 := ({ s with imd := { s.imd with fast := if up then 0 else fast } }).setReg Reg.IMD_RESULT_FREQ
    (if up then f - 1 else f)
  if s1.imd.testing then
    ({ s1 with imd := { s1.imd with testing := false } }).level (!selfTestGood s1.imd.last r.riso) 0x0412 1 subjNone []
  else s1.imdResult r false

/-- A period whose current did not settle: one step down, or a lower bound at 0.1 Hz (R118). -/
def State.imdUnsettled (r : ImdIn) (s : State) : State :=
  let f := s.reg Reg.IMD_RESULT_FREQ
  let s1 := { s with imd := { s.imd with fast := 0 } }
  if f < 4 then s1.setReg Reg.IMD_RESULT_FREQ (f + 1)
  else if s1.imd.testing then s1
  else (s1.note 0x0414 subjNone []).imdResult r true

/-- IMD_PERIOD_END. -/
def execImdPeriodEnd (r : ImdIn) (s : State) : Host.Outcome State Fault Refusal :=
  .next (if s.flag Reg.IMD_RESULT_INJ then (if r.unsettled then s.imdUnsettled r else s.imdSettled r) else s)

/-- IMD_SELF_TEST: at entry to RUN and every 24 hours, while the module holds the token (R123).
DEDUCED (log 43). -/
def execImdSelfTest (s : State) : Host.Outcome State Fault Refusal :=
  .next (if s.token && s.flag Reg.IMD_RESULT_INJ && s.flag Reg.IMD_RESULT_VALID && !s.imd.testing
      && (s.imd.testAt == 0 || s.elapsed s.imd.testAt (86400 * secStrikes)) then
      { s with imd := { s.imd with testing := true, testAt := s.now + 1 } }
    else s)

/-- IMD_RELAY_FAULT: the coupling relay's feedback, and for how many ms it has disagreed (R123). -/
def execImdRelayFault (feedback : Bool) (ms : Nat) (s : State) : Host.Outcome State Fault Refusal :=
  let s1 := { s with imd := { s.imd with relayFb := feedback } }
  .next (if feedback == s.imd.relayCmd then s1.goneAt 0x0413 subjNone
    else if 20 < ms then s1.raiseLevel 0x0413 1 subjNone [] else s1)

end Sys2Proof.Machine
end

