-- ==== Sys2Proof/Machine/Thermal.lean ====
section
/-! DEFINITION. Temperature inputs, die and bank sensors (chapter 5). -/
namespace Sys2Proof.Machine

/-! ## Inputs, types and curves (R126 to R128) -/

/-- The curve table of an input; M0 and M1 use the factory curve (R127).
DESIGN CHOICE (log 259). -/
def State.tempCurve (s : State) (j : Nat) : List Nat :=
  if j < tempM then s.thm.curves.get [] (s.reg (Reg.THM_CURVE_CURVE (j / 32)))
  else if j < tempM + 2 then Config.factoryCurve
  else s.thm.curves.get [] (bitsAt (s.reg Reg.THM_MCURVE_CURVE) (3 * (j - tempM - 2)) 3)

/-- Number of an input in its word (R130). -/
def inputNo (j : Nat) : Nat := if j < tempM then j % 32 else j - tempM

/-- Two inputs belong to one group for tests and neighbours (R95): a bank; M2 to M7. -/
def sameGroup (i j : Nat) : Bool :=
  if i < tempM ∧ j < tempM then i / 32 == j / 32 else decide (tempM + 2 ≤ i) && decide (tempM + 2 ≤ j)

/-- Temperature of a resistance by a curve of 34 points, 0.01 °C, linear in ln R between adjacent points (R127); none
outside the curve, with whether it lies above the top temperature.
DEDUCED (log 193). -/
def curveTemp (c : List Nat) (r : Nat) : Bool × Option Int :=
  let i := ((List.range 33).find? fun i => decide (c.getD (i + 1) 0 ≤ r) && decide (r ≤ c.getD i 0))
  match i with
  | some i =>
    let a := Config.ln (c.getD i 0)
    let b := Config.ln (c.getD (i + 1) 0)
    (false, some (Config.round (-4000 + 500 * ((i : Rat) + (a - Config.ln r) / (a - b)))))
  | none => (decide (r < c.getD 33 0), none)

/-- Boltzmann's constant over the elementary charge, µV/K. -/
def kOverQ : Rat := 138064900000 / 1602176634

/-- Temperature of a remote diode by the two-current method with ideality factor 1.008, 0.01 °C (R128).
DESIGN CHOICE (log 289). -/
def diodeTemp (dv ratio : Nat) : Int :=
  Config.round ((dv : Rat) / 1000 / (kOverQ * (1008 / 1000) * Config.ln (ratio : Nat)) * 100 - 27315)

/-- VALUE and O of a conversion (R128 to R130).
DEDUCED (log 193). -/
def State.convert (s : State) (j : Nat) (raw : TempRaw) : Int × Bool :=
  match raw with
  | .ntc r =>
    match curveTemp (s.tempCurve j) r with
    | (_, some t) => (clampInt (-4000) 12500 t, decide (t < -4000) || decide (12500 < t))
    | (hot, none) => (if hot then 12500 else -4000, true)
  | .diode dv ratio =>
    let t := diodeTemp dv ratio
    (clampInt (-4000) 12500 t, decide (t < -4000) || decide (12500 < t))

/-- An input before its first conversion. -/
def TempState.initial : TempState :=
  { value := 0, new := false, a := false, rate := false, t := false, o := false, f := false, u := true, oRun := 0, outRun := 0
    retest := false, failNext := false }

def State.temp (s : State) (j : Nat) : TempState := s.thm.inputs.get TempState.initial j
def State.setTemp (j : Nat) (t : TempState) (s : State) : State :=
  { s with thm := { s.thm with inputs := s.thm.inputs.put j t } }

/-! ## Values (R137, R138) -/

/-- The neighbours that stand in for a failed bank input, or judge a tested one: fitted, not failed, converted. -/
def State.neighbours (s : State) (j : Nat) : List Nat :=
  ([j - 1, j + 1].filter fun i => i != j && sameGroup i j && s.tempFitted i && !(s.temp i).f && !(s.temp i).u)

/-- VALUE of an input: its last conversion, or its substitute when it has failed (R137). -/
def State.tempValue (s : State) (j : Nat) : Int :=
  if (s.temp j).f then
    if j < tempM then
      match s.neighbours j with
      | [] => 12500
      | l => (l.map fun i => (s.temp i).value).foldl max (-4000) + 500
    else 12500
  else (s.temp j).value

/-- The value under-temperature limits see (R137, R213). -/
def State.tempLow (s : State) (j : Nat) : Int :=
  if (s.temp j).f then
    if j < tempM then
      match s.neighbours j with
      | [] => -4000
      | l => (l.map fun i => (s.temp i).value).foldl min 12500 - 500
    else -4000
  else (s.temp j).value

/-- Limits of Sluice apply to an input: bank inputs and M2 to M7 (R213). -/
def sluiceInput (j : Nat) : Bool := decide (j < tempM) || decide (tempM + 2 ≤ j)

/-- The temperature limits of Sluice, 0.01 °C (R133, R213).
DEDUCED (log 54). -/
def State.tempLimits (s : State) : List Int :=
  [Reg.SLU_TTH_A_OTW, Reg.SLU_TTH_A_OTS, Reg.SLU_TTH_B_OTE, Reg.SLU_TTH_C_UTC, Reg.SLU_TTH_C_UTD].map fun f =>
    signed 16 (s.slu.thr.field f)

/-- Distance of a value to the nearest limit. -/
def State.limitGap (s : State) (v : Int) : Nat :=
  s.tempLimits.foldl (fun a l => min a (v - l).natAbs) 100000

/-! ## Conversions and tests (R95, R96, R130 to R136) -/

/-- The input is converted at the approach-band rate: in the band, or with O or F (R133). -/
def TempState.rated (t : TempState) : Bool := t.a || t.o || t.f

/-- The approach band after a conversion (R133). -/
def State.bandAfter (s : State) (j : Nat) (v : Int) (t : TempState) : TempState :=
  let b := s.reg Reg.THM_CTRL_BAND * 100
  let g := s.limitGap v
  if !sluiceInput j then t
  else if g ≤ b then { t with a := true, outRun := 0 }
  else if b + 100 < g then
    (if 100 ≤ t.outRun + 1 then { t with a := false, outRun := 0 } else { t with outRun := t.outRun + 1 })
  else { t with outRun := 0 }

/-- An ordinary conversion of an input. Two in a row with O make it fail from the next turn (R136). -/
def State.convertInput (j : Nat) (raw : TempRaw) (s : State) : State :=
  let (v, o) := s.convert j raw
  let t := s.temp j
  let run := if o then t.oRun + 1 else 0
  let t1 := s.bandAfter j v { t with value := v, new := true, t := false, o := o, u := false, oRun := run
                                     failNext := t.failNext || decide (2 ≤ run) }
  (s.setTemp j t1).level (decide (2 ≤ run)) 0x0501 2 (subjTemp j) []

/-- The rise a remote diode must show at ten times its current, µV: (k T / q) ln 10 (R95). -/
def diodeRise (centi : Int) : Rat := kOverQ * (((centi : Rat) + 27315) / 100) * Config.ln 10

/-- A neighbour's conversion in a test slot lies within 0.5 K of its last value. -/
def State.neighbourMoved (s : State) (j : Nat) (ti : TempIn) : Option Nat :=
  (s.neighbours j).find? fun i =>
    match ti.neigh.find? fun e => (if j < tempM then j / 32 * 32 + e.1 else tempM + e.1) == i with
    | some e => decide (50 < ((s.convert i e.2).1 - (s.temp i).value).natAbs)
    | none => false

/-- The excitation check of a test conversion (R95). -/
def State.excitationGood (s : State) (j : Nat) (ti : TempIn) : Bool :=
  if s.tempType j = 1 then decide (1900 ≤ ti.ratio) && decide (ti.ratio ≤ 2100)
  else decide (abs ((ti.rise : Rat) - diodeRise (s.temp j).value) ≤ 3000)

/-- A test conversion: a first failure is tested again in the next period, a second makes the input fail (R96).
DEDUCED (log 39). -/
def State.testInput (j : Nat) (ti : TempIn) (s : State) : State :=
  let moved := s.neighbourMoved j ti
  let t := { s.temp j with new := true, t := true }
  if s.excitationGood j ti && moved.isNone then s.setTemp j { t with retest := false }
  else if t.retest then
    (s.setTemp j { t with retest := false, failNext := true }).raiseLevel 0x030C 2 (subjTemp j)
      (match moved with | some i => leBytes 2 i | none => [])
  else s.setTemp j { t with retest := true }

/-- The input tested in a period by a group of `n` inputs starting at `base`: one to test again, or the scheduled one; none is
left for a period in which one has been tested again (R95, R96).
DEDUCED (log 39). -/
def State.testedInput (s : State) (base n : Nat) : Option Nat :=
  match (range base (base + n)).find? fun j => (s.temp j).retest with
  | some j => some j
  | none => if s.thm.retested.get 0 base = s.turn / 10 + 1 then none else some (base + s.turn / 10 % n)

/-- The schedule converts an input in the turn in hand (R132, R133).
DEDUCED (log 40). -/
def State.tempDue (s : State) (j : Nat) : Bool :=
  s.tempFitted j && ((s.temp j).rate || s.turn % 10 == inputNo j % 10)

/-- The test conversion of an input falls in the turn in hand: its scheduled turn of the period.
DEDUCED (log 40). -/
def State.tempTested (s : State) (base n j : Nat) : Bool :=
  s.testedInput base n == some j && s.turn % 10 == inputNo j % 10 && !(s.temp j).u && !(s.temp j).f

/-- One input of a group in a turn. A failed input stays failed while it is not fitted (R126, R136). -/
def State.tempInput (base n : Nat) (ins : List TempIn) (j : Nat) (s : State) : State :=
  let t := s.temp j
  let f := t.f || t.failNext
  if !s.tempFitted j then s.setTemp j { TempState.initial with f := f }
  else
    let t0 := { t with f := f, new := false, t := false }
    let s0 := s.setTemp j { t0 with rate := t0.rated }
    match ins.find? fun e => base + e.input == j with
    | none => s0
    | some ti =>
      if s0.tempTested base n j then
        (if t.retest then { s0 with thm := { s0.thm with retested := s0.thm.retested.put base (s.turn / 10 + 1) } } else s0).testInput
          j ti
      else if s0.tempDue j then s0.convertInput j ti.raw else s0

/-- The temperature word of an input (R130): VALUE is 0 before its first conversion, and while it is not fitted (R126). -/
def State.tempWord (s : State) (j : Nat) : Nat :=
  let t := s.temp j
  let none_ := !s.tempFitted j || (t.u && !t.f)
  let v := if none_ then 0 else s.tempValue j
  unsigned 16 v * 65536 + bit t.new * 32768 + bit t.rate * 16384 + bit t.t * 8192 + bit t.o * 4096 + bit t.f * 2048
    + bit none_ * 1024 + inputNo j

/-- The failures of a group once its inputs are converted (R137, R138). -/
def State.tempFailures (base n : Nat) (s : State) : State :=
  let l := (range base (base + n)).filter fun j => s.tempFitted j
  let failed := l.filter fun j => (s.temp j).f
  let s1 := forAll l (fun j s =>
    let alone := (s.temp j).f && (if j < tempM then (s.neighbours j).isEmpty else decide (tempM + 2 ≤ j))
    s.level alone 0x0502 3 (subjTemp j) []) s
  if base < tempM then s1.level (decide (4 < failed.length)) 0x0503 3 (subjBank (base / 32)) []
  else s1.level ((s1.temp tempM).f) 0x0504 1 (subjTemp tempM) []

/-- THM_FAIL of a group. -/
def State.showFailed (base n : Nat) (s : State) : State :=
  let m := (List.range n).foldl (fun a i => putBit a i (s.temp (base + i)).f) 0
  if base < tempM then s.setReg (Reg.THM_FAIL_B_FAIL (base / 32)) m else s.setReg Reg.THM_FAIL_M_FAIL m

/-- A group of inputs at strike 31. -/
def State.tempGroup (base n : Nat) (ins : List TempIn) (s : State) : State :=
  ((forEach (range base (base + n)) (State.tempInput base n ins) s).tempFailures base n).showFailed base n

/-- A turn whose temperature words did not come: every VALUE, A, O and F as before, NEW = 0 (R131). The conversions that the
bank made in it are lost with them.
DESIGN CHOICE (log 290). -/
def State.tempHeld (base n : Nat) (s : State) : State :=
  forEach (range base (base + n)) (fun j s =>
    if s.thm.inputs.any fun e => e.1 == j then s.setTemp j { s.temp j with new := false, t := false } else s) s

/-- Bytes 320 to 451 of the strike-31 frame of a bank: its 32 temperature words, input 0 first, and their CRC-32 (R131). -/
def State.tempBytes (s : State) (nn : Nat) : List Nat :=
  let l := (range (nn * 32) (nn * 32 + 32)).flatMap fun j => leBytes 4 (s.tempWord j)
  l ++ leBytes 4 (crc32 l)

/-- The inputs of a bank that have delivered a conversion in the turn, for the release of the bank (R68). -/
def State.tempsSeen (nn : Nat) (s : State) : State :=
  s.updBank nn fun b => { b with tempSeen := (List.range 32).foldl (fun a i =>
    putBit a i (bitAt a i || ((s.temp (nn * 32 + i)).new && !(s.temp (nn * 32 + i)).t))) b.tempSeen }

/-- Strike 31: the temperature words of a bank (R131). -/
def State.bankTemps (b : BankIn) (s : State) : State :=
  let nn := b.bank
  if s.frameOk b then
    let s1 := s.tempGroup (nn * 32) 32 b.temps
    let rx := hit ((b.err.filter fun e => decide (320 ≤ e.1)).map fun e => (e.1 - 320, e.2)) (s1.tempBytes nn)
    if leAt rx 128 4 = crc32 (rx.take 128) then s1.tempsSeen nn else s.tempHeld (nn * 32) 32
  else s.tempHeld (nn * 32) 32

/-- Strike 31: the module-level words, and the outlet rise of the turn (R131, R146). -/
def State.moduleTemps (ins : List TempIn) (s : State) : State :=
  let s1 := s.tempGroup tempM 8 ins
  let a := s1.tempValue tempM
  let b := s1.tempValue (tempM + 1)
  let known := !(s1.temp tempM).u && !(s1.temp (tempM + 1)).u
  let run := if known && decide (2500 < b - a) then s1.thm.riseRun + 1 else 0
  let s2 := ({ s1 with thm := { s1.thm with riseRun := run } }).setFields
    [(Reg.THM_AIR_INLET, unsigned 16 a), (Reg.THM_AIR_OUTLET, unsigned 16 b)]
  if run = 0 then s2.goneAt 0x0505 subjNone else s2

/-- OUTLET_RISE_ALARM: 60 000 turns above 25 K (R146). -/
def execOutletRiseAlarm (s : State) : Host.Outcome State Fault Refusal :=
  .next (if 60000 ≤ s.thm.riseRun then s.raiseLevel 0x0505 1 subjNone [] else s)

/-! ## Die sensors (R139 to R145) -/

/-- A die sensor takes part in the die rules (R140). -/
def State.dieValid (s : State) (k : Nat) : Bool := s.bitOf Reg.THM_DIE_VALID_VALID k

/-- The hottest valid die sensor of a strike, with its number. -/
def State.dieHot (s : State) (l : List Int) : Option (Nat × Int) :=
  (List.range 16).foldl (fun a k =>
    let v := l.getD k 0
    if s.dieValid k then (match a with | some (j, w) => if w < v then some (k, v) else some (j, w) | none => some (k, v))
    else a) none

/-- The runs at 130 °C or more of the valid die sensors (R142). -/
def State.dieRuns (s : State) (l : List Int) : Tab Nat :=
  (List.range 16).foldl (fun t k =>
    t.put k (if s.dieValid k && decide (13000 ≤ l.getD k 0) then t.get 0 k + 1 else 0)) s.thm.hotRun

/-- The die sensors at a strike: the hottest one, the sums of the turn, the runs at 130 °C of each sensor, and the sensor and
value that the shutdown unit would record (R140 to R142). -/
def State.dieStrike (l : List Int) (s : State) : State :=
  match s.dieHot l with
  | none => { s with thm := { s.thm with hotRun := [] } }
  | some (k, v) =>
    let sums := (List.range 16).foldl (fun t i => t.put i (t.get 0 i + l.getD i 0)) s.thm.dieSum
    let runs := s.dieRuns l
    let m := ((List.range 16).find? fun i => decide (2 ≤ runs.get 0 i)).getD k
    ({ s with thm := { s.thm with
        dieSum := sums.put 16 (sums.get 0 16 + v), dieN := s.thm.dieN + 1, hotRun := runs, hotIdx := m
        hotVal := l.getD m 0 } }).setFields
      [(Reg.THM_DIE_HOT, unsigned 16 v), (Reg.THM_DIE_HOT_IDX, k)]

/-- Insertion into a sorted list. -/
def insertInt (x : Int) : List Int → List Int
  | [] => [x]
  | y :: r => if x ≤ y then x :: y :: r else y :: insertInt x r

/-- Twice the median of a list of 16.
DEDUCED (log 41). -/
def median2 (l : List Int) : Int :=
  let s := l.foldl (fun a x => insertInt x a) []
  s.getD 7 0 + s.getD 8 0

/-- The end of a turn for the die sensors: sums against the median, the warning and cooling runs (R140, R141). Sums of
equal counts stand for means.
DEDUCED (log 41). -/
def State.dieTurn (s : State) : State :=
  let n : Int := s.thm.dieN
  let t := s.thm.dieSum
  let m2 := median2 ((List.range 16).map fun k => t.get 0 k)
  let off := (List.range 16).foldl (fun a k =>
    a.put k (if decide (2 * 800 * n < (2 * t.get 0 k - m2).natAbs) then a.get 0 k + 1 else 0)) s.thm.dieOff
  let hot := t.get 0 16
  let warn := if 11500 * n ≤ hot then s.thm.warnRun + 1 else 0
  let s1 := ({ s with thm := { s.thm with
      dieSum := [], dieN := 0, dieMean := t, dieOff := off, warnRun := warn
      coolRun := if hot < 11000 * n then s.thm.coolRun + 1 else 0 } }).setFlag Reg.THM_DIE_WARN (decide (10 ≤ warn))
  if 10 ≤ warn then s1 else s1.goneAt 0x0510 subjNone

/-- The number of valid die sensors. -/
def State.dieCount (s : State) : Nat := countIf s.dieValid (List.range 16)

/-- DIE_SENSOR_IMPLAUSIBLE: die sensor `k`, or the pair of sensors of bank `k - 16` (R140).
DEDUCED (log 50). -/
def execDieSensorImplausible (k : Nat) (s : State) : Host.Outcome State Fault Refusal :=
  .next (if k < 16 then
      if s.dieValid k && decide (100 ≤ s.thm.dieOff.get 0 k) then
        let s1 := (s.setBit Reg.THM_DIE_VALID_VALID k false).raiseLevel 0x0508 1 (subjNum k) []
        if s1.dieCount < 8 then s1.raiseLevel 0x0509 3 subjNone [] else s1
      else s
    else if 100 ≤ s.thm.bankDiff.get 0 (k - 16) then
      ({ s with thm := { s.thm with bankPair := putBit s.thm.bankPair (k - 16) true } }).raiseLevel 0x0508 1 (subjBank (k - 16)) []
    else s)

/-- DIE_WARNING: ten turns at or above 115 °C; PD_VEC goes off at the strike 0 that follows (R141).
DESIGN CHOICE (log 2). -/
def execDieWarning (s : State) : Host.Outcome State Fault Refusal :=
  .next (if decide (10 ≤ s.thm.warnRun) && s.atStrike0 && !s.thm.latch then
      ((s.raiseLevel 0x0510 2 subjNone []).setFields
        [(Reg.THM_DIE_VEC_OFF, 1), (Reg.PWR_DOM_VEC, 0)]).mdlSuspend
    else s)

/-- DIE_COOLED: 10 000 turns below 110 °C. PD_VEC comes on again where the power state has it on (R141, R530). -/
def execDieCooled (s : State) : Host.Outcome State Fault Refusal :=
  .next (if s.flag Reg.THM_DIE_VEC_OFF && decide (10000 ≤ s.thm.coolRun) then
      s.setFields [(Reg.THM_DIE_VEC_OFF, 0), (Reg.PWR_DOM_VEC, bit s.inRun)]
    else s)

/-- DIE_SHUTDOWN: 130 °C at two strikes. The latch sets, the hardware path opens the contactors, the record goes to the
retention store, and CORE and every switched domain go off (R142). -/
def execDieShutdown (s : State) : Host.Outcome State Fault Refusal :=
  .next (if decide (2 ≤ s.thm.hotRun.get 0 s.thm.hotIdx) && !s.thm.latch && s.sys.core then
      ({ s with thm := { s.thm with
          latch := true, store := some (s.now, s.thm.hotVal, s.thm.hotIdx, 1) } }).emergencyOpen true 0x0511 |>.coreOff
    else s)

/-! ## Bank sensors (R139, R140, R144) -/

/-- The two sensors of a bank have been found to differ: the bank rules apply to the higher of the two (R140). -/
def State.pairBad (s : State) (nn : Nat) : Bool := bitAt s.thm.bankPair nn

/-- The two sensors of a bank at a strike. -/
def State.bankSensors (b : BankIn) (s : State) : State :=
  let nn := b.bank
  let hi := fun (v : Int) => if s.pairBad nn then max b.sens0 b.sens1 else v
  let sees := fun (k : Nat) (v : Int) (t : ThmState) =>
    { t with bankSum := t.bankSum.put (nn * 2 + k) (t.bankSum.get 0 (nn * 2 + k) + v)
             bankHot := t.bankHot.put (nn * 2 + k) (if 13000 ≤ hi v then t.bankHot.get 0 (nn * 2 + k) + 1 else 0) }
  if s.frameOk b then
    let t := sees 1 b.sens1 (sees 0 b.sens0 s.thm)
    { s with thm := { t with bankSum := t.bankSum.put (100 + nn) (t.bankSum.get 0 (100 + nn) + 1) } }
  else s

/-- The end of a turn for the sensors of a bank; the count of strikes summed stands at 100 + nn. -/
def State.bankSensorTurn (nn : Nat) (s : State) : State :=
  let t := s.thm
  let a := t.bankSum.get 0 (nn * 2)
  let b := t.bankSum.get 0 (nn * 2 + 1)
  let n := t.bankSum.get 0 (100 + nn)
  let warm := fun (k : Nat) (v : Int) (w : Tab Nat) => w.put (nn * 2 + k) (if 0 < n ∧ 11500 * n ≤ v then w.get 0 (nn * 2 + k) + 1 else 0)
  let w := if s.pairBad nn then warm 1 (max a b) (warm 0 (max a b) t.bankWarn) else warm 1 b (warm 0 a t.bankWarn)
  let s1 := { s with thm := { t with
      bankMean := (t.bankMean.put (nn * 2) a).put (nn * 2 + 1) b
      bankSum := ((t.bankSum.put (nn * 2) 0).put (nn * 2 + 1) 0).put (100 + nn) 0
      bankDiff := t.bankDiff.put nn (if 800 * n < (a - b).natAbs then t.bankDiff.get 0 nn + 1 else 0), bankWarn := w } }
  if w.get 0 (nn * 2) = 0 ∧ w.get 0 (nn * 2 + 1) = 0 then s1.goneAt 0x0512 (subjBank nn) else s1

/-- BANK_WARNING: a bank sensor at or above 115 °C in ten turns (R144). -/
def execBankWarning (nn k : Nat) (s : State) : Host.Outcome State Fault Refusal :=
  .next (if 10 ≤ s.thm.bankWarn.get 0 (nn * 2 + k % 2) then s.raiseLevel 0x0512 2 (subjBank nn) [] else s)

/-- BANK_SHUTDOWN: a bank sensor at or above 130 °C at two strikes. PD_Bnn goes off until a power cycle (R144, R145). -/
def execBankShutdown (nn k : Nat) (s : State) : Host.Outcome State Fault Refusal :=
  .next (if decide (2 ≤ s.thm.bankHot.get 0 (nn * 2 + k % 2)) && !(s.bank nn).shut then
      ((s.raise 0x0513 3 (subjBank nn) []).bankPowerOff nn).updBank nn fun b => { b with shut := true }
    else s)

/-! ## Configuration -/

/-- THM_TYPE, THM_CURVE and THM_MCURVE, from PF0 BAR0. -/
def thmConfigAt (off : Nat) : Bool :=
  (decide (0x31100 ≤ off) && decide (off ≤ 0x31190)) || (decide (0x31200 ≤ off) && decide (off < 0x31248)) || off == 0x31250

/-- THM_CONFIG_WRITE: refused with 0x0507 while a contactor is closed, with a session or without (R16, R126).
DEDUCED (log 53). -/
def State.thmConfigWrite (p : Path) (off w : Nat) (s : State) : State :=
  if s.contactorClosed && !(writePlan s off w).rwl.isEmpty then
    (s.note 0x0507 subjNone (leBytes 4 off)).writeRest p off (s.storedWord off)
  else s.writeWord p off w

def execThmConfigWrite (path : Path) (off : Nat) (w : Word) (s : State) : Host.Outcome State Fault Refusal :=
  .next (if !s.deaf && thmConfigAt off then s.thmConfigWrite path off w.toNat else s)

/-- Everything thermal at a strike. -/
def State.thermalStrike (i : StrikeIn) (s : State) : State :=
  let s1 := forAll i.banks State.bankSensors (s.dieStrike i.die)
  if s1.phase = 31 then
    let s2 := forAll i.banks State.bankTemps (s1.moduleTemps i.mtemps)
    forEach bankNos State.bankSensorTurn s2.dieTurn
  else s1

end Sys2Proof.Machine
end

