-- ==== Sys2Proof/Machine/Sluice.lean ====
section
/-! DEFINITION. Sluice: the hardware path, the contactor sequences, the openings and the breaker (chapter 8). The
supervision tests and the requests acted on in SUP are in Supervision.lean. -/
namespace Sys2Proof.Machine

/-- A threshold in units of 0.1 mV, in µV. -/
def State.thrUv (s : State) (f : Field) : Int := (s.thr f : Int) * 100

/-! ## The hardware path at a strike (R208, R209, R212) -/

/-- A run counted on, broken, or left as it is. -/
def runStep (met : Bool) (t : Tab Nat) (k : Nat) : Tab Nat := t.put k (if met then t.get 0 k + 1 else 0)

/-- One position of an accepted frame: whether its word is accepted, and its fine-sample runs. -/
def State.hwWord (nn p w : Nat) (s : State) : State :=
  let g := globalPos nn p
  let acc := s.compared nn p s.now
  let s1 := { s with slu := { s.slu with used := if acc then g :: s.slu.used else s.slu.used } }
  if acc && s.slu.cfg then
    { s1 with slu := { s1.slu with
        ovf := runStep (decide (s.thrUv Reg.SLU_VTH_B_OVF ≤ wValue w)) s1.slu.ovf g
        uvf := runStep (decide (wValue w ≤ s.thrUv Reg.SLU_VTH_D_UVF)) s1.slu.uvf g } }
  else s1

/-- The comparator states of one position (R209). -/
def State.hwComparator (b : BankIn) (p : Nat) (s : State) : State :=
  let g := globalPos b.bank p
  if s.cmpCompared b.bank p && !s.testedNow b.bank p then
    let o := bitAt b.cmpOver p
    let u := bitAt b.cmpUnder p
    let s1 := { s with slu := { s.slu with 
      cmpNow := s.slu.cmpNow.upd (0, 0) g fun t => (t.1 + bit o, t.2 + bit u) } }
    if s.slu.cfg then
      { s1 with slu := { s1.slu with ovc := runStep o s1.slu.ovc g, uvc := runStep u s1.slu.uvc g } }
    else s1
  else s

/-- A frame of a source (a bank, or 18 for CUR) came or is missing (R28, 0x0709, 0x070A, 0x070C). -/
def State.countFrame (src : Nat) (ok : Bool) (s : State) : State :=
  if ok then { s with slu := { s.slu with missRun := s.slu.missRun.put src 0 } }
  else { s with slu := { s.slu with
      missRun := s.slu.missRun.put src (s.slu.missRun.get 0 src + 1)
      missed := (src, s.turn) :: s.slu.missed.filter fun e => decide (s.turn < e.2 + 1000) } }

/-- The hardware path on a bank at a strike.
DEDUCED (log 247). -/
def State.hwBank (b : BankIn) (words : List Nat) (s : State) : State :=
  let nn := b.bank
  if s.sendsFrames nn then
    let ok := s.frameOk b
    let s1 := s.countFrame nn ok
    if ok then
      forAll (s1.positions nn) (fun p s => (s.hwWord nn p (words.getD p 0)).hwComparator b p) s1
    else s1
  else s

/-- The tests on current, made while CUR is released (R209). -/
def State.hwCurrent (c : CurIn) (s : State) : State :=
  if s.curFlows then
    let ok := s.curOk c
    let s1 := s.countFrame curNo ok
    if ok && s.flag Reg.CUR_STAT_REL then
      let q := s1.cur.held
      let s2 := { s1 with slu := { s1.slu with
        fastSeen := (s1.slu.fastSeen.1 || c.ocd, s1.slu.fastSeen.2 || c.occ) } }
      if s.slu.cfg then
        { s2 with slu := { s2.slu with
            ocdFast := runNext c.ocd s2.slu.ocdFast, occFast := runNext c.occ s2.slu.occFast
            ocdHw := runNext (decide ((s.thr Reg.SLU_ITH_B_OCD_HW : Int) * 10000 ≤ q)) s2.slu.ocdHw
            occHw := runNext (decide (q ≤ -((s.thr Reg.SLU_ITH_B_OCC_HW : Int) * 10000))) s2.slu.occHw } }
      else s2
    else s1
  else s

/-- The position a subject names, none for another kind. -/
def posOfSubj (subj : Nat) : Option Nat :=
  if 0x10000000 ≤ subj ∧ subj < 0x10000000 + 1152 then some (subj - 0x10000000) else none

/-- The source a subject names: a bank, or CUR where it names nothing. -/
def sourceOfSubj (subj : Nat) : Nat := if subj = subjNone then curNo else (subj - 0x20000000) / 0x10000

/-- A hardware-path test has held for its persistence (R212). -/
def State.hwTestMet (s : State) (code subj : Nat) : Bool :=
  let pos := fun (t : Tab Nat) (k : Nat) => match posOfSubj subj with | some g => decide (k ≤ t.get 0 g) | none => false
  s.slu.cfg &&
    match code with
    | 0x0701 => pos s.slu.ovf (s.thr Reg.SLU_VPERS_OVF_P)
    | 0x0702 => pos s.slu.uvf (s.thr Reg.SLU_VPERS_UVF_P)
    | 0x0703 => pos s.slu.ovc (s.thr Reg.SLU_CPERS_OVC_P)
    | 0x0704 => pos s.slu.uvc (s.thr Reg.SLU_CPERS_UVC_P)
    | 0x0705 => subj == subjNone && decide (2 ≤ s.slu.ocdFast)
    | 0x0706 => subj == subjNone && decide (2 ≤ s.slu.occFast)
    | 0x0707 => subj == subjNone && decide (32 ≤ s.slu.ocdHw)
    | 0x0708 => subj == subjNone && decide (32 ≤ s.slu.occHw)
    | 0x0709 => decide (0x20000000 ≤ subj) && subj == subjBank (sourceOfSubj subj)
        && decide (4 ≤ s.slu.missRun.get 0 (sourceOfSubj subj))
    | 0x070A => subj == subjNone && decide (4 ≤ s.slu.missRun.get 0 curNo)
    | _ => false

/-- The fault of a code and subject is in effect with its condition present. -/
def State.present (s : State) (code subj : Nat) : Bool :=
  s.flt.active.any fun f => f.code == code && f.subj == subj && f.absent.isNone

/-- HW_TEST_MET: the fault is latched and the contactors open by emergency opening within the strike (R208, R212, R221
to R223). A missing frame is an event; the other causes last. A fault that is latched is not latched again (R229). -/
def execHwTestMet (code subj : Nat) (s : State) : Host.Outcome State Fault Refusal :=
  .next (if s.hwTestMet code subj && !s.inEffectOn code subj then
      s.raiseAs true code 3 subj (code == 0x0709 || code == 0x070A) []
    else s)

/-! ## What a strike does to the sequences -/

/-- The frame of CUR was accepted at the present strike. -/
def State.curCame (s : State) : Bool := s.curFlows && s.slu.missRun.get 0 curNo == 0

/-- |VSTR - VBUS| of the words of the latest accepted frame of CUR, mV. -/
def State.busGap (s : State) : Nat := s.slu.gapV.natAbs

/-- VSTR - VBUS of an accepted frame is kept. -/
def State.gapStrike (s : State) : State :=
  if s.curCame then { s with slu := { s.slu with gapV := wValue (wVstr s.cur.words) - wValue (wVbus s.cur.words) } } else s

/-- A weld test is being watched (R217). -/
def State.weldWatched (s : State) : Bool :=
  match s.slu.seq with
  | .w1Close => s.slu.kPre
  | .w1Dwell => true
  | .w2Close => s.slu.kNeg
  | .w2Dwell => true
  | _ => false

/-- The voltage criterion of the weld tests applies: the reference is at least twice WELD_DV. -/
def State.weldVoltage (s : State) : Bool := decide (2 * s.thr Reg.SLU_PRE_WELD_DV * 1000 ≤ s.slu.refV.natAbs)

/-- A weld test at a strike (R217). A strike without a frame shows no fall. -/
def State.weldStrike (s : State) : State :=
  if s.weldWatched then
    let run := if 5000 < s.iMag then s.slu.weldRun + 1 else 0
    let fell := s.curCame && s.weldVoltage && decide (s.busGap + s.thr Reg.SLU_PRE_WELD_DV * 1000 < s.slu.refV.natAbs)
    { s with slu := { s.slu with weldRun := run, weldFail := s.slu.weldFail || fell || decide (32 ≤ run) } }
  else s

/-- K_PRE carries the precharge current: from its energising for precharge until the contact of K_POS closes.
DESIGN CHOICE (log 285). -/
def State.precharging (s : State) : Bool :=
  s.slu.seq == .preClose || s.slu.seq == .precharge || (s.slu.seq == .posClose && !s.bitOf Reg.SLU_STAT_FB 0)

/-- Precharge at a strike (R218): once complete it stays so until the next SEV.
DESIGN CHOICE (log 285). -/
def State.prechargeStrike (s : State) : State :=
  if s.precharging then
    let near := s.slu.seq == .precharge && s.curCame && decide (s.busGap ≤ s.thr Reg.SLU_PRE_PRE_DV * 1000)
    { s with slu := { s.slu with
        preRun := if 32 ≤ s.slu.preRun then s.slu.preRun else runNext near s.slu.preRun
        preIRun := runNext (decide (s.thr Reg.SLU_PRE_PRE_IMAX * 10000 < s.iMag)) s.slu.preIRun } }
  else s

/-- An orderly opening is lowering the clamp (R220). -/
def State.ramping (s : State) : Bool := s.slu.seq == .ramp || s.slu.seq == .lowSeen

/-- An orderly opening at a strike: the clamp falls by RAMP / 32, the low-current run counts (R220). -/
def State.orderlyStrike (s : State) : State :=
  if s.ramping then
    { s with slu := { s.slu with
        ordLim := s.slu.ordLim - s.thr Reg.SLU_ORD_RAMP * 10000
        lowRun := runNext (decide (s.iMag ≤ s.thr Reg.SLU_KBRK_OPEN_I * 1000)) s.slu.lowRun } }
  else s

/-- Every feedback contact reads open; every coil is off. -/
def State.allOpen (s : State) : Bool := s.reg Reg.SLU_STAT_FB == 0
def State.noCoil (s : State) : Bool := !s.slu.kPos && !s.slu.kNeg && !s.slu.kPre

/-- The check of R224 passes: CONN becomes OPEN. -/
def State.openCheck (s : State) : State :=
  if s.slu.seq == .opening && s.allOpen && decide (s.iMag ≤ 5000) then (s.setConn connOpen).toSeq .idle else s

/-- FB_OPEN has elapsed since every coil went off in an opening. -/
def State.openElapsed (s : State) : Bool :=
  s.slu.offAt != [] && s.noCoil && s.slu.offAt.all fun e => decide (s.thr Reg.SLU_KT_FB_OPEN * msStrikes ≤ s.since e.2)

/-- Sets the weld lockout, which MRAM keeps (R224). -/
def State.setWeldLock (s : State) : State := { s with slu := { s.slu with weldLock := true } }

/-- Current flows although every contactor should be open (R224). -/
def State.flowsAfterOpen (s : State) : Bool := s.flag Reg.CUR_STAT_REL && s.openElapsed && decide (5000 < s.iMag)

/-- Current after every contactor has opened: 0x0725, also where the opening dropped the claim (R224). -/
def State.currentAfterOpen (s : State) : State :=
  if s.flowsAfterOpen then
    if s.slu.afterOpen then s
    else ({ s with slu := { s.slu with afterOpen := true } }).setWeldLock.raise 0x0725 4 subjNone []
  else s

/-- Coil circuits measured at a strike; a turn's findings are compared with the last turn's (R225). -/
def State.coilStrike (bad : Nat) (s : State) : State :=
  let now := s.slu.coilNow ||| bad
  if s.phase = 31 then
    let s1 := { s with slu := { s.slu with coilBoth := now &&& s.slu.coilPrev, coilPrev := now, coilNow := 0 } }
    if now = 0 then s1.goneAt 0x0732 subjNone else s1
  else { s with slu := { s.slu with coilNow := now } }

/-- Strike 0: what the hardware path saw in the turn that ended is kept for SUP (R226). -/
def State.sluTurnStart (s : State) : State :=
  { s with slu := { s.slu with cmpPrev := s.slu.cmpNow, cmpNow := [], fastPrev := s.slu.fastSeen, fastSeen := (false, false) } }

/-- Sluice at a strike, once the current of the strike is selected. -/
def State.sluStrike (coilBad : Nat) (s : State) : State :=
  ((((s.gapStrike.weldStrike).prechargeStrike).orderlyStrike).coilStrike coilBad).openCheck.currentAfterOpen

/-! ## Contactor steps (R214 to R218, R220) -/

/-- The present strike lies in the window of SEV. -/
def State.inSev (s : State) : Bool := decide (4 ≤ s.phase) && decide (s.phase ≤ 19)

/-- The contact of a coil reads closed. -/
def State.fbClosed (s : State) (k : Nat) : Bool := s.bitOf Reg.SLU_STAT_FB k

/-- Moves to a step whose time counts from the strike at which a contact last changed. -/
def State.toSeqAt (q : Seq) (k : Nat) (s : State) : State :=
  { s with slu := { s.slu with seq := q, stepAt := s.slu.fbAt.get s.now k } }

/-- Starts a weld test's watch. -/
def State.weldBegin (s : State) : State := { s with slu := { s.slu with weldRun := 0, weldFail := false } }

/-- K_PRE, K_NEG and K_POS off; CONN is OPENING until the openings read (R218, R235).
DEDUCED (log 228). -/
def State.abandonNow (s : State) : State :=
  (((s.coilsOff).inhibit true).setConn connOpening).setFlag Reg.SLU_STAT_EMER false |>.toSeq .opening

/-- One contactor step of SEV (R216, R218, R220).
DEDUCED (log 228). -/
def State.sevStep (s : State) : State :=
  match s.slu.seq with
  | .w1Close => if s.slu.kPre then (if s.fbClosed 2 then s.toSeqAt .w1Dwell 2 else s) else (s.coilOn 2).weldBegin
  | .w1Open => if s.fbClosed 2 then s else ((s.coilOn 1).weldBegin).toSeq .w2Close
  | .w2Close => if s.fbClosed 1 then s.toSeqAt .w2Dwell 1 else s
  | .preClose =>
    if s.fbClosed 2 then
      let s1 := s.toSeqAt .precharge 2
      { s1 with slu := { s1.slu with preAt := s1.slu.stepAt, preRun := 0 } }
    else s
  | .posClose => if s.fbClosed 0 then s.toSeqAt .overlap 0 else s
  | .preOpen => if s.fbClosed 2 then s else (s.setConn connClosed).toSeq .idle
  | .lowSeen => ((s.coilOff 0).inhibit true).toSeq .posOpen
  | .posOpen => if s.fbClosed 0 then s else s.toSeqAt .negDelay 0
  | .abandon => s.abandonNow
  | _ => s

/-- CONTACT_FEEDBACK_CHANGE: a contact (0 K_POS, 1 K_NEG, 2 K_PRE) changes state; the next SEV acts on it (R216). Without the
token a contact may close at the partner's command, which ends the watch of R224 here.
DESIGN CHOICE (log 284). -/
def execContactFeedbackChange (k : Nat) (closed : Bool) (s : State) : Host.Outcome State Fault Refusal :=
  .next (if decide (k < 3) && s.fbClosed k != closed then
      let on := match k with | 0 => s.slu.kPos | 1 => s.slu.kNeg | _ => s.slu.kPre
      let s1 := s.setBit Reg.SLU_STAT_FB k closed
      { s1 with slu := { s1.slu with
          fbAt := s1.slu.fbAt.put k s.now
          closeFrom := s1.slu.closeFrom.put k (if on && !closed then s.now + 1 else 0)
          openFrom := s1.slu.openFrom.put k (if !on && closed && s.token then s.now + 1 else 0)
          offAt := if closed && !s.token then [] else s1.slu.offAt } } |>.imdCheck
    else s)

/-- A weld test that failed: weld lockout, 0x0724 (R217). -/
def State.weldFailed (w1 : Bool) (s : State) : State :=
  let s1 := s.setFields [(if w1 then Reg.SLU_WELD_W1 else Reg.SLU_WELD_W2, 2),
    (Reg.SLU_WELD_WELDED, s.reg Reg.SLU_WELD_WELDED ||| (if w1 then 2 else 5))]
  s1.setWeldLock.raise 0x0724 3 subjNone []

/-- A weld test that passed, or was inconclusive and found no current: the next step is taken. -/
def State.weldPassed (w1 : Bool) (s : State) : State :=
  let s1 := s.setReg (if w1 then Reg.SLU_WELD_W1 else Reg.SLU_WELD_W2) (if s.weldVoltage then 1 else 3)
  if w1 then (s1.coilOff 2).toSeq .w1Open
  else
    let s2 := (s1.coilOn 2).toSeq .preClose
    { s2 with slu := { s2.slu with
        preRun := 0, preIRun := 0
        attempts := s.now :: s2.slu.attempts.filter fun a => decide (s.now ≤ a + 600 * secStrikes) } }

/-- WELD_TEST_JUDGE, a step of SEV (R214), after WDWELL from the closing of the contact.
DEDUCED (log 46). -/
def execWeldTestJudge (s : State) : Host.Outcome State Fault Refusal :=
  let w1 := s.slu.seq == .w1Dwell
  .next (if (w1 || s.slu.seq == .w2Dwell) && s.token && s.inSev
        && decide (s.thr Reg.SLU_KT_WDWELL * msStrikes ≤ s.since s.slu.stepAt) then
      (if s.slu.weldFail then s.weldFailed w1 else s.weldPassed w1)
    else s)

/-- PRECHARGE_COMPLETE: the voltages within PRE_DV at 32 strikes; K_POS is energised (R218). -/
def execPrechargeComplete (s : State) : Host.Outcome State Fault Refusal :=
  .next (if s.slu.seq == .precharge && s.token && decide (32 ≤ s.slu.preRun) && s.inSev then
      (s.coilOn 0).toSeq .posClose
    else s)

/-- PRECHARGE_TIMEOUT: not complete within PRE_TMAX; 0x0726; the next SEV de-energises K_PRE and K_NEG (R218).
DESIGN CHOICE (log 285). -/
def execPrechargeTimeout (s : State) : Host.Outcome State Fault Refusal :=
  .next (if s.slu.seq == .precharge && s.token && decide (s.slu.preRun < 32)
        && decide (s.thr Reg.SLU_PRE_PRE_TMAX * 100 * msStrikes ≤ s.since s.slu.preAt) then
      (s.raise 0x0726 1 subjNone []).toSeq .abandon
    else s)

/-- PRECHARGE_OVERCURRENT: 0x0727 (R218). -/
def execPrechargeOvercurrent (s : State) : Host.Outcome State Fault Refusal :=
  .next (if s.precharging && s.token && decide (32 ≤ s.slu.preIRun) then s.raise 0x0727 3 subjNone [] else s)

/-- OVERLAP_ELAPSED: K_PRE is de-energised; the SEV that finds its contact open makes CONN CLOSED (R216). -/
def execOverlapElapsed (s : State) : Host.Outcome State Fault Refusal :=
  .next (if s.slu.seq == .overlap && s.token && s.inSev
        && decide (s.thr Reg.SLU_KT_OVERLAP * msStrikes ≤ s.since s.slu.stepAt) then
      (s.coilOff 2).toSeq .preOpen
    else s)

/-- A coil is energised. -/
def State.coilIsOn (s : State) (k : Nat) : Bool :=
  match k with | 0 => s.slu.kPos | 1 => s.slu.kNeg | 2 => s.slu.kPre | _ => false

/-- A contact reads closed for FB_OPEN with its coil de-energised (R224).
DEDUCED (log 46). -/
def State.staysClosed (s : State) (k : Nat) : Bool :=
  decide (k < 3) && !s.coilIsOn k && s.fbClosed k && s.elapsed (s.slu.openFrom.get 0 k) (s.thr Reg.SLU_KT_FB_OPEN * msStrikes)

/-- A contact has not read closed for FB_CLOSE with its coil energised (R216). -/
def State.staysOpen (s : State) (k : Nat) : Bool :=
  s.coilIsOn k && !s.fbClosed k && s.elapsed (s.slu.closeFrom.get 0 k) (s.thr Reg.SLU_KT_FB_CLOSE * msStrikes)

/-- Contacts that read closed with their coils off are watched from here on, as where the token is granted (R224). -/
def State.watchOpen (s : State) : State :=
  forEach [0, 1, 2] (fun k s =>
    if !s.coilIsOn k && s.fbClosed k && s.slu.openFrom.get 0 k == 0 then
      { s with slu := { s.slu with openFrom := s.slu.openFrom.put k (s.now + 1) } }
    else s) s

/-- FEEDBACK_CLOSE_TIMEOUT: 0x0722 (R216).
DEDUCED (log 46). -/
def execFeedbackCloseTimeout (k : Nat) (s : State) : Host.Outcome State Fault Refusal :=
  .next (if s.token && s.staysOpen k then s.raise 0x0722 3 subjNone [] else s)

/-- FEEDBACK_OPEN_TIMEOUT: 0x0723 and the weld lockout; also after an opening that dropped the claim (R224).
DEDUCED (log 46). -/
def execFeedbackOpenTimeout (k : Nat) (s : State) : Host.Outcome State Fault Refusal :=
  .next (if s.staysClosed k && !s.inEffect 0x0723 then s.setWeldLock.raise 0x0723 3 subjNone [] else s)

/-- OPEN_CURRENT_LOW: 32 strikes at or below OPEN_I (R220). -/
def execOpenCurrentLow (s : State) : Host.Outcome State Fault Refusal :=
  .next (if s.slu.seq == .ramp && s.token && decide (32 ≤ s.slu.lowRun) then s.toSeq .lowSeen else s)

/-- K_NEG_DELAY_END: 20 ms after the contact of K_POS opened (R220). -/
def execKNegDelayEnd (s : State) : Host.Outcome State Fault Refusal :=
  .next (if s.slu.seq == .negDelay && s.token && s.inSev && decide (20 * msStrikes ≤ s.since s.slu.stepAt) then
      (s.coilOff 1).toSeq .opening
    else s)

/-- ORD_TMAX in ms; in a power-down 500 ms where that is shorter (R549).
DEDUCED (log 45). -/
def State.orderlyLimit (s : State) : Nat :=
  if s.flag Reg.PWR_STAT_PF then min 500 (s.thr Reg.SLU_ORD_ORD_TMAX) else s.thr Reg.SLU_ORD_ORD_TMAX

/-- ORDERLY_TIMEOUT: ORD_TMAX without K_POS opened; 0x0729 makes it an emergency opening (R219).
DESIGN CHOICE (log 2); DEDUCED (log 45). -/
def execOrderlyTimeout (s : State) : Host.Outcome State Fault Refusal :=
  .next (if s.ramping && s.token && decide (s.orderlyLimit * msStrikes ≤ s.since s.slu.ordAt) then
      s.raise 0x0729 3 subjNone []
    else s)

/-- BREAKER_PULSE_END: BRK_TRIP is released after TW, and 0x0731 is raised when the breaker did not clear (R223). -/
def execBreakerPulseEnd (s : State) : Host.Outcome State Fault Refusal :=
  .next (if s.elapsed s.slu.brkAt (s.thr Reg.SLU_BRK_TW * msStrikes) then
      let s1 := { (s.setFlag Reg.SLU_STAT_BRK false) with slu := { s.slu with brkAt := 0 } }
      if (s.thr Reg.SLU_BRK_AUX_EN == 1 && !s.slu.auxOpen) || decide (5000 < s.iMag) then
        s1.raise 0x0731 4 subjNone []
      else s1
    else s)

/-- COIL_CIRCUIT_FAULT: bad in two turns in a row (R225). -/
def execCoilCircuitFault (k : Nat) (s : State) : Host.Outcome State Fault Refusal :=
  .next (if decide (k < 3) && bitAt s.slu.coilBoth k then s.raiseLevel 0x0732 3 subjNone [k] else s)

/-! ## Threshold sets (R211) -/

/-- The order a threshold set must keep. -/
def thresholdOrder (t : RegFile) : Bool :=
  let v := [Reg.SLU_VTH_D_UVC, Reg.SLU_VTH_D_UVF, Reg.SLU_VTH_C_UVS, Reg.SLU_VTH_C_UVW, Reg.SLU_VTH_A_OVW,
    Reg.SLU_VTH_A_OVS, Reg.SLU_VTH_B_OVF, Reg.SLU_VTH_B_OVC].map t.field
  let h : List Int := [Reg.SLU_TTH_A_OTW, Reg.SLU_TTH_A_OTS, Reg.SLU_TTH_B_OTE].map fun f => signed 16 (t.field f)
  ((v.zip (v.drop 1)).all fun (e : Nat × Nat) => decide (e.1 < e.2))
    && ((h.zip (h.drop 1)).all fun (e : Int × Int) => decide (e.1 < e.2))
    && decide (t.field Reg.SLU_ITH_B_OCD_HW < t.field Reg.SLU_ITH_A_OCD_FAST)
    && decide (t.field Reg.SLU_ITH_B_OCC_HW < t.field Reg.SLU_ITH_A_OCC_FAST)

/-- The threshold fields: the RWL fields at offsets 0x10 to 0x60, SLU_VTH_A to SLU_CLR (R211, R616). -/
def thresholdKey (k : Nat) : Bool := decide (0x20010 * 32 ≤ k) && decide (k < 0x20064 * 32)

/-- The threshold fields of the register file. -/
def State.thresholdFields (s : State) : RegFile := s.regs.filter fun (e : Nat × Nat) => thresholdKey e.1

/-- The runs of the hardware path start again with a new set. -/
def SluState.runsCleared (u : SluState) : SluState :=
  { u with ovf := [], uvf := [], ovc := [], uvc := [], ocdFast := 0, occFast := 0, ocdHw := 0, occHw := 0 }

/-- THRESHOLD_SET_APPLY: the set of a closed session, whole, just before the strike 0 at which it takes effect; or its
discard, after which the fields read their previous values (R211, R615). -/
def execThresholdSetApply (s : State) : Host.Outcome State Fault Refusal :=
  .next (match s.slu.thrNext with
    | none => s
    | some t =>
      if s.atStrike0 then
        if thresholdOrder t then
          ({ s with slu := { s.slu.runsCleared with thr := t, cfg := true, thrNext := none } }).setFlag Reg.SLU_STAT_CFG true
        else
          ({ s with slu := { s.slu with thrNext := none }
                    regs := s.slu.thr ++ s.regs.filter fun (e : Nat × Nat) => !thresholdKey e.1
                    auth := { s.auth with refused := true } }).raise 0x072B 1 subjNone []
      else s)

/-- CLASS2_CLEAR: absent for T2 seconds without a break (R226). -/
def execClass2Clear (code subj : Nat) (s : State) : Host.Outcome State Fault Refusal :=
  .next (match s.flt.active.find? fun f => f.code == code && f.subj == subj && f.cls == 2 with
    | some f => match f.absent with
      | some a => if s.thr Reg.SLU_CLR_T2 * secStrikes ≤ s.since a then s.clearFault f else s
      | none => s
    | none => s)

/-! ## The bank trip path (R39, R231) -/

/-- The banks have had no valid marker for 250 ms as far as the module's own time shows: that many strikes of a warm reset, or
no strike at all since the latest marker, as where the strikes have stopped. Then the 250 ms are the command's own word.
DESIGN CHOICE (log 272). -/
def State.markersStopped (s : State) : Bool :=
  decide (250 * msStrikes ≤ s.since s.sys.alive) || decide (s.now ≤ s.sys.alive)

/-- KEEPALIVE_TIMEOUT: no valid keep-alive marker for 250 ms; the bank's line takes coil power from every contactor,
token or not.
DESIGN CHOICE (log 272). -/
def execKeepaliveTimeout (nn : Nat) (s : State) : Host.Outcome State Fault Refusal :=
  .next (if s.sendsFrames nn && s.markersStopped then
      (if s.noCoil then s else s.dropCoils).dropClaim true
    else s)

end Sys2Proof.Machine
end

