-- ==== Sys2Proof/Machine/Frames.lean ====
section
/-! DEFINITION. The transmit side of the Ethernet ports: addresses, tags, the four queues of a port (R456 to R459). -/
namespace Sys2Proof.Machine

/-- A port's MAC address. -/
def State.portMac (s : State) (n : Nat) : Nat := s.reg (Reg.NET_MAC_LO_MAC n) + s.reg (Reg.NET_MAC_HI_MAC n) * 2 ^ 32

/-- A port works: PD_NET on, enabled, link up. -/
def State.portLive (s : State) (n : Nat) : Bool :=
  decide (n < 2) && s.flag Reg.PWR_DOM_NET && s.flag (Reg.NET_PORT_EN n) && s.flag (Reg.NET_PORT_LINK n)

/-- The VLAN ID that frames of a class must carry, none for untagged. -/
def vlanOf (tagged : Bool) (vid : Nat) : Option Nat := if tagged then some vid else none

/-- Destination and VLAN ID of a telegram connection (R459). -/
def State.tgMac (s : State) (k : Nat) : Nat :=
  s.reg (Reg.NET_TG_MAC_LO_VAL k) + bitsAt (s.reg (Reg.NET_TG_MAC_HI_VAL k)) 0 16 * 2 ^ 32
def State.tgVlan (s : State) (k : Nat) : Option Nat :=
  let hi := s.reg (Reg.NET_TG_MAC_HI_VAL k)
  vlanOf (bitAt hi 31) (bitsAt hi 16 12)

/-! ## The four queues (R458) -/

/-- The queue of a frame, first to last in priority: PTP event messages, telegrams, PTP general messages, all others. -/
def TxBody.queue : TxBody → Nat
  | .ptp .sync => 0
  | .ptp .delayReq => 0
  | .ptp .pdelayReq => 0
  | .telegram _ => 1
  | .ptp .followUp => 2
  | .ptp .announce => 2
  | .service _ => 3

/-- Bytes of a frame from destination address to frame check sequence. Lengths of PTP messages are those of IEEE 1588.
PRESUMED (log 295). -/
def TxFrame.length (f : TxFrame) : Nat :=
  let head := if f.vlan.isSome then 22 else 18
  max 64 (head + match f.body with
    | .telegram l => l.length
    | .service l => l.length + 40
    | .ptp m => (match m with | .announce => 64 | .pdelayReq => 54 | _ => 44) + if f.etype = 0x0800 then 28 else 0)

/-- Time of a frame on the wire in ns, with preamble and gap: 8 ns a byte at 1000BASE-T, 80 ns at 100BASE-TX. -/
def TxFrame.time (g1 : Bool) (f : TxFrame) : Nat := (f.length + 20) * if g1 then 8 else 80

/-- The frame that goes next: the oldest of the first queue that is not empty. -/
def txNext (l : List TxFrame) : Option TxFrame :=
  l.foldl (fun (a : Option TxFrame) f => match a with
    | some g => if f.body.queue < g.body.queue then some f else a
    | none => some f) none

/-- A port sends for `t` ns: a frame in hand is never pre-empted; the frames that it begins are told, oldest last. -/
def txRun (g1 : Bool) : Nat → Nat → TxPort → List TxFrame → TxPort × List TxFrame
  | 0, _, p, out => (p, out)
  | n + 1, t, p, out =>
    if t < p.busy then ({ p with busy := p.busy - t }, out)
    else match txNext p.waiting with
      | none => ({ p with busy := 0 }, out)
      | some f => txRun g1 n (t - p.busy) { waiting := p.waiting.erase f, busy := f.time g1 } (f :: out)

def State.txPort (s : State) (n : Nat) : TxPort := s.net.tx.get { waiting := [], busy := 0 } n

/-- A frame is due to be sent on a port; a port that is down sends nothing (R254). -/
def State.txPut (n : Nat) (f : TxFrame) (s : State) : State :=
  if s.portLive n then
    { s with net := { s.net with tx := s.net.tx.put n { s.txPort n with waiting := (s.txPort n).waiting ++ [f] } } }
  else s

/-- A strike of both ports. -/
def State.txStrike (s : State) : State :=
  forEach [0, 1] (fun n s =>
    let p := s.txPort n
    let r := if s.portLive n then txRun (s.flag (Reg.NET_PORT_G1 n)) (p.waiting.length + 1) 31250 p []
      else ({ waiting := [], busy := 0 }, [])
    { s with net := { s.net with tx := s.net.tx.put n r.1, began := s.net.began.put n r.2.reverse } }) s

/-- A telegram of a connection as a port sends it (R252, R459). -/
def State.tgFrame (s : State) (k n : Nat) (l : List Nat) : TxFrame :=
  { dst := some (s.tgMac k), src := s.portMac n
    vlan := (s.tgVlan k).map fun v => (v, bitsAt (s.reg (Reg.NET_TG_MAC_HI_VAL k)) 28 3)
    etype := s.reg Reg.SLU_TG_ETYPE_ETYPE, body := .telegram l }

/-- A message of the service protocol as its port sends it.
DESIGN CHOICE (log 297). -/
def State.svcFrame (s : State) (n : Nat) (l : List Nat) : TxFrame :=
  { dst := none, src := s.portMac n, etype := 0x0800, body := .service l
    vlan := if s.flag (Reg.NET_VLAN_STAG n) then some (s.reg (Reg.NET_VLAN_SVID n), s.reg (Reg.NET_VLAN_SPCP n)) else none }

/-- The telegram that a received frame carries for a connection, where a port accepts it: destination, tag, EtherType (R252,
R457, R459). `frame` runs from the destination address to the end of the content. -/
def State.tgContent (s : State) (k n : Nat) (frame : List Nat) : Option (List Nat) :=
  let dst := ofBe (slice frame 0 6)
  let tagged := ofBe (slice frame 12 2) == 0x8100
  let rest := frame.drop (if tagged then 16 else 12)
  if [s.portMac n, s.tgMac k].contains dst && vlanOf tagged (ofBe (slice frame 14 2) % 4096) == s.tgVlan k
      && ofBe (slice rest 0 2) == s.reg Reg.SLU_TG_ETYPE_ETYPE then some (rest.drop 2) else none

end Sys2Proof.Machine
end

