-- ==== Sys2Proof/Machine/SafetyIo.lean ====
section
/-! DEFINITION. Safety inputs, SRST and Triuno telegrams (chapter 9). -/
namespace Sys2Proof.Machine

/-! ## Requests to Sluice -/

/-- A request waits for the next completed SUP (R215, R219, R227). -/
def State.request (kind : ReqKind) (privileged : Bool) (cmd : Option CmdRef) (s : State) : State :=
  { s with slu := { s.slu with reqs := s.slu.reqs ++ [{ kind := kind, privileged := privileged, cmd := cmd }] } }

/-! ## Safety inputs (R238 to R248) -/

def Channel.initial : Channel :=
  { last := false, run := 0, known := false, level := false, lat := false, seen := false
    pClosed := false, pLow := false, pBack := false, pOther := false, fail := 0, ok := 0, held := false, pass := false }

def SafetyIn.initial : SafetyIn :=
  { a := Channel.initial, b := Channel.initial, begun := false, demand := true, discAt := 0, latch := false
    latchBoth := false, isoAt := 0, iso := false }

def State.si (s : State) (n : Nat) : SafetyIn := s.sio.inputs.get SafetyIn.initial n
def State.updSi (n : Nat) (f : SafetyIn → SafetyIn) (s : State) : State :=
  { s with sio := { s.sio with inputs := s.sio.inputs.upd SafetyIn.initial n f } }

/-- WIRE of an input: 0 EQUIV, 1 ANTI, 2 OSSD. -/
def State.siWire (s : State) (n : Nat) : Nat := s.reg (Reg.SLU_SI_CFG_WIRE n)

/-- The input is fed from the test pulses. -/
def State.siPulsed (s : State) (n : Nat) : Bool := s.siWire n != 2

/-- A test pulse of TP0 or TP1 runs at the present strike (R242). -/
def State.pulseNow (s : State) (tp : Nat) : Bool := decide (s.phase < 16) && s.turn % 16 == tp * 8

/-- One counted sample of a channel (R239). -/
def Channel.sample (x : Bool) (c : Channel) : Channel :=
  if x == c.last then { c with run := c.run + 1 } else { c with last := x, run := 1 }

/-- The filtered level is due to change, or to become known. -/
def Channel.due (c : Channel) : Bool := decide (32 ≤ c.run) && (!c.known || c.level != c.last)

/-- The level as it stands with the present sample. -/
def Channel.nowLevel (c : Channel) : Bool := if c.due then c.last else c.level

/-- What a sample in the test pulse of a channel, or within 8 strikes after it, shows; `same`: the other channel reads as at the
strike before (R242). -/
def Channel.seePulse (phase : Nat) (x same : Bool) (c : Channel) : Channel :=
  if phase = 0 then { c with pClosed := c.known && c.level, pLow := true, pBack := false, pOther := same }
  else if phase < 16 then { c with pLow := c.pLow && (decide (phase < 4) || !x), pOther := c.pOther && same }
  else if phase < 24 then { c with pBack := c.pBack || x }
  else c

/-- The demand state of channel A and of channel B, by level (R238). -/
def demandA (level : Bool) : Bool := !level
def demandB (wire : Nat) (level : Bool) : Bool := if wire = 1 then level else !level

/-- One input at a strike: its samples, its discrepancy time, and at strike 0 the latched states (R239, R241). -/
def State.siStrike (n : Nat) (xa xb : Bool) (s : State) : State :=
  let w := s.siWire n
  s.updSi n fun i =>
    let pa := if s.turn % 16 = 0 then i.a.seePulse s.phase xa (xb == i.b.last) else i.a
    let pb := if s.turn % 16 = 8 then i.b.seePulse s.phase xb (xa == i.a.last) else i.b
    let a := if s.siPulsed n && s.pulseNow 0 then pa else pa.sample xa
    let b := if s.siPulsed n && s.pulseNow 1 then pb else pb.sample xb
    let a1 := if s.phase = 0 then { a with lat := a.nowLevel, seen := a.known || a.due } else a
    let b1 := if s.phase = 0 then { b with lat := b.nowLevel, seen := b.known || b.due } else b
    let dis := i.a.known && i.b.known && demandA i.a.level != demandB w i.b.level
    { i with a := a1, b := b1, discAt := if dis then (if i.discAt = 0 then s.now + 1 else i.discAt) else 0 }

/-- SI_LEVEL_CHANGE: the filtered level of a channel (0 A, 1 B) changes after 32 samples (R239). -/
def execSiLevelChange (n ch : Nat) (s : State) : Host.Outcome State Fault Refusal :=
  .next (if decide (n < 8) && (if ch = 0 then (s.si n).a.due else (s.si n).b.due) then
      if ch = 0 then
        (s.updSi n fun i => { i with a := { i.a with known := true, level := i.a.last } }).setBit Reg.SLU_SI_STAT_CHA n
          (s.si n).a.last
      else
        (s.updSi n fun i => { i with b := { i.b with known := true, level := i.b.last } }).setBit Reg.SLU_SI_STAT_CHB n
          (s.si n).b.last
    else s)

/-- SI_DISCREPANCY: longer than DISC; 0x0748 and the latch (R241). -/
def execSiDiscrepancy (n : Nat) (s : State) : Host.Outcome State Fault Refusal :=
  .next (if decide (n < 8) && s.elapsed (s.si n).discAt (s.reg (Reg.SLU_SI_CFG_DISC n) * msStrikes + 1) && !(s.si n).latch then
      (s.updSi n fun i => { i with latch := true, latchBoth := false }).raiseLevel 0x0748 1 (subjNum n) []
    else s)

/-- A channel after a test pulse (R242, R243). -/
def Channel.pulse (good : Bool) (c : Channel) : Channel :=
  if good then { c with fail := 0, ok := c.ok + 1, pass := true, held := c.held && decide (c.ok + 1 < 2) }
  else { c with fail := c.fail + 1, ok := 0, held := c.held || decide (2 ≤ c.fail + 1) }

/-- One input after a pulse of `tp`: the channel fed from it is judged, by the samples of the pulse, where its contact was
closed. -/
def State.pulseInput (tp n : Nat) (s : State) : State :=
  let c := if tp = 0 then (s.si n).a else (s.si n).b
  if s.siPulsed n && c.pClosed then
    let good := c.pLow && c.pBack && c.pOther
    let s1 := s.updSi n fun i =>
      if tp = 0 then { i with a := i.a.pulse good } else { i with b := i.b.pulse good }
    let i := s1.si n
    s1.level (i.a.held || i.b.held) 0x0749 1 (subjNum n) []
  else s

/-- The pulse of `tp` in the turn in hand has ended, with the 8 strikes after it, and has not been judged.
DESIGN CHOICE (log 296). -/
def State.pulseDue (s : State) (tp : Nat) : Bool :=
  s.turn % 16 == tp * 8 && decide (24 ≤ s.phase + 1)
    && (if tp = 0 then s.sio.tp0.judged else s.sio.tp1.judged) != s.turn + 1

/-- TEST_PULSE: the pulse that TP0 or TP1 gave in a turn has ended and is judged (R242, R243).
DESIGN CHOICE (log 296). -/
def execTestPulse (tp turn : Nat) (s : State) : Host.Outcome State Fault Refusal :=
  .next (if decide (tp < 2) && turn == s.turn && s.pulseDue tp then
      let s1 := forEach (List.range 8) (State.pulseInput tp) s
      if tp = 0 then { s1 with sio := { s1.sio with tp0 := { s1.sio.tp0 with judged := s.turn + 1 } } }
      else { s1 with sio := { s1.sio with tp1 := { s1.sio.tp1 with judged := s.turn + 1 } } }
    else s)

/-- The readback of a test-pulse output at a strike; strike 31 judges the turn (R243). -/
def TestPulse.strike (ok last : Bool) (t : TestPulse) : TestPulse :=
  let wrong := t.now || !ok
  if last then
    if wrong then { t with now := false, bad := t.bad + 1, good := 0 }
    else { t with now := false, bad := 0, good := t.good + 1, hold := t.hold && decide (t.good + 1 < 32) }
  else { t with now := wrong }

/-- TP_READBACK_FAULT: wrong in 2 turns; 0x074A holds every EQUIV and ANTI input in demand (R243). -/
def execTpReadbackFault (tp : Nat) (s : State) : Host.Outcome State Fault Refusal :=
  .next (if tp = 0 then
      if 2 ≤ s.sio.tp0.bad then
        ({ s with sio := { s.sio with tp0 := { s.sio.tp0 with hold := true } } }).raiseLevel 0x074A 1 (subjNum 0) []
      else s
    else if tp = 1 then
      if 2 ≤ s.sio.tp1.bad then
        ({ s with sio := { s.sio with tp1 := { s.sio.tp1 with hold := true } } }).raiseLevel 0x074A 1 (subjNum 1) []
      else s
    else s)

/-- Conditions of R244 for an input. -/
def State.siBegun (s : State) (n : Nat) : Bool :=
  let i := s.si n
  i.a.seen && i.b.seen && (!s.siPulsed n || ((!i.a.level || i.a.pass) && (!i.b.level || i.b.pass)))

/-- The input is held in demand by R241 or R243. -/
def State.siHeld (s : State) (n : Nat) : Bool :=
  let i := s.si n
  i.latch || (s.siPulsed n && (i.a.held || i.b.held || s.sio.tp0.hold || s.sio.tp1.hold))

/-- The channels of an input evaluated from the states latched at strike 0 (R240, R241). -/
def State.siChannels (n : Nat) (s : State) : State :=
  let w := s.siWire n
  let i := s.si n
  let da := demandA i.a.lat
  let db := demandB w i.b.lat
  let latch := i.latch && !(i.latchBoth && !da && !db)
  let s1 := s.updSi n fun i =>
    { i with demand := da || db, begun := i.begun || s.siBegun n, latch := latch
             latchBoth := i.latch && (i.latchBoth || (i.a.seen && i.b.seen && da && db)) }
  if i.latch && !latch then s1.goneAt 0x0748 (subjNum n) else s1

/-- The function of an input in demand, and out of it (R245). `was`: it was in demand before. -/
def State.siFunction (n : Nat) (was now : Bool) (s : State) : State :=
  let f := s.reg (Reg.SLU_SI_CFG_FUNC n)
  let s1 := s.updSi n fun i =>
    { i with iso := if f = 1 then now || i.iso else false
             isoAt := if f = 1 && was && !now then s.now + 1 else if now then 0 else i.isoAt }
  let s2 := if f = 2 ∧ now ∧ !was then s1.request .openString false none else s1
  if f = 3 ∨ f = 4 then s2.level now (0x0740 + n) 3 (subjNum n) []
  else if f = 5 then s2.level now (0x0740 + n) 4 (subjNum n) []
  else s2.goneAt (0x0740 + n) (subjNum n)

/-- SUP evaluates an input (R240, R244 to R246). -/
def State.siEvaluate (n : Nat) (s : State) : State :=
  let s1 := s.siChannels n
  let was := s.bitOf Reg.SLU_SI_STAT_DEM n
  let now := (s1.si n).demand || !(s1.si n).begun || s1.siHeld n
  ((s1.setBit Reg.SLU_SI_STAT_DEM n now).setBit Reg.SLU_SI_STAT_FAIL n (s1.siHeld n)).siFunction n was now

/-- ISO_HOLD_END: ISO_HOLD after the input left demand (R245). -/
def execIsoHoldEnd (n : Nat) (s : State) : Host.Outcome State Fault Refusal :=
  .next (if decide (n < 8) && (s.si n).iso && !s.bitOf Reg.SLU_SI_STAT_DEM n
        && s.elapsed (s.si n).isoAt (s.reg (Reg.SLU_SI_CFG_ISO_HOLD n) * 3200) then
      s.updSi n fun i => { i with iso := false, isoAt := 0 }
    else s)

/-- The breaker's auxiliary input reads open: it is in demand by its channels as they stand, and not held by R241, R243 or
R244 (R223, R246). -/
def State.breakerReadsOpen (s : State) : Bool :=
  let n := s.thr Reg.SLU_BRK_AUX
  let i := s.si n
  i.a.known && i.b.known && (demandA i.a.level || demandB (s.siWire n) i.b.level) && i.begun && !s.siHeld n

/-- A pulse of BRK_TRIP watches the auxiliary input at every strike (R223). -/
def State.auxStrike (s : State) : State :=
  if s.slu.brkAt != 0 && s.breakerReadsOpen then { s with slu := { s.slu with auxOpen := true } } else s

/-! ## SRST (R249 to R251) -/

/-- SRST at a strike: the filter counts, and a filtered falling edge takes effect. -/
def State.srstStrike (x : Bool) (s : State) : State :=
  let run := if x == s.sio.srstLast then s.sio.srstRun + 1 else 1
  let s1 := { s with sio := { s.sio with srstLast := x, srstRun := run } }
  if !x && decide (32 ≤ run) && s.flag Reg.SLU_SRST_LVL then
    ({ s1 with sio := { s1.sio with lowAt := s.now, heldDone := false } }).setFields
      [(Reg.SLU_SRST_LVL, 0), (Reg.SLU_SRST_HELD, 0)]
  else s1

/-- A filtered rising edge: the edges of the last second, with it, and chatter from the eleventh (R250). -/
def State.srstCount (s : State) : State :=
  let l := s.now :: s.sio.edges.filter fun e => decide (s.now < e + secStrikes)
  let s1 := { s with sio := { s.sio with edges := l } }
  if decide (11 ≤ l.length) && !s.flag Reg.SLU_SRST_CHAT then
    (s1.setFlag Reg.SLU_SRST_CHAT true).raiseLevel 0x074C 1 subjNone []
  else s1

/-- SRST_EDGE: accepted as one reset request, or ignored with 0x074E (R249). During a warm reset it is not acted on. -/
def execSrstEdge (s : State) : Host.Outcome State Fault Refusal :=
  .next (if s.sio.srstLast && decide (32 ≤ s.sio.srstRun) && !s.flag Reg.SLU_SRST_LVL then
      let s1 := (s.srstCount).setFlag Reg.SLU_SRST_LVL true
      let good := decide (50 * msStrikes ≤ s.since s.sio.lowAt)
        && (s.sio.edgeAt == 0 || s.elapsed s.sio.edgeAt (100 * msStrikes)) && !s1.flag Reg.SLU_SRST_CHAT
      let s2 := { s1 with sio := { s1.sio with edgeAt := s.now + 1, highAt := s.now } }
      if s.flag Reg.PWR_STAT_WARM then s2
      else if good then (s2.setReg Reg.SLU_SRST_ACC (s.reg Reg.SLU_SRST_ACC + 1)).request .reset false none
      else (s2.addSat Reg.SLU_SRST_IGN 1).note 0x074E subjNone []
    else s)

/-- SRST_HELD: high for 60 s (R251). -/
def execSrstHeld (s : State) : Host.Outcome State Fault Refusal :=
  .next (if s.flag Reg.SLU_SRST_LVL && !s.sio.heldDone && decide (60 * secStrikes ≤ s.since s.sio.highAt) then
      (({ s with sio := { s.sio with heldDone := true } }).setFlag Reg.SLU_SRST_HELD true).note 0x074D subjNone []
    else s)

/-- SRST_CHATTER_END: 1 s without a rising edge (R250). -/
def execSrstChatterEnd (s : State) : Host.Outcome State Fault Refusal :=
  .next (if s.flag Reg.SLU_SRST_CHAT && s.elapsed s.sio.edgeAt secStrikes then
      (s.setFlag Reg.SLU_SRST_CHAT false).goneAt 0x074C subjNone
    else s)

/-- The safety inputs, the test pulses and SRST at a strike. -/
def State.sioStrike (i : StrikeIn) (s : State) : State :=
  let last := s.phase == 31
  let s1 := forEach (List.range 8) (fun n => State.siStrike n (bitAt i.siA n) (bitAt i.siB n)) s
  let s2 := { s1 with sio := { s1.sio with
    tp0 := s1.sio.tp0.strike i.tpOk0 last, tp1 := s1.sio.tp1.strike i.tpOk1 last } }
  let s3 := (s2.auxStrike.setFields [(Reg.SLU_SI_TP_TP0_OK, bit i.tpOk0), (Reg.SLU_SI_TP_TP1_OK, bit i.tpOk1)]).srstStrike i.srst
  let s4 := if s3.sio.tp0.bad = 0 then s3.goneAt 0x074A (subjNum 0) else s3
  if s4.sio.tp1.bad = 0 then s4.goneAt 0x074A (subjNum 1) else s4

/-! ## Telegrams (R252 to R259) -/

def TgConn.initial : TgConn :=
  { live := false, txSeq := 0, last := 0, started := false, pairs := [], ready := [], cnt := none, isol := false
    toutIso := false, accAt := 0, timedOut := false, onlyA := 0, onlyB := 0, both := 0 }

def State.tg (s : State) (k : Nat) : TgConn := s.sio.conns.get TgConn.initial k
def State.updTg (k : Nat) (f : TgConn → TgConn) (s : State) : State :=
  { s with sio := { s.sio with conns := s.sio.conns.upd TgConn.initial k f } }

/-- A connection is in use and telegrams are on (R253). -/
def State.tgInUse (s : State) (k : Nat) : Bool :=
  decide (k < 8) && s.reg (Reg.SLU_TG_PEER_PEER k) != 0 && s.reg Reg.SLU_TG_CFG_SID != 0

def State.tgSends (s : State) (k : Nat) : Bool := s.tgInUse k && s.flag (Reg.SLU_TG_CTRL_DIR k)
def State.tgReceives (s : State) (k : Nat) : Bool := s.tgInUse k && !s.flag (Reg.SLU_TG_CTRL_DIR k)

/-- Strike 0: connections start with their configuration and end with it; nothing has been sent in the new turn. -/
def State.tgTurnStart (s : State) : State :=
  let s0 := { s with sio := { s.sio with sent := [] } }
  forEach (List.range 8) (fun k s =>
    if s.tgInUse k == (s.tg k).live then s
    else if s.tgInUse k then s.updTg k fun c => { TgConn.initial with live := true, txSeq := c.txSeq, accAt := s.now }
    else (s.updTg k fun c => { TgConn.initial with txSeq := c.txSeq }).setFlag (Reg.SLU_TG_STAT_UP k) false) s0

/-- Governing state as a STATUS carries it, bytes 24 to 27. -/
def State.statusHead (s : State) : List Nat :=
  let role := if s.roleSolo then 0 else if s.roleActive then 1 else 2
  [s.mode + role * 8 + bit s.token * 32,
   s.conn + bit s.slu.weldLock * 4 + bit (s.flt.active.any fun f => f.held) * 8 + s.govClass * 16] ++ beBytes 2 s.govCode

/-- The fitted temperature inputs with a value. -/
def State.tempsKnown (s : State) : List Int :=
  ((List.range 584).filter fun j => sluiceInput j && s.tempFitted j && (!(s.temp j).u || (s.temp j).f)).map s.tempValue

/-- Highest and lowest temperature, 0.01 °C; 0 without any. -/
def State.tempHigh (s : State) : Int := match s.tempsKnown with | [] => 0 | t :: r => r.foldl max t
def State.tempLeast (s : State) : Int := match s.tempsKnown with | [] => 0 | t :: r => r.foldl min t

/-- The mean of the last turn, rounded to a whole unit; 0 without words. -/
def meanOf (p : Nat × Int) (unit : Nat) : Int := if p.1 = 0 then 0 else Config.round ((p.2 : Rat) / (p.1 * unit : Nat))

/-- The payload of a STATUS ("Table — STATUS payload").
DEDUCED (log 51). -/
def State.statusPayload (s : State) : List Nat :=
  s.statusHead ++ beBytes 2 (s.reg Reg.EST_MINSOC_SOC / 1000) ++ beBytes 2 (s.reg Reg.EST_MAXSOC_SOC / 1000)
    ++ beBytes 2 (s.reg Reg.ENV_LIM_D1_T2) ++ beBytes 2 (s.reg Reg.ENV_LIM_C1_T2)
    ++ beBytes 2 (unsigned 16 (meanOf s.lastV 1000)) ++ beBytes 4 (unsigned 32 (meanOf s.lastI 1000))
    ++ beBytes 2 (unsigned 16 s.tempHigh) ++ beBytes 2 (unsigned 16 s.tempLeast)
    ++ beBytes 2 (s.reg Reg.IMD_RESULT_RISO) ++ List.replicate 8 0

/-- A telegram, big-endian, with its CRC-32C (R252). -/
def telegram (kind src dst seq strike : Nat) (payload : List Nat) (tv : Bool) : List Nat :=
  let l := [16 + kind, 0] ++ beBytes 2 64 ++ beBytes 4 src ++ beBytes 4 dst ++ beBytes 4 seq ++ beBytes 8 strike
    ++ padTo 32 payload ++ [bit tv, 0, 0, 0]
  l ++ beBytes 4 (crc32c l)

/-- Ports that work: 1 ETH-A, 2 ETH-B. -/
def State.portsUp (s : State) : Nat := bit (s.portLive 0) + 2 * bit (s.portLive 1)

/-- TELEGRAM_SEND: one STATUS of a sending connection on both ports, to the connection's destination and with its tag (R252,
R254, R459). -/
def execTelegramSend (k : Nat) (s : State) : Host.Outcome State Fault Refusal :=
  .next (if s.tgSends k && s.inSev && s.turn % max 1 (s.reg (Reg.SLU_TG_CTRL_PER k)) == 0 && s.flag Reg.PWR_DOM_NET
        && s.sys.done.contains 0 && !s.sio.sent.any (fun e => e.1 == k) && !s.deaf then
      let t := telegram 1 (s.reg Reg.SLU_TG_CFG_SID) (s.reg (Reg.SLU_TG_PEER_PEER k)) (s.tg k).txSeq (s.turn * 32)
        s.statusPayload (s.flag Reg.TIM_STAT_TV)
      let s1 := s.updTg k fun c => { c with txSeq := (c.txSeq + 1) % 2 ^ 32 }
      forEach [0, 1] (fun n s => s.txPut n (s.tgFrame k n t))
        { s1 with sio := { s1.sio with sent := s1.sio.sent ++ [(k, s.portsUp, t)] } }
    else s)

/-- The format of a COMMAND copy: VK, LEN, the zero bytes and the CRC (check 1 of R255). -/
def telegramForm (l : List Nat) : Bool :=
  l.length == 64 && l.getD 0 0 == 0x12 && l.getD 1 1 == 0 && ofBe (slice l 2 2) == 64
    && decide (l.getD 56 2 < 2) && (slice l 57 3).all (· == 0) && decide (l.getD 26 2 < 2)
    && (slice l 27 29).all (· == 0) && ofBe (slice l 60 4) == crc32c (l.take 60)

def tgSeq (l : List Nat) : Nat := ofBe (slice l 12 4)

/-- SEQ is newer than the last accepted one. -/
def seqNewer (seq last : Nat) : Bool :=
  let d := (seq + 2 ^ 32 - last) % 2 ^ 32
  decide (1 ≤ d) && decide (d < 2 ^ 31)

/-- The checks of R255, in order. -/
def State.tgAccepts (s : State) (k : Nat) (l : List Nat) : Bool :=
  let c := s.tg k
  let strike := ofBe (slice l 16 8)
  let age := s.reg Reg.SLU_TG_ETYPE_AGE * 32
  telegramForm l && ofBe (slice l 8 4) == s.reg Reg.SLU_TG_CFG_SID && ofBe (slice l 4 4) == s.reg (Reg.SLU_TG_PEER_PEER k)
    && (!c.started || seqNewer (tgSeq l) c.last || (tgSeq l == c.last && c.pairs.any fun p => p.1 == tgSeq l))
    && (!(l.getD 56 0 == 1 && s.flag Reg.TIM_STAT_TV) || (decide (strike ≤ s.now + age) && decide (s.now ≤ strike + age)))

/-- SKEW in strikes has passed since an arrival: SKEW counts 0.1 ms. -/
def State.skewPassed (s : State) (at_ : Nat) : Bool := decide (s.reg Reg.SLU_TG_ETYPE_SKEW * 32 ≤ s.since at_ * 10)

/-- A pair whose SKEW has passed is decided: its single copy will be accepted (R256). -/
def State.tgExpire (k : Nat) (s : State) : State :=
  s.updTg k fun c =>
    { c with pairs := c.pairs.filter fun p => !s.skewPassed p.2.2.2
             ready := c.ready ++ (c.pairs.filter fun p => s.skewPassed p.2.2.2).map fun p => (p.2.1 + 1, p.2.2.1) }

/-- A copy that passed: it completes its pair within SKEW, or opens one (R256). -/
def State.tgCopy (k port : Nat) (l : List Nat) (s : State) : State :=
  let c := s.tg k
  match c.pairs.find? fun p => p.1 == tgSeq l with
  | none => s.updTg k fun c => { c with pairs := c.pairs ++ [(tgSeq l, port, l, s.now)] }
  | some (q, port', l', at_) =>
    if port = port' then s
    else
      let rest := c.pairs.filter fun p => p != (q, port', l', at_)
      if l = l' then s.updTg k fun c => { c with pairs := rest, ready := c.ready ++ [(3, l)] }
      else (s.updTg k fun c => { c with pairs := rest }).raise 0x0752 1 (subjNum k) []

/-- TELEGRAM_RECEIVE: a frame of connection `k` on port 0 (ETH-A) or 1 (ETH-B), from its destination address to the end of its
content. A frame that the port does not accept for the connection never reaches the lockstep pair (R252, R457). -/
def execTelegramReceive (k port : Nat) (bytes : List Nat) (s : State) : Host.Outcome State Fault Refusal :=
  .next (if s.tgReceives k && (s.tg k).live && s.portLive port && !s.deaf && s.appsRun then
      match s.tgContent k port bytes with
      | some l =>
        if s.tgAccepts k l then s.tgCopy k port l
        else (s.addSat (Reg.SLU_TG_STAT_REJ k) 1).raisePaced (0x07530 + k) 0x0753 0 (subjNum k) []
      | none => s
    else s)

/-- TELEGRAM_SKEW_EXPIRY: the single copy will be accepted (R256). -/
def execTelegramSkewExpiry (k : Nat) (s : State) : Host.Outcome State Fault Refusal :=
  .next (if s.tgReceives k then s.tgExpire k else s)

/-- Redundancy of an accepted telegram (R257): ports 1 A alone, 2 B alone, 3 both. -/
def State.tgPorts (k ports : Nat) (s : State) : State :=
  let s1 := s.updTg k fun c =>
    { c with onlyA := if ports = 1 then c.onlyA + 1 else 0, onlyB := if ports = 2 then c.onlyB + 1 else 0
             both := if ports = 3 then c.both + 1 else 0 }
  let c := s1.tg k
  let s2 := if 16 ≤ c.onlyA then (s1.setFlag (Reg.SLU_TG_STAT_B_OK k) false).raiseLevel 0x0751 1 (subjNum k) [1] else s1
  let s3 := if 16 ≤ c.onlyB then (s2.setFlag (Reg.SLU_TG_STAT_A_OK k) false).raiseLevel 0x0751 1 (subjNum k) [0] else s2
  if 16 ≤ c.both then
    (s3.setFields [(Reg.SLU_TG_STAT_A_OK k, 1), (Reg.SLU_TG_STAT_B_OK k, 1)]).goneAt 0x0751 (subjNum k)
  else s3

/-- CMD of a COMMAND acts once, when CNT changes (R258).
DEDUCED (log 47). -/
def State.tgCommand (k cmd : Nat) (s : State) : State :=
  if cmd = 3 then s.request .reset false none
  else if cmd = 1 ∨ cmd = 2 then
    if s.roleStandby then s.note 0x0754 (subjNum k) []
    else s.request (if cmd = 1 then .connect else .openString) false none
  else s

/-- An accepted telegram is acted on (R256 to R258). -/
def State.tgAct (k ports : Nat) (l : List Nat) (s : State) : State :=
  let c := s.tg k
  if !c.started || seqNewer (tgSeq l) c.last then
    let cnt := l.getD 24 0
    let s1 := (s.updTg k fun c =>
      { c with last := tgSeq l, started := true, accAt := s.now, timedOut := false, cnt := some cnt
               isol := l.getD 26 0 == 1, toutIso := false }).setFields
      [(Reg.SLU_TG_STAT_UP k, 1), (Reg.SLU_TG_STAT_SEQ k, tgSeq l)]
    let s2 := (s1.goneAt 0x0750 (subjNum k)).tgPorts k ports
    match c.cnt with
    | some old => if old = cnt then s2 else s2.tgCommand k (l.getD 25 0)
    | none => s2
  else s

/-- SEV acts on every decided telegram of a connection, oldest first. -/
def State.tgSev (k : Nat) (s : State) : State :=
  forAll (s.tg k).ready (fun e s => s.tgAct k e.1 e.2) (s.updTg k fun c => { c with ready := [] })

/-- TELEGRAM_TIMEOUT: no accepted telegram for TOUT; 0x0750 and TACT (R259). -/
def execTelegramTimeout (k : Nat) (s : State) : Host.Outcome State Fault Refusal :=
  .next (if s.tgReceives k && (s.tg k).live && !(s.tg k).timedOut
        && decide (s.reg (Reg.SLU_TG_CTRL_TOUT k) * msStrikes ≤ s.since (s.tg k).accAt) then
      let act := s.reg (Reg.SLU_TG_CTRL_TACT k)
      let s1 := (s.updTg k fun c =>
        { c with timedOut := true, started := false, cnt := none, isol := false, toutIso := act == 1 }).setFlag
        (Reg.SLU_TG_STAT_UP k) false
      s1.raiseLevel 0x0750 (if act = 2 then 3 else 1) (subjNum k) []
    else s)

/-! ## SEV -/

/-- The turn monitor sees SEV finish: as any task of the lockstep pair, but it may run again in the turn (R34, R36, R39).
DESIGN CHOICE (log 271). -/
def State.sevDone (s : State) : State :=
  ({ s with sys := { s.sys with
      runs := s.sys.runs.put 6 (s.turn * 32 + 4, s.now), miss := s.sys.miss.put 6 0, beat := true } }).setBit
    Reg.SYS_TMON_STAT_STALE 6 false

/-- SEV, strikes 4 to 19: contactor steps and decided telegrams (R214, R256). It may run more than once in a turn; each run
that ends in the window is a finish by the deadline (R36). -/
def execSev (s : State) : Host.Outcome State Fault Refusal :=
  .next (if s.inSev && !s.deaf && s.power != pwStandstill && !(s.sys.done.contains 6) && !s.sec.halted.contains 0 then
      (forEach (List.range 8) State.tgSev (doIf s.token State.sevStep s)).sevDone
    else s)

end Sys2Proof.Machine
end

