-- ==== Sys2Proof/Machine/Authority.lean ====
section
/-! DEFINITION. The configuration authority: the session, the password, the change log (R261 to R269, R622). -/
namespace Sys2Proof.Machine

/-- What a command answers: its completion status and RESULT (R376, R377). -/
structure Reply where
  status : Nat
  result : Nat
  deriving DecidableEq, Repr

/-- The values of STATUS ("Table — Completion status"). -/
def stOk : Nat := 0
def stBadOpc : Nat := 1
def stBadField : Nat := 2
def stPriv : Nat := 3
def stState : Nat := 4
def stRefused : Nat := 5
def stAborted : Nat := 6
def stBusy : Nat := 7
def stDmaErr : Nat := 8
def stEnd : Nat := 9
def stTrunc : Nat := 10
def stNoSpace : Nat := 11

def Reply.ok (r : Nat) : Reply := { status := stOk, result := r }
def Reply.no (st : Nat) : Reply := { status := st, result := 0 }
def Reply.refused (code : Nat) : Reply := { status := stRefused, result := code }

/-! ## The password (R262, R263) -/

/-- A password as offered: LEN and the 32 bytes. -/
def passwordForm (len : Nat) (l : List Nat) : Bool :=
  decide (8 ≤ len) && decide (len ≤ 32) && (l.take len).all (fun b => decide (0x20 ≤ b) && decide (b ≤ 0x7E))
    && (l.drop len).all (· == 0)

/-- The offered password has the stored tag. -/
def State.passwordRight (s : State) (len : Nat) (l : List Nat) : Bool :=
  Config.argon2 s.auth.committed.salt (l.take len) == s.auth.committed.tag

/-- A lockout of F failures, in strikes. -/
def lockoutOf (f : Nat) : Nat := min 61440 (60 * 2 ^ (f - 5)) * secStrikes

/-- The remaining lockout in seconds, as SEC_SA_STAT.LOCK shows it. -/
def State.lockSeconds (s : State) : Nat := (s.auth.lock + secStrikes - 1) / secStrikes

/-- SEC_SA_STAT after a change of session, failures or lockout (R274). -/
def State.saRegs (s : State) : State :=
  s.setFields [(Reg.SEC_SA_STAT_OPEN, bit s.auth.session.isSome),
    (Reg.SEC_SA_STAT_PATH, match s.auth.session with | some x => x.code | none => 0),
    (Reg.SEC_SA_STAT_COMMIT, bit s.auth.commit.isSome), (Reg.SEC_SA_STAT_FAILS, sat 255 s.auth.fails),
    (Reg.SEC_SA_STAT_LOCK, s.lockSeconds)]

/-- A wrong password (R263). -/
def State.passwordWrong (s : State) : State :=
  let f := s.auth.fails + 1
  let s1 := ({ s with auth := { s.auth with fails := f } }).note 0x1202 subjNone []
  if 5 ≤ f then
    ({ s1 with auth := { s1.auth with lock := lockoutOf f, lockOn := true } }).saRegs.raise 0x1203 1 subjNone []
  else s1.saRegs

/-- The lockout at a strike: it counts down while the module is powered. -/
def State.lockStrike (s : State) : State :=
  if s.auth.lockOn then
    ({ s with auth := { s.auth with lock := s.auth.lock - 1 } }) |> fun t => t.setReg Reg.SEC_SA_STAT_LOCK t.lockSeconds
  else s

/-- PASSWORD_LOCKOUT_END. -/
def execPasswordLockoutEnd (s : State) : Host.Outcome State Fault Refusal :=
  .next (if s.auth.lockOn && s.auth.lock == 0 then
      ({ s with auth := { s.auth with lockOn := false } }).saRegs
    else s)

/-! ## Opening (R261, R268) -/

/-- The conditions of R261 but the password. -/
def State.sessionMayOpen (s : State) : Bool :=
  decide (1 ≤ s.reg Reg.SEC_LC_STATE) && decide (s.reg Reg.SEC_LC_STATE ≤ 3) && s.runOrTrim
    && s.auth.session.isNone && s.auth.commit.isNone && !s.auth.lockOn

/-- Opens the session of a path: full form with 64 entries free, restricted form otherwise (R268). -/
def State.startSession (p : Path) (code : Nat) (client : List Nat) (s : State) : State :=
  let restricted := decide (s.clogFree < 64)
  let logged := !restricted || decide (2 < s.clogFree)
  let x : Session :=
    { path := p, code := code, client := client, number := (s.auth.sessions + 1) % 65536, restricted := restricted
      openedAt := s.now, lastAt := s.now, logged := logged, tables := [], password := none, key := none }
  let s1 := { s with auth := { s.auth with session := some x, sessions := s.auth.sessions + 1, fails := 0 } }
  let s2 := (s1.saRegs).note 0x1204 subjNone []
  if logged then s2.clogWrite (x.entry 0x01) else s2

/-- A session open attempt with a password (R261 to R263).
DEDUCED (log 112). -/
def State.sessionOpen (p : Path) (code : Nat) (client : List Nat) (len : Nat) (pw : List Nat) (s : State) : State × Reply :=
  if !passwordForm len pw then (s, .no stBadField)
  else if !s.sessionMayOpen then (s, { status := stState, result := s.lockSeconds })
  else if s.passwordRight len pw then
    let s1 := s.startSession p code client
    (s1, .ok (s1.auth.sessions % 65536))
  else
    let s1 := s.passwordWrong
    (s1, .refused (if s1.auth.lockOn then 0x1203 else 0x1202))

/-! ## Actions in a session (R266 to R269) -/

/-- A session command of its owner counts as activity. -/
def State.sessionTouch (s : State) : State :=
  { s with auth := { s.auth with session := s.auth.session.map fun x => { x with lastAt := s.now } } }

/-- An action that needs an entry of the log is done, or refused with 0x120B. -/
def State.sessionAct (x : Session) (e : ClogFields) (act : State → State) (r : Nat) (s : State) : State × Reply :=
  if s.clogRoom x then (((act s).clogWrite e).sessionTouch, .ok r)
  else ((s.raise 0x120B 1 subjNone (leBytes 4 e.addr)).sessionTouch, .refused 0x120B)

/-- Changes the open session. -/
def State.mapSession (f : Session → Session) (s : State) : State :=
  { s with auth := { s.auth with session := s.auth.session.map f } }

/-- A new password is staged (R266). -/
def State.passwordStage (x : Session) (len : Nat) (pw : List Nat) (s : State) : State × Reply :=
  if !passwordForm len pw then (s, .no stBadField)
  else s.sessionAct x (x.entry 0x05) (State.mapSession fun y => { y with password := some (pw.take len) }) 0

/-- The string key is staged (R170). -/
def State.keyStage (x : Session) (key : List Nat) (s : State) : State × Reply :=
  s.sessionAct x (x.entry 0x04) (State.mapSession fun y => { y with key := some key }) 0

/-- The number a table is kept under: OCV slots 0 to 7, map slots 8 to 11, NTC curves 16 to 23. -/
def tableKey (kind slot : Nat) : Nat := if kind = 1 then slot else if kind = 2 then 8 + slot else 16 + slot

/-- A validated table is staged (R402).
DESIGN CHOICE (log 108). -/
def State.tableStage (x : Session) (kind slot : Nat) (l : List Nat) (s : State) : State × Reply :=
  let crc := leAt l (l.length - 4) 4
  s.sessionAct x { x.entry 0x03 with addr := slot, crcAfter := crc }
    (State.mapSession fun y => { y with tables := y.tables.put (tableKey kind slot) l }) crc

/-- The weld lockout is cleared (R224). -/
def State.weldClear (x : Session) (s : State) : State × Reply :=
  s.sessionAct x (x.entry 0x06) (fun s => { s with slu := { s.slu with weldLock := false } }) 0

/-- The log rolls when SEQ and the hash name the latest entry (R269). -/
def State.clogRoll (x : Session) (seq : Nat) (hash : List Nat) (s : State) : State × Reply :=
  match s.auth.log.getLast? with
  | none => (s, .no stBadField)
  | some l =>
    if leAt l 0 4 = seq ∧ hash16 l = hash then
      let s1 := { s with auth := { s.auth with log := [], rolls := s.auth.rolls + 1 } }
      let body := { x.entry 0x09 with pseq := seq, phash := hash }
      let e := clogBytes s1.auth.nextSeq s1.now (hash16 l) body
      let s2 := { s1 with auth := { s1.auth with log := [e], nextSeq := s1.auth.nextSeq + 1 } }
      let s3 := (s2.clogRegs).note 0x120A subjNone []
      let s4 := if x.logged then s3
        else (s3.clogWrite (x.entry 0x01)).mapSession fun y => { y with logged := true }
      (s4.sessionTouch, .ok 0)
    else (s, .no stBadField)

/-! ## The end of a session (R264, R265) -/

/-- The RWL fields of the register map, as keys of the register file. -/
def rwlKey (k : Nat) : Bool :=
  match regAt (k / 32) with
  | some r => r.fields.any fun d => d.acc == .rwl && d.lo == k % 32
  | none => false

/-- Every RWL value in force. -/
def State.rwlFields (s : State) : RegFile := s.regs.filter fun e => rwlKey e.1

/-- A close: the session ends, its commit starts, and the threshold set waits for the next strike 0 (R211, R265). -/
def State.sessionClose (s : State) : State :=
  match s.auth.session with
  | none => s
  | some x =>
    let s1 := { s with
      auth := { s.auth with session := none, commit := some (x, s.now), refused := false }
      slu := { s.slu with thrNext := some s.thresholdFields } }
    s1.saRegs

/-- A close of the session of a path that is lost. -/
def State.sessionCloseOf (p : Path) (s : State) : State := if (s.sessionOf p).isSome then s.sessionClose else s

/-- An abort, at a reset or a power loss (R264). -/
def State.sessionAbort (s : State) : State :=
  let gone := s.auth.session.or (s.auth.commit.map (·.1))
  match gone with
  | none => s
  | some x =>
    ({ s with
      auth := { s.auth with session := none, commit := none, closeCmd := none, aborted := some x }
      sec := { s.sec with lcNext := none, retire := none }
      slu := { s.slu with thrNext := none } }).saRegs

/-- The RWL fields take their values from the committed configuration again (R265, R541). -/
def State.loadCommitted (s : State) : State :=
  { s with regs := s.auth.committed.fields ++ s.regs.filter fun e => !rwlKey e.1 }

/-- The end of an abort: the ABORT entry and 0x1206. -/
def State.abortDone (s : State) : State :=
  match s.auth.aborted with
  | none => s
  | some x =>
    let s1 := { s with auth := { s.auth with aborted := none } }
    (s1.clogWrite { x.entry 0x08 with pseq := x.number }).raise 0x1206 1 subjNone []

/-- SESSION_IDLE_TIMEOUT: IDLE seconds without activity, or MAXH hours in all. -/
def execSessionIdleTimeout (s : State) : Host.Outcome State Fault Refusal :=
  .next (match s.auth.session with
    | some x =>
      if decide (s.reg Reg.SEC_SA_CFG_IDLE * secStrikes ≤ s.since x.lastAt)
          || decide (s.reg Reg.SEC_SA_CFG_MAXH * 3600 * secStrikes ≤ s.since x.openedAt) then s.sessionClose
      else s
    | none => s)

/-! ## CRC_AFTER (R622) -/

/-- The addresses of a register array. -/
def dimOffsets : List (Nat × Nat) → List Nat
  | [] => [0]
  | (n, st) :: ds => (List.range n).flatMap fun i => (dimOffsets ds).map (· + i * st)

/-- Puts a number into a list in ascending order. -/
def insertAsc (n : Nat) : List Nat → List Nat
  | [] => [n]
  | m :: r => if n ≤ m then n :: m :: r else m :: insertAsc n r

/-- The addresses of the registers of PF0 BAR0 with an RWL field, ascending. -/
def rwlOffsets : List Nat :=
  ((regMap.filter fun r => r.base < 0x100000 && r.fields.any fun d => d.acc == .rwl).flatMap fun r =>
    (dimOffsets r.dims).map (· + r.base)).foldr insertAsc []

/-- The word of a register's RWL fields, every other bit 0. -/
def rwlWord (c : RegFile) (off : Nat) : Nat :=
  match regAt off with
  | some r => r.fields.foldl (fun a d => if d.acc == .rwl then a + c.field (d.at off) * 2 ^ d.lo else a) 0
  | none => 0

/-- The fields of the commissioned layout, tray serials excluded. -/
def layoutFields (t : Tab Layout) : List Nat :=
  (List.range 72).flatMap fun k =>
    let l := t.get { fitted := false, chem := 0, first := 0, count := 0, cap := 0, serial := 0 } k
    [bit l.fitted, l.chem, l.first, l.count, l.cap]

/-- LAYOUT, the CRC of the commissioned layout (R170): the manual does not give the bytes it covers. -/
def layoutCrc (t : Tab Layout) : Nat := Config.layoutCrc (layoutFields t) % 2 ^ 32

/-- The table CRC of R622: 0 for an empty slot. -/
def tableCrc (c : SafetyConfig) (k : Nat) : Nat :=
  let l := c.tables.get [] k
  if l = [] then 0 else leAt l (l.length - 4) 4

/-- The serialisation of R622 and its CRC. -/
def configCrc (c : SafetyConfig) : Nat :=
  crc32 (rwlOffsets.flatMap (fun o => leBytes 4 (rwlWord c.fields o))
    ++ (List.range 8 ++ range 8 12 ++ range 16 24).flatMap (fun k => leBytes 4 (tableCrc c k))
    ++ leBytes 4 (layoutCrc c.layout)
    ++ (((c.failover.foldr insertAsc []) ++ List.replicate 32 0).take 32).flatMap fun n => leBytes 2 n)

end Sys2Proof.Machine
end

