-- ==== Sys2Proof/Machine/Certified.lean ====
section
/-! DEFINITION. Certified state of charge, capacity learning and state restore (chapter 6). Intervals are exact
rationals in ppm, charge and capacity in µC. -/
namespace Sys2Proof.Machine

/-! ## Positions and their tables -/

/-- A position the estimator serves: released and non-vacant. -/
def State.served (s : State) (g : Nat) : Bool := s.released (g / 64) (g % 64)

/-- The positions it serves, by global number. -/
def State.servedAll (s : State) : List Nat := s.allPositions.filter s.served

/-- The nominal capacity of a position in µC: CAP of its branch's commissioned layout, in mAh (R175). -/
def State.nominal (s : State) (g : Nat) : Rat :=
  match s.branchOf (g / 64) (g % 64) with
  | some k => ((s.layout (g / 64) k).cap * 3600000 : Nat)
  | none => 0

/-- The state of a position after a reset, or after its tray was replaced (R172, R175). -/
def State.estStart (s : State) (g : Nat) : EstPos :=
  { lo := 0, hi := 1000000, capLo := s.nominal g * (s.reg Reg.EST_CAPNOM_NOM_LO : Rat) / 100
    capHi := s.nominal g * (s.reg Reg.EST_CAPNOM_NOM_HI : Rat) / 100, learned := false, rest := 0, tMin := 0, tMax := 0
    nextAt := 0, secN := 0, secSum := 0, means := [], evid := none, anchor := none, startSec := none, startOk := true
    startDone := false, bleed0 := s.bal.bleedQ.get 0 g, shut0 := s.bal.shutQ.get 0 g, err0 := s.bal.balErr.get 0 g, fresh := false }

def State.estPos (s : State) (g : Nat) : EstPos := s.est.pos.get (s.estStart g) g
def State.setEst (g : Nat) (p : EstPos) (s : State) : State := { s with est := { s.est with pos := s.est.pos.put g p } }

/-- The width of a position (R150). -/
def EstPos.width (p : EstPos) : Rat := p.hi - p.lo

/-- The OCV slot of a position: the selection in force for its branch (R160). -/
def State.ocvSlot (s : State) (g : Nat) : Nat :=
  match s.branchOf (g / 64) (g % 64) with
  | some k => s.est.tsel.get 0 (g / 64 * 4 + k)
  | none => 0

/-- The working copy in service for a position. -/
def State.ocvOf (s : State) (g : Nat) : Option (List Nat) :=
  match s.est.copies.get [] (s.ocvSlot g) with
  | [] => none
  | l => some l

/-- Fields of a table ("Table — OCV table layout"). -/
def ocvNt (l : List Nat) : Nat := l.getD 3 0
def ocvRestT (l : List Nat) : Nat := leAt l 4 2
def ocvDvdt (l : List Nat) : Nat := leAt l 6 2
def ocvTol (l : List Nat) : Nat := leAt l 8 2
def ocvLearnLo (l : List Nat) : Int := signed 16 (leAt l 10 2)
def ocvLearnHi (l : List Nat) : Int := signed 16 (leAt l 12 2)
def ocvGrid (l : List Nat) (t : Nat) : Int := signed 16 (leAt l (16 + 2 * t) 2)
def ocvDis (l : List Nat) (t i : Nat) : Nat := leAt l (48 + 404 * t + 2 * i) 2
def ocvChg (l : List Nat) (t i : Nat) : Nat := leAt l (250 + 404 * t + 2 * i) 2

/-- Neighbours of a list of numbers keep an order. -/
def ascending {α : Type} (ok : α → α → Bool) : List α → Bool
  | a :: b :: r => ok a b && ascending ok (b :: r)
  | _ => true

/-- A table is valid (R159). -/
def ocvValid (l : List Nat) : Bool :=
  let nt := ocvNt l
  let body := 48 + 404 * nt
  decide (1 ≤ nt) && decide (nt ≤ 16) && l.length == body + 4 && leAt l 0 2 == 1 && leAt l body 4 == crc32 (l.take body)
    && decide (60 ≤ ocvRestT l) && decide (10 ≤ ocvDvdt l) && decide (ocvDvdt l ≤ 5000) && decide (ocvTol l ≤ 100)
    && decide (ocvLearnLo l < ocvLearnHi l)
    && ((List.range nt).all fun t => decide (-4000 ≤ ocvGrid l t) && decide (ocvGrid l t ≤ 12500))
    && ascending (fun (a b : Int) => decide (a < b)) ((List.range nt).map (ocvGrid l))
    && (range nt 16).all (fun t => leAt l (16 + 2 * t) 2 == 0x7FFF)
    && (List.range nt).all fun t =>
      let d := (List.range 101).map (ocvDis l t)
      let c := (List.range 101).map (ocvChg l t)
      ascending (fun a b => decide (a ≤ b)) d && ascending (fun a b => decide (a ≤ b)) c
        && (d.zip c).all fun (e : Nat × Nat) => decide (e.1 ≤ e.2) && decide (e.2 ≤ 52000)

/-! ## Position temperature (R154) -/

/-- An input that may stand for the input of a position. -/
def State.tempStands (s : State) (j : Nat) : Bool := s.tempFitted j && !(s.temp j).f && !(s.temp j).u

/-- Distance of two numbers. -/
def gap (a b : Nat) : Nat := (a - b) + (b - a)

/-- The stand-in nearest to an input, the lower number on a tie. -/
def State.nearestTemp (s : State) (nn j : Nat) : Option Nat :=
  (((List.range 32).map (nn * 32 + ·)).filter s.tempStands).foldl (fun a i =>
    match a with
    | none => some i
    | some m => if gap i j < gap m j then some i else some m) none

/-- The position temperature, 0.01 °C. -/
def State.posTemp (s : State) (g : Nat) : Option Int :=
  let nn := g / 64
  let j := nn * 32 + g % 64 / 2
  if s.tempFitted j && (s.temp j).f then some (s.tempValue j)
  else if s.tempStands j then some (s.temp j).value
  else (s.nearestTemp nn j).map fun i => (s.temp i).value

/-! ## Look-up (R156) -/

/-- A curve at temperature `t`, in µV, interpolated linearly between grid temperatures. -/
def ocvCurve (f : Nat → Nat → Nat) (l : List Nat) (t : Int) (i : Nat) : Rat :=
  let nt := ocvNt l
  let k := countIf (fun j => decide (ocvGrid l j ≤ t)) (List.range nt) - 1
  let a := ocvGrid l k
  if k + 1 < nt then
    let b := ocvGrid l (k + 1)
    100 * ((f k i : Rat) + ((f (k + 1) i : Rat) - f k i) * ((t - a : Int) : Rat) / ((b - a : Int) : Rat))
  else 100 * (f k i : Rat)

/-- Lowest s at which a non-decreasing curve of 101 points reaches `x`. -/
def lowestAt (c : Nat → Rat) (x : Rat) : Option Rat :=
  match (List.range 101).find? fun i => decide (x ≤ c i) with
  | none => none
  | some i =>
    if i = 0 then some 0 else some (10000 * (((i : Rat) - 1) + (x - c (i - 1)) / (c i - c (i - 1))))

/-- Highest s at which a non-decreasing curve of 101 points is at most `x`. -/
def highestAt (c : Nat → Rat) (x : Rat) : Option Rat :=
  match (List.range 101).reverse.find? fun i => decide (c i ≤ x) with
  | none => none
  | some i =>
    if i = 100 then some 1000000 else some (10000 * ((i : Rat) + (x - c i) / (c (i + 1) - c i)))

/-- The states of charge a table allows for a voltage `v` within `a`, in µV. -/
def ocvInterval (l : List Nat) (t : Int) (v a : Rat) : Rat × Rat :=
  let s1 := (lowestAt (ocvCurve (ocvChg l) l t) (v - a)).getD 1000000
  let s2 := (highestAt (ocvCurve (ocvDis l) l t) (v + a)).getD 0
  (min s1 s2, max s1 s2)

/-- The accuracy of R48 in µV: by range, voltage and inlet. -/
def accuracyOf (survey ext : Bool) (v : Rat) : Rat :=
  let a : Rat := if survey then 5000 else if v < 0 then 1000 else if v ≤ 4500000 then 300 else 500
  if ext then 2 * a else a

/-! ## A strike and a turn of the estimator's inputs -/

/-- The bound on the charge error of a strike, µC, for a magnitude in 0.1 mA and SEL (R153). -/
def State.boundOf (s : State) (ok : Bool) (iMag sel : Nat) : Rat :=
  let i : Rat := (iMag : Rat) / 10000
  let tol : Rat := (s.reg Reg.EST_COUNT_SHUNT_TOL : Rat) / 1000000
  let hall : Rat := (s.reg Reg.EST_COUNT_HALL_ERR : Rat) / 1000000
  let b : Rat :=
    if !ok || sel = 3 then (s.reg Reg.EST_IFAULT_IFAULT : Rat)
    else if sel = 0 then 5 / 10000 * i + tol * i + 2 / 100
    else if sel = 1 then 1 / 1000 * i + tol * i + 2 / 10
    else hall * i + 15 / 10
  b * (3125 / 100)

/-- The bound of the latest strike.
DESIGN CHOICE (log 55). -/
def State.strikeBound (s : State) (ok : Bool) : Rat := s.boundOf ok s.iMag (s.reg Reg.CUR_STAT_SEL)

/-- What a strike adds; `ok`: its CUR frame was accepted. -/
def State.estStrike (ok : Bool) (s : State) : State :=
  let a := s.strikeBound ok
  { s with
    cur := { s.cur with boundSq := s.cur.boundSq + a ^ 2 }
    bal := { s.bal with errNow := [] }
    mdl := { s.mdl with balSq := s.bal.errNow.foldl (fun t (e : Nat × Rat) =>
      t.upd 0 e.1 (· + (2 * a * (e.2 / 320) + (e.2 / 320) ^ 2))) s.mdl.balSq }
    est := { s.est with
      countErr := s.est.countErr + a
      noneN := s.est.noneN + bit (s.reg Reg.CUR_STAT_SEL == 3)
      heldN := s.est.heldN + bit (!ok)
      iMax := max s.est.iMax s.iMag
      everClosed := s.est.everClosed || s.contactorClosed } }

/-- The conditions of R154 that restart the rest timer when they fail, for the turn that ended, apart from the 2 K band. -/
def State.restHolds (s : State) (g : Nat) : Bool :=
  decide (s.est.iMax ≤ s.reg Reg.EST_REST_REST_I * 1000)
    && !s.bal.onTurn.contains g
    && match s.ocvOf g, s.posTemp g with
      | some l, some t => decide (ocvGrid l 0 ≤ t) && decide (t ≤ ocvGrid l (ocvNt l - 1))
      | _, _ => false

/-- The rest timer of a position after a turn (R154).
DEDUCED (log 57). -/
def EstPos.restTurn (holds words : Bool) (t : Int) (p : EstPos) : EstPos :=
  let lo := if p.rest = 0 then t else min p.tMin t
  let hi := if p.rest = 0 then t else max p.tMax t
  if !holds || decide (200 < hi - lo) then { p with rest := 0, tMin := t, tMax := t, nextAt := 0 }
  else { p with rest := p.rest + bit words, tMin := lo, tMax := hi }

/-- The second's words after a turn; the second `sec` has ended (R155). -/
def EstPos.secondTurn (t : PosTurn) (ended : Option Nat) (p : EstPos) : EstPos :=
  let n := p.secN + t.r
  let q := p.secSum + t.rsum
  match ended with
  | some sec =>
    { p with secN := 0, secSum := 0
             means := if n = 0 then p.means else ((sec, (q : Rat) / (n : Rat)) :: p.means).take 61 }
  | none => { p with secN := n, secSum := q }

/-- Strike 0: the rest timers, the one-second means and the start conditions of the turn that ended. -/
def State.estTurnPos (g : Nat) (s : State) : State :=
  let t := s.lastTurn g
  let holds := s.restHolds g
  let words := decide (24 ≤ t.r)
  let now := s.turn
  let ended := if now % 1000 = 0 then some (now / 1000 - 1) else none
  let p := s.estPos g
  let p1 := ((p.restTurn holds words ((s.posTemp g).getD 0)).secondTurn t ended)
  let first := p.startSec.getD ((now + 999) / 1000)
  s.setEst g { p1 with
    startSec := some first
    startOk := p.startOk && (decide (now ≤ first * 1000) || (holds && words && (p.rest = 0 || p1.rest != 0))) }

/-- Slots found bad are suspended at strike 0 (R164). -/
def State.suspendSlots (s : State) : State :=
  let t := forAll s.est.suspNext (fun k s => s.setFlag (Reg.EST_SLOT_SUSP k) true) s
  { t with est := { t.est with suspNext := [] } }

/-- Strike 0 of the estimator.
DEDUCED (log 57). -/
def State.estTurnStart (s : State) : State :=
  let s1 := (forAll s.servedAll State.estTurnPos s).suspendSlots
  { s1 with
    bal := { s1.bal with onTurn := [] }
    est := { s1.est with
      iMax := 0
      tsel := (List.range 72).foldl (fun t k =>
        t.put k (s.reg ((match k % 4 with
          | 0 => Reg.EST_TSEL_TB0 | 1 => Reg.EST_TSEL_TB1 | 2 => Reg.EST_TSEL_TB2 | _ => Reg.EST_TSEL_TB3) (k / 4)))) s1.est.tsel } }

/-! ## Counting charge (R151, R152) -/

/-- A state of charge clamped to its range.
DESIGN CHOICE (log 55). -/
def clampSoc (x : Rat) : Rat := max 0 (min 1000000 x)

/-- The update of R152 for the charge `dq` and its uncertainty `eq`.
DEDUCED (log 58). -/
def EstPos.count (dq eq : Rat) (p : EstPos) : EstPos :=
  let up := dq + eq
  let dn := dq - eq
  { p with
    lo := clampSoc (p.lo - 1000000 * up / (if 0 < up then p.capLo else p.capHi))
    hi := clampSoc (p.hi - 1000000 * dn / (if 0 < dn then p.capHi else p.capLo)) }

/-- The anchor after the charge of a SUP. -/
def Anchor.count (dq eq : Rat) (a : Anchor) : Anchor :=
  { a with q := a.q + dq, eq := a.eq + eq
           chargeIn := if dq < 0 then a.chargeIn - dq else if 0 < dq then 0 else a.chargeIn }

/-- A discharge between anchors is still qualified (R166). -/
def State.anchorGood (s : State) (g : Nat) (p : EstPos) (a : Anchor) : Bool :=
  s.flag Reg.EST_CTRL_LEARN && s.est.noneN == a.none0 && decide (s.est.heldN ≤ a.held0 + 32)
    && !s.inEffect 0x0403 && !s.inEffect 0x0404 && decide (a.chargeIn ≤ 5 / 100 * p.capLo)
    && decide (s.now ≤ a.strike + s.reg Reg.EST_LEARN_MAX_H * 3600 * secStrikes)
    && match s.ocvOf g, s.posTemp g with
      | some l, some t => decide (ocvLearnLo l ≤ t) && decide (t ≤ ocvLearnHi l)
      | _, _ => false

/-- Charge that balancing took from a position since the last completed SUP, µC, and its uncertainty; the counters are
in 1/320 µC (R151, R153). -/
def State.balancing (s : State) (g : Nat) (p : EstPos) : Rat × Rat :=
  ((((s.bal.bleedQ.get 0 g - p.bleed0) + (s.bal.shutQ.get 0 g - p.shut0) : Int) : Rat) / 320,
    (s.bal.balErr.get 0 g - p.err0) / 320)

/-- One position of a SUP: its charge and its anchor. -/
def State.countPos (dq eq : Rat) (g : Nat) (s : State) : State :=
  let p := s.estPos g
  let b := s.balancing g p
  let dq1 := dq + b.1
  let eq1 := eq + b.2
  let p1 := { p.count dq1 eq1 with
    bleed0 := s.bal.bleedQ.get 0 g, shut0 := s.bal.shutQ.get 0 g, err0 := s.bal.balErr.get 0 g
    anchor := p.anchor.map (Anchor.count dq1 eq1) }
  match p1.anchor with
  | some a =>
    if s.anchorGood g p1 a then s.setEst g p1
    else (s.setEst g { p1 with anchor := none }).note 0x0621 (subjPos g) []
  | none => s.setEst g p1

/-- A standby holds the certified state of the image as its own published state (R172, R517).
DEDUCED (log 58). -/
def State.holdsImage (s : State) : Bool := s.roleStandby && s.tdm.imgTurn.isSome

/-- The charge of the string since the last completed SUP is taken and its totals kept. -/
def State.countAll (s : State) : State :=
  let dq : Int := s.cur.acc - s.est.acc0
  let eq := s.est.countErr
  let s1 := if s.holdsImage then s else forAll s.servedAll (State.countPos (dq : Rat) eq) s
  { s1 with est := { s1.est with
      acc0 := s.cur.acc, countErr := 0, totQ := s.est.totQ + dq, totEq := s.est.totEq + eq } }

/-! ## Rest corrections and learning (R155 to R157, R165 to R168) -/

/-- A quantity in a record: whole units, rounded down, four bytes. -/
def recNat (x : Rat) : List Nat := leBytes 4 x.floor.toNat

/-- The interval after evidence: the intersection, or the evidence itself when the two do not overlap (R157).
DESIGN CHOICE (log 55). -/
def EstPos.narrow (o : Rat × Rat) (e : Evid) (p : EstPos) : EstPos :=
  if max p.lo o.1 ≤ min p.hi o.2 then { p with lo := max p.lo o.1, hi := min p.hi o.2, evid := some e }
  else { p with lo := o.1, hi := o.2, evid := some e }

/-- New capacity bounds at an end anchor (R167). -/
def newCapacity (a : Anchor) (p : EstPos) : Rat × Rat :=
  (1000000 * (a.q - a.eq) / (a.hi - p.lo), 1000000 * (a.q + a.eq) / (a.lo - p.hi))

/-- The new bounds are accepted (R167). -/
def State.capacityOk (s : State) (a : Anchor) (p : EstPos) : Bool :=
  let n := newCapacity a p
  decide ((s.reg Reg.EST_LEARN_MIN_DSOC * 10000 : Nat) ≤ a.lo - p.hi) && decide (0 < a.lo - p.hi) && decide (n.1 ≤ n.2)
    && decide (max n.1 p.capLo ≤ min n.2 p.capHi)

/-- The end of a qualified discharge (R167, R168). -/
def State.learn (g : Nat) (a : Anchor) (p : EstPos) (s : State) : State :=
  if s.capacityOk a p then
    let n := newCapacity a p
    let q := { p with capLo := min n.1 (101 / 100 * p.capLo), capHi := n.2, learned := true, anchor := none }
    let s1 := (s.setEst g q).note 0x0620 (subjPos g)
      (leBytes 6 p.capLo.floor.toNat ++ leBytes 6 p.capHi.floor.toNat ++ leBytes 6 q.capLo.floor.toNat
        ++ leBytes 6 q.capHi.floor.toNat)
    s1
  else (s.setEst g { p with anchor := none }).note 0x0621 (subjPos g) []

/-- Anchors of capacity learning after a rest correction (R165). -/
def State.anchors (g : Nat) (s : State) : State :=
  let p := s.estPos g
  if s.flag Reg.EST_CTRL_LEARN && decide (p.width ≤ (s.reg Reg.EST_LEARN_ANCHOR_W * 1000 : Nat)) then
    if 900000 ≤ p.lo then
      let a : Anchor :=
        { lo := p.lo, hi := p.hi, q := 0, eq := 0, strike := s.now, chargeIn := 0, none0 := s.est.noneN
          held0 := s.est.heldN }
      s.setEst g { p with anchor := some a }
    else if p.hi ≤ 100000 then
      match p.anchor with
      | some a => s.learn g a p
      | none => s
    else s
  else s

/-- A rest correction from a voltage with a margin in µV beside the accuracy and TOL (R156, R157, R176).
DEDUCED (log 61). -/
def State.correct (kind g : Nat) (l : List Nat) (t : Int) (v margin : Rat) (s : State) : State :=
  let a := accuracyOf (s.bank (g / 64)).survey s.inletExtended v + (ocvTol l * 100 : Nat) + margin
  let o := ocvInterval l t v a
  let p := s.estPos g
  let gen := s.reg (Reg.EST_SLOT_GEN (s.ocvSlot g))
  let s1 := s.setEst g (p.narrow o { kind := kind, turn := s.turn, gen := gen })
  let s2 := if max p.lo o.1 ≤ min p.hi o.2 then s1
    else s1.raise 0x0603 1 (subjPos g)
      (leBytes 2 g ++ recNat p.lo ++ recNat p.hi ++ recNat o.1 ++ recNat o.2 ++ leBytes 2 gen)
  s2.anchors g

/-- The DVDT test: the latest one-second mean against that of 60 s earlier (R155). -/
def EstPos.steady (dvdt : Nat) (p : EstPos) : Bool :=
  match p.means with
  | (sec, m) :: _ =>
    match p.means.find? fun e => e.1 + 60 == sec with
    | some (_, m0) => decide (m - m0 ≤ (dvdt : Rat)) && decide (m0 - m ≤ (dvdt : Rat))
    | none => false
  | [] => false

/-- A qualified rest of a position (R155). -/
def EstPos.qualified (l : List Nat) (p : EstPos) : Bool := decide (ocvRestT l * 1000 ≤ p.rest) && p.steady (ocvDvdt l)

/-- The slot of a position is suspended (R164). -/
def State.slotSuspended (s : State) (g : Nat) : Bool := s.flag (Reg.EST_SLOT_SUSP (s.ocvSlot g))

/-- The rest correction of a position in SUP, when one is due (R155, R163). -/
def State.restCorrection (g : Nat) (s : State) : State :=
  let p := s.estPos g
  match s.ocvOf g, s.posTemp g with
  | some l, some t =>
    if s.slotSuspended g then s
    else if p.qualified l && (p.fresh || p.nextAt == 0 || decide (p.nextAt ≤ p.rest)) then
      let due := p.nextAt == 0 || decide (p.nextAt ≤ p.rest)
      let s1 := s.setEst g { p with fresh := false, nextAt := if due then p.rest + ocvRestT l * 1000 else p.nextAt }
      s1.correct 1 g l t ((p.means.head?.map (·.2)).getD 0) 0
    else if p.fresh then s.setEst g { p with fresh := false }
    else s
  | _, _ => s

/-- The latest committed 0x0610 record (R171). -/
def State.powerDownRecord (s : State) : Option EvRec :=
  ((s.evl.slots.reverse.find? fun e => e.rcd.code == 0x0610).map fun e => e.rcd)

/-- The means of the first 10 whole seconds after the release, where they are there (R176).
DEDUCED (log 59). -/
def EstPos.startMeans (p : EstPos) : Option (List Rat) :=
  match p.startSec with
  | none => none
  | some f =>
    let l := p.means.filter fun e => decide (f ≤ e.1) && decide (e.1 < f + 10)
    if l.length = 10 then some (l.map (·.2)) else none

/-- Largest and smallest of a list. -/
def spread (l : List Rat) : Rat :=
  match l with
  | [] => 0
  | a :: r => r.foldl max a - r.foldl min a

/-- The start correction of a position (R176).
DEDUCED (log 59, 61). -/
def State.startCorrection (g : Nat) (s : State) : State :=
  let p := s.estPos g
  if p.startDone then s
  else match p.startMeans with
    | none => s
    | some m =>
      let s1 := s.setEst g { p with startDone := true }
      match s.ocvOf g, s.posTemp g, s.powerDownRecord with
      | some l, some t, some r =>
        if p.startOk && !s.est.everClosed && decide (spread m ≤ 200) && !s.slotSuspended g
            && decide (r.strike + ocvRestT l * secStrikes ≤ s.now) then
          s1.correct 2 g l t (m.headD 0) ((s.reg Reg.EST_REST_START_MV * 100 : Nat) : Rat)
        else s1
      | _, _, _ => s1

/-- End-of-life limit of a position (R168). -/
def State.endOfLife (g : Nat) (s : State) : State :=
  s.level (decide ((s.estPos g).capLo < s.nominal g * (s.reg Reg.EST_LEARN_EOL : Rat) / 100)) 0x0609 1 (subjPos g) []

/-! ## The published bounds and the module-wide faults (R150, R154, R177) -/

/-- The least and the greatest of a list of rationals, with a value for the empty list. -/
def leastOf (d : Rat) (l : List Rat) : Rat := match l with | [] => d | a :: r => r.foldl min a
def mostOf (d : Rat) (l : List Rat) : Rat := match l with | [] => d | a :: r => r.foldl max a

/-- A position is unresolved; a position is wider than WWARN. -/
def State.unresolved (s : State) (g : Nat) : Bool :=
  decide (((s.reg Reg.EST_WIDTH_WMAX * 1000 : Nat) : Rat) < (s.estPos g).width)
def State.wide (s : State) (g : Nat) : Bool :=
  decide (((s.reg Reg.EST_WIDTH_WWARN * 1000 : Nat) : Rat) < (s.estPos g).width)

/-- What a completed SUP publishes.
DEDUCED (log 56). -/
def State.estPublish (s : State) : State :=
  let l := s.servedAll
  let un := countIf s.unresolved l
  let wd := countIf s.wide l
  let s1 := s.setFields [(Reg.EST_MINSOC_SOC, (leastOf 0 (l.map fun g => (s.estPos g).lo)).floor.toNat),
    (Reg.EST_MAXSOC_SOC, (mostOf 0 (l.map fun g => (s.estPos g).hi)).ceil.toNat),
    (Reg.EST_STAT_UNRES, un), (Reg.EST_STAT_WIDE, wd)]
  let s2 := ((s1.level (un != 0) 0x0601 2 subjNone []).level (wd != 0) 0x0604 1 subjNone [])
  let s3 := s2.level (l.any fun g => (s.posTemp g).isNone) 0x0611 2 subjNone []
  { s3 with est := { s3.est with
      supStrike := some s.now
      supTemp := l.foldl (fun t g => t.put g ((s.posTemp g).getD 0)) s3.est.supTemp } }

/-- The certified estimator's share of a SUP (R151 to R168, R176, R177). -/
def State.estSup (s : State) : State :=
  let s1 := s.countAll
  let s2 := forAll s1.servedAll (fun g s =>
    if s.holdsImage then s.endOfLife g else ((s.restCorrection g).startCorrection g).endOfLife g) s1
  s2.estPublish

/-! ## Working copies (R161 to R164) -/

/-- EST_STAT.REBUILD, SWPEND and the slot's REBUILD after a change. -/
def State.buildRegs (s : State) : State :=
  (List.range 8).foldl (fun s k => s.setFlag (Reg.EST_SLOT_REBUILD k) (s.est.building.any fun e => e.1 == k))
    (s.setFields [(Reg.EST_STAT_REBUILD, bit (s.est.building != [])), (Reg.EST_STAT_SWPEND, bit (s.est.built != []))])

/-- A build of a slot begins, or begins again (R162).
DEDUCED (log 245). -/
def State.beginBuild (k : Nat) (l : List Nat) (s : State) : State :=
  ({ s with est := { s.est with building := s.est.building.put k l, built := s.est.built.drop (· == k) } }).buildRegs

/-- TABLE_BUILD_COMPLETE: the copy is discarded as invalid, or waits for the switch (R162, R163). -/
def execTableBuildComplete (k : Nat) (s : State) : Host.Outcome State Fault Refusal :=
  .next (match s.est.building.find? fun e => e.1 == k with
    | none => s
    | some (_, l) =>
      if s.sys.core && !s.flag Reg.PWR_STAT_WARM then
        let s1 := { s with est := { s.est with building := s.est.building.drop (· == k) } }
        if ocvValid l then ({ s1 with est := { s1.est with built := s1.est.built.put k l } }).buildRegs
        else (s1.buildRegs).note 0x0606 (subjNum k) []
      else s)

/-- A copy comes into service: the generation advances, a suspension ends, and the positions of the slot are due a fresh
correction where they have a qualified rest (R163, R164).
DEDUCED (log 62). -/
def State.serveCopy (k : Nat) (l : List Nat) (s : State) : State :=
  let s1 := { s with est := { s.est with copies := s.est.copies.put k l } }
  let s2 := s1.setFields [(Reg.EST_SLOT_GEN k, s.reg (Reg.EST_SLOT_GEN k) + 1), (Reg.EST_SLOT_VALID k, 1),
    (Reg.EST_SLOT_SUSP k, 0), (Reg.EST_SLOT_NT k, ocvNt l)]
  forAll (s2.servedAll.filter fun g => s2.ocvSlot g == k) (fun g s => s.setEst g { s.estPos g with fresh := true })
    (s2.goneAt 0x0605 (subjNum k))

/-- GENERATION_SWITCH, just before the strike 0 at which it takes effect; slots found bad are suspended then (R163,
R164).
DEDUCED (log 61). -/
def execGenerationSwitch (s : State) : Host.Outcome State Fault Refusal :=
  .next (if s.atStrike0 then
      let s1 := s.suspendSlots
      let s2 := forAll s.est.built (fun e s => s.serveCopy e.1 e.2) s1
      ({ s2 with est := { s2.est with built := [] } }).buildRegs
    else s)

/-- A CHK slice finds the working copy of a slot bad (R164): 0x0605, suspension at the next strike 0, a rebuild from
MRAM. -/
def State.slotBad (k : Nat) (s : State) : State :=
  if s.flag (Reg.EST_SLOT_VALID k) && !s.flag (Reg.EST_SLOT_SUSP k) && !s.est.suspNext.contains k then
    let s1 := { s with est := { s.est with suspNext := s.est.suspNext ++ [k] } }
    (s1.raiseAs false 0x0605 1 (subjNum k) false [k]).beginBuild k (s.auth.committed.tables.get [] k)
  else s

/-- The copies of a start: every valid table of the committed configuration, generation 1 (R161). -/
def State.estBoot (s : State) : State :=
  forEach (List.range 8) (fun k s =>
    let l := s.auth.committed.tables.get [] k
    if l = [] then s
    else if ocvValid l then
      ({ s with est := { s.est with copies := s.est.copies.put k l } }).setFields
        [(Reg.EST_SLOT_GEN k, 1), (Reg.EST_SLOT_VALID k, 1), (Reg.EST_SLOT_NT k, ocvNt l)]
    else s.note 0x0606 (subjNum k) []) s

/-! ## Snapshots (R169 to R171, R403) -/

/-- The serial number of the module. -/
def State.serial (s : State) : Nat := s.reg Reg.SYS_SER_LO_SER + s.reg Reg.SYS_SER_HI_SER * 2 ^ 32

/-- The serial read from the tray of a position. -/
def State.traySerial (s : State) (g : Nat) : Nat :=
  match s.branchOf (g / 64) (g % 64) with
  | some k => ((s.bank (g / 64)).trays.get { valid := false, chem := 0, first := 0, count := 0, serial := 0, par := 0, cap := 0 } k).serial
  | none => 0

/-- The certified snapshot of the latest completed SUP (R170). -/
def State.snapshot (s : State) (strike : Nat) : Snapshot :=
  { strike := strike, q := s.est.totQ, eq := s.est.totEq, gens := (List.range 8).map fun k => s.reg (Reg.EST_SLOT_GEN k)
    entries := s.allPositions.map fun g =>
      let p := s.estPos g
      (g, { lo := p.lo, hi := p.hi, capLo := p.capLo, capHi := p.capHi, evidTurn := p.evid.map (·.turn)
            temp := s.est.supTemp.get 0 g, used := s.served g, learned := p.learned, slot := s.ocvSlot g
            tray := s.traySerial g }) }

/-- The 32 bytes of an entry. -/
def SnapEntry.bytes (turn : Nat) (e : SnapEntry) : List Nat :=
  leBytes 4 e.lo.floor.toNat ++ leBytes 4 e.hi.ceil.toNat ++ leBytes 4 (e.capLo / 3600000).floor.toNat
    ++ leBytes 4 (e.capHi / 3600000).ceil.toNat
    ++ leBytes 4 (match e.evidTurn with | some t => sat 0xFFFFFFFF ((turn - t) / 1000) | none => 0xFFFFFFFF)
    ++ leBytes 2 (unsigned 16 e.temp) ++ [bit e.used + 2 * bit e.learned, e.slot] ++ leBytes 8 e.tray

/-- The bytes of the header that TAG covers. -/
def State.snapHead (s : State) (n : Snapshot) : List Nat :=
  leBytes 2 1 ++ leBytes 2 1152 ++ leBytes 8 s.serial ++ leBytes 8 n.strike
    ++ leBytes 4 (layoutCrc s.auth.committed.layout) ++ n.gens.flatMap (leBytes 2) ++ List.replicate 8 0

/-- The entries of a snapshot, every global position. -/
def Snapshot.body (n : Snapshot) : List Nat :=
  (List.range 1152).flatMap fun g =>
    match n.entries.find? fun e => e.1 == g with
    | some e => e.2.bytes (n.strike / 32)
    | none => List.replicate 32 0

/-- TAG: the first 16 bytes of the HMAC under the string key. -/
def State.snapTag (s : State) (l : List Nat) : List Nat :=
  (beBytes 32 (Config.hmac256 (s.auth.committed.key.getD []) l)).take 16

/-- The 36 928 bytes of a snapshot. -/
def State.snapBytes (s : State) (n : Snapshot) : List Nat :=
  let h := s.snapHead n
  let b := n.body
  h ++ s.snapTag (h ++ b) ++ b

/-- SNAPSHOT_PERIODIC: every SNAP_INT seconds from the first entry to RUN (R169). -/
def execSnapshotPeriodic (s : State) : Host.Outcome State Fault Refusal :=
  .next (match s.est.firstRun, s.est.supStrike with
    | some _, some n =>
      if s.runOrTrim && decide (s.reg Reg.EST_CTRL_SNAP_INT * secStrikes ≤ s.since s.est.snapAt) && !s.deaf then
        { s with est := { s.est with snapAt := s.now, waiting := some (s.snapshot n, s.now) } }
      else s
    | _, _ => s)

/-- A delivered snapshot becomes the latest one; the same snapshot is delivered once (R169, R403). -/
def State.snapDelivered (f : SnapFig) (s : State) : State :=
  if s.est.snapNow.any fun g => g.strike == f.strike then s
  else ({ s with est := { s.est with snapPrev := s.est.snapNow, snapNow := some f } }).setFields
    [(Reg.EST_SNAP_LO_SNAP_LO, f.strike % 2 ^ 32), (Reg.EST_SNAP_HI_SNAP_HI, f.strike / 2 ^ 32)]

/-- SNAPSHOT_DELIVER: the write of a completion that carries a snapshot's last byte is issued (R403). -/
def execSnapshotDeliver (s : State) : Host.Outcome State Fault Refusal :=
  .next (match s.est.deliver with
    | [] => s
    | f :: r => ({ s with est := { s.est with deliver := r } }).snapDelivered f)

/-- SNAPSHOT_DISCARD: no snapshot flume received a periodic snapshot within 1 s (R403). -/
def execSnapshotDiscard (s : State) : Host.Outcome State Fault Refusal :=
  .next (match s.est.waiting with
    | some (_, t) => if secStrikes ≤ s.since t then { s with est := { s.est with waiting := none } } else s
    | none => s)

/-- One snapshot part of 0x0610 (R445). -/
def State.snapPart (s : State) : Option SnapFig → List Nat
  | none => List.replicate 15 0
  | some f =>
    leBytes 4 (sat 0xFFFFFFFF (s.now - f.strike)) ++ leBytes 6 (unsigned 48 (s.est.totQ - f.q))
      ++ leBytes 5 ((s.est.totEq - f.eq) / 1000).ceil.toNat

/-- The power-down record (R171). -/
def State.powerDown (s : State) : State := s.note 0x0610 subjNone (s.snapPart s.est.snapNow ++ s.snapPart s.est.snapPrev)

/-! ## Restore (R172 to R174, R177) -/

/-- RESTORE_WINDOW_CLOSE. -/
def execRestoreWindowClose (s : State) : Host.Outcome State Fault Refusal :=
  .next (match s.est.firstRun with
    | some t =>
      if s.flag Reg.EST_STAT_RWIN && decide (s.reg Reg.EST_RESTORE_WIN * secStrikes ≤ s.since t) then
        let s1 := ({ s with est := { s.est with windowDone := true } }).setFlag Reg.EST_STAT_RWIN false
        if s.flag Reg.EST_STAT_RESTORED then s1 else s1.raiseLevel 0x0602 1 subjNone []
      else s
    | none => s)

/-- A part of an 0x0610 record: its snapshot's strike, charge and uncertainty in µC. -/
def partOf (r : EvRec) (i : Nat) : Option (Nat × Int × Nat) :=
  let d := leAt r.data i 4
  if d = 0 ∨ d = 0xFFFFFFFF then none
  else some (r.strike - d, signed 48 (leAt r.data (i + 4) 6), leAt r.data (i + 10) 5 * 1000)

/-- The record and the part that name a snapshot (step 4 of R173). -/
def State.restoreRecord (s : State) (strike : Nat) : Option (EvRec × Int × Nat) :=
  (s.evl.slots.reverse.filter fun e => e.rcd.code == 0x0610 && decide (strike ≤ e.rcd.strike)).findSome? fun e =>
    ([partOf e.rcd 0, partOf e.rcd 15].filterMap id).findSome? fun p =>
      if p.1 = strike then some (e.rcd, p.2) else none

/-- A serial of this module, or of its commissioned partner (step 2 of R173): 0 names none. -/
def State.ownSerial (s : State) (n : Nat) : Bool :=
  let p := s.reg Reg.TDM_PSER_LO_SER + s.reg Reg.TDM_PSER_HI_SER * 2 ^ 32
  n == s.serial || (p != 0 && n == p)

/-- Checks 1 to 3 of R173. -/
def State.restoreForm (s : State) (l : List Nat) : Bool :=
  l.length == 36928 && leAt l 0 2 == 1 && leAt l 2 2 == 1152 && s.auth.committed.key.isSome
    && slice l 48 16 == s.snapTag (l.take 48 ++ l.drop 64)
    && s.ownSerial (leAt l 4 8)
    && leAt l 20 4 == layoutCrc s.auth.committed.layout && !s.flag Reg.EST_STAT_RESTORED && !s.roleStandby

/-- The restored interval of an entry (R174): capacities in µC, times in seconds. -/
def restoredInterval (lo hi capLo capHi q eq tpf toff sd : Rat) : Rat × Rat :=
  let up := q + eq
  let dn := q - eq
  let l := lo - 1000000 * up / (if 0 < up then capLo else capHi) - 1000000 * (32 / 10 * tpf * 1000000) / capLo
    - sd * (toff / 86400)
  let h := hi - 1000000 * dn / (if 0 < dn then capHi else capLo) + 1000000 * (3 * tpf * 1000000) / capLo
  (clampSoc l, clampSoc h)

/-- One entry of a restore: the position it restores, or its rejection (step 6 of R173, R174). -/
def State.restoreEntry (l : List Nat) (q : Int) (eq strike down : Nat) (g : Nat) (s : State) : Option State :=
  let e := slice l (64 + 32 * g) 32
  let p := s.estPos g
  let capLo : Rat := (leAt e 8 4 * 3600000 : Nat)
  let capHi : Rat := (leAt e 12 4 * 3600000 : Nat)
  if leAt e 24 8 == s.traySerial g && e.getD 23 0 == s.ocvSlot g && decide (0 < capLo) && decide (0 < capHi) then
    let i := restoredInterval (leAt e 0 4 : Nat) (leAt e 4 4 : Nat) capLo capHi q eq
      (((down - strike : Nat) : Rat) / secStrikes) (((s.now - down : Nat) : Rat) / secStrikes)
      ((s.reg Reg.EST_RESTORE_SD_RATE * 100 : Nat) : Rat)
    if max p.lo i.1 ≤ min p.hi i.2 then
      let fits := decide (max capLo p.capLo ≤ min capHi p.capHi)
      some (s.setEst g { p with
        lo := max p.lo i.1, hi := min p.hi i.2
        capLo := if fits then capLo else p.capLo, capHi := if fits then capHi else p.capHi
        learned := if fits then bitAt (e.getD 22 0) 1 else p.learned
        evid := some { kind := 3, turn := s.turn, gen := s.reg (Reg.EST_SLOT_GEN (s.ocvSlot g)) } })
    else none
  else none

/-- The restore of a snapshot: the state, and the command's answer (R173, R174, R400).
DESIGN CHOICE (log 108). -/
def State.restoreCert (l : List Nat) (s : State) : State × Reply :=
  let strike := leAt l 12 8
  match (if s.restoreForm l then s.restoreRecord strike else none) with
  | none => (s.note 0x0607 subjNone [], .refused 0x0607)
  | some (r, q, eq) =>
    if s.flag Reg.TIM_STAT_TODV && decide (s.now < r.strike + s.reg Reg.EST_RESTORE_MAX_AGE * 86400 * secStrikes) then
      let used := (List.range 1152).filter fun g => bitAt (l.getD (64 + 32 * g + 22) 0) 0
      let res := used.foldl (fun (a : State × List Nat) g =>
        match a.1.restoreEntry l q eq strike r.strike g with
        | some t => (t, a.2)
        | none => (a.1, a.2 ++ [g])) (s, [])
      let s1 := (res.1.setFlag Reg.EST_STAT_RESTORED true).goneAt 0x0602 subjNone
      let bad := res.2
      let s2 := if bad = [] then s1
        else s1.note 0x0608 subjNone (leBytes 2 bad.length ++ leBytes 2 (bad.headD 0))
      (s2, .ok ((used.length - bad.length) + bad.length * 65536))
    else (s.note 0x0607 subjNone [], .refused 0x0607)

end Sys2Proof.Machine
end

