-- ==== Sys2Proof/Machine/Model.lean ====
section
/-! DEFINITION. The model estimator: one step of the dual Kalman filter per position and turn (R180 to R191, R204). -/
namespace Sys2Proof.Machine

/-! ## Vectors and matrices of rationals -/

abbrev Vec := List Rat
abbrev Mat := List Vec

def Vec.dot (a b : Vec) : Rat := (List.zipWith (· * ·) a b).foldl (· + ·) 0
def Vec.add (a b : Vec) : Vec := List.zipWith (· + ·) a b
def Vec.scale (k : Rat) (a : Vec) : Vec := a.map (k * ·)
def Mat.mulVec (m : Mat) (v : Vec) : Vec := m.map fun r => Vec.dot r v
/-- Column `j`. -/
def Mat.col (m : Mat) (j : Nat) : Vec := m.map fun r => r.getD j 0
def Mat.transpose (n : Nat) (m : Mat) : Mat := (List.range n).map (Mat.col m)
def Mat.mul (n : Nat) (a b : Mat) : Mat := a.map fun r => (List.range n).map fun j => Vec.dot r (Mat.col b j)
def Mat.add (a b : Mat) : Mat := List.zipWith Vec.add a b
/-- The matrix with a diagonal. -/
def Mat.diag (d : Vec) : Mat :=
  (List.range d.length).map fun i => (List.range d.length).map fun j => if i = j then d.getD i 0 else 0
/-- The product of a column and a row. -/
def Vec.outer (a b : Vec) : Mat := a.map fun x => Vec.scale x b

/-- One measurement update of a Kalman filter with a scalar measurement, the covariance in Joseph form (R185): state,
covariance, gradient, innovation, noise variance. -/
def kalman (x : Vec) (p : Mat) (h : Vec) (innov r : Rat) : Vec × Mat :=
  let n := x.length
  let ph := Mat.mulVec p h
  let k := Vec.scale (1 / (Vec.dot h ph + r)) ph
  let a := Mat.add (Mat.diag (List.replicate n 1)) (Vec.outer (Vec.scale (-1) k) h)
  let p1 := Mat.add (Mat.mul n (Mat.mul n a p) (Mat.transpose n a)) (Vec.outer (Vec.scale r k) k)
  ((Vec.add x (Vec.scale innov k)).map Config.fp32, p1.map fun v => v.map Config.fp32)

/-! ## Open-circuit voltage (R183) -/

/-- The mean of DIS and CHG in V at a state of charge (fraction) and a temperature (°C); outside the grid the manual gives
no value.
DESIGN CHOICE (log 258). -/
def ocvMean (l : List Nat) (soc t : Rat) : Rat :=
  let c : Rat := 100 * t
  let nt := ocvNt l
  let s := 100 * soc
  if 0 ≤ soc ∧ soc ≤ 1 ∧ (ocvGrid l 0 : Rat) ≤ c ∧ c ≤ (ocvGrid l (nt - 1) : Rat) then
    let i := s.floor.toNat
    let k := countIf (fun j => decide ((ocvGrid l j : Rat) ≤ c)) (List.range nt) - 1
    let point := fun (k i : Nat) => ((ocvDis l k i : Rat) + ocvChg l k i) / 20000
    let along := fun (k : Nat) => point k i + (if i < 100 then (s - i) * (point k (i + 1) - point k i) else 0)
    if k + 1 < nt then
      along k + (c - ocvGrid l k) / ((ocvGrid l (k + 1) : Rat) - ocvGrid l k) * (along (k + 1) - along k)
    else along k
  else Config.ocvOutside l soc t

/-- The slopes of the mean curve, in V per unit of state of charge and in V/K: those of the interpolation in the cell of the
grid that holds the point (R156, R183).
DESIGN CHOICE (log 64). -/
def ocvSlope (l : List Nat) (soc t : Rat) : Rat × Rat :=
  let c : Rat := 100 * t
  let nt := ocvNt l
  let s := 100 * soc
  if 0 ≤ soc ∧ soc ≤ 1 ∧ (ocvGrid l 0 : Rat) ≤ c ∧ c ≤ (ocvGrid l (nt - 1) : Rat) then
    let i := min 99 s.floor.toNat
    let k := min (nt - 2) (countIf (fun j => decide ((ocvGrid l j : Rat) ≤ c)) (List.range nt) - 1)
    let point := fun (k i : Nat) => ((ocvDis l k i : Rat) + ocvChg l k i) / 20000
    let rise := fun (k : Nat) => point k (i + 1) - point k i
    let val := fun (k : Nat) => point k i + (s - i) * rise k
    let span : Rat := (ocvGrid l (k + 1) : Rat) - ocvGrid l k
    let x := (c - ocvGrid l k) / span
    (100 * (rise k + x * (rise (k + 1) - rise k)), 100 * (val (k + 1) - val k) / span)
  else Config.ocvSlopeOutside l soc t

/-- The open-circuit voltage of a position: by its table, or its constant. -/
def State.ocvm (s : State) (g : Nat) (m : ModelPos) (soc t : Rat) : Rat :=
  match s.ocvOf g with
  | some l => ocvMean l soc t
  | none => m.const

/-! ## Starting values (R184, R189) -/

/-- CN in Ah. -/
def State.nominalAh (s : State) (g : Nat) : Rat := s.nominal g / 3600000000

/-- The value of an fp32 word; none for an infinity or no number. -/
def fp32Value (w : Nat) : Option Rat :=
  let e := bitsAt w 23 8
  let f := bitsAt w 0 23
  let sg : Rat := if bitAt w 31 then -1 else 1
  if e = 255 then none
  else if e = 0 then some (sg * (f : Rat) / 2 ^ 149)
  else some (sg * ((2 ^ 23 + f : Nat) : Rat) * 2 ^ e / 2 ^ 150)

/-- The fp32 word at byte `i`. -/
def fp32At (l : List Nat) (i : Nat) : Option Rat := fp32Value (leAt l i 4)

/-- CTH and RTH of a position's cell context entry, where they apply (R417, R419). -/
def State.cellTherm (s : State) (g : Nat) : Option (Rat × Rat) :=
  match s.mdl.cells.find? fun e => e.1 == g with
  | none => none
  | some (_, l) =>
    if bitAt (l.getD 4 0) 0 && (!bitAt (l.getD 4 0) 1 || leAt l 16 8 == s.traySerial g) then
      match fp32At l 24, fp32At l 28 with
      | some c, some r => some (c, r)
      | _, _ => none
    else none

/-- cth and rth of a position: of its cell context entry, or the built-in ones. -/
def State.thermal (s : State) (g : Nat) : Rat × Rat :=
  let cn := s.nominalAh g
  (s.cellTherm g).getD (10 * cn, if cn = 0 then 200 else 200 / cn)

/-- Bounds of the parameters ("Table — Model parameter bounds"), cap in C. -/
def State.thetaBounds (s : State) (g : Nat) : List (Rat × Rat) :=
  let p := s.estPos g
  let r : Rat × Rat := (1 / 1000000, 1)
  [r, r, (2 / 1000, 2), r, (2, 3600), (0, if (s.ocvOf g).isNone then 0 else 1 / 10), (1, 1000),
   (p.capLo / 2000000, p.capHi * 3 / 2000000), (-1 / 100, 5 / 10)]

/-- Parameters held within their bounds; hmax of a position without a table is held at 0. -/
def State.clampTheta (s : State) (g : Nat) (th : Vec) : Vec :=
  List.zipWith (fun (x : Rat) (b : Rat × Rat) => max b.1 (min b.2 x)) th (s.thetaBounds g)

/-- The built-in starting values. -/
def State.builtinTheta (s : State) (g : Nat) : Vec :=
  let cn := s.nominalAh g
  let per := fun (x : Rat) => if cn = 0 then x else x / cn
  let p := s.estPos g
  let hm : Rat := match s.ocvOf g with
    | some l =>
      if ocvGrid l 0 ≤ 2500 ∧ 2500 ≤ ocvGrid l (ocvNt l - 1) then
        (ocvCurve (ocvChg l) l 2500 50 - ocvCurve (ocvDis l) l 2500 50) / 2000000
      else Config.ocvOutside l 0 25
    | none => 1 / 100
  [per (70 / 1000), per (20 / 1000), 5 / 100, per (30 / 1000), 60, hm, 100, (p.capLo + p.capHi) / 2000000, 0]

/-- The starting values of a position: host-loaded ones of its slot, or built-in; cap is always the midpoint (R401). -/
def State.startTheta (s : State) (g : Nat) : Vec :=
  let b := s.builtinTheta g
  match s.mdl.starts.find? fun e => e.1 == s.ocvSlot g with
  | some (_, l) => s.clampTheta g ((l.take 7) ++ [b.getD 7 0] ++ l.drop 8)
  | none => s.clampTheta g b

/-- The initial variances of the parameters. -/
def startVar (th : Vec) : Vec :=
  (th.take 7).map (fun x => (x / 2) ^ 2) ++ [(th.getD 7 0 * 5 / 100) ^ 2, (5 / 1000) ^ 2]

/-- A turn mean of R210 in V. -/
def State.turnMeanV (s : State) (g : Nat) : Option Rat :=
  let t := s.lastTurn g
  if 8 ≤ t.n then some ((t.sum : Rat) / (t.n : Rat) / 1000000) else none

/-- ts of a position in °C: its temperature, or the module inlet (R154). -/
def State.coreTs (s : State) (g : Nat) : Rat :=
  match s.posTemp g with
  | some t => (t : Rat) / 100
  | none => (s.tempValue tempM : Rat) / 100

/-- A position before its first step: numbers of steps are staggered by position (R187). -/
def ModelPos.blank (g : Nat) : ModelPos :=
  { x := [], p := [], theta := [], q := [], const := 0, nisRun := 0, steps := g, out := none, charged := false, bump := none
    p1 := 0, p2 := 0, fitChg := none, fitGen := none, isiWarned := false, lpiWarned := false }

def State.mdlPos (s : State) (g : Nat) : ModelPos := s.mdl.pos.get (ModelPos.blank g) g
def State.setMdl (g : Nat) (m : ModelPos) (s : State) : State := { s with mdl := { s.mdl with pos := s.mdl.pos.put g m } }

/-- The state and covariance of a position at its initialisation; the starting covariance of v1, v2, h and tc is not
stated. -/
def State.startState (s : State) (g : Nat) : Vec × Mat :=
  let p := s.estPos g
  let w := p.width / 1000000
  let sd := max (w / Config.sqrt 12) (1 / 100)
  ([(p.lo + p.hi) / 2000000, 0, 0, 0, s.coreTs g], Mat.diag [sd ^ 2, Config.noiseRate 11, Config.noiseRate 12,
    Config.noiseRate 13, Config.noiseRate 14])

/-- Initialises a position; `theta`: its parameters start again as well (R189).
DEDUCED (log 63). -/
def State.initModel (theta : Bool) (g : Nat) (s : State) : State :=
  let m := s.mdlPos g
  let x := s.startState g
  let th := if theta || m.theta == [] then s.startTheta g else m.theta
  let q := if theta || m.theta == [] then Mat.diag (startVar th) else m.q
  s.setMdl g { m with x := x.1, p := x.2, theta := th, q := q, const := (s.turnMeanV g).getD (33 / 10), nisRun := 0 }

/-! ## One step (R180 to R188) -/

/-- The strike record of a strike, while the strike ring holds it. -/
def State.recAt (s : State) (n : Nat) : Option StrikeRec := s.mpd.recs.find? fun r => r.strike == n

/-- The accumulator after the strike of a record in 1/320 µC, and the running sum of the squared count bounds, µC². -/
def StrikeRec.totals (r : StrikeRec) : Int × Rat := (r.acc * 320 + r.frac, r.bound)

/-- The totals after a strike: of its record, or as kept from the last completed step. -/
def State.totalsAt (s : State) (n : Nat) : Option (Int × Rat) :=
  ((s.recAt n).map StrikeRec.totals).or ((s.mdl.kept.find? fun e => e.1 == n).map (·.2))

/-- The totals that the next step may start from: the largest group delays reach back 800 strikes. -/
def State.keepTotals (s : State) : Tab (Int × Rat) := (s.mpd.recs.take 840).map fun r => (r.strike, r.totals)

/-- Group delays of a position's bank and of CUR. -/
def State.bankDelay (s : State) (g : Nat) : Nat := groupDelay (s.bank (g / 64)).fc
def State.curDelay (s : State) : Nat := groupDelay s.cur.cfc
def State.stepDelay (s : State) (g : Nat) : Nat := max (s.bankDelay g) s.curDelay

/-- First centre instant and count of the span of the present step (R180, R181). -/
def State.stepSpan (s : State) (g : Nat) : Nat × Nat :=
  let n := s.turn
  let last := if s.mdl.lastTurn = 0 ∨ n < s.mdl.lastTurn then n - 1 else s.mdl.lastTurn - 1
  (32 * last - s.stepDelay g, 32 * (n - last))

/-- The qualifying words of a position in a span: their values, µV. -/
def State.spanWords (s : State) (g c0 len : Nat) : List Int :=
  (List.range len).filterMap fun i =>
    match s.recAt (c0 + i + s.bankDelay g) with
    | some r =>
      let w := r.words.get (placeholder r.strike) g
      if clean w && !wC w then some (wValue w) else none
    | none => none

/-- The charge over a span in 1/320 µC, and the squared count bounds of its strikes summed, µC² (R181, R186): what the totals
rose by, whether or not the ring still holds every strike.
DESIGN CHOICE (log 291). -/
def State.spanTotals (s : State) (c0 len : Nat) : Int × Rat :=
  match s.totalsAt (c0 + s.curDelay - 1), s.totalsAt (c0 + len - 1 + s.curDelay) with
  | some a, some b => (b.1 - a.1, b.2 - a.2)
  | _, _ => (List.range len).foldl (fun a i => match s.recAt (c0 + i + s.curDelay) with
    | some r => (a.1 + r.iSel, a.2 + r.bound1)
    | none => a) (0, 0)

/-- Noise of a corner, µV, squared over the count, plus (0.1 mV)²; in V² (R185). -/
def measureVar (fc : Nat) (survey : Bool) (n : Nat) : Rat :=
  let u : Rat := ([56, 40, 28, 20, 14, 9, 5, 3].getD fc 20 : Nat)
  let v := if survey then 16 * u else u
  (v ^ 2 / (n : Rat) + 10000) / 1000000000000

/-- The sign of a rational: 0 for 0. -/
def sgn (x : Rat) : Rat := if 0 < x then 1 else if x < 0 then -1 else 0

/-- The model step of R183: dt in s, dq in C, i in A; and the Jacobian of the state.
DESIGN CHOICE (log 14, 261). -/
def modelStep (x th : Vec) (dt dq i ts cth rth : Rat) : Vec × Mat :=
  let r0 := th.getD 0 0; let r1 := th.getD 1 0; let t1 := th.getD 2 0; let r2 := th.getD 3 0; let t2 := th.getD 4 0
  let gam := th.getD 6 0; let cap := th.getD 7 0; let il := th.getD 8 0
  let e1 := Config.exp (-dt / t1)
  let e2 := Config.exp (-dt / t2)
  let eh := Config.exp (-(|dq| * gam / cap))
  let soc := x.getD 0 0 - (dq + il * dt) / cap
  let v1 := e1 * x.getD 1 0 + r1 * (1 - e1) * i
  let v2 := e2 * x.getD 2 0 + r2 * (1 - e2) * i
  let h := eh * x.getD 3 0 - (1 - eh) * sgn i
  let pq := i * i * r0 + v1 * v1 / r1 + v2 * v2 / r2
  let tc := x.getD 4 0 + dt * (pq - (x.getD 4 0 - ts) / rth) / cth
  ([soc, v1, v2, h, tc],
   [[1, 0, 0, 0, 0], [0, e1, 0, 0, 0], [0, 0, e2, 0, 0], [0, 0, 0, eh, 0],
    [0, dt / cth * (2 * v1 / r1) * e1, dt / cth * (2 * v2 / r2) * e2, 0, 1 - dt / (rth * cth)]])

/-- Process noise of the state filter over a step: the soc term from the count bounds of the span (R186).
DESIGN CHOICE (log 65). -/
def stateNoise (bound cap dt : Rat) : Mat :=
  Mat.diag [bound / cap ^ 2, Config.noiseRate 1 * dt, Config.noiseRate 2 * dt, Config.noiseRate 3 * dt,
    Config.noiseRate 4 * dt]

/-- Process noise of the parameter filter over a step: variances per hour, times the step (R186). -/
def thetaNoise (th : Vec) (dt : Rat) : Mat :=
  let h := dt / 3600
  Mat.diag ((List.range 9).map fun k =>
    let v := th.getD k 0
    if k = 6 then Config.noiseRate 6 * dt
    else if k = 7 then (v / 10000) ^ 2 * h
    else if k = 8 then (1 / 10000) ^ 2 * h
    else (v / 100) ^ 2 * h)

/-- The predicted terminal voltage. -/
def State.vhat (s : State) (g : Nat) (m : ModelPos) (x th : Vec) (i : Rat) : Rat :=
  s.ocvm g m (x.getD 0 0) (x.getD 4 0) + th.getD 5 0 * x.getD 3 0 - x.getD 1 0 - x.getD 2 0 - th.getD 0 0 * i

/-- A position is converged (R191): never without a table. -/
def State.isConverged (s : State) (g : Nat) (m : ModelPos) : Bool :=
  let r0 := m.theta.getD 0 0
  (s.ocvOf g).isSome && m.x != [] && decide ((m.p.getD 0 []).getD 0 0 ≤ (2 / 100) ^ 2)
    && decide ((m.q.getD 0 []).getD 0 0 ≤ (r0 / 10) ^ 2)

/-- What a step publishes. -/
def State.modelOut (s : State) (g : Nat) (m : ModelPos) (nis : Rat) (reinit : Bool) : ModelOut :=
  { soc := m.x.getD 0 0, sd := Config.sqrt ((m.p.getD 0 []).getD 0 0)
    ocv := s.ocvm g m (m.x.getD 0 0) (m.x.getD 4 0) + m.theta.getD 5 0 * m.x.getD 3 0
    pol := m.x.getD 1 0 + m.x.getD 2 0, core := m.x.getD 4 0, theta := m.theta, nis := nis
    converged := s.isConverged g m, stale := false, reinit := reinit, noTable := (s.ocvOf g).isNone }

/-- The bump of a position at a step: the frozen model runs on, and the residual is kept (R201). -/
def State.bumpStep (g : Nat) (v : Option Rat) (dt dq i ts : Rat) (m : ModelPos) (s : State) : ModelPos :=
  match m.bump with
  | none => m
  | some b =>
    if i < -((s.reg Reg.EST_REST_REST_I : Rat) / 10) then { m with bump := none }
    else
      let ct := s.thermal g
      let x := (modelStep b.x b.theta dt dq i ts ct.1 ct.2).1
      let age := s.turn - b.turn
      match v with
      | none => { m with bump := some { b with x := x } }
      | some v =>
        let r := v - s.vhat g m x b.theta i
        { m with bump := some { b with
            x := x, last := r
            r10 := if 10000 ≤ age then b.r10.or (some r) else b.r10
            top := if age < 10000 then b.top else if b.r10.isNone then r else max b.top r } }

/-- An end of charge starts a bump (R201). -/
def State.bumpStart (i : Rat) (m : ModelPos) (s : State) : ModelPos :=
  if m.charged && decide (|i| ≤ (s.reg Reg.EST_REST_REST_I : Rat) / 10) then
    { m with charged := false
             bump := some { turn := s.turn, x := m.x, theta := m.theta, r10 := none, last := 0, top := 0 } }
  else m

/-- What one step of a position takes: its length in s, charge in C, current in A, temperatures and thermal values, the
qualifying words, and the squared count bounds of its span. -/
structure StepIn where
  dt : Rat
  dq : Rat
  i : Rat
  ts : Rat
  cth : Rat
  rth : Rat
  words : List Int
  bound : Rat
  deriving DecidableEq, Repr

/-- The inputs of the present step of a position. -/
def State.stepIn (g : Nat) (s : State) : StepIn :=
  let sp := s.stepSpan g
  let dt : Rat := (sp.2 : Rat) / 32000
  let tot := s.spanTotals sp.1 sp.2
  let dq : Rat := (tot.1 : Rat) / 320000000
  let ct := s.thermal g
  { dt := dt, dq := dq, i := dq / dt, ts := s.coreTs g, cth := ct.1, rth := ct.2
    words := s.spanWords g sp.1 sp.2, bound := (tot.2 + s.mdl.balSq.get 0 g) / 1000000000000 }

/-- The measured voltage of a step in V, with at least 24 qualifying words. -/
def StepIn.v (k : StepIn) : Option Rat :=
  if 24 ≤ k.words.length then some (((k.words.foldl (· + ·) 0 : Int) : Rat) / (k.words.length : Rat) / 1000000) else none

/-- The prediction of both filters: state, its covariance, the covariance of the parameters. -/
def predict (m : ModelPos) (k : StepIn) : Vec × Mat × Mat :=
  let st := modelStep m.x m.theta k.dt k.dq k.i k.ts k.cth k.rth
  let p := Mat.add (Mat.mul 5 (Mat.mul 5 st.2 m.p) (Mat.transpose 5 st.2)) (stateNoise k.bound (m.theta.getD 7 0) k.dt)
  (st.1.map Config.fp32, p, Mat.add m.q (thetaNoise m.theta k.dt))

/-- The gradient of the predicted voltage against the state. -/
def State.stateGradient (s : State) (g : Nat) (x th : Vec) : Vec :=
  let sl := match s.ocvOf g with
    | some l => ocvSlope l (x.getD 0 0) (x.getD 4 0)
    | none => (0, 0)
  [sl.1, -1, -1, th.getD 5 0, sl.2]

/-- The gradient of the predicted voltage against the 9 parameters, through the equations of R183: the state before the step is
held at `x0`, and the curve, h and v1, v2 are those of the updated state `x` (R185).
DESIGN CHOICE (log 64). -/
def State.thetaGradient (s : State) (g : Nat) (x0 x th : Vec) (k : StepIn) : Vec :=
  let r1 := th.getD 1 0; let t1 := th.getD 2 0; let r2 := th.getD 3 0; let t2 := th.getD 4 0
  let gam := th.getD 6 0; let cap := th.getD 7 0; let il := th.getD 8 0
  let sl := s.stateGradient g x th
  let soc := sl.getD 0 0
  let heat := sl.getD 4 0 * k.dt / k.cth
  let e1 := Config.exp (-k.dt / t1)
  let e2 := Config.exp (-k.dt / t2)
  let eh := Config.exp (-(|k.dq| * gam / cap))
  let v1 := x.getD 1 0
  let v2 := x.getD 2 0
  let hdot := (x0.getD 3 0 + sgn k.i) * eh * |k.dq| / cap
  let via := fun (v r d own : Rat) => heat * (2 * v / r * d - own) - d
  [heat * k.i * k.i - k.i, via v1 r1 ((1 - e1) * k.i) (v1 * v1 / r1 ^ 2),
   via v1 r1 (e1 * k.dt / t1 ^ 2 * (x0.getD 1 0 - r1 * k.i)) 0, via v2 r2 ((1 - e2) * k.i) (v2 * v2 / r2 ^ 2),
   via v2 r2 (e2 * k.dt / t2 ^ 2 * (x0.getD 2 0 - r2 * k.i)) 0, x.getD 3 0, -(th.getD 5 0 * hdot),
   soc * (k.dq + il * k.dt) / cap ^ 2 + th.getD 5 0 * hdot * gam / cap, -(soc * k.dt / cap)]

/-- Both filters at a measurement: the position and the normalised innovation squared (R185, R188). -/
def State.measure (s : State) (g : Nat) (m : ModelPos) (k : StepIn) (v : Rat) : ModelPos × Rat :=
  let pr := predict m k
  let innov := v - s.vhat g m pr.1 m.theta k.i
  let r := measureVar (s.bank (g / 64)).fc (s.bank (g / 64)).survey k.words.length
  let h := s.stateGradient g pr.1 m.theta
  let nis := innov ^ 2 / (Vec.dot h (Mat.mulVec pr.2.1 h) + r)
  let fit := kalman pr.1 pr.2.1 h innov r
  let par := kalman m.theta pr.2.2 (s.thetaGradient g m.x fit.1 m.theta k) innov r
  ({ m with x := fit.1, p := fit.2, theta := (s.clampTheta g par.1).map Config.fp32, q := par.2
            nisRun := if 25 < nis then m.nisRun + 1 else 0 }, Config.fp32 nis)

/-- The prediction alone, when fewer than 24 words qualify. -/
def predictOnly (m : ModelPos) (k : StepIn) : ModelPos :=
  let pr := predict m k
  { m with x := pr.1, p := pr.2.1.map fun v => v.map Config.fp32, q := pr.2.2.map fun v => v.map Config.fp32 }

/-- A covariance made symmetric: the mean of it and its transpose. -/
def Mat.symm (m : Mat) : Mat := (Mat.add m (Mat.transpose m.length m)).map (Vec.scale (1 / 2))

/-- A covariance reconditioned (R187): it is made symmetric, and its eigenvalues are floored at 1e-12 of the largest.
DESIGN CHOICE (log 261). -/
def recondition (m : Mat) : Mat :=
  let l := Config.eigen m.symm
  let top := (l.map (·.1)).foldl max 0
  let zero : Mat := List.replicate m.length (List.replicate m.length 0)
  (l.foldl (fun a e => Mat.add a (Vec.outer (Vec.scale (max e.1 (top / 1000000000000)) e.2) e.2)) zero).symm.map fun v =>
    v.map Config.fp32

/-- The count of steps, with the reconditioning of every 1 024th (R187). -/
def ModelPos.tick (m : ModelPos) : ModelPos :=
  let n := m.steps + 1
  if n % 1024 = 0 then { m with steps := n, p := recondition m.p, q := recondition m.q }
  else { m with steps := n }

/-- A position due to start again does so before its step.
DEDUCED (log 63). -/
def State.startIfFresh (g : Nat) (s : State) : State :=
  match s.mdl.fresh.find? fun e => e.1 == g with
  | some (_, th) => s.initModel th g
  | none => if (s.mdlPos g).x == [] then s.initModel false g else s

/-- hmax of a position without a table is held at 0 (R183). -/
def ModelPos.tableHeld (hasTable : Bool) (m : ModelPos) : ModelPos :=
  if hasTable then m else { m with theta := m.theta.set 5 0 }

/-- One model step of a position. -/
def State.stepPos (g : Nat) (s : State) : State :=
  let s0 := s.startIfFresh g
  let m := (s0.mdlPos g).tableHeld (s0.ocvOf g).isSome
  let k := s0.stepIn g
  let lastNis := (m.out.map fun (o : ModelOut) => o.nis).getD 0
  let r := match k.v with
    | some v => s0.measure g m k v
    | none => (predictOnly m k, lastNis)
  let m1 := s0.bumpStart k.i (s0.bumpStep g k.v k.dt k.dq k.i k.ts r.1.tick)
  if 32 ≤ m1.nisRun then
    let s1 := ((s0.setMdl g m1).initModel false g).note 0x0630 (subjPos g) []
    let m2 := s1.mdlPos g
    s1.setMdl g { m2 with out := some (s1.modelOut g m2 r.2 true) }
  else s0.setMdl g { m1 with out := some (s0.modelOut g m1 r.2 (s.mdl.fresh.any fun e => e.1 == g)) }

/-- The vector engine can work: its domain is on and the state is RUN. -/
def State.vecOn (s : State) : Bool :=
  s.flag Reg.PWR_DOM_VEC && s.inRun && s.mdl.offAt.isNone && !s.deaf && !s.sec.halted.contains 5

/-- The window of MEST, strikes 4 to 19. -/
def State.inMest (s : State) : Bool := decide (4 ≤ s.phase) && decide (s.phase ≤ 19)

/-- A task of the lockstep pair may run: the strike lies in its window, it has not ended in the turn, and the pair is not
halted (R32, R579). -/
def State.taskMay (s : State) (task first last : Nat) : Bool :=
  decide (first ≤ s.phase) && decide (s.phase ≤ last) && !s.sys.done.contains task && !s.deaf && !s.sec.halted.contains 0

/-- First and last strike of the window of a task of the phase budget; the end of the last is its deadline (R32, R34). The
registry changes with a firmware image alone.
DEDUCED (log 24). -/
def windowOf (task : Nat) : Nat × Nat :=
  [(0, 3), (4, 19), (20, 22), (23, 25), (26, 29), (30, 31), (4, 19)].getD task (0, 32)

/-- The monitor records the start and the finish strike of a task that ends now (R34). -/
def State.runNoted (task : Nat) (s : State) : State :=
  { s with sys := { s.sys with runs := s.sys.runs.put task (s.turn * 32 + (windowOf task).1, s.now) } }

/-- A task has finished by its deadline: its consecutive count returns to zero and its STALE bit clears (R36, R40). A task
of the lockstep pair writes the heartbeat of the turn, which the manual does not place within the turn (R39).
DESIGN CHOICE (log 271). -/
def State.inTime (task : Nat) (s : State) : State :=
  ({ s with sys := { s.sys with miss := s.sys.miss.put task 0, beat := s.sys.beat || task != 1 } }).setBit
    Reg.SYS_TMON_STAT_STALE task false

/-- A task completes for the turn. -/
def State.taskDone (task : Nat) (s : State) : State :=
  let t := (s.runNoted task).inTime task
  { t with sys := { t.sys with done := task :: t.sys.done } }

/-- MEST: one step per position (R180). -/
def execMest (s : State) : Host.Outcome State Fault Refusal :=
  .next (if s.vecOn && s.inMest && !s.sys.done.contains 1 then
      let run := s.flag Reg.EST_MDL_CTRL_MEN
      let s1 := if run then
          let t := forAll s.servedAll State.stepPos s
          let conv := countIf (fun g => ((t.mdlPos g).out.map (·.converged)).getD false) t.servedAll
          { (t.setFields [(Reg.EST_MDL_STAT_CONV, conv), (Reg.EST_MDL_STAT_STALE, 0)]) with mdl := { t.mdl with
            fresh := t.mdl.fresh.drop t.served, lastTurn := s.turn + 1, kept := s.keepTotals, balSq := [] } }
        else s
      let s2 := { s1 with mdl := { s1.mdl with zTurn := s.turn + 1 } }
      (s2.taskDone 1).setReg Reg.EST_MDL_STAT_RUN (bit run)
    else s)

/-- A turn's MEST missed: the outputs are withheld and read STALE, and the blocks that hold the strike are rejected (R191,
R194). -/
def State.mestMissed (s : State) : State :=
  let t := s.mdlStale
  { t with mdl := { t.mdl with zMiss := s.now :: t.mdl.zMiss } }

/-- VEC_RESUME: PD_VEC is on again; a gap of up to 600 000 turns is bridged by one step, a longer one starts every position
again (R182, R187). -/
def execVecResume (s : State) : Host.Outcome State Fault Refusal :=
  .next (match s.mdl.offAt with
    | some t =>
      if s.flag Reg.PWR_DOM_VEC && s.sys.core then
        let s1 := { s with mdl := { s.mdl with offAt := none } }
        if s.turn ≤ t + 600000 then s1
        else { s1 with mdl := { s1.mdl with
          lastTurn := 0, fresh := s1.servedAll.map fun g => (g, true)
          pos := s1.mdl.pos.map fun (e : Nat × ModelPos) => (e.1, { e.2 with steps := 0 }) } }
      else s
    | none => s)

/-! ## Model snapshot and restore (R190) -/

/-- The 96 bytes of a position. -/
def State.modelEntry (s : State) (g : Nat) : List Nat :=
  let m := s.mdlPos g
  if m.theta = [] then List.replicate 96 0
  else
    (m.theta.flatMap fun v => leBytes 4 (Config.fp32Bits v))
      ++ ((List.range 9).flatMap fun k => leBytes 4 (Config.fp32Bits ((m.q.getD k []).getD k 0)))
      ++ leBytes 8 (s.traySerial g) ++ List.replicate 16 0

/-- The 110 656 bytes of a model snapshot, under the same tag. -/
def State.modelSnapBytes (strike : Nat) (s : State) : List Nat :=
  let h := leBytes 2 0x0101 ++ (s.snapHead (s.snapshot strike)).drop 2
  let b := (List.range 1152).flatMap s.modelEntry
  h ++ s.snapTag (h ++ b) ++ b

/-- Nine fp32 numbers from byte `i`; none where one is no number. -/
def nineAt (l : List Nat) (i : Nat) : Option Vec :=
  let v := (List.range 9).filterMap fun k => fp32At l (i + 4 * k)
  if v.length = 9 then some v else none

/-- One entry of a model restore; the SLOT check of step 6 has no field in this entry. A pending start keeps the restored
parameters.
DEDUCED (log 70). -/
def State.modelRestoreEntry (l : List Nat) (g : Nat) (s : State) : Option State :=
  let e := slice l (64 + 96 * g) 96
  match nineAt e 0, nineAt e 36 with
  | some th, some va =>
    if leAt e 72 8 == s.traySerial g then
      let t := s.setMdl g { s.mdlPos g with theta := s.clampTheta g th, q := Mat.diag va }
      some { t with mdl := { t.mdl with
        fresh := if t.mdl.fresh.get false g then t.mdl.fresh.put g false else t.mdl.fresh } }
    else none
  | _, _ => none

/-- A model restore and the command's answer: RESULT as of RESTORE_CERT.
DESIGN CHOICE (log 108). -/
def State.restoreModel (l : List Nat) (s : State) : State × Reply :=
  if l.length == 110656 && leAt l 0 2 == 0x0101 && leAt l 2 2 == 1152 && s.auth.committed.key.isSome
      && slice l 48 16 == s.snapTag (l.take 48 ++ l.drop 64)
      && s.ownSerial (leAt l 4 8)
      && leAt l 20 4 == layoutCrc s.auth.committed.layout then
    let used := (List.range 1152).filter fun g => slice l (64 + 96 * g) 96 != List.replicate 96 0
    let res := used.foldl (fun (a : State × Nat) g =>
      match a.1.modelRestoreEntry l g with
      | some t => (t, a.2 + 1)
      | none => a) (s, 0)
    (res.1, .ok (res.2 + (used.length - res.2) * 65536))
  else (s.note 0x0631 subjNone [], .refused 0x0631)

end Sys2Proof.Machine
end

