-- ==== Sys2Proof/Machine/Streams.lean ====
section
/-! DEFINITION. Records of impedance flumes, written at block ends and fits (R408, R413). -/
namespace Sys2Proof.Machine

/-- The 16-byte header of a flume record (R408). -/
def recHead (rtype rflg len num : Nat) : List Nat := [rtype, rflg, 0, 0] ++ leBytes 4 len ++ leBytes 8 num

/-- A record lies in the window of an impedance flume that selects its part. -/
def Flume.takes (f : Flume) (num part : Nat) : Bool :=
  f.kind == 4 && bitAt f.fields part && decide (f.next ≤ num)
    && (match f.stop with | some x => decide (num ≤ x) | none => true)

/-- The flume with a record added, where it takes it.
DESIGN CHOICE (log 118). -/
def Flume.add (f : Flume) (num part : Nat) (mk : Flume → Option (List Nat)) : Flume :=
  if f.takes num part then
    match mk f with
    | some l => { f with queue := f.queue ++ [(num, l)] }
    | none => f
  else f

/-- A record reaches every open impedance flume that selects it and whose window holds it (R406, R413).
DESIGN CHOICE (log 118). -/
def State.pushImpedance (num part : Nat) (mk : Flume → Option (List Nat)) (s : State) : State :=
  { s with hif := { s.hif with flumes := s.hif.flumes.map fun (e : Nat × Flume) => (e.1, e.2.add num part mk) } }

/-- The positions a flume selects. -/
def Flume.selects (f : Flume) (g : Nat) : Bool := decide (f.first ≤ g) && decide (g < f.first + f.count)
def Flume.positions (f : Flume) : List Nat := range f.first (f.first + f.count)

/-- The fp32 bytes of a number.
DESIGN CHOICE (log 264). -/
def fpBytes (x : Rat) : List Nat := leBytes 4 (Config.fp32Bits x)

/-- An impedance point entry ("Table — Impedance point entry"): the position's point, whether it is unavailable, and the
strike a point formed at this block carries. -/
def pointEntry (p : Option Point) (admitted : Bool) (now : Nat) : List Nat :=
  match p with
  | some p =>
    if admitted then
      fpBytes p.re ++ fpBytes p.im ++ fpBytes p.coh ++ fpBytes p.rsd ++ leBytes 2 (unsigned 16 (Config.round (p.temp * 100)))
        ++ [bit (decide (p.strike = now)) + 4 * p.src, 0] ++ leBytes 4 (p.strike % 2 ^ 32)
    else List.replicate 18 0 ++ [2, 0] ++ List.replicate 4 0
  | none => List.replicate 18 0 ++ [if admitted then 16 else 18, 0] ++ List.replicate 4 0

/-- A point record of frequency `k` and spectrum `spec`; `num` is the block's last strike. -/
def pointRecord (k spec num : Nat) (entry : Nat → List Nat) (f : Flume) : List Nat :=
  recHead 4 0 (32 + 24 * f.count) num ++ [k, spec] ++ leBytes 2 f.first ++ leBytes 2 f.count ++ List.replicate 10 0
    ++ f.positions.flatMap entry

/-- A fit record ("Table — Fit record"). -/
def fitRecord (spec points g num : Nat) (par : List Rat) (res : Rat) (isi lpi : Nat) (corr : Bool) : List Nat :=
  recHead 5 0 72 num ++ [spec, points] ++ leBytes 2 g ++ ((List.range 6).flatMap fun i => fpBytes (par.getD i 0))
    ++ fpBytes res ++ leBytes 2 isi ++ leBytes 2 lpi ++ [bit corr] ++ List.replicate 19 0

end Sys2Proof.Machine
end

