-- ==== Sys2Proof/Machine/Spectrum.lean ====
section
/-! DEFINITION. In-service impedance spectra, fits, precursor indices and the requests to Sluice (R192 to R205). -/
namespace Sys2Proof.Machine

/-! ## Frequencies and blocks (R192, R193) -/

/-- Block lengths N_k in strikes. -/
def blockLen (k : Nat) : Nat :=
  [2560000, 1664329, 1082027, 703455, 457334, 297325, 193300, 125669, 81701, 53115, 34532, 22450, 14595, 9489, 6169,
    4011, 2607, 1695, 1102, 716, 466, 303, 197, 128].getD k 128

/-- f_k in 0.0001 Hz, as tabled. -/
def freqTab (k : Nat) : Nat :=
  [1000, 1538, 2366, 3639, 5598, 8610, 13244, 20371, 31334, 48197, 74134, 114030, 175400, 269790, 414980, 638310, 981810,
    1510200, 2322900, 3573000, 5495800, 8453400, 13003000, 20000000].getD k 20000000

/-- f_k in Hz. -/
def freqOf (k : Nat) : Rat := Config.exp ((k : Rat) / 23 * Config.ln 20000) / 10

/-- Corner frequency in 0.0001 Hz. -/
def cornerFreq (fc : Nat) : Nat :=
  [80000000, 40000000, 20000000, 10000000, 5000000, 2000000, 500000, 100000].getD fc 0

/-- A frequency is measured for a position (R55, R109). -/
def State.admitted (s : State) (g k : Nat) : Bool :=
  decide (freqTab k ≤ cornerFreq (s.bank (g / 64)).fc) && decide (freqTab k ≤ cornerFreq s.cur.cfc)

/-- Start of the block in hand of a frequency: the first multiple of N_k when none has been taken yet.
DEDUCED (log 69). -/
def State.blockStart (s : State) (k : Nat) : Nat := s.mdl.zStart.get ((s.now / blockLen k + 1) * blockLen k) k

/-- Least-squares straight line of a series: value at the first instant and slope. -/
def lineOf (l : List Rat) : Rat × Rat :=
  let n : Rat := (l.length : Rat)
  let sx : Rat := n * (n - 1) / 2
  let sxx : Rat := (n - 1) * n * (2 * n - 1) / 6
  let sy := l.foldl (· + ·) 0
  let sxy := (l.zipIdx.map fun e => (e.2 : Rat) * e.1).foldl (· + ·) 0
  let b := (n * sxy - sx * sy) / (n * sxx - sx * sx)
  ((sy - b * sx) / n, b)

/-- The coefficient at `f` Hz of a series without its line, under a Hann window (R193). -/
def coefficient (f : Rat) (l : List Rat) : Rat × Rat :=
  let ln := lineOf l
  let n : Rat := (l.length : Rat)
  l.zipIdx.foldl (fun (a : Rat × Rat) e =>
    let m : Rat := (e.2 : Rat)
    let x := (e.1 - ln.1 - ln.2 * m) * ((1 - Config.cosTurn (m / n)) / 2)
    let t := f * m / 32000
    (a.1 + x * Config.cosTurn t, a.2 - x * Config.sinTurn t)) (0, 0)

/-- The current series of a block, A. -/
def State.blockCurrent (s : State) (c0 n : Nat) : List Rat :=
  (List.range n).map fun i => match s.recAt (c0 + i + s.curDelay) with
    | some r => (r.iSel : Rat) / 10000
    | none => 0

/-- The voltage series of a block, V. -/
def State.blockVoltage (s : State) (g c0 n : Nat) : List Rat :=
  (List.range n).map fun i => match s.recAt (c0 + i + s.bankDelay g) with
    | some r => (wValue (r.words.get (placeholder r.strike) g) : Rat) / 1000000
    | none => 0

/-- The current of a block has no flagged word and one path throughout (R194). -/
def State.blockCurrentGood (s : State) (c0 n : Nat) : Bool :=
  let sel := (s.recAt (c0 + s.curDelay)).map fun (r : StrikeRec) => r.sel
  (List.range n).all fun i => match s.recAt (c0 + i + s.curDelay) with
    | some r => some r.sel == sel && r.sel != 3 && clean r.selWord && !wC r.selWord
    | none => false

/-- No word of a position in a block is flagged (R194). -/
def State.blockWordsGood (s : State) (g c0 n : Nat) : Bool :=
  (List.range n).all fun i => match s.recAt (c0 + i + s.bankDelay g) with
    | some r =>
      let w := r.words.get (placeholder r.strike) g
      clean w && !wC w
    | none => false

/-- A tone of the frequency ran in a block.
DEDUCED (log 67). -/
def State.blockTone (s : State) (k c0 n : Nat) : Bool :=
  (List.range n).any fun i => match s.recAt (c0 + i) with
    | some r => bitAt r.tones k
    | none => false

/-- The mean temperature of a position over the turns of a block, °C (R194); the present one where no turn record holds it. -/
def State.blockTemp (s : State) (g c0 n : Nat) : Rat :=
  let l := s.mpd.turns.filterMap fun t =>
    if c0 / 32 ≤ t.turn ∧ t.turn ≤ (c0 + n - 1) / 32 then (t.ts.find? fun e => e.1 == g).map (·.2) else none
  if l = [] then s.coreTs g else l.foldl (· + ·) 0 / (l.length : Rat)

/-- The largest group delay in force of a position served, or of CUR: a block is whole once its words have come (R180, R193).
DEDUCED (log 69). -/
def State.zDelay (s : State) : Nat := (s.servedAll.map s.bankDelay).foldl max s.curDelay

/-! ## Points (R195) -/

/-- The accepted blocks of a spectrum (1 CHG, 0 GEN), newest first.
DEDUCED (log 67). -/
def accepted (spec : Nat) (l : List ZBlock) : List ZBlock := (l.filter fun b => b.ok && b.chg == (spec == 1)).take 8

/-- The impulse response of a corner at tap `i`: symmetric, as long as the settling count, of gain 1 at DC; and no step response
of it leaves the bounds of "Table — Bounds of the decimation response at every corner" (R619). The coefficients are free.
DESIGN CHOICE (log 260). -/
def filterTaps (fc : Nat) : List Rat :=
  let n := settleCount fc
  let raw := (List.range n).map fun i => Config.halfTap fc (min i (n - 1 - i))
  let sum := raw.foldl (· + ·) 0
  let taps := raw.map (· / sum)
  let partial_ := (List.range n).map fun i => (taps.take i).foldl (· + ·) 0
  if sum != 0 && partial_.all fun x => decide (-(5 / 100) ≤ x) && decide (x ≤ 105 / 100) then taps
  else (List.range n).map fun i => if i = (n - 1) / 2 then 1 else 0

/-- The magnitude response of a corner at f_k: that of its taps, at most 1.01 (R195, R619).
DESIGN CHOICE (log 260). -/
def filterResponse (fc k : Nat) : Rat :=
  let d : Rat := (groupDelay fc : Rat)
  let h := ((filterTaps fc).zipIdx.map fun e => e.1 * Config.cosTurn (freqOf k * ((e.2 : Rat) - d) / 32000)).foldl (· + ·) 0
  min (abs h) (101 / 100)

/-- The point of 8 accepted blocks. -/
def pointOf (k fcBank fcCur strike : Nat) (l : List ZBlock) : Point :=
  let svr := (l.map fun b => b.vRe * b.iRe + b.vIm * b.iIm).foldl (· + ·) 0
  let svm := (l.map fun b => b.vIm * b.iRe - b.vRe * b.iIm).foldl (· + ·) 0
  let sii := (l.map fun b => b.iRe ^ 2 + b.iIm ^ 2).foldl (· + ·) 0
  let svv := (l.map fun b => b.vRe ^ 2 + b.vIm ^ 2).foldl (· + ·) 0
  let c := filterResponse fcCur k / filterResponse fcBank k
  let coh := (svr ^ 2 + svm ^ 2) / (sii * svv)
  let dith := countIf (fun b => b.dither) l
  { re := svr / sii * c, im := svm / sii * c, strike := strike, coh := coh
    rsd := Config.sqrt ((1 - coh) / (16 * coh)), temp := (l.map fun b => b.temp).foldl (· + ·) 0 / (l.length : Rat)
    src := if dith = 0 then 1 else if dith = l.length then 2 else 3 }

/-- The number a point is kept under. -/
def pointKey (g k spec : Nat) : Nat := (g * 24 + k) * 2 + spec

/-- A point of a spectrum, unless it is older than ZAGE (R195). -/
def State.pointAt (s : State) (g k spec : Nat) : Option Point :=
  match s.mdl.points.find? fun e => e.1 == pointKey g k spec with
  | some (_, p) => if s.now ≤ p.strike + s.reg Reg.EST_ZCFG_ZAGE * secStrikes && s.admitted g k then some p else none
  | none => none

/-- Forms the point of one spectrum, where 8 accepted blocks lie within the last 16 and the point is valid. -/
def State.formPoint (g k strike spec : Nat) (s : State) : State :=
  let l := accepted spec (s.mdl.blocks.get [] (g * 24 + k))
  if l.length = 8 then
    let p := pointOf k (s.bank (g / 64)).fc s.cur.cfc strike l
    if (s.reg Reg.EST_ZCFG_COH : Rat) / 100 ≤ p.coh then
      { s with mdl := { s.mdl with points := s.mdl.points.put (pointKey g k spec) p } }
    else s
  else s

/-- A block joins the last 16 of a position. -/
def State.pushBlock (g k : Nat) (b : ZBlock) (s : State) : State :=
  let key := g * 24 + k
  { s with mdl := { s.mdl with blocks := s.mdl.blocks.put key ((b :: s.mdl.blocks.get [] key).take 16) } }

/-- A block in which nothing was measured for a position. -/
def ZBlock.none : ZBlock :=
  { ok := false, chg := false, iRe := 0, iIm := 0, vRe := 0, vIm := 0, temp := 0, dither := false }

/-- One position at the end of a block: its block joins the last 16, and its points are formed. -/
def State.blockPos (k c0 : Nat) (ok : Bool) (i : Rat × Rat) (mean : Rat) (g : Nat) (s : State) : State :=
  let n := blockLen k
  if s.served g && s.admitted g k then
    let good := ok && s.blockWordsGood g c0 n
    let v := if good then coefficient (freqOf k) (s.blockVoltage g c0 n) else (0, 0)
    let chg := decide (mean ≤ -(5 / 100) * s.nominalAh g)
    let b : ZBlock :=
      { ok := good, chg := chg, iRe := i.1, iIm := i.2, vRe := v.1, vIm := v.2, temp := s.blockTemp g c0 n
        dither := s.blockTone k c0 n }
    let s1 := s.pushBlock g k b
    let m := s1.mdlPos g
    let s2 := if good && chg then s1.setMdl g { m with charged := true } else s1
    (s2.formPoint g k (c0 + n) 0).formPoint g k (c0 + n) 1
  else s.pushBlock g k ZBlock.none

/-- The positions a block of frequency `k` ends for: those served, and those that hold earlier blocks of it. -/
def State.blockHolders (s : State) (k : Nat) : List Nat :=
  s.allPositions.filter fun g => s.served g || s.mdl.blocks.get [] (g * 24 + k) != []

/-! ## Dither (R196) -/

/-- The conditions under which dither may run (R196). -/
def State.ditherMay (s : State) : Bool :=
  s.flag Reg.EST_MDL_CTRL_DEN && s.token && s.bitOf Reg.SLU_STAT_FB 0 && s.bitOf Reg.SLU_STAT_FB 1
    && s.flag Reg.GOV_SPT_STAT_ACTIVE

/-- The strike of the oldest GEN point of a frequency over the positions served, 0 where one has none.
DEDUCED (log 68). -/
def State.oldestPoint (s : State) (k : Nat) : Nat :=
  (s.servedAll.map fun g => ((s.pointAt g k 0).map fun (p : Point) => p.strike).getD 0).foldl min s.now

/-- Puts a frequency among others by the age of its points, older first. -/
def insertOldest (age : Nat → Nat) (k : Nat) : List Nat → List Nat
  | [] => [k]
  | m :: r => if age k < age m then k :: m :: r else m :: insertOldest age k r

/-- Two frequencies are the same or adjacent. -/
def nearTone (k m : Nat) : Bool := m == k || m == k + 1 || k == m + 1

/-- The frequencies asked for: unexcited ones that some position measures, the oldest points first, none adjacent to another or to
a tone that runs, and with those no more than DTONES.
DEDUCED (log 68). -/
def State.toneChoice (s : State) : List Nat :=
  let run := s.gov.tones.map (·.k)
  let un := (List.range 24).filter fun k =>
    decide (8 ≤ s.mdl.quiet.get 0 k) && s.servedAll.any (fun g => s.admitted g k) && !run.any (nearTone k)
  (un.foldl (fun l k => insertOldest s.oldestPoint k l) []).foldl (fun l k =>
    if run.length + l.length ≤ s.reg Reg.EST_MDL_CTRL_DTONES ∧ !(l.any (nearTone k)) then l ++ [k] else l) []

/-- The point records of a block end (R413). -/
def State.pushPoints (k strike : Nat) (s : State) : State :=
  let rec1 := fun spec (f : Flume) =>
    some (pointRecord k spec (strike - 1) (fun g => pointEntry (s.pointAt g k spec) (s.admitted g k) strike) f)
  (s.pushImpedance (strike - 1) 0 (rec1 0)).pushImpedance (strike - 1) 1 (rec1 1)

/-- IMPEDANCE_BLOCK_END: the block of frequency `k` whose last centre instant MEST has covered (R193 to R196). -/
def execImpedanceBlockEnd (k : Nat) (s : State) : Host.Outcome State Fault Refusal :=
  let c0 := s.blockStart k
  let n := blockLen k
  .next (if decide (k < 24) && s.vecOn && s.flag Reg.EST_MDL_CTRL_ZEN && s.mdl.zStart.any (fun e => e.1 == k)
        && decide (c0 + n + s.zDelay + 32 ≤ s.mdl.zTurn * 32) then
      let cur := s.blockCurrent c0 n
      let i := coefficient (freqOf k) cur
      let amp := Config.sqrt (i.1 ^ 2 + i.2 ^ 2) * (2 * Config.sqrt 2) / (n : Rat)
      let low := decide (amp < (s.reg Reg.EST_ZCFG_IMIN : Rat) / 10)
      let mean := cur.foldl (· + ·) 0 / (n : Rat)
      let ok := !low && !(s.mdl.zMiss.any fun t => decide (c0 ≤ t) && decide (t < c0 + n)) && s.blockCurrentGood c0 n
      let s1 := forAll (s.blockHolders k) (State.blockPos k c0 ok i mean) s
      let s2 := { s1 with mdl := { s1.mdl with
        zStart := s1.mdl.zStart.put k (c0 + n), zMiss := s1.mdl.zMiss.filter fun t => decide (s.now ≤ t + 5505024)
        quiet := s1.mdl.quiet.put k (if low then s1.mdl.quiet.get 0 k + 1 else 0) } }
      let s3 := s2.pushPoints k (c0 + n)
      { s3 with mdl := { s3.mdl with want := if s3.ditherMay then s3.toneChoice else [] } }
    else s)

/-- Strike 0: RUN tells whether the last turn's MEST made a step (R207), and blocks begin at multiples of N_k while the engine
runs.
DEDUCED (log 69). -/
def State.blocksBegin (s0 : State) : State :=
  let s := s0.setFlag Reg.EST_MDL_STAT_RUN (s0.flag Reg.EST_MDL_STAT_RUN && s0.mdl.lastTurn == s0.turn)
  if s.vecOn && s.flag Reg.EST_MDL_CTRL_ZEN then
    forEach (List.range 24) (fun k s =>
      if s.mdl.zStart.any fun e => e.1 == k then s
      else { s with mdl := { s.mdl with zStart := s.mdl.zStart.put k (s.blockStart k) } }) s
  else { s with mdl := { s.mdl with zStart := [], zMiss := [] } }

/-! ## Fits (R197, R198) -/

/-- The valid points of a spectrum, with their frequencies. -/
def State.spectrum (s : State) (g spec : Nat) : List (Nat × Point) :=
  (List.range 24).filterMap fun k => (s.pointAt g k spec).map fun p => (k, p)

/-- A spectrum that can be fitted: 10 points, 3 below and 3 above 10 Hz. -/
def fittable (l : List (Nat × Point)) : Bool :=
  decide (10 ≤ l.length) && decide (3 ≤ countIf (fun e => decide (freqTab e.1 < 100000)) l)
    && decide (3 ≤ countIf (fun e => decide (100000 < freqTab e.1)) l)

/-- 2π as the module computes it. -/
def twoPi : Rat := Config.twoPi

/-- A positive number to a power. -/
def powR (x a : Rat) : Rat := Config.exp (a * Config.ln x)

/-- Z(f) of the fit model of R197, real and imaginary part. -/
def fitModel (par : List Rat) (f : Rat) : Rat × Rat :=
  let w := twoPi * f
  let r0 := par.getD 0 0; let l := par.getD 1 0; let rct := par.getD 2 0; let q := par.getD 3 0
  let a := par.getD 4 1; let sig := par.getD 5 0
  let wa := rct * q * powR w a
  let dr := 1 + wa * Config.cosTurn (a / 4)
  let di := wa * Config.sinTurn (a / 4)
  let d := dr ^ 2 + di ^ 2
  let ws := sig / Config.sqrt w
  (r0 + rct * dr / d + ws, w * l - rct * di / d - ws)

/-- |z| of a point. -/
def Point.mag (p : Point) : Rat := Config.sqrt (p.re ^ 2 + p.im ^ 2)

/-- The square of the normalised residual of a fit (R198). -/
def fitResidual (par : List Rat) (l : List (Nat × Point)) : Rat :=
  (l.map fun (e : Nat × Point) =>
    let z := fitModel par (freqOf e.1)
    ((e.2.re - z.1) ^ 2 + (e.2.im - z.2) ^ 2) / (e.2.re ^ 2 + e.2.im ^ 2)).foldl (· + ·) 0 / (l.length : Rat)

/-- The normalised residual is at most 2 % (R198). -/
def fitGood (par : List Rat) (l : List (Nat × Point)) : Bool := decide (fitResidual par l ≤ (2 / 100) ^ 2)

/-- A held within 0.5 to 1, the others at or above 0. -/
def clampFit (par : List Rat) : List Rat :=
  (par.take 4).map (max 0) ++ [max (1 / 2) (min 1 (par.getD 4 1))] ++ (par.drop 5).map (max 0)

/-- Where a fit starts. -/
def ModelPos.fitStart (m : ModelPos) (last : Option Fit) : List Rat :=
  match last with
  | some f => f.par
  | none =>
    let r1 := m.theta.getD 1 1
    [m.theta.getD 0 0, 0, r1, m.theta.getD 2 0 / r1, 9 / 10, m.theta.getD 3 0 / 10]

/-- The fit of a spectrum, when it is accepted.
DESIGN CHOICE (log 66). -/
def State.fitOf (s : State) (g spec : Nat) (last : Option Fit) : Option Fit :=
  let l := s.spectrum g spec
  if fittable l then
    let pts := l.map fun (e : Nat × Point) =>
      (freqOf e.1, e.2.re, e.2.im, 1 / ((e.2.re ^ 2 + e.2.im ^ 2) * max e.2.rsd (5 / 1000) ^ 2))
    match Config.zFit ((s.mdlPos g).fitStart last) pts with
    | some par0 =>
      let par := clampFit par0
      if fitGood par l then
        some { par := par, temp := (l.map fun (e : Nat × Point) => e.2.temp).foldl (· + ·) 0 / (l.length : Rat) }
      else none
    | none => none
  else none

/-! ## Indices (R199 to R202) -/

/-- Converged positions of the same bank and slot, the position excepted (R199). -/
def State.peers (s : State) (g : Nat) : List Nat :=
  s.servedAll.filter fun q => q != g && q / 64 == g / 64 && s.ocvSlot q == s.ocvSlot g && s.isConverged q (s.mdlPos q)

/-- Puts a number into an ascending list. -/
def insertRat (x : Rat) : List Rat → List Rat
  | [] => [x]
  | y :: r => if x ≤ y then x :: y :: r else y :: insertRat x r

/-- The median: the middle value, or the mean of the two middle ones. -/
def medianRat (l : List Rat) : Rat :=
  let a := l.foldr insertRat []
  let n := a.length
  if n % 2 = 1 then a.getD (n / 2) 0 else (a.getD (n / 2 - 1) 0 + a.getD (n / 2) 0) / 2

/-- ISI of a position in units of 0.1 mA (R200). -/
def State.isi (s : State) (g : Nat) : Nat :=
  let ps := s.peers g
  let m := s.mdlPos g
  if s.isConverged g m && decide (8 ≤ ps.length) then
    let d := m.theta.getD 8 0 - medianRat (ps.map fun q => (s.mdlPos q).theta.getD 8 0)
    (10000 * d).floor.toNat
  else 0

/-- ISI is corroborated by the impedance at the lowest frequency with 8 peer points (R200). -/
def State.isiCorroborated (s : State) (g : Nat) : Bool :=
  let ps := s.peers g
  match (List.range 24).find? fun k => decide (8 ≤ countIf (fun q => (s.pointAt q k 0).isSome) ps) with
  | none => false
  | some k =>
    match s.pointAt g k 0 with
    | none => false
    | some p =>
      let mags := ps.filterMap fun q =>
        match s.pointAt q k 0 with
        | some r => if p.temp - r.temp ≤ 3 ∧ r.temp - p.temp ≤ 3 then some r.mag else none
        | none => none
      mags != [] && decide (p.mag ≤ 85 / 100 * medianRat mags)

/-- LPI of a position (R201). -/
def ModelPos.lpi (m : ModelPos) : Nat := (500 * m.p1 + 500 * m.p2).floor.toNat

/-- P1 at an accepted CHG fit. -/
def State.p1Of (s : State) (chg : Fit) (gen : Option Fit) : Rat :=
  match gen with
  | none => 0
  | some f =>
    if chg.temp ≤ ((signed 8 (s.reg Reg.EST_LPI_CFG_TMAX) : Int) : Rat) ∧ chg.temp - f.temp ≤ 3 ∧ f.temp - chg.temp ≤ 3 then
      max 0 (min 1 ((1 - chg.par.getD 2 0 / f.par.getD 2 0) / ((s.reg Reg.EST_LPI_CFG_DROP : Rat) / 100)))
    else 0

/-- A request or a warning goes into the mailbox (R202, R203). -/
def State.mailRequest (kind g value : Nat) (s : State) : State :=
  { s with mdl := { s.mdl with
      mailbox := s.mdl.mailbox ++ [{ kind := kind, pos := g, value := value, turn := s.turn, seq := s.mdl.seq }]
      seq := s.mdl.seq + 1 } }

/-- A warning of R202 goes to the lockstep pair unless it has been raised; it may be raised again once the index has fallen below
80 % of its threshold.
DESIGN CHOICE (log 292). -/
def State.indexWarn (kind g value warn : Nat) (warned : Bool) (unmark : ModelPos → ModelPos) (s : State) : State :=
  if warn ≤ value then (if warned then s else s.mailRequest kind g value)
  else if warned && decide (value * 100 < warn * 80) then s.setMdl g (unmark (s.mdlPos g))
  else s

/-- The indices of a position at its visit. -/
def State.indices (g : Nat) (s : State) : State :=
  let isi := s.isi g
  let m := s.mdlPos g
  let s1 := s.indexWarn 3 g isi (s.reg Reg.EST_ISI_LIM_WARN) m.isiWarned fun p => { p with isiWarned := false }
  let s2 := s1.indexWarn 4 g m.lpi (s.reg Reg.EST_LPI_LIM_WARN) m.lpiWarned fun p => { p with lpiWarned := false }
  let trip := s.reg Reg.EST_ISI_LIM_TRIP
  let var := (m.q.getD 8 []).getD 8 0
  let s3 := if s.flag Reg.EST_ADV_CFG_ISI_EN && decide (trip ≤ isi) && s.isiCorroborated g
      && decide (var ≤ ((trip : Rat) / 40000) ^ 2) then s2.mailRequest 1 g isi else s2
  if s.flag Reg.EST_ADV_CFG_LPI_EN && decide (s.reg Reg.EST_LPI_LIM_TRIP ≤ m.lpi) && decide (0 < m.p1) && decide (0 < m.p2) then
    s3.mailRequest 2 g m.lpi
  else s3

/-- Positions with an accepted GEN fit whose newest point is younger than ZAGE (R207). -/
def State.zfitCount (s : State) : Nat :=
  countIf (fun g => (s.mdlPos g).fitGen.isSome && s.spectrum g 0 != []) s.servedAll

/-- The position FIT visits: the next one served in ascending order, and the first again after the last (R197). -/
def State.fitTarget (s : State) : Option Nat :=
  (s.servedAll.find? fun g => decide (s.mdl.fitNext ≤ g)).or s.servedAll.head?

/-- The fit record of an accepted fit (R413). -/
def State.pushFit (g spec : Nat) (c : Option Fit) (s : State) : State :=
  match c with
  | none => s
  | some x =>
    let l := s.spectrum g spec
    let r := fitRecord spec l.length g s.now x.par (Config.sqrt (fitResidual x.par l)) (s.isi g) (s.mdlPos g).lpi
      (s.isiCorroborated g)
    s.pushImpedance s.now 2 fun f => if f.selects g then some r else none

/-- The visit of a position. -/
def State.fitVisit (g : Nat) (s : State) : State :=
  let m := s.mdlPos g
  let c := s.fitOf g 1 m.fitChg
  let n := s.fitOf g 0 m.fitGen
  let gen := n.or m.fitGen
  let m1 := { m with fitGen := gen, fitChg := c.or m.fitChg
                     p1 := match c with | some f => s.p1Of f gen | none => m.p1 }
  let s1 := (((s.setMdl g m1).indices g).pushFit g 1 c).pushFit g 0 n
  let s2 := { s1 with
    mdl := { s1.mdl with fitNext := g + 1 }
    sys := { s1.sys with fitAt := s1.sys.fitAt.put g s.turn, fitLate := s1.sys.fitLate.drop (· == g) } }
  if s2.sys.fitLate = [] then
    ({ s2 with sys := { s2.sys with miss := s2.sys.miss.put 7 0 } }).setBit Reg.SYS_TMON_STAT_STALE 7 false
  else s2

/-- FIT: one visit in the time that MEST leaves (R197). -/
def execFit (s : State) : Host.Outcome State Fault Refusal :=
  .next (if s.vecOn && s.flag Reg.EST_MDL_CTRL_ZEN && !s.inMest then
      match s.fitTarget with
      | some g =>
        let s1 := s.fitVisit g
        s1.setReg Reg.EST_MDL_STAT_ZFIT s1.zfitCount
      | none => s
    else s)

/-- PLATING_BUMP_END: 600 s after an end of charge (R201). -/
def execPlatingBumpEnd (g : Nat) (s : State) : Host.Outcome State Fault Refusal :=
  .next (match (s.mdlPos g).bump with
    | some b =>
      if decide (b.turn + 600000 ≤ s.turn) && s.vecOn then
        let m := s.mdlPos g
        let bump := b.top - max (b.r10.getD b.last) b.last
        s.setMdl g { m with
          bump := none, p2 := max 0 (min 1 (bump / ((s.reg Reg.EST_LPI_CFG_BUMP : Rat) / 10000))) }
      else s
    | none => s)

/-! ## Requests to Sluice (R203 to R205) -/

/-- The checks of R204 on a request but its CRC. -/
def State.requestGood (s : State) (r : AdvReq) : Bool :=
  s.served r.pos && decide (s.turn ≤ r.turn + 16)
    && (if r.kind = 1 then s.flag Reg.EST_ADV_CFG_ISI_EN && decide (s.reg Reg.EST_ISI_LIM_TRIP ≤ r.value)
        else r.kind == 2 && s.flag Reg.EST_ADV_CFG_LPI_EN && decide (s.reg Reg.EST_LPI_LIM_TRIP ≤ r.value))

/-- The lockstep pair takes a warning out of the mailbox: position, age, CRC and range are right, and it is not raised yet (R42,
R202).
DESIGN CHOICE (log 292). -/
def State.warnTaken (crcOk : Bool) (r : AdvReq) (s : State) : State :=
  let m := s.mdlPos r.pos
  if !(crcOk && s.served r.pos && decide (s.turn ≤ r.turn + 16)) then s
  else if r.kind = 3 then
    (if s.reg Reg.EST_ISI_LIM_WARN ≤ r.value ∧ !m.isiWarned then
      (s.setMdl r.pos { m with isiWarned := true }).raise 0x0640 1 (subjPos r.pos) (leBytes 2 r.value)
    else s)
  else if s.reg Reg.EST_LPI_LIM_WARN ≤ r.value ∧ r.value ≤ 1000 ∧ !m.lpiWarned then
    (s.setMdl r.pos { m with lpiWarned := true }).raise 0x0642 1 (subjPos r.pos) (leBytes 2 r.value)
  else s

/-- The lockstep pair works on its own account: it is neither in reset nor halted. -/
def State.pairTakes (s : State) : Bool := !s.deaf && !s.sec.halted.contains 0

/-- ADVISORY_REQUEST: the lockstep pair checks the oldest entry of the mailbox; `crcOk`: its CRC is right. -/
def execAdvisoryRequest (crcOk : Bool) (s : State) : Host.Outcome State Fault Refusal :=
  .next (match s.mdl.mailbox with
    | r :: rest =>
      if !s.pairTakes then s
      else if 3 ≤ r.kind then { s with mdl := { s.mdl with mailbox := rest } }.warnTaken crcOk r
      else
        let ok := crcOk && s.requestGood r
        let s1 := ({ s with mdl := { s.mdl with mailbox := rest } }).setFields
          [(Reg.EST_ADV_LAST_POS, r.pos), (Reg.EST_ADV_LAST_KIND, r.kind), (Reg.EST_ADV_LAST_PASS, bit ok),
            (Reg.EST_ADV_LAST_VALUE, r.value)]
        if ok then
          let key := r.pos * 2 + (r.kind - 1)
          let t := s.mdl.timers.get (0, 0) key
          let fresh := t.2 = 0 ∨ t.2 + 10 * secStrikes < s.now
          { s1 with mdl := { s1.mdl with timers := s1.mdl.timers.put key (if fresh then s.now else t.1, s.now) } }
        else s1.raise 0x0644 1 (subjPos r.pos) []
    | [] => s)

/-- ADVISORY_PERSIST: a persistence timer reaches PERSIST (R204). -/
def execAdvisoryPersist (kind g : Nat) (s : State) : Host.Outcome State Fault Refusal :=
  let t := s.mdl.timers.get (0, 0) (g * 2 + (kind - 1))
  .next (if (kind == 1 || kind == 2) && t.2 != 0 && decide (s.now ≤ t.2 + 10 * secStrikes)
        && decide (t.1 + s.reg Reg.EST_ADV_CFG_PERSIST * secStrikes ≤ s.now) && s.pairTakes then
      let s1 := { s with mdl := { s.mdl with timers := s.mdl.timers.drop (· == g * 2 + (kind - 1)) } }
      if kind = 1 then s1.raise 0x0641 (s.reg Reg.EST_ADV_CFG_ISI_CLS) (subjPos g) []
      else s1.raise 0x0643 (s.reg Reg.EST_ADV_CFG_LPI_CLS) (subjPos g) []
    else s)

end Sys2Proof.Machine
end

