-- ==== Sys2Proof/Machine/Balance.lean ====
section
/-! DEFINITION. Balancing: bleed, shuttle and the dissipation budget (chapter 10, R275 to R291). Powers are in nW. -/
namespace Sys2Proof.Machine

/-! ## Who may balance (R281) -/

/-- Module conditions but for the quiet period. -/
def State.balModule (s : State) : Bool := s.inRun && s.token && s.mode != modeBreaker

/-- No temperature input of a bank is at or above OTW. -/
def State.bankCool (s : State) (nn : Nat) : Bool :=
  (List.range 32).all fun i =>
    let j := nn * 32 + i
    !s.tempFitted j || (s.temp j).u || decide (s.tempValue j < signed 16 (s.slu.thr.field Reg.SLU_TTH_A_OTW))

/-- Bank conditions. -/
def State.balBank (s : State) (nn : Nat) : Bool :=
  (s.bank nn).step == .released && s.flag (Reg.BNK_STAT_RELAY nn) && !(s.bank nn).survey && s.bankCool nn
    && !s.inEffectOn 0x0512 (subjBank nn)

/-- The turn mean of a position over the last turn, µV (R210). -/
def State.turnMeanUv (s : State) (g : Nat) : Option Rat :=
  let t := s.lastTurn g
  if 8 ≤ t.n then some ((t.sum : Rat) / (t.n : Rat)) else none

/-- The mean of a position where it has one. -/
def State.meanUv (s : State) (g : Nat) : Rat := (s.turnMeanUv g).getD 0

/-- The BNK_WIRE bit of a position. -/
def State.wireBit (s : State) (g : Nat) : Bool :=
  if g % 64 < 32 then s.bitOf (Reg.BNK_WIRE_LO_WFAIL (g / 64)) (g % 64)
  else s.bitOf (Reg.BNK_WIRE_HI_WFAIL (g / 64)) (g % 64 - 32)

/-- Position conditions. -/
def State.balPos (s : State) (g : Nat) : Bool :=
  s.released (g / 64) (g % 64) && !s.wireBit g && !bitAt (s.check (g / 64)).bcXConf (g % 64)
    && !(s.lastTurn g).co
    && match s.turnMeanUv g with
      | some m => decide ((s.reg Reg.BAL_CFG_VMIN * 100 : Nat) ≤ m)
      | none => false

/-- The positions admitted by R281 but for the quiet period. -/
def State.eligible (s : State) : List Nat :=
  if s.balModule then
    s.allPositions.filter fun g => s.balBank (g / 64) && s.balPos g
  else []

/-! ## The schedule (R282 to R284) -/

/-- What the schedule sees of an eligible position: number, low and high value, and the factor of its excess. -/
structure BalView where
  g : Nat
  lo : Rat
  hi : Rat
  weight : Rat
  deriving DecidableEq, Repr

/-- The views of SOC mode: resolved positions, at least 2 (R283). -/
def State.socViews (s : State) : List BalView :=
  let l := (s.eligible.filter fun g => !s.unresolved g).map fun g =>
    let p := s.estPos g
    { g := g, lo := p.lo, hi := p.hi, weight := p.capLo / 1000000 : BalView }
  if l.length < 2 then [] else l

/-- The views of VOLT mode (R284). -/
def State.voltViews (s : State) : List BalView :=
  let l := s.eligible.map fun g =>
    let m := s.meanUv g
    { g := g, lo := m, hi := m, weight := 1 : BalView }
  let i : Rat := abs ((s.lastI.2 : Rat) / (s.lastI.1 : Rat))
  if ((s.reg Reg.BAL_VCFG_VIMAX * 10000 : Nat) : Rat) < i
      ∨ mostOf 0 (l.map (·.hi)) < ((s.reg Reg.BAL_VCFG_VON * 100 : Nat) : Rat) then []
  else l

def balOff : Nat := 0
def balVolt : Nat := 1

/-- The views of the mode in force, and its deadband. -/
def State.balViews (s : State) : List BalView :=
  if s.reg Reg.BAL_CTRL_MODE = balOff then [] else if s.reg Reg.BAL_CTRL_MODE = balVolt then s.voltViews else s.socViews
def State.deadband (s : State) : Rat :=
  if s.reg Reg.BAL_CTRL_MODE = balVolt then ((s.reg Reg.BAL_VCFG_VDB * 100 : Nat) : Rat)
  else ((s.reg Reg.BAL_SCFG_SDB * 1000 : Nat) : Rat)

/-- The command a bank applies in the turn in hand. -/
def BalCmd.empty : BalCmd := { bleed := 0, pos := 0, dir := .off }
def State.balNow (s : State) (nn : Nat) : BalCmd := s.bal.now.get BalCmd.empty nn

/-- Bleed candidates with their excess: a bleeding position stays one down to half the deadband. -/
def State.bleedCands (s : State) : List (Nat × Rat) :=
  let l := s.balViews
  let rs := leastOf 0 (l.map (·.hi))
  let db := s.deadband
  (l.filter fun v => decide ((if bitAt (s.balNow (v.g / 64)).bleed (v.g % 64) then db / 2 else db) < v.lo - rs)).map
    fun v => (v.g, (v.lo - rs) * v.weight)

/-- The margin of a connection against the bank's median. -/
def shutMargin (rb : Rat) (d : ShutDir) (v : BalView) : Rat :=
  match d with
  | .out => v.lo - rb
  | .inn => rb - v.hi
  | .off => 0

/-- The view of largest margin in a direction, the lowest number on a tie. -/
def bestView (rb : Rat) (d : ShutDir) : List BalView → Option BalView
  | [] => none
  | v :: r => match bestView rb d r with
    | none => some v
    | some w => if shutMargin rb d w ≤ shutMargin rb d v then some v else some w

/-- The connection a shuttle keeps: within its dwell while R281 admits its position, then above half the deadband (R283).
DEDUCED (log 287). -/
def State.keepsShuttle (s : State) (nn : Nat) (rb : Rat) (l : List BalView) : Bool :=
  let c := s.balNow nn
  c.dir != .off
    && ((decide (s.now < s.bal.dwellAt.get 0 nn + s.reg Reg.BAL_SCFG_SHDWELL * 32) && s.balViews != []
          && s.eligible.contains (globalPos nn c.pos))
        || l.any fun v => v.g % 64 == c.pos && decide (s.deadband / 2 < shutMargin rb c.dir v))

/-- The shuttle command a bank's views ask for. -/
def State.wantShuttle (s : State) (nn : Nat) (l : List BalView) : Nat × ShutDir :=
  let rb := medianRat (l.map fun v => (v.lo + v.hi) / 2)
  let c := s.balNow nn
  if s.keepsShuttle nn rb l then (c.pos, c.dir)
  else match bestView rb .out l, bestView rb .inn l with
    | some a, some b =>
      if shutMargin rb .inn b ≤ shutMargin rb .out a then
        (if s.deadband < shutMargin rb .out a then (a.g % 64, .out) else (0, .off))
      else (if s.deadband < shutMargin rb .inn b then (b.g % 64, .inn) else (0, .off))
    | _, _ => (0, .off)

/-- The balance-conductor turn that must find the shuttle off is the next turn, or the one after it (R83).
DEDUCED (log 72). -/
def State.withheld (s : State) (nn : Nat) : Bool :=
  bitAt s.bal.withhold nn && (s.turn % 4 == 1 || s.turn % 4 == 2)

/-- The shuttle of a bank may be used.
DEDUCED (log 72). -/
def State.shuttleMay (s : State) (nn : Nat) : Bool :=
  s.flag Reg.BAL_CTRL_SHEN && !s.flag (Reg.BAL_SHUT_DIS nn) && !s.withheld nn

/-! ## The dissipation budget (R285 to R287) -/

/-- M0 counts as failed.
DEDUCED (log 78). -/
def State.mFailed (s : State) (k : Nat) : Bool := (s.temp (tempM + k)).f || (s.temp (tempM + k)).u

/-- The module limit.
DEDUCED (log 78). -/
def State.balLimit (s : State) : Rat :=
  let budget := s.reg Reg.BAL_CFG_BUDGET
  let airOk := s.flag Reg.BAL_CTRL_AIR && !s.mFailed 0 && !s.mFailed 1
    && decide ((s.temp (tempM + 1)).value - (s.temp tempM).value ≤ 1500)
  let base := if 40 < budget ∧ !airOk then 40 else budget
  let inlet : Int := if s.mFailed 0 then 5500 else (s.temp tempM).value
  let f : Rat := if inlet ≤ 4000 then 1 else if 6500 ≤ inlet then 0 else ((6500 - inlet : Int) : Rat) / 2500
  (base : Rat) * f * 1000000000

/-- The bleed current of a position in mA: its last reading, 150 without one (R275). -/
def State.bleedMa (s : State) (g : Nat) : Nat := if s.bal.read.get 0 g = 0 then 150 else s.bal.read.get 0 g - 1

/-- What a bleeding position dissipates. -/
def State.bleedPower (s : State) (g : Nat) : Rat := s.meanUv g * (s.bleedMa g : Rat)

/-- The measured dissipation (R287).
DEDUCED (log 79). -/
def State.balUsed (s : State) : Rat :=
  let bleed : Rat := s.allPositions.foldl (fun a g => if s.bleedOn (g / 64) (g % 64) then a + s.bleedPower g else a) 0
  s.bal.loss.foldl (fun a (e : Nat × Int × Int) =>
    let stack : Rat := (s.positions e.1).foldl (fun b p => b + s.meanUv (globalPos e.1 p)) 0
    a + (e.2.1 : Rat) * s.meanUv (globalPos e.1 (s.reg (Reg.BAL_SHUT_POS e.1))) + (e.2.2 : Rat) * stack) bleed

/-- Admission so far: power of the module and of each bank's bleed, commands, and whether one was skipped. -/
structure BalPlan where
  used : Rat
  bank : Tab Rat
  cmds : Tab BalCmd
  limited : Bool
  deriving DecidableEq, Repr

/-- Admits a bank's shuttle target (R286). -/
def State.admitShuttle (s : State) (limit : Rat) (views : List BalView) (nn : Nat) (p : BalPlan) : BalPlan :=
  let w := s.wantShuttle nn (views.filter fun v => v.g / 64 == nn)
  if s.shuttleMay nn && w.2 != .off then
    let cost := 360 * s.meanUv (globalPos nn w.1)
    if p.used + cost ≤ limit then
      { p with used := p.used + cost, cmds := p.cmds.put nn { bleed := 0, pos := w.1, dir := w.2 } }
    else { p with limited := true }
  else p

/-- Admits a bleed candidate (R277, R286). -/
def State.admitBleed (s : State) (limit : Rat) (p : BalPlan) (g : Nat) : BalPlan :=
  let nn := g / 64
  let c := p.cmds.get BalCmd.empty nn
  let cost := s.bleedPower g
  if c.dir != .off && c.pos == g % 64 then p
  else if p.used + cost ≤ limit ∧ p.bank.get 0 nn + cost ≤ ((s.reg Reg.BAL_CFG_BANK_W * 1000000000 : Nat) : Rat) then
    { p with used := p.used + cost, bank := p.bank.put nn (p.bank.get 0 nn + cost)
             cmds := p.cmds.put nn { c with bleed := putBit c.bleed (g % 64) true } }
  else { p with limited := true }

/-- A candidate put into its place: descending excess, the lower number first on a tie. -/
def insertExcess (x : Nat × Rat) : List (Nat × Rat) → List (Nat × Rat)
  | [] => [x]
  | y :: r => if y.2 < x.2 ∨ (y.2 = x.2 ∧ x.1 ≤ y.1) then x :: y :: r else y :: insertExcess x r

/-- Candidates by descending excess.
DEDUCED (log 75). -/
def byExcess (l : List (Nat × Rat)) : List Nat := (l.foldr insertExcess []).map (·.1)

/-- The bleeders that stay candidates, without the one of lowest excess while the schedule removes bleeders (R287). -/
def State.bleedersFirst (s : State) (cands : List (Nat × Rat)) : List Nat × List Nat :=
  let was := byExcess (cands.filter fun e => bitAt (s.balNow (e.1 / 64)).bleed (e.1 % 64))
  let new := byExcess (cands.filter fun e => !bitAt (s.balNow (e.1 / 64)).bleed (e.1 % 64))
  if s.bal.shed then (was.dropLast, []) else (was, new)

/-- The plan of a BAL (R286).
DEDUCED (log 75). -/
def State.balPlan (s : State) (limit : Rat) (cands : List (Nat × Rat)) : BalPlan :=
  let views := s.balViews
  let p0 : BalPlan := { used := 0, bank := [], cmds := [], limited := false }
  let p1 := forEach (List.range 18) (fun nn p => s.admitShuttle limit views nn p) p0
  let o := s.bleedersFirst cands
  (o.1 ++ o.2).foldl (State.admitBleed s limit) p1

/-! ## Quiet periods (R288) -/

/-- The length of a quiet period in turns: the longest REST_T assigned to eligible positions plus 60 s. -/
def State.quietLength (s : State) : Option Nat :=
  let l := s.eligible.filterMap fun g => (s.ocvOf g).map ocvRestT
  if l = [] then none else some ((l.foldl max 0 + 60) * 1000)

/-- The interval has passed since the end of the last quiet period, or since the first entry to RUN.
DEDUCED (log 74). -/
def State.quietInterval (s : State) : Bool :=
  let q := s.reg Reg.BAL_CTRL_QUIET
  let from_ := match s.bal.quietEnd with
    | some t => t
    | none => (s.est.firstRun.getD s.now) / 32
  q != 0 && decide (from_ + q * 3600000 ≤ s.turn)

/-- A quiet period begins.
DEDUCED (log 74). -/
def State.quietStart (s : State) : State :=
  match s.bal.quiet, s.quietLength with
  | none, some len =>
    if (s.quietInterval || s.bal.again || s.inEffect 0x0601)
        && decide (s.iMag ≤ s.reg Reg.EST_REST_REST_I * 1000) then
      { s with bal := { s.bal with quiet := some (s.turn + len), again := false } }
    else s
  | _, _ => s

/-- QUIET_PERIOD_END (R288).
DEDUCED (log 74). -/
def execQuietPeriodEnd (s : State) : Host.Outcome State Fault Refusal :=
  .next (match s.bal.quiet with
    | none => s
    | some e =>
      if s.reg Reg.EST_REST_REST_I * 1000 < s.iMag then
        { s with bal := { s.bal with quiet := none, again := true } }
      else if e ≤ s.turn then
        { s with bal := { s.bal with quiet := none, quietEnd := some s.turn } }
      else s)

/-! ## BAL (R280 to R289) -/

/-- The candidates' record: one that keeps at least half of its excess stands from its first turn (R289).
DEDUCED (log 73). -/
def State.candidates (s : State) (cands : List (Nat × Rat)) : State :=
  { s with bal := { s.bal with
      excess := cands
      cand := cands.map fun e =>
        match s.bal.cand.find? fun c => c.1 == e.1 with
        | some c => if c.2.2 / 2 ≤ e.2 then c else (e.1, s.turn, e.2)
        | none => (e.1, s.turn, e.2) } }

/-- The commands of a completed BAL and what its registers show. -/
def State.balCommands (cmds : Tab BalCmd) (s : State) : State :=
  let s1 : State := forEach (List.range 18) (fun nn s =>
    let c := cmds.get BalCmd.empty nn
    s.setFields [(Reg.BAL_BLEED_LO_BLEED nn, c.bleed % 2 ^ 32), (Reg.BAL_BLEED_HI_BLEED nn, c.bleed / 2 ^ 32),
      (Reg.BAL_SHUT_WHELD nn, bit (s.withheld nn))]) s
  let n := (s.allPositions.filter fun g => bitAt (cmds.get BalCmd.empty (g / 64)).bleed (g % 64)).length
  { s1.setReg Reg.BAL_STAT_BLEED_N n with bal := { s1.bal with
      next := (s.bnk.filter fun (e : Nat × Bank) => e.2.en).map fun (e : Nat × Bank) =>
        (e.1, cmds.get BalCmd.empty e.1)
      withhold := (List.range 18).foldl (fun w nn =>
        if s.turn % 4 = 3 ∧ s.flag (Reg.BAL_SHUT_WHELD nn) then putBit w nn false else w) s.bal.withhold } }

/-- STATE of BAL_STAT.
DEDUCED (log 77). -/
def State.balState (s : State) : Nat :=
  if s.reg Reg.BAL_CTRL_MODE = balOff then 0 else if !s.balModule then 3 else if s.bal.quiet != none then 2 else 1

/-- What a BAL shows. -/
def State.balShow (limited : Bool) (limit used : Rat) (s : State) : State :=
  s.setFields [(Reg.BAL_STAT_STATE, s.balState), (Reg.BAL_STAT_LIMITED, bit limited),
    (Reg.BAL_PWR_USED, sat 65535 (used / 10000000).floor.toNat), (Reg.BAL_PWR_LIMIT, (limit / 10000000).floor.toNat)]

/-- The measured dissipation against the limit (R287).
DEDUCED (log 76). -/
def State.dissipation (limit used : Rat) (s : State) : State :=
  let s1 : State := { s with bal := { s.bal with
    dissRun := if 11 / 10 * limit < used then s.bal.dissRun + 1 else 0
    shed := s.bal.shed && decide (limit < used) } }
  if used ≤ limit then s1.goneAt 0x0901 subjNone else s1

/-- 0x0904: the limit is zero while candidates exist (R290). -/
def State.zeroLimit (limit : Rat) (some_ : Bool) (s : State) : State :=
  let z := decide (limit ≤ 0) && some_
  let s1 := if z && !s.bal.zeroSeen then s.note 0x0904 subjNone [] else s
  { s1 with bal := { s1.bal with zeroSeen := z } }

/-- A completed BAL. -/
def State.balRun (s : State) : State :=
  let limit := s.balLimit
  let used := s.balUsed
  let s1 := (s.dissipation limit used).quietStart
  let cands := s1.bleedCands
  let s2 := s1.candidates cands
  let plan := s2.balPlan limit cands
  let quiet := s2.bal.quiet != none
  let s3 := s2.balCommands (if quiet then [] else plan.cmds)
  (s3.balShow (plan.limited && !quiet) limit used).zeroLimit limit
    (cands != [] || (List.range 18).any fun nn =>
      s2.shuttleMay nn && (s2.wantShuttle nn (s2.balViews.filter fun v => v.g / 64 == nn)).2 != .off)

/-- BAL (R286). -/
def execBal (s : State) : Host.Outcome State Fault Refusal :=
  .next (if s.taskMay 3 23 25 && s.inRun then (s.balRun).taskDone 3 else s)

/-- DISSIPATION_EXCESS (R287).
DEDUCED (log 76). -/
def execDissipationExcess (s : State) : Host.Outcome State Fault Refusal :=
  .next (if 10 ≤ s.bal.dissRun then
      let s1 := s.raiseLevel 0x0901 1 subjNone []
      { s1 with bal := { s1.bal with shed := true, dissRun := 0 } }
    else s)

/-- BLEED_NONCONVERGENCE (R289): the position has been a candidate for 48 h; the 48 h begin again. -/
def execBleedNonconvergence (g : Nat) (s : State) : Host.Outcome State Fault Refusal :=
  .next (match s.bal.cand.find? fun c => c.1 == g with
    | some c =>
      if c.2.1 + 48 * 3600000 ≤ s.turn then
        let s1 := s.raise 0x0905 1 (subjPos g) []
        { s1 with bal := { s1.bal with cand := s1.bal.cand.put g (s.turn, s.bal.excess.get 0 g) } }
      else s
    | none => s)

/-! ## The banks at a strike (R277 to R280) -/

/-- BANK_COMMAND_APPLY at strike 0: the command of the BAL before, or everything off (R280). -/
def State.bankCommand (nn : Nat) (s : State) : State :=
  let old := s.balNow nn
  let given := s.bal.next.find? fun e => e.1 == nn
  let c := match given with
    | some e => e.2
    | none => BalCmd.empty
  let live := (List.range 64).foldl (fun a p => if s.vacant nn p then putBit a p false else a) c.bleed
  let new : BalCmd := { bleed := live, pos := c.pos, dir := if s.vacant nn c.pos then .off else c.dir }
  let s1 := if given.isSome then s
    else s.setFields [(Reg.BAL_BLEED_LO_BLEED nn, 0), (Reg.BAL_BLEED_HI_BLEED nn, 0)]
  { s1 with bal := { s1.bal with
      now := s1.bal.now.put nn new
      shutAt := if (old.dir, old.pos) = (new.dir, new.pos) ∨ (old.dir = .off ∧ new.dir = .off) then s1.bal.shutAt
        else s1.bal.shutAt.put nn (s.now + 1) } }

/-- Strike 0: every populated bank takes its command; where balancing may no longer run, as out of RUN, STATE says so (R281,
R291). -/
def State.bankCommands (s : State) : State :=
  let s1 := forEach (List.range s.populated) State.bankCommand s
  let s2 := if s.bal.next = [] then s1.setReg Reg.BAL_STAT_BLEED_N 0 else s1
  let s3 := if s2.balModule then s2 else s2.setReg Reg.BAL_STAT_STATE s2.balState
  { s3 with bal := { s3.bal with next := [] } }

/-- 250 µs into a change the old connection opens; one whose position stays keeps its selector closed (R278). -/
def State.shuttleOpens (nn : Nat) (s : State) : State :=
  let c := s.balNow nn
  if s.bal.shutAt.get 0 nn = s.now + 1 - 8 ∧ 8 ≤ s.now then
    let t := { s.setReg (Reg.BAL_SHUT_DIR nn) 0 with bal := { s.bal with selAt := s.bal.selAt.put nn (s.now + 1) } }
    if c.dir = .off then { t with bal := { t.bal with shutAt := t.bal.shutAt.put nn 0 } }
    else if s.reg (Reg.BAL_SHUT_DIR nn) ≠ 0 ∧ s.reg (Reg.BAL_SHUT_POS nn) = c.pos then s
    else t
  else s

/-- Code of a direction in BAL_SHUT. -/
def ShutDir.code : ShutDir → Nat
  | .off => 0
  | .out => 1
  | .inn => 2

/-- SHUTTLE_CHANGE (R278): from strike 20 of the turn on, the selector of the new position is closed.
DEDUCED (log 80). -/
def execShuttleChange (nn : Nat) (s : State) : Host.Outcome State Fault Refusal :=
  let c := s.balNow nn
  let t0 := s.bal.shutAt.get 0 nn
  .next (if t0 != 0 && decide (t0 - 1 + 20 ≤ s.now) && c.dir != .off then
      { s.setFields [(Reg.BAL_SHUT_POS nn, c.pos), (Reg.BAL_SHUT_DIR nn, c.dir.code)] with
        bal := { s.bal with
          shutAt := s.bal.shutAt.put nn 0, dwellAt := s.bal.dwellAt.put nn (t0 - 1 + 20)
          selAt := if s.reg (Reg.BAL_SHUT_DIR nn) = 0 then s.bal.selAt.put nn (s.now + 1) else s.bal.selAt } }
    else s)

/-- The shuttle carries its full current, 1 ms after its change took effect (R278). -/
def State.shuttleFull (s : State) (nn : Nat) : Bool :=
  s.reg (Reg.BAL_SHUT_DIR nn) != 0 && s.bal.shutAt.get 0 nn == 0 && decide (s.bal.dwellAt.get 0 nn + 12 ≤ s.now)

/-- The magnitude the shuttle's current is set to, mA: it ramps down over the first 8 strikes of a change and up from strike 24
over 8, linearly (R278). -/
def State.shuttleSetpoint (s : State) (nn : Nat) : Nat :=
  let t := s.bal.shutAt.get 0 nn
  if s.reg (Reg.BAL_SHUT_DIR nn) = 0 then 0
  else if t ≠ 0 then 3000 * (8 - (s.now + 1 - t)) / 8
  else 3000 * min 8 (s.now - (s.bal.dwellAt.get 0 nn + 4)) / 8

/-- What the selector's feedback should read: the position connected, or none; nothing is asked in the 8 strikes after it opens
and in the 4 after it closes (R278). -/
def State.selectorExpect (s : State) (nn : Nat) : Option (Option Nat) :=
  let moved := s.bal.selAt.get 0 nn
  let age := s.now + 1 - moved
  if s.reg (Reg.BAL_SHUT_DIR nn) = 0 then (if moved = 0 ∨ 8 ≤ age then some none else none)
  else if moved = 0 ∨ 4 ≤ age then some (some (s.reg (Reg.BAL_SHUT_POS nn)))
  else none

/-- The selector's feedback disagrees with the command. -/
def State.selectorWrong (s : State) (nn : Nat) (fb : Option Nat) : Bool :=
  match s.selectorExpect nn with
  | some e => e != fb
  | none => false

/-- The position-side current is outside 3.0 A ±3 % (R290). -/
def shutOut (dir : Nat) (i : Int) : Bool :=
  let x := if dir = 1 then i else -i
  decide (x < 2910) || decide (3090 < x)

/-- Adds to the uncertainty of the charge of a position that balancing moves, 1/320 µC (R153). -/
def State.balErrAdd (g : Nat) (e : Rat) (s : State) : State :=
  { s with bal := { s.bal with balErr := s.bal.balErr.upd 0 g (· + e), errNow := s.bal.errNow.upd 0 g (· + e) } }

/-- The shuttle of a bank at a strike: its current, its charge and its tests (R279, R290).
DEDUCED (log 80). -/
def State.shuttleStrike (b : BankIn) (s : State) : State :=
  let nn := b.bank
  let dir := s.reg (Reg.BAL_SHUT_DIR nn)
  let full := s.shuttleFull nn
  let on := dir != 0
  let i : Int := if on then b.shutI else 0
  let u : Int := if on then b.busI else 0
  let sel := globalPos nn (s.reg (Reg.BAL_SHUT_POS nn))
  let s1 := s.setReg (Reg.BAL_SHUT_IPOS nn) (unsigned 16 i)
  let q1 := if on then s.bal.shutQ.upd 0 sel (· + 10 * i) else s.bal.shutQ
  let q2 := if u = 0 then q1 else (s.positions nn).foldl (fun t p => t.upd 0 (globalPos nn p) (· + 10 * u)) q1
  let e : Rat := (10 * i.natAbs : Rat) / 100 + 100
  let s2 := if on then s1.balErrAdd sel e else s1
  let came := s.frameOk b
  let wrong := came && s.selectorWrong nn b.shutFb
  let s3 := if wrong || !came then s2 else s2.goneAt 0x0903 (subjBank nn)
  { s3 with bal := { s3.bal with
      shutQ := q2, shutSet := s.bal.shutSet.put nn (s.shuttleSetpoint nn)
      loss := if on then s.bal.loss.put nn (i, u) else s.bal.loss.drop (· == nn)
      shutINow := s.bal.shutINow.put nn ((s.phase != 0 && s.bal.shutINow.get false nn) || (full && shutOut dir i))
      shutIBad := if s.phase = 0 then
          s.bal.shutIBad.put nn (if s.bal.shutINow.get false nn then s.bal.shutIBad.get 0 nn + 1 else 0)
        else s.bal.shutIBad
      shutFbBad := if came then s.bal.shutFbBad.put nn (if wrong then s.bal.shutFbBad.get 0 nn + 1 else 0) else s.bal.shutFbBad } }

/-- Half-strikes the bleed switch of a position is closed at this strike: both where commanded, one for a pulse of a
balance-conductor turn (R81, R279). -/
def State.bleedHalves (s : State) (nn p : Nat) : Nat :=
  if s.bleedOn nn p then 2
  else if s.turn % 4 = 3 ∧ p / 2 = s.phase ∧ s.slotRuns nn ∧ !s.vacant nn p ∧ !s.shuttleOn nn p then 1 else 0

/-- Bleed charge of a position at a strike, and its uncertainty of 10 % (R153, R279).
DEDUCED (log 71). -/
def State.bleedCount (nn p : Nat) (s : State) : State :=
  let h := s.bleedHalves nn p
  if h = 0 then s
  else
    let g := globalPos nn p
    let q := 5 * h * s.bleedMa g
    { s with bal := { s.bal with
        bleedQ := s.bal.bleedQ.upd 0 g (· + (q : Int)) } }.balErrAdd g ((q : Rat) / 10)

/-- Notes the positions of a bank that have a bleed switch or the shuttle on at a strike (R154). -/
def State.balNoted (nn : Nat) (s : State) : State :=
  let on := (s.positions nn).filter fun p => (s.bleedOn nn p || s.shuttleOn nn p) && !s.bal.onTurn.contains (globalPos nn p)
  { s with bal := { s.bal with onTurn := on.map (globalPos nn) ++ s.bal.onTurn } }

/-- Balancing of a bank at a strike, once its frame is sent. -/
def State.balStrike (b : BankIn) (s : State) : State :=
  let s1 := (s.balNoted b.bank |>.shuttleOpens b.bank).shuttleStrike b
  forAll (s.positions b.bank) (State.bleedCount b.bank) s1

/-- SHUTTLE_FAULT: either fault disables the shuttle; each may be found after the other (R290). -/
def execShuttleFault (nn code : Nat) (s : State) : Host.Outcome State Fault Refusal :=
  .next (
    if code = 0x0902 ∧ 2 ≤ s.bal.shutIBad.get 0 nn then
      let s1 := (s.raise 0x0902 1 (subjBank nn) []).setFlag (Reg.BAL_SHUT_DIS nn) true
      { s1 with bal := { s1.bal with shutIBad := s1.bal.shutIBad.put nn 0 } }
    else if code = 0x0903 ∧ 3 ≤ s.bal.shutFbBad.get 0 nn then
      (s.raiseLevel 0x0903 2 (subjBank nn) []).setFlag (Reg.BAL_SHUT_DIS nn) true
    else s)

end Sys2Proof.Machine
end

