-- ==== Sys2Proof/Machine/Envelope.lean ====
section
/-! DEFINITION. The dispatch envelope (chapter 12, R326 to R336). Currents are in A. -/
namespace Sys2Proof.Machine

/-! ## Envelope maps (R326 to R328) -/

def mapNt (l : List Nat) : Nat := l.getD 2 0
def mapTemp (l : List Nat) (t : Nat) : Int := signed 16 (leAt l (4 + 2 * t) 2)
/-- Rate of array `a` (DIS_C, DIS_10, DIS_2, CHG_C, CHG_10, CHG_2) at grid temperature t and SOC point i. -/
def mapRate (l : List Nat) (a t i : Nat) : Nat := leAt l (28 + 132 * t + 22 * a + 2 * i) 2

/-- A map is valid (R327).
DEDUCED (log 94). -/
def mapValid (l : List Nat) : Bool :=
  let nt := mapNt l
  let n := 28 + 132 * nt
  decide (l.length = n + 4) && leAt l 0 2 == 0x0201 && decide (1 ≤ nt) && decide (nt ≤ 12)
    && leAt l n 4 == crc32 (l.take n)
    && decide (-4000 ≤ mapTemp l 0) && decide (mapTemp l (nt - 1) ≤ 12500)
    && ((List.range (nt - 1)).all fun t => decide (mapTemp l t < mapTemp l (t + 1)))
    && ((List.range nt).all fun t => (List.range 11).all fun i => [0, 3].all fun a =>
      decide (mapRate l a t i ≤ mapRate l (a + 1) t i) && decide (mapRate l (a + 1) t i ≤ mapRate l (a + 2) t i)
        && decide (mapRate l (a + 2) t i ≤ 10000))

/-- A rate in 0.01 C at a grid temperature, linear in state of charge (ppm). -/
def rateAt (l : List Nat) (a t : Nat) (soc : Rat) : Rat :=
  let i := min 9 (soc / 100000).floor.toNat
  let f := soc / 100000 - (i : Rat)
  (mapRate l a t i : Rat) + f * ((mapRate l a t (i + 1) : Rat) - (mapRate l a t i : Rat))

/-- A rate at a temperature in 0.01 °C: 0 outside the grid (R328). -/
def rateOf (l : List Nat) (a : Nat) (soc : Rat) (temp : Int) : Rat :=
  if temp < mapTemp l 0 ∨ mapTemp l (mapNt l - 1) < temp then 0
  else match (List.range (mapNt l - 1)).find? fun t => decide (temp ≤ mapTemp l (t + 1)) with
    | some t =>
      let lo := mapTemp l t
      let f : Rat := ((temp - lo : Int) : Rat) / ((mapTemp l (t + 1) - lo : Int) : Rat)
      rateAt l a t soc + f * (rateAt l a (t + 1) soc - rateAt l a t soc)
    | none => rateAt l a 0 soc

/-- The map of a position, when one is in service. -/
def State.mapOf (s : State) (g : Nat) : Option (List Nat) :=
  let k := bitsAt (s.reg Reg.ENV_MSEL_MAP) (2 * s.ocvSlot g) 2
  (s.env.maps.find? fun e => e.1 == k).map (·.2)

/-- The input a position's temperature comes from has failed (R137). -/
def State.posInputFailed (s : State) (g : Nat) : Bool :=
  let j := g / 64 * 32 + g % 64 / 2
  s.tempFitted j && (s.temp j).f

/-- The limit of a position for array `a`, A (R328, R329). -/
def State.posLimit (s : State) (a g : Nat) : Rat :=
  let p := s.estPos g
  let soc := if a < 3 then p.lo else p.hi
  match s.mapOf g, s.posTemp g with
  | some m, some t =>
    let r := rateOf m a soc t
    let r1 := if s.posInputFailed g then min r (rateOf m a soc (s.tempLow (g / 64 * 32 + g % 64 / 2))) else r
    s.nominal g / 3600000000 * r1 / 100
  | _, _ => 0

/-! ## The limits of a turn (R329) -/

/-- The lowest value of a function over positions and the first position that has it. -/
def lowestOver (f : Nat → Rat) : List Nat → Rat × Nat
  | [] => (0, 0)
  | [g] => (f g, g)
  | g :: r => let b := lowestOver f r; if f g ≤ b.1 then (f g, g) else b

/-- `x` clamped to 0 to 1. -/
def unit01 (x : Rat) : Rat := max 0 (min 1 x)

/-- The voltage factors of discharge and charge. -/
def State.voltFactors (s : State) (l : List Nat) : Rat × Rat :=
  let means := l.filterMap s.turnMeanUv
  let uv := fun f => (s.thrUv f : Rat)
  if means = [] then (0, 0)
  else
    (unit01 ((leastOf 0 means - uv Reg.SLU_VTH_C_UVS) / (uv Reg.SLU_VTH_C_UVW - uv Reg.SLU_VTH_C_UVS)),
     unit01 ((uv Reg.SLU_VTH_A_OVS - mostOf 0 means) / (uv Reg.SLU_VTH_A_OVS - uv Reg.SLU_VTH_A_OVW)))

/-- Faults of class 2 whose derate is a limit of zero in one direction (R213). -/
def blockCodes : List Nat := [0x071B, 0x0721, 0x071C, 0x0720]

/-- The derate factor of R19: FACT while a fault of class 2 or higher other than those of R213 is in effect.
DEDUCED (log 90). -/
def State.derate (s : State) : Rat :=
  if s.flt.active.any fun f => decide (2 ≤ f.cls) && !blockCodes.contains f.code then
    (s.reg Reg.ENV_DER_FACT : Rat) / 100
  else 1

/-- The three limits of a direction: its arrays from `a0`, factor, caps and block (R329).
DEDUCED (log 90). -/
def State.dirLimits (s : State) (l : List Nat) (a0 : Nat) (vf cap hw : Rat) (blocked : Bool) : List Rat :=
  (List.range 3).map fun t =>
    if blocked then 0 else min (min ((lowestOver (s.posLimit (a0 + t)) l).1 * vf) cap) (hw * 10 / 11) * s.derate

/-- The discharge and the charge limits. -/
def State.limits (s : State) : List Rat × List Rat :=
  let l := s.servedAll
  let vf := s.voltFactors l
  (s.dirLimits l 0 vf.1 (s.reg Reg.ENV_ILIM_DMAX) (s.thr Reg.SLU_ITH_B_OCD_HW) (s.inEffect 0x071C || s.inEffect 0x0720),
   s.dirLimits l 3 vf.2 (s.reg Reg.ENV_ILIM_CMAX) (s.thr Reg.SLU_ITH_B_OCC_HW) (s.inEffect 0x071B || s.inEffect 0x0721))

/-! ## Tiers and pulse accounts (R331) -/

/-- An account after a turn. -/
def account (b i l full recov : Rat) : Rat :=
  max 0 (min full (b + (if l < i then (i - l) / 1000 else -(full / 1000 / recov))))

/-- An exhausted account stays so down to half its size. -/
def exhausted (x : Bool) (b full : Rat) : Bool :=
  if full ≤ 0 then false else if full ≤ b then true else if b ≤ full / 2 then false else x

/-- A direction after a completed ENV, with the current `i` in that direction. -/
def EnvDir.turn (fresh : Bool) (l : List Rat) (i recov : Rat) (d : EnvDir) : EnvDir :=
  let lc := l.getD 0 0
  let l10 := l.getD 1 0
  let l2 := l.getD 2 0
  let f10 := (l10 - lc) * 10
  let f2 := (l2 - l10) * 2
  let b10 := if fresh then f10 else account d.b10 i lc f10 recov
  let b2 := if fresh then f2 else account d.b2 i l10 f2 recov
  let x10 := exhausted d.x10 b10 f10
  let x2 := exhausted d.x2 b2 f2
  let tier := if x10 then 2 else if x2 then 1 else 0
  { l := l, b10 := b10, b2 := b2, x10 := x10, x2 := x2, tier := tier, inf := l.getD (2 - tier) 0 }

/-- The mean selected current of the last complete turn, A. -/
def State.meanCurrent (s : State) : Rat :=
  if s.lastI.1 = 0 then 0 else (s.lastI.2 : Rat) / (s.lastI.1 : Rat) / 10000

/-- The accounts of both directions (R331, R336); 0x0764 for each tier that falls. -/
def State.envAccounts (l : List Rat × List Rat) (s : State) : State :=
  let i := s.meanCurrent
  let rec_ : Rat := s.reg Reg.ENV_DER_RECOV
  let d := s.env.dis.turn s.env.fresh l.1 (max 0 i) rec_
  let c := s.env.chg.turn s.env.fresh l.2 (max 0 (-i)) rec_
  let s1 := if s.env.dis.tier < d.tier then s.note 0x0764 subjNone [] else s
  let s2 := if s.env.chg.tier < c.tier then s1.note 0x0764 subjNone [] else s1
  { s2 with env := { s2.env with dis := d, chg := c, fresh := false } }

/-! ## The reference (R333, R334) -/

/-- Moves a value toward a target by at most a step. -/
def toward (x target step : Rat) : Rat :=
  if x < target then min target (x + step) else max target (x - step)


/-- The target in A (R334). -/
def State.envTarget (s : State) : Rat × Nat :=
  if s.flag Reg.ENV_CTRL_SPMODE then
    if 0 < s.lastV.1 then
      ((s.env.setp : Rat) / ((s.lastV.2 : Rat) / (s.lastV.1 : Rat) / 1000), 0)
    else if s.env.miss < 10 then (s.env.target, s.env.miss + 1) else (0, s.env.miss + 1)
  else ((s.env.setp : Rat) / 10, s.env.miss)

/-- iref after a turn.
DEDUCED (log 91, 92). -/
def State.envIref (s : State) (target : Rat) : Rat :=
  let i := s.env.iref
  let up : Rat := (s.reg Reg.ENV_RAMP_UP : Rat) / 10
  let dn : Rat := (s.reg Reg.ENV_RAMP_DN : Rat) / 10
  let r :=
    if s.conn != connClosed || s.env.inh then 0
    else if (abs i < abs target ∧ sgn target = sgn i) ∨ i = 0 then toward i target up
    else toward i (if sgn target = sgn i then target else 0) dn
  max (-s.env.chg.inf) (min s.env.dis.inf r)

/-- The nearest integer, ties toward +∞ (R297). -/
def nearest (x : Rat) : Int := (x + 1 / 2).floor

/-- Q1.15, saturated. -/
def sat16 (i : Int) : Int := clampInt (-32768) 32767 i

/-- A current in A as Q1.15 of RATED. -/
def State.ofRated (s : State) (a : Rat) : Int := sat16 (nearest (a * 32768 / (s.reg Reg.GOV_RATED_RATED : Rat)))

/-- The reference of a completed ENV. -/
def State.envReference (s : State) : State :=
  let t := s.envTarget
  let s1 := s.level (s.flag Reg.ENV_CTRL_SPMODE && decide (10 < t.2)) 0x0762 1 subjNone []
  let i := s1.envIref t.1
  { s1 with env := { s1.env with
      iref := i, target := t.1, miss := t.2
      written := if s.roleStandby then none else some (s.env.dis.inf, s.env.chg.inf, s.ofRated i) } }

/-! ## ENV -/

/-- A limit in whole A.
DEDUCED (log 91). -/
def wholeA (x : Rat) : Nat := sat 65535 x.floor.toNat
/-- An account in % of its size. -/
def percent (b full : Rat) : Nat := if full ≤ 0 then 0 else (100 * b / full).floor.toNat

/-- What ENV publishes (R330, R341).
DEDUCED (log 132). -/
def State.envShow (s : State) : State :=
  let d := s.env.dis
  let c := s.env.chg
  let l := s.servedAll
  s.setFields [(Reg.ENV_LIM_D0_CONT, wholeA (d.l.getD 0 0)), (Reg.ENV_LIM_D0_T10, wholeA (d.l.getD 1 0)),
    (Reg.ENV_LIM_D1_T2, wholeA (d.l.getD 2 0)), (Reg.ENV_LIM_D1_INF, wholeA d.inf),
    (Reg.ENV_LIM_C0_CONT, wholeA (c.l.getD 0 0)), (Reg.ENV_LIM_C0_T10, wholeA (c.l.getD 1 0)),
    (Reg.ENV_LIM_C1_T2, wholeA (c.l.getD 2 0)), (Reg.ENV_LIM_C1_INF, wholeA c.inf),
    (Reg.ENV_STAT_DTIER, d.tier), (Reg.ENV_STAT_CTIER, c.tier),
    (Reg.ENV_STAT_DPOS, (lowestOver (s.posLimit 0) l).2), (Reg.ENV_STAT_CPOS, (lowestOver (s.posLimit 3) l).2),
    (Reg.ENV_REF_IREF, unsigned 16 (sat16 (nearest s.env.iref))),
    (Reg.ENV_ACCT_D10, percent d.b10 ((d.l.getD 1 0 - d.l.getD 0 0) * 10)),
    (Reg.ENV_ACCT_D2, percent d.b2 ((d.l.getD 2 0 - d.l.getD 1 0) * 2)),
    (Reg.ENV_ACCT_C10, percent c.b10 ((c.l.getD 1 0 - c.l.getD 0 0) * 10)),
    (Reg.ENV_ACCT_C2, percent c.b2 ((c.l.getD 2 0 - c.l.getD 1 0) * 2))]

/-- The subject of an envelope map slot. -/
def subjMap (k : Nat) : Nat := subjNum k

/-- 0x0761 while a position's map is not in service (R328).
DEDUCED (log 95). -/
def State.mapLevels (s : State) : State :=
  let need := s.servedAll.map fun g => bitsAt (s.reg Reg.ENV_MSEL_MAP) (2 * s.ocvSlot g) 2
  forEach (List.range 4) (fun k s =>
    s.level (need.contains k && !(s.env.maps.any fun e => e.1 == k)) 0x0761 1 (subjMap k) []) s

/-- A completed ENV (R329 to R336).
DEDUCED (log 93). -/
def State.envRun (s : State) : State :=
  let s1 := (s.mapLevels.envAccounts s.limits).envReference
  let s2 := (s1.envShow).goneAt 0x0763 subjNone
  { s2 with env := { s2.env with connOk := s.conn == connClosed } }

/-- ENV (R329): it runs in START, RUN and TRIM (R531). -/
def execEnv (s : State) : Host.Outcome State Fault Refusal :=
  .next (if s.taskMay 2 20 22 && decide (s.power ≤ pwTrim) then (s.envRun).taskDone 2 else s)

/-! ## Strike by strike (R332, R335) -/

/-- VALID of ENV_MSEL: the map slots in service. -/
def State.mapsShown (s : State) : State :=
  s.setReg Reg.ENV_MSEL_VALID ((List.range 4).foldl (fun a k => putBit a k (s.env.maps.any fun e => e.1 == k)) 0)

/-- Maps that waited for strike 0 come into service whole (R327).
DEDUCED (log 245). -/
def State.mapsApply (s : State) : State :=
  if s.env.mapNext = [] then s
  else
    let maps := s.env.mapNext.foldl (fun t (e : Nat × TableBytes) => t.put e.1 e.2) s.env.maps
    State.mapsShown { s with env := { s.env with maps := maps, mapNext := [] } }

/-- Strike 0: new limits take effect, or the count of R335 advances; in a warm reset all of it stays as it was (R230, R336). -/
def State.envTurnStart (s : State) : State :=
  let s1 := s.mapsApply
  if s.flag Reg.PWR_STAT_WARM then s1
  else match s1.env.written with
  | some w =>
    { s1.setFields [(Reg.ENV_REF_ENVREF, unsigned 16 w.2.2), (Reg.ENV_STAT_HELD, 0), (Reg.ENV_STAT_FALL, 0)] with
      env := { s1.env with written := none, disA := w.1, chgA := w.2.1, stale := 0, falling := false } }
  | none =>
    if decide (s.power ≤ pwTrim) && !s.deaf && !s.roleStandby then
      { s1.setFlag Reg.ENV_STAT_HELD true with env := { s1.env with stale := s1.env.stale + 1 } }
    else s1

/-- The hardware fall at a strike. -/
def State.envFall (s : State) : State :=
  if s.env.falling && !s.deaf then
    let step : Rat := (s.thr Reg.SLU_ORD_RAMP : Rat) / 32
    { s with env := { s.env with disA := max 0 (s.env.disA - step), chgA := max 0 (s.env.chgA - step) } }
  else s

/-- The setpoint that ENV latches: the one written last before strike 20, 0 after a timeout (R333). -/
def State.setpLatch (s : State) : State :=
  if s.phase = 20 then
    { s with env := { s.env with setp := if s.flag Reg.ENV_STAT_SPTO then 0 else signed 32 (s.reg Reg.ENV_SETP_SETP) } }
  else s

/-- ENVELOPE_STALE (R335). -/
def execEnvelopeStale (s : State) : Host.Outcome State Fault Refusal :=
  .next (if decide (16 ≤ s.env.stale) && !s.env.falling then
      let s1 := (s.raiseLevel 0x0763 2 subjNone []).setFlag Reg.ENV_STAT_FALL true
      { s1 with env := { s1.env with falling := true } }
    else s)

/-- ENV_SETP. -/
def envSetpAt : Nat := 0x20304

/-- A refresh of the setpoint (R333). -/
def State.setpointWritten (s : State) : State :=
  { (s.setFlag Reg.ENV_STAT_SPTO false).goneAt 0x0760 subjNone with env := { s.env with setpAt := some s.now } }

/-- A write of ENV_SETP. -/
def State.setpointWrite (p : Path) (w : Nat) (s : State) : State := (s.writeWord p envSetpAt w).setpointWritten

/-- SETPOINT_WRITE (R333). -/
def execSetpointWrite (path : Path) (w : Word) (s : State) : Host.Outcome State Fault Refusal :=
  .next (if s.deaf then s else s.setpointWrite path w.toNat)

/-- SETPOINT_TIMEOUT (R333). -/
def execSetpointTimeout (s : State) : Host.Outcome State Fault Refusal :=
  let d := s.reg Reg.ENV_CTRL_SPTO
  .next (match s.env.setpAt with
    | some t =>
      if d != 0 && decide (d * 3200 ≤ s.since t) && !s.flag Reg.ENV_STAT_SPTO then
        (s.raiseLevel 0x0760 1 subjNone []).setFlag Reg.ENV_STAT_SPTO true
      else s
    | none => s)

end Sys2Proof.Machine
end

