-- ==== Sys2Proof/Machine/Governor.lean ====
section
/-! DEFINITION. The Governor: loop slots, output stage, setpoint port, analog output and actuators (chapter 11, with R337
and R338 of chapter 12). -/
namespace Sys2Proof.Machine

/-! ## Slots as registers hold them -/

def slotBiq : Nat := 0
def slotPid : Nat := 1
def slotFf : Nat := 2
def slotRep : Nat := 3
def destRef : Nat := 1

/-- A cleared slot. -/
def GovSlot.zero : GovSlot :=
  { sec := List.replicate 8 (0, 0, 0, 0), i := 0, d := 0, bPrev := none, mem := [], ebuf := [], run := 0, p := 0
    filled := 0, hold := 0, fail := false, clean := 0, out := 0, tracked := false }

/-- A slot's state cleared, but for its output and its FAIL. -/
def GovSlot.cleared (x : GovSlot) : GovSlot :=
  { GovSlot.zero with hold := x.hold, fail := x.fail, clean := x.clean, out := x.out }

def State.slot (s : State) (n : Nat) : GovSlot := s.gov.slots.get GovSlot.zero n
def State.setSlot (n : Nat) (x : GovSlot) (s : State) : State := { s with gov := { s.gov with slots := s.gov.slots.put n x } }
def State.slotType (s : State) (n : Nat) : Nat := s.reg (Reg.GOV_SLOT_CFG_TYPE n)
def State.slotDest (s : State) (n : Nat) : Nat := s.reg (Reg.GOV_SLOT_CFG_DEST n)
def State.slotOn (s : State) (n : Nat) : Bool := s.bitOf Reg.GOV_CTRL_SEN n
/-- DEDUCED (log 88). -/
def State.slotFrozen (s : State) (n : Nat) : Bool := s.bitOf Reg.GOV_CTRL_FRZ n
def State.coef (s : State) (n m : Nat) : Int := signed 16 (s.reg (Reg.GOV_SLOT_COEF_C n m))
def State.slotLo (s : State) (n : Nat) : Int := signed 16 (s.reg (Reg.GOV_SLOT_LIM_LO n))
def State.slotHi (s : State) (n : Nat) : Int := signed 16 (s.reg (Reg.GOV_SLOT_LIM_HI n))
def State.slotLimit (s : State) (n : Nat) (v : Int) : Int := clampInt (s.slotLo n) (s.slotHi n) v
def State.failValue (s : State) (n : Nat) : Int := s.slotLimit n (signed 16 (s.reg (Reg.GOV_SLOT_FAILV_FAILVAL n)))
def State.repN (s : State) (n : Nat) : Nat := s.reg (Reg.GOV_SLOT_COEF_C n 2) % 8192
/-- DEDUCED (log 85). -/
def State.repD (s : State) (n : Nat) : Nat := s.reg (Reg.GOV_SLOT_COEF_C n 3) % 256

/-- A REP slot's N and D let it run (R303). -/
def State.repRuns (s : State) (n : Nat) : Bool :=
  decide (2 ≤ s.repN n) && decide (s.repN n ≤ 4096) && decide (s.repD n < s.repN n)

/-! ## Writes (R307, R308) -/

/-- The GOV block's addresses. -/
def govAt (off : Nat) : Bool := decide (0x24000 ≤ off) && decide (off < 0x26000)

/-- A pair of source and index is no reserved encoding (R298).
DEDUCED (log 81). -/
def sourceOk (src idx : Nat) : Bool :=
  match src with
  | 0 | 2 | 3 | 4 | 5 => true
  | 1 | 8 => decide (idx < 8)
  | 6 => decide (idx < 1152)
  | 7 => decide (idx < 584)
  | 9 => decide (idx < 18) || idx == 31
  | _ => false

/-- The slot an address lies in and its offset there. -/
def slotAt (off : Nat) : Option (Nat × Nat) :=
  if 0x24100 ≤ off ∧ off < 0x25100 then some ((off - 0x24100) / 0x200, (off - 0x24100) % 0x200) else none

/-- One half of a source or index write: refused with an event where it would make a reserved pair. -/
def refusePair (f : Field) (ok : Bool) (a : State × Nat) : State × Nat :=
  refuseIf (!ok) f (State.noteBad .pf0 1) a

/-- A write of N (offset 0x48) or of D (0x4C) of a REP slot holds no reserved encoding (R301). -/
def repWordOk (n o w : Nat) (s : State) : Bool :=
  if o = 0x48 then decide (2 ≤ w % 8192) && decide (w % 8192 ≤ 4096) else decide (w % 256 < s.repN n)

/-- The word of a slot register as it takes effect (R298, R301, R308). -/
def slotWord (n o : Nat) (s : State) (w : Nat) : State × Nat :=
  if o = 0 then
    let same := bitsAt w 0 3 == s.slotType n && bitsAt w 4 3 == s.reg (Reg.GOV_SLOT_CFG_NSEC n)
      && bitsAt w 8 4 == s.slotDest n
    if s.slotOn n && !same then
      (s.note 0x0802 (subjNum n) [],
        keepField s (Reg.GOV_SLOT_CFG_TYPE n) (keepField s (Reg.GOV_SLOT_CFG_NSEC n) (keepField s (Reg.GOV_SLOT_CFG_DEST n) w)))
    else (s, w)
  else if o = 4 then
    refusePair (Reg.GOV_SLOT_SRC_BSRC n) (sourceOk (bitsAt w 8 8) (s.reg (Reg.GOV_SLOT_IDX_BIDX n)))
      (refusePair (Reg.GOV_SLOT_SRC_ASRC n) (sourceOk (bitsAt w 0 8) (s.reg (Reg.GOV_SLOT_IDX_AIDX n))) (s, w))
  else if o = 8 then
    refusePair (Reg.GOV_SLOT_IDX_BIDX n) (sourceOk (s.reg (Reg.GOV_SLOT_SRC_BSRC n)) (bitsAt w 16 11))
      (refusePair (Reg.GOV_SLOT_IDX_AIDX n) (sourceOk (s.reg (Reg.GOV_SLOT_SRC_ASRC n)) (bitsAt w 0 11)) (s, w))
  else if (o = 0x48 ∨ o = 0x4C) ∧ s.slotType n = slotRep then
    refusePair (Reg.GOV_SLOT_COEF_C n (if o = 0x48 then 2 else 3)) (repWordOk n o w s) (s, w)
  else (s, w)

/-- Memory of a REP slot is cleared when a write of N or D takes effect on it, whether or not it changes the value (R303). -/
def repCleared (n o w : Nat) (before s : State) : State :=
  if (o = 0x48 ∨ o = 0x4C) ∧ s.slotType n = slotRep ∧ s.slotOn n ∧ repWordOk n o w before then
    (s.setSlot n (s.slot n).cleared).note 0x0804 (subjNum n) []
  else s

/-- A slot after a change of its enable (R304, R305). -/
def enableSlot (was n : Nat) (s : State) : State :=
  let x := s.slot n
  if s.slotOn n && !bitAt was n then
    let keep := x.tracked && s.slotType n == slotPid && s.flag (Reg.GOV_SLOT_CFG_TREN n)
    s.setSlot n { GovSlot.zero with i := if keep then x.i else 0, out := if keep then x.out else 0 }
  else if !s.slotOn n && bitAt was n then
    (s.setSlot n GovSlot.zero).goneAt 0x0803 (subjNum n)
  else s

/-- MODE and ARANGE of a write of GOV_SPT_CTRL (R320): refused unless CONN is OPEN, else a change begins at the next
strike 0. -/
def rangeWord (s : State) (w : Nat) : State × Nat :=
  let v := s.legalWord 0x24010 w
  if bitsAt v 0 2 = s.reg Reg.GOV_SPT_CTRL_MODE ∧ bitsAt v 4 2 = s.reg Reg.GOV_SPT_CTRL_ARANGE then (s, w)
  else if s.conn != connOpen then
    -- a reserved encoding stays in the word, so that its write is recorded under R17
    let keep := fun (f : Field) (x : Nat) => if bitsAt w f.lo f.width = 3 then x else keepField s f x
    (s.note 0x0812 subjNone [], keep Reg.GOV_SPT_CTRL_MODE (keep Reg.GOV_SPT_CTRL_ARANGE w))
  else
    ({ s.setFlag Reg.GOV_SPT_STAT_RCHG true with gov := { s.gov with
        change := some { t0 := (s.turn + 1) * 32, mode := s.reg Reg.GOV_SPT_CTRL_MODE, range := s.gov.range } } }, w)

/-- The write of a word: its fields, and with an accepted RWL change that change and its WRITE entry. A word that changed no RWL
field when it was made changes none when it takes effect (R16, R267, R307).
DEDUCED (log 85). -/
def State.govStore (off w : Nat) (rwl : Option Session) (s : State) : State :=
  let pl := writePlan s off w
  let t := (s.noteBad .pf0 pl.bad).setFields pl.sets
  match rwl with
  | some x => if pl.rwl = [] then t
    else
      let u := t.setFields pl.rwl
      u.clogWrite { x.entry 0x02 with addr := off, old := s.storedWord off, new := u.storedWord off }
  | none => t

/-- The head entry of the queue takes effect (R307). -/
def State.govEffect (e : GovEntry) (s : State) : State :=
  match slotAt e.addr with
  | some (n, o) =>
    let r := slotWord n o s e.val
    repCleared n o e.val s (r.1.govStore e.addr r.2 e.rwl)
  | none =>
    if e.addr = 0x24010 then
      let r := rangeWord s e.val
      r.1.govStore e.addr r.2 e.rwl
    else if e.addr = 0x24000 then
      forEach (List.range 8) (enableSlot (s.reg Reg.GOV_CTRL_SEN)) (s.govStore e.addr e.val e.rwl)
    else s.govStore e.addr e.val e.rwl

/-- The input latch of a strike: at most one write takes effect. -/
def State.govLatch (s : State) : State :=
  match s.gov.queue with
  | [] => s
  | e :: r =>
    let s1 := { s with gov := { s.gov with queue := r } }
    (s1.setReg Reg.GOV_QSTAT_DEPTH r.length).govEffect e

/-- A write enters the queue, or is discarded (R307). RWL changes are judged now. -/
def State.govWrite (p : Path) (off w : Nat) (s : State) : State :=
  let pl := writePlan s off w
  let enter := fun (x : Option Session) =>
    if s.gov.queue.length < 64 then
      { s.setReg Reg.GOV_QSTAT_DEPTH (s.gov.queue.length + 1) with gov := { s.gov with
          queue := s.gov.queue ++ [{ addr := off, val := w, rwl := x }] } }
    else (s.setFlag Reg.GOV_STAT_QOVF true).note 0x0801 subjNone (leBytes 4 off)
  if pl.rwl = [] then enter none
  else match s.sessionOf p with
    | none => s.note 0x1201 subjNone (leBytes 4 off)
    | some x =>
      if s.clogRoom x then
        let t := enter (some x)
        { t with auth := { t.auth with session := some { x with lastAt := s.now } } }
      else s.raise 0x120B 1 subjNone (leBytes 4 off)

/-- GOV_WRITE (R307, R325). -/
def execGovWrite (path : Path) (off : Nat) (w : Word) (s : State) : Host.Outcome State Fault Refusal :=
  .next (if govAt off && !s.deaf then s.govWrite path off w.toNat else s)

/-! ## Inputs (R298) -/

/-- The highest temperature value among fitted inputs without U.
DEDUCED (log 83). -/
def State.tMax (s : State) (l : List Nat) : Option Int :=
  (l.filter fun j => s.tempFitted j && !(s.temp j).u).foldl (fun a j => match a with
    | none => some (s.tempValue j)
    | some v => some (max v (s.tempValue j))) none

/-- The value of a source, none where it is missing; `outs` are this strike's outputs of lower slots.
DEDUCED (log 81, 82). -/
def State.source (s : State) (r : StrikeRec) (outs : Tab Int) (n src idx : Nat) : Option Int :=
  let q := fun (num den : Int) => sat16 (nearest ((num : Rat) / (den : Rat)))
  let curOk := fun w => !bitAt r.miss 18 && !wD w
  let word := r.words.get (placeholder r.strike) idx
  match src with
  | 1 => some (signed 16 (s.reg (Reg.GOV_HOST_VAL idx)))
  | 2 => some (signed 16 (s.reg Reg.ENV_REF_ENVREF))
  | 3 =>
    let w := r.cur.getD r.sel 0
    if r.sel < 3 ∧ curOk w then some (q (r.iSel * 32768) (s.reg Reg.GOV_RATED_RATED * 10000)) else none
  | 4 => if curOk (wVstr r.cur) then some (q (wValue (wVstr r.cur) * 32768) 5000000) else none
  | 5 => if curOk (wVbus r.cur) then some (q (wValue (wVbus r.cur) * 32768) 5000000) else none
  | 6 => if wD word then none else some (signed 16 (word / 65536))
  | 7 => if (s.temp idx).u then none else some (s.tempValue idx)
  | 8 => some (if idx < n then outs.get 0 idx else if s.slotOn idx then (s.slot idx).out else 0)
  | 9 => s.tMax (if idx = 31 then List.range tempM else range (idx * 32) (idx * 32 + 32))
  | _ => some 0

/-- The two inputs of a slot; FF uses A alone. -/
def State.slotInputs (s : State) (r : StrikeRec) (outs : Tab Int) (n : Nat) : Option (Int × Int) :=
  match s.source r outs n (s.reg (Reg.GOV_SLOT_SRC_ASRC n)) (s.reg (Reg.GOV_SLOT_IDX_AIDX n)) with
  | none => none
  | some a =>
    if s.slotType n = slotFf then some (a, 0)
    else (s.source r outs n (s.reg (Reg.GOV_SLOT_SRC_BSRC n)) (s.reg (Reg.GOV_SLOT_IDX_BIDX n))).map fun b => (a, b)

/-! ## Arithmetic and slot types (R296, R297, R300, R302) -/

/-- A result with whether a saturation happened. -/
abbrev Sat := Int × Bool
/-- DEDUCED (log 86). -/
def satInt (v : Int) : Sat := (sat16 v, sat16 v != v)
/-- Q10.30 shifted, rounded to Q1.15 and saturated (R297). -/
def narrow (acc : Int) (sh : Nat) : Sat := satInt ((acc * 2 ^ sh + 16384) / 32768)

/-- One biquad section: its output, its history and its saturation. -/
def biqSection (c : Nat → Int) (sh : Nat) (x : Int) (h : Int × Int × Int × Int) : Sat × (Int × Int × Int × Int) :=
  let y := narrow (c 0 * x + c 1 * h.1 + c 2 * h.2.1 - c 3 * h.2.2.1 - c 4 * h.2.2.2) sh
  (y, (x, h.1, y.1, h.2.2.1))

/-- The cascade of sections from section `k` on. -/
def biqCascade (s : State) (n : Nat) : Nat → Nat → Int → List (Int × Int × Int × Int) → Sat × List (Int × Int × Int × Int)
  | 0, _, x, hs => ((x, false), hs)
  | m + 1, k, x, hs =>
    match hs with
    | [] => ((x, false), [])
    | h :: r =>
      let y := biqSection (fun j => s.coef n (6 * k + j)) (s.reg (Reg.GOV_SLOT_COEF_C n (6 * k + 5)) % 4) x h
      let t := biqCascade s n m (k + 1) y.1.1 r
      ((t.1.1, y.1.2 || t.1.2), y.2 :: t.2)

/-- A slot's new state and whether it saturated.
DEDUCED (log 86). -/
abbrev SlotStep := GovSlot × Bool

def State.biqStep (s : State) (n : Nat) (e : Sat) (x : GovSlot) : SlotStep :=
  let t := biqCascade s n (s.reg (Reg.GOV_SLOT_CFG_NSEC n) + 1) 0 e.1 x.sec
  ({ x with sec := t.2, out := s.slotLimit n t.1.1 }, e.2 || t.1.2)

/-- The derivative term of a PID: its saturation beside it. -/
def State.pidD (s : State) (n : Nat) (b : Int) (x : GovSlot) : Sat :=
  narrow (s.coef n 3 * x.d + s.coef n 2 * (x.bPrev.getD b - b) * 2 ^ (s.reg (Reg.GOV_SLOT_COEF_C n 4) % 4)) 0

def State.pidP (s : State) (n : Nat) (e : Int) : Int := s.coef n 0 * e * 2 ^ (s.reg (Reg.GOV_SLOT_COEF_C n 4) % 4)

def State.pidStep (s : State) (n : Nat) (e : Sat) (b : Int) (x : GovSlot) : SlotStep :=
  let lo := s.slotLo n
  let hi := s.slotHi n
  let ki := s.coef n 1 * e.1
  let wound := (x.out == hi && decide (0 < ki)) || (x.out == lo && decide (ki < 0))
  let i := if wound then x.i
    else clampInt (lo * 32768) (hi * 32768) (x.i + ki / 2 ^ (s.reg (Reg.GOV_SLOT_COEF_C n 5) % 16))
  let d := s.pidD n b x
  let o := narrow (s.pidP n e.1 + i + d.1 * 32768) 0
  ({ x with i := i, d := d.1, bPrev := some b, out := s.slotLimit n o.1 }, e.2 || d.2 || o.2)

def State.ffStep (s : State) (n : Nat) (a : Int) (x : GovSlot) : SlotStep :=
  let o := narrow (s.coef n 0 * a * 2 ^ (s.reg (Reg.GOV_SLOT_COEF_C n 2) % 4) + s.coef n 1 * 32768) 0
  ({ x with out := s.slotLimit n o.1 }, o.2)

/-- The phase of a REP slot advances, and the strikes since its memory was cleared count (R302). -/
def GovSlot.advance (len : Nat) (x : GovSlot) : GovSlot :=
  { x with p := (x.p + 1) % len, filled := x.filled + 1 }

/-- A REP slot that plays without learning: its memory, or 0 while it does not run (R299, R302, R303). -/
def State.repPlay (s : State) (n : Nat) (x : GovSlot) : GovSlot :=
  if s.repRuns n then { x.advance (s.repN n) with out := s.slotLimit n (x.mem.get 0 x.p) } else { x.cleared with out := s.slotLimit n 0 }

def State.repStep (s : State) (n : Nat) (e : Sat) (x : GovSlot) : SlotStep :=
  if s.repRuns n then
    let len := s.repN n
    let run := x.run + e.1 - x.ebuf.get 0 x.p
    let eac := satInt (e.1 - nearest ((run : Rat) / (len : Rat)))
    let y := { x.advance len with out := s.slotLimit n (x.mem.get 0 x.p), run := run, ebuf := x.ebuf.put x.p e.1 }
    if s.reg (Reg.GOV_SLOT_COEF_C n 4) % 2 = 1 ∧ len ≤ x.filled + 1 then
      let j := (x.p + len - s.repD n) % len
      let m := narrow (s.coef n 1 * x.mem.get 0 j + s.coef n 0 * eac.1) 0
      ({ y with mem := y.mem.put j (s.slotLimit n m.1) }, e.2 || eac.2 || m.2)
    else (y, e.2 || eac.2)
  else (s.repPlay n x, e.2)

/-- One computed strike of a slot.
DEDUCED (log 86). -/
def State.slotStep (s : State) (n : Nat) (i : Int × Int) (x : GovSlot) : SlotStep :=
  let e := satInt (i.1 - i.2)
  if s.slotType n = slotBiq then s.biqStep n e x
  else if s.slotType n = slotPid then s.pidStep n e i.2 x
  else if s.slotType n = slotFf then s.ffStep n i.1 x
  else s.repStep n e x

/-! ## Holding, FAIL, freezing, INHIBIT and tracking (R299, R305, R306, R313) -/

/-- A held slot: its output repeats, a REP slot plays. -/
def State.slotHeld (s : State) (n : Nat) (x : GovSlot) : GovSlot :=
  if s.slotType n = slotRep then s.repPlay n x else x

/-- A slot with DEST REF while INHIBIT is 1. -/
def State.slotInhibited (s : State) (n : Nat) (x : GovSlot) : GovSlot :=
  if s.slotType n = slotRep then s.repPlay n x else { x with out := s.slotLimit n 0 }

/-- A slot that enters FAIL: FAILVAL at its output, its state cleared, the integrator of a PID preset (R299). -/
def State.slotFailed (s : State) (n hold : Nat) : GovSlot :=
  let v := s.failValue n
  { GovSlot.zero with fail := true, out := v, hold := hold, i := if s.slotType n = slotPid then v * 32768 else 0 }

/-- The phase of a REP slot advances at a strike at which it does not play (R302). -/
def State.repAdvance (s : State) (n : Nat) (x : GovSlot) : GovSlot :=
  if s.slotType n = slotRep ∧ s.repRuns n then x.advance (s.repN n) else x

/-- An enabled slot at a strike; `release`: INHIBIT falls at this strike. It enters FAIL at the strike whose hold count reaches
HOLDMAX, and computes again from the 32nd strike in a row with every used input (R299).
DEDUCED (log 87, 88). -/
def State.slotEnabled (s : State) (inh release : Bool) (n : Nat) (i : Option (Int × Int)) (x0 : GovSlot) : SlotStep :=
  let isRef := s.slotDest n == destRef
  let x := if release && isRef && s.slotType n != slotRep then x0.cleared else x0
  if s.slotFrozen n then (s.repAdvance n x, false)
  else match i with
    | none =>
      let h := x.hold + 1
      if x.fail then ({ s.repAdvance n x with clean := 0, hold := h, out := s.failValue n }, false)
      else if s.reg (Reg.GOV_SLOT_CFG_HOLDMAX n) ≤ h then (s.slotFailed n h, false)
      else ({ (if inh && isRef then s.slotInhibited n x else s.slotHeld n x) with hold := h }, false)
    | some v =>
      if x.fail && decide (x.clean + 1 < 32) then
        ({ s.repAdvance n x with clean := x.clean + 1, hold := 0, out := s.failValue n }, false)
      else
        let y := { x with hold := 0, fail := false, clean := 0 }
        if inh && isRef then (s.slotInhibited n y, false) else s.slotStep n v y

/-- A disabled PID slot with TREN tracks slot TRACK; other disabled slots keep no state. -/
def State.slotTracks (s : State) (outs : Tab Int) (n : Nat) (i : Option (Int × Int)) (x : GovSlot) : SlotStep :=
  let t := s.reg (Reg.GOV_SLOT_CFG_TRACK n)
  if s.slotType n = slotPid ∧ s.flag (Reg.GOV_SLOT_CFG_TREN n) then
    match i with
    | none => (x, false)
    | some v =>
      let e := satInt (v.1 - v.2)
      let d := s.pidD n v.2 x
      let o := s.slotLimit n (outs.get 0 t)
      ({ x with d := d.1, bPrev := some v.2, out := o, tracked := true
                i := clampInt (s.slotLo n * 32768) (s.slotHi n * 32768) (o * 32768 - s.pidP n e.1 - d.1 * 32768) },
        e.2 || d.2)
  else (GovSlot.zero, false)

/-- What a slot shows (R325). -/
def State.slotShow (n : Nat) (sat_ : Bool) (on : Bool) (s : State) : State :=
  let x := s.slot n
  let s1 := s.setFields [(Reg.GOV_SLOT_STAT_OUT n, if on then unsigned 16 x.out else 0),
    (Reg.GOV_SLOT_STAT_HOLD n, bit (on && decide (0 < x.hold))), (Reg.GOV_SLOT_STAT_FAIL n, bit (on && x.fail)),
    (Reg.GOV_SLOT_STAT_PHASE n, if on && s.slotType n == slotRep then x.p else 0)]
  let s2 := (s1.setBit Reg.GOV_STAT_HOLD n (on && decide (0 < x.hold))).setBit Reg.GOV_STAT_FAIL n (on && x.fail)
  if sat_ then (s2.setFlag (Reg.GOV_SLOT_STAT_SAT n) true).setBit Reg.GOV_STAT_SAT n true else s2

/-- The slots in order: outputs of this strike so far beside the state, and the inputs of the disabled slots, a SLOT source of
which reads as that of an enabled slot does (R298). -/
def govSlot (r : StrikeRec) (inh release : Bool) (n : Nat) (a : State × Tab Int × Tab (Option (Int × Int))) :
    State × Tab Int × Tab (Option (Int × Int)) :=
  let s := a.1
  let i := s.slotInputs r a.2.1 n
  if s.slotOn n then
    let t := s.slotEnabled inh release n i (s.slot n)
    ((s.setSlot n t.1).slotShow n t.2 true, a.2.1.put n t.1.out, a.2.2)
  else (s, a.2.1.put n 0, a.2.2.put n i)

/-- Disabled slots, once every output is known. -/
def govTrack (outs : Tab Int) (ins : Tab (Option (Int × Int))) (n : Nat) (s : State) : State :=
  if s.slotOn n then s
  else
    let t := s.slotTracks outs n (ins.get none n) (s.slot n)
    (s.setSlot n t.1).slotShow n t.2 false

/-- The slots of a strike. -/
def State.govSlots (r : StrikeRec) (inh release : Bool) (s : State) : State :=
  let a := forEach (List.range 8) (govSlot r inh release) (s, [], [])
  forEach (List.range 8) (govTrack a.2.1 a.2.2) a.1

/-- SLOT_FAIL (R299): a slot whose hold count has reached HOLDMAX is in FAIL; the fault is raised.
DEDUCED (log 87). -/
def execSlotFail (n : Nat) (s : State) : Host.Outcome State Fault Refusal :=
  let x := s.slot n
  .next (if decide (n < 8) && s.slotOn n && (x.fail || decide (s.reg (Reg.GOV_SLOT_CFG_HOLDMAX n) ≤ x.hold))
        && !s.present 0x0803 (subjNum n) then
      ((if x.fail then s else s.setSlot n (s.slotFailed n x.hold)).raiseLevel 0x0803 1 (subjNum n) []).slotShow n false true
    else s)

/-- SLOT_FAIL_EXIT (R299): 32 strikes in a row had every used input, and the slot has computed again from the last of them.
DEDUCED (log 87). -/
def execSlotFailExit (n : Nat) (s : State) : Host.Outcome State Fault Refusal :=
  .next (if decide (n < 8) && s.slotOn n && !(s.slot n).fail && s.present 0x0803 (subjNum n) then
      s.goneAt 0x0803 (subjNum n)
    else s)

/-! ## The output stage (R310 to R314) -/

/-- The enabled slots of a destination. -/
def State.destSlots (s : State) (d : Nat) : List Nat := (List.range 8).filter fun n => s.slotOn n && s.slotDest n == d

/-- The sum of a destination: that of its slots' outputs, saturated once (R310). -/
def State.destSum (s : State) (d : Nat) : Sat :=
  satInt ((s.destSlots d).foldl (fun (a : Int) n => a + (s.slot n).out) 0)

/-- A saturated sum shows in every slot of its destination (R297).
DEDUCED (log 86); DESIGN CHOICE (log 288). -/
def State.destSat (d : Nat) (sat_ : Bool) (s : State) : State :=
  if sat_ then forEach (s.destSlots d) (fun n s =>
      (s.setFlag (Reg.GOV_SLOT_STAT_SAT n) true).setBit Reg.GOV_STAT_SAT n true) s
  else s

/-- INHIBIT (R312). -/
def State.inhibited (s : State) : Bool :=
  !(s.token && s.gov.change.isNone
    && ((s.conn == connClosed && s.env.connOk) || (s.conn == connOpening && !s.flag Reg.SLU_STAT_EMER && s.ramping)))

/-- inc_k: round(f_k × 2^32 / 32 000) (R192, R314). -/
def toneInc (k : Nat) : Nat :=
  [13422, 20645, 31755, 48844, 75130, 115562, 177753, 273413, 420553, 646877, 995000, 1530468, 2354103, 3620986,
    5569653, 8567013, 13177431, 20268987, 31176931, 47955085, 73762557, 113458561, 174517336, 268435456].getD k 0

/-- The peak of a tone, Q1.15 of RATED.
DESIGN CHOICE (log 303). -/
def State.toneAmp (s : State) : Int :=
  nearest ((s.reg Reg.EST_MDL_CTRL_DAMP : Rat) / 1000 / ((s.reg Reg.EST_MDL_CTRL_DTONES + 1 : Nat) : Rat) * 32768)

/-- A tone at strike `n`.
DESIGN CHOICE (log 303). -/
def Tone.at (t : Tone) (n : Nat) : Int :=
  nearest ((t.amp : Rat) * Config.sinTurn (((((n - t.n0) * toneInc t.k) % 2 ^ 32 : Nat) : Rat) / 4294967296))

/-- Puts a tone to others while there are no more than DTONES and the peaks stay within DAMP, to the rounding of each (R196). -/
def State.toneFits (s : State) (l : List Tone) (t : Tone) : Bool :=
  decide (l.length ≤ s.reg Reg.EST_MDL_CTRL_DTONES)
    && decide ((l.map (·.amp)).foldl (· + ·) t.amp ≤ nearest ((s.reg Reg.EST_MDL_CTRL_DAMP : Rat) / 1000 * 32768) + 2)

/-- Tones of a strike: those running go on, requested ones start with their block, within DTONES and DAMP, none beside another; none
while the conditions fail. -/
def State.tones (s : State) (inh : Bool) : List Tone :=
  if inh || !s.ditherMay then []
  else
    let go := (s.gov.tones.filter fun t => decide (1 < t.left)).map fun t => { t with left := t.left - 1 }
    let run := go.foldl (fun l t => if s.toneFits l t then l ++ [t] else l) []
    s.mdl.want.foldl (fun l k =>
      if s.now % blockLen k = 0 ∧ s.toneFits l { k := k, n0 := 0, left := 0, amp := s.toneAmp } ∧ !(l.any fun (t : Tone) => nearTone k t.k) then
        l ++ [{ k := k, n0 := s.now, left := 8 * blockLen k, amp := s.toneAmp : Tone }]
      else l) run

/-- The limits of the clamp at a strike: those latched, and the falling limit of an orderly opening (R311, R220).
DEDUCED (log 84). -/
def State.clampLimits (s : State) : Nat × Nat :=
  if s.ramping then
    let o := (s.ofRated ((s.slu.ordLim : Rat) / 320000)).toNat
    (min s.gov.dis o, min s.gov.chg o)
  else (s.gov.dis, s.gov.chg)

/-- REF of a strike, with CLAMP. -/
def clampRef (lim : Nat × Nat) (u : Int) : Int × Bool :=
  let r := min (max u (-(lim.2 : Int))) (lim.1 : Int)
  (r, r != u)

/-- The clamp limits converted with RATED: at strike 0, and at each strike of the hardware fall; they stay through a warm reset
(R311, R335).
DEDUCED (log 84). -/
def State.latchClamp (s : State) : State :=
  if (s.phase = 0 ∨ s.env.falling) ∧ !s.flag Reg.PWR_STAT_WARM then
    { s with gov := { s.gov with dis := (s.ofRated s.env.disA).toNat, chg := (s.ofRated s.env.chgA).toNat } }
  else s

/-- REF, dither and clamp of a strike (R311, R314). -/
def State.govRef (inh : Bool) (s : State) : State :=
  let sum := s.destSum destRef
  let ts := s.tones inh
  let us : Sat := if ts = [] then (sum.1, false) else satInt (sum.1 + ts.foldl (fun a t => a + t.at s.now) 0)
  let u := us.1
  let lim := s.clampLimits
  let rc := clampRef lim u
  let tb := ts.foldl (fun a t => putBit a t.k true) 0
  let s0 := s.destSat destRef (sum.2 || us.2)
  let s1 := s0.setFields [(Reg.GOV_SPT_STAT_INH, bit inh), (Reg.GOV_SPT_STAT_DITH, bit (ts != [])),
    (Reg.GOV_SPT_STAT_CLAMP, bit (!inh && rc.2)), (Reg.GOV_SPT_STAT_REF, if inh then 0 else unsigned 16 rc.1),
    (Reg.GOV_CLAMP_DIS, lim.1), (Reg.GOV_CLAMP_CHG, lim.2), (Reg.GOV_SPT_STAT_REFOK, bit (s.token && !inh)),
    (Reg.EST_DITH_TONE, tb), (Reg.EST_MDL_STAT_DITH, bit (ts != []))]
  { s1 with gov := { s1.gov with tones := ts }, mdl := { s1.mdl with want := s1.mdl.want.filter fun k =>
      !(ts.any fun t => t.k == k) } }

/-! ## The setpoint port and the analog output (R315 to R320) -/

/-- CRC-8 of a setpoint frame: polynomial 0x2F, initial value 0xFF, final XOR 0xFF, over bits 63 to 8. -/
def frameCrc (f : Nat) : Nat :=
  let step := fun (c b : Nat) =>
    let x := (c / 128) ^^^ b
    if x % 2 = 1 then (c * 2 % 256) ^^^ 0x2F else c * 2 % 256
  ((List.range 56).foldl (fun c k => step c (f / 2 ^ (63 - k) % 2)) 0xFF) ^^^ 0xFF

/-- Strikes since t0 of a MODE or ARANGE change, none before it.
DEDUCED (log 89). -/
def State.changeTime (s : State) : Option Nat :=
  match s.gov.change with
  | some c => if c.t0 ≤ s.now then some (s.now - c.t0) else none
  | none => none

/-- MODE as the outputs follow it at this strike: the old one until t0 (R320).
DEDUCED (log 89). -/
def State.modeNow (s : State) : Nat :=
  match s.gov.change, s.changeTime with
  | some c, none => c.mode
  | _, _ => s.reg Reg.GOV_SPT_CTRL_MODE

/-- The port sends frames at this strike. A change into the port sends its first frame at t0 + 2 ms.
DEDUCED (log 255). -/
def State.portOn (s : State) : Bool :=
  s.token && s.modeNow == 1 && match s.changeTime with
    | some t => decide (64 ≤ t)
    | none => true

/-- The output relay is closed at this strike (R318, R320, R322). -/
def State.relayOn (s : State) : Bool :=
  s.token && match s.gov.change, s.changeTime with
    | some c, some t =>
      (s.reg Reg.GOV_SPT_CTRL_MODE == 2 && decide (64 ≤ t))
        || (c.mode == 2 && s.reg Reg.GOV_SPT_CTRL_MODE != 1 && decide (t < 32))
    | _, _ => s.modeNow == 2

/-- A slot with DEST REF holds or is in FAIL. -/
def State.refHold (s : State) : Bool :=
  (List.range 8).any fun n =>
    s.slotOn n && s.slotDest n == destRef && (decide (0 < (s.slot n).hold) || (s.slot n).fail)

/-- A limit in units of RATED / 256, saturated.
DESIGN CHOICE (log 303). -/
def limByte (l : Nat) : Nat := sat 255 ((l + 64) / 128)

/-- The setpoint frame of a strike ("Table — Setpoint frame"). -/
def State.frameOf (s : State) (seq : Nat) : Nat :=
  let f := 0xB4 * 2 ^ 56 + seq * 2 ^ 48 + s.reg Reg.GOV_SPT_STAT_REF * 2 ^ 32 + s.now % 16 * 2 ^ 28
    + s.reg Reg.GOV_SPT_STAT_INH * 2 ^ 27 + s.reg Reg.GOV_SPT_STAT_DITH * 2 ^ 26 + s.reg Reg.GOV_SPT_STAT_CLAMP * 2 ^ 25
    + bit s.refHold * 2 ^ 24 + limByte (s.reg Reg.GOV_CLAMP_DIS) * 2 ^ 16 + limByte (s.reg Reg.GOV_CLAMP_CHG) * 2 ^ 8
  f + frameCrc f

/-- The port and AOUT at a strike; `read`: the readback equals the frame sent (R317).
DEDUCED (log 93, 255). -/
def State.govPort (read : Bool) (s : State) : State :=
  let seq := if s.gov.sending then (s.reg Reg.GOV_SPT_STAT_SEQ + 1) % 256 else 0
  let on := s.portOn
  let bad := if on && !read then s.gov.rbBad + 1 else 0
  let relay := s.relayOn
  let ok := (on && bad == 0) || (relay && s.gov.aoutBad == 0)
  let s1 := s.setFields [(Reg.GOV_SPT_STAT_SEQ, if on then seq else s.reg Reg.GOV_SPT_STAT_SEQ),
    (Reg.GOV_SPT_STAT_ACTIVE, bit (on && decide (bad < 2))), (Reg.GOV_SPT_STAT_RBOK, bit ok)]
  let s2 := { s1 with gov := { s1.gov with
    sending := on, rbBad := bad
    frame := if on then some (s1.frameOf seq) else none
    aout := if relay then some (if s.gov.change.isSome then 0 else signed 16 (s.reg Reg.GOV_SPT_STAT_REF)) else none } }
  if bad = 0 then s2.goneAt 0x0810 subjNone else s2

/-- The turn's readback of AOUT and of the actuators, in strike 31 (R319, R321). -/
def State.govReadback (aout : Bool) (act : Nat) (s : State) : State :=
  if s.phase = 31 then
    let abad := aout && s.gov.aout.isSome
    let bad := fun k => bitAt act k && s.token && bitsAt (s.reg Reg.GOV_ACT_CTRL_AMODE) (2 * k) 2 != 0
    let s1 := { s with gov := { s.gov with
      aoutBad := if abad then s.gov.aoutBad + 1 else 0
      actBad := (List.range 6).map fun k => (k, if bad k then s.gov.actBad.get 0 k + 1 else 0) } }
    let s2 := if abad then s1 else s1.goneAt 0x0811 subjNone
    forEach (List.range 6) (fun k s => if bad k then s else s.goneAt 0x0813 (subjNum k)) s2
  else s

/-- SETPOINT_READBACK_FAULT (R317). -/
def execSetpointReadbackFault (s : State) : Host.Outcome State Fault Refusal :=
  .next (if 2 ≤ s.gov.rbBad then s.raiseLevel 0x0810 3 subjNone [] else s)

/-- AOUT_READBACK_FAULT (R319). -/
def execAoutReadbackFault (s : State) : Host.Outcome State Fault Refusal :=
  .next (if 2 ≤ s.gov.aoutBad then s.raiseLevel 0x0811 3 subjNone [] else s)

/-- ACT_READBACK_FAULT (R321). -/
def execActReadbackFault (k : Nat) (s : State) : Host.Outcome State Fault Refusal :=
  .next (if 2 ≤ s.gov.actBad.get 0 k then s.raiseLevel 0x0813 1 (subjNum k) [] else s)

/-- ANALOG_RANGE_CHANGE (R320): 1.5 ms after t0 the gain network is switched to the new range, the relay open. -/
def execAnalogRangeChange (s : State) : Host.Outcome State Fault Refusal :=
  .next (match s.changeTime with
    | some t =>
      if 48 ≤ t then { s with gov := { s.gov with range := s.reg Reg.GOV_SPT_CTRL_ARANGE, aout := none } } else s
    | none => s)

/-- RANGE_CHANGE_COMPLETE (R320): 3 ms after t0, just before the strike that follows REF again.
DEDUCED (log 13). -/
def execRangeChangeComplete (s : State) : Host.Outcome State Fault Refusal :=
  .next (match s.changeTime with
    | some t =>
      if 95 ≤ t then
        { s.setFlag Reg.GOV_SPT_STAT_RCHG false with gov := { s.gov with
            change := none, range := s.reg Reg.GOV_SPT_CTRL_ARANGE } }
      else s
    | none => s)

/-! ## Actuators (R321, R337, R338) -/

/-- The faults that force a duty. -/
def forceCodes : List Nat := [0x0718, 0x0719, 0x071A, 0x071D]

/-- An enabled slot that is not in FAIL is assigned to an output. -/
def State.actLive (s : State) (k : Nat) : Bool :=
  s.power != pwBrake && (List.range 8).any fun n => s.slotOn n && s.slotDest n == k + 2 && !(s.slot n).fail

/-- One actuator output at a strike; `force`: R338 applies. -/
def State.actOut (force : Bool) (k : Nat) (s : State) : State :=
  let live := s.actLive k
  let off := !s.token || bitsAt (s.reg Reg.GOV_ACT_CTRL_AMODE) (2 * k) 2 == 0 || s.power == pwStandstill
  let d : Nat := if off then 0
    else if live then (s.destSum (k + 2)).1.toNat
    else (signed 16 (s.reg (Reg.GOV_ACT_FS_FSDUTY k))).toNat
  let f : Nat := (signed 16 (s.reg (Reg.GOV_ACT_FRC_FORCE k))).toNat
  let up := !off && force && s.flag (Reg.GOV_ACT_FRC_FEN k) && decide (d < f)
  (s.destSat (k + 2) (s.destSum (k + 2)).2).setFields [(Reg.GOV_ACT_OUT_DUTY k, if up then f else d), (Reg.GOV_ACT_OUT_FS k, bit (!live)),
    (Reg.GOV_ACT_FRC_ACTIVE k, bit up)]

/-- FORCED_DUTY and the actuators at a strike. -/
def State.govActs (s : State) : State :=
  let present := s.flt.active.any fun f => forceCodes.contains f.code
  let force := present || (s.gov.forcing && s.phase != 0)
  let s1 := forEach (List.range 6) (State.actOut force) s
  let up := (List.range 6).any fun k => s1.flag (Reg.GOV_ACT_FRC_ACTIVE k)
  let s2 := if up && !s.gov.forced then s1.note 0x0820 subjNone [] else s1
  { s2 with gov := { s2.gov with forcing := force, forced := up } }

/-! ## The Governor at a strike (R294) -/

/-- GOVERNOR_COMPUTE: `r` is the record of the strike. -/
def State.governor (i : StrikeIn) (r : StrikeRec) (s : State) : State :=
  let s1 := doIf (!s.deaf) State.govLatch s
  let s0 : State := { s1 with env := { s1.env with connOk := s1.env.connOk && s1.conn == connClosed } }
  let inh := s0.inhibited
  let s2 : State := { s0 with env := { s0.env with inh := if s0.phase = 20 then inh else s0.env.inh } }
  let release := s2.flag Reg.GOV_SPT_STAT_INH && !inh
  let s3 := ((s2.govSlots r inh release).latchClamp).govRef inh
  ((s3.govPort i.spRead).govActs).govReadback i.aoutBad i.actBad

end Sys2Proof.Machine
end

