-- ==== Sys2Proof/Machine/Millpond.lean ====
section
/-! DEFINITION. The Millpond: commits, captures, ECC and scrubbing (chapter 13, R342 to R356). -/
namespace Sys2Proof.Machine

/-- Turn slots of the strike ring and of the turn ring (R343). -/
def ringTurns : Nat := 172032

/-- Bytes of a strike record and of a turn slot. -/
def recBytes : Nat := 4672
def slotBytes : Nat := 149504

/-- Millpond address of the record of strike `n`, and of the turn record of turn `t` (R343). -/
def strikeAddr (n : Nat) : Nat := n / 32 % ringTurns * slotBytes + n % 32 * recBytes
def turnAddr (t : Nat) : Nat := 0x5FD000000 + t % ringTurns * 2560

/-- Regions of "Table — Millpond regions", by address. -/
inductive Region where
  | strikeRing | turnRing | safety | image | model | other
  deriving DecidableEq, Repr

/-- The region of a byte address (R342). -/
def regionOf (a : Nat) : Region :=
  if a < 0x5FD000000 then .strikeRing
  else if a < 0x617400000 then .turnRing
  else if a < 0x61B400000 then .safety
  else if a < 0x61B800000 then .image
  else if a < 0x67F800000 then .model
  else .other

/-! ## Commits (R344, R345) -/

/-- A record becomes visible: it overwrites the turn slot 172 032 turns older, and MPD_HEAD covers it. -/
def State.commitRec (e : StrikeRec × Option TurnRec) (s : State) : State :=
  let r := e.1
  let lo := strikeAddr r.strike / 8
  let s1 := s.setFields [(Reg.MPD_HEAD_LO_HEAD_LO, r.strike % 2 ^ 32), (Reg.MPD_HEAD_HI_HEAD_HI, r.strike / 2 ^ 32)]
  { s1 with mpd := { s1.mpd with
      head := r.strike
      recs := (r :: s1.mpd.recs).take (ringTurns * 32)
      turns := match e.2 with
        | some t => (t :: s1.mpd.turns).take ringTurns
        | none => s1.mpd.turns
      poison := s1.mpd.poison.filter fun w => (decide (w < lo) || decide (lo + recBytes / 8 ≤ w)) &&
        (match e.2 with
        | some t => decide (w < turnAddr t.turn / 8) || decide (turnAddr t.turn / 8 + 320 ≤ w)
        | none => true) } }

/-- INTAKE_COMMIT: a commit that is late, or stands behind a late one, waits (R344). -/
def State.intake (late : Bool) (r : StrikeRec) (t : Option TurnRec) (s : State) : State :=
  if late || s.mpd.late != [] then { s with mpd := { s.mpd with late := s.mpd.late ++ [(r, t)] } }
  else s.commitRec (r, t)

/-- INTAKE_COMMIT_LATE (R344): the oldest late commit completes.
DEDUCED (log 97). -/
def execIntakeCommitLate (s : State) : Host.Outcome State Fault Refusal :=
  .next (match s.mpd.late with
    | [] => s
    | e :: r => ({ s with mpd := { s.mpd with late := r } }.raise 0x0A06 3 subjNone []).commitRec e)

/-! ## ECC (R346, R352, R353) -/

/-- A strike record read wholly as placeholders. -/
def StrikeRec.placeheld (r : StrikeRec) : StrikeRec :=
  { r with words := [], used := [], cur := List.replicate 5 (placeholder r.strike), miss := 2 ^ 19 - 1 }

/-- A strike record with the 8 bytes at offset `b` poisoned: sample words become placeholders; the strike number, the
status word, the accumulator or the CRC take the whole record.
DEDUCED (log 96). -/
def StrikeRec.poison (b : Nat) (r : StrikeRec) : StrikeRec :=
  if b < 4608 then
    { r with words := (r.words.put (b / 4) (placeholder r.strike)).put (b / 4 + 1) (placeholder r.strike)
             used := r.used.filter fun g => g != b / 4 && g != b / 4 + 1 }
  else if 4616 ≤ b ∧ b < 4632 then
    { r with cur := (r.cur.set ((b - 4616) / 4) (placeholder r.strike)).set ((b - 4616) / 4 + 1) (placeholder r.strike) }
  else if 4648 ≤ b ∧ b < 4664 then r
  else r.placeheld

/-- The strike record whose bytes hold an address, poisoned there.
DEDUCED (log 96). -/
def poisonStrike (a : Nat) (r : StrikeRec) : StrikeRec :=
  let base := strikeAddr r.strike
  if base ≤ a ∧ a < base + recBytes then r.poison (a - base) else r

/-- A turn record that cannot be read: no input has a word of that turn, so that readers take each word as in the turn
before with NEW = 0 (R131), and no check has a result. -/
def TurnRec.unread (t : TurnRec) : TurnRec := { t with chkLast := List.replicate 18 0, temps := [] }

/-- The turn record whose bytes hold an address, poisoned. -/
def poisonTurn (a : Nat) (t : TurnRec) : TurnRec :=
  let base := turnAddr t.turn
  if base ≤ a ∧ a < base + 2560 then t.unread else t

/-- A position whose model state lies in a poisoned word: reinitialised, its outputs STALE until a completed step. -/
def State.modelLost (g : Nat) (s : State) : State :=
  let m := s.mdlPos g
  (s.setMdl g { m with out := m.out.map fun o => { o with stale := true } }).mdlFresh false g

/-- Bytes 4 636 to 4 639 of a strike record (R343). -/
def StrikeRec.status (r : StrikeRec) : Nat := r.miss % 2 ^ 19 + r.sel * 2 ^ 19

/-- The word of a channel: positions 0 to 1 151, then the CUR words (R424). -/
def StrikeRec.word (r : StrikeRec) (ch : Nat) : Nat :=
  if ch < 1152 then r.words.get (placeholder r.strike) ch else r.cur.getD (ch - 1152) (placeholder r.strike)

/-- The presence mask of a turn record: bit j set where input j has a word. -/
def presence (t : TurnRec) : List Nat :=
  (List.range 73).map fun k => (List.range 8).foldl (fun a i =>
    a + (if t.temps.any fun e => e.1 == k * 8 + i then 2 ^ i else 0)) 0

/-- A number with its byte `k` set. -/
def setByte (w k v : Nat) : Nat := w - w / 256 ^ k % 256 * 256 ^ k + v % 256 * 256 ^ k

/-- A strike record with one byte written. Where the strike number differs a reader finds another record (R346). -/
def StrikeRec.poke (b v : Nat) (r : StrikeRec) : StrikeRec :=
  if b < 4608 then { r with words := r.words.put (b / 4) (setByte (r.word (b / 4)) (b % 4) v) }
  else if b < 4616 then (if setByte r.strike (b - 4608) v = r.strike then r else r.placeheld)
  else if b < 4636 then
    { r with cur := r.cur.set ((b - 4616) / 4) (setByte (r.word (1152 + (b - 4616) / 4)) ((b - 4616) % 4) v) }
  else if b < 4640 then
    let w := setByte r.status (b - 4636) v
    { r with miss := w % 2 ^ 19, sel := w / 2 ^ 19 % 4 }
  else if b < 4648 then { r with acc := signed 64 (setByte (unsigned 64 r.acc) (b - 4640) v) }
  else r

/-- The bytes of a turn record but its CRC (R343). -/
def TurnRec.bytes (t : TurnRec) : List Nat :=
  let l := leBytes 8 t.turn ++ leBytes 2 t.temps.length ++ [bit t.captured, 0]
    ++ (List.range 18).flatMap (fun b => leBytes 4 (t.chkLast.getD b 0)) ++ presence t ++ [0, 0, 0]
    ++ t.temps.flatMap fun e => leBytes 4 e.2
  l ++ List.replicate (2556 - l.length) 0

/-- A turn record as its bytes say; the presence mask says which inputs have words. Where the turn number differs a reader
finds another record (R346). -/
def TurnRec.ofBytes (t : TurnRec) (l : List Nat) : TurnRec :=
  if leAt l 0 8 = t.turn then
    let js := (List.range 584).filter fun j => bitAt (l.getD (84 + j / 8) 0) (j % 8)
    { t with captured := bitAt (l.getD 10 0) 0, chkLast := (List.range 18).map fun b => leAt l (12 + 4 * b) 4
             temps := js.zipIdx.map fun e => (e.1, leAt l (160 + 4 * e.2) 4) }
  else t.unread

/-- The bytes of a write at address `a` that fall into `n` bytes from `base`, with their offsets. -/
def inRecord (a : Nat) (bytes : List Nat) (base n : Nat) : List (Nat × Nat) :=
  (bytes.zipIdx.filter fun e => decide (base ≤ a + e.2) && decide (a + e.2 < base + n)).map fun e =>
    (a + e.2 - base, e.1)

/-- A write of bytes to the Millpond by address (R342, R580): what the rings hold there changes with it, and what it
writes is poisoned no longer (R353).
DESIGN CHOICE (log 10). -/
def State.millpondWrite (a : Nat) (bytes : List Nat) (s : State) : State :=
  let s1 := s.writeMem 4 a bytes
  { s1 with mpd := { s1.mpd with
      recs := s1.mpd.recs.map fun r =>
        (inRecord a bytes (strikeAddr r.strike) recBytes).foldl (fun r e => r.poke e.1 e.2) r
      turns := s1.mpd.turns.map fun t => match inRecord a bytes (turnAddr t.turn) 2556 with
        | [] => t
        | es => t.ofBytes (es.foldl (fun l e => l.set e.1 (e.2 % 256)) t.bytes)
      poison := s1.mpd.poison.filter fun w => decide (w * 8 + 8 ≤ a) || decide (a + bytes.length ≤ w * 8) } }

/-- What an uncorrectable word does by its region (R352); `units` names the positions whose model state, or the chunks by CSEQ in
Hopper staging, that the word lies in.
DESIGN CHOICE (log 269). -/
def State.poisonRegion (a : Nat) (units : List Nat) (s : State) : State :=
  match regionOf a with
  | .strikeRing =>
    { s with mpd := { s.mpd with recs := s.mpd.recs.map (poisonStrike a) } }.raise 0x0A02 1 subjNone []
  | .turnRing => { s with mpd := { s.mpd with turns := s.mpd.turns.map (poisonTurn a) } }.raise 0x0A02 1 subjNone []
  | .safety => s.raise 0x0A03 3 subjNone []
  | .image => { s with sys := { s.sys with done := 4 :: s.sys.done } }.raise 0x0A03 3 subjNone []
  | .model => forAll units State.modelLost (s.note 0x0A04 subjNone [])
  | .other =>
    let lost := if 0x6EF800000 ≤ a ∧ a < 0x7AF800000 then
      s.hop.staging.filter fun c => units.contains c.seq else []
    { s with hop := { s.hop with
        staging := s.hop.staging.filter fun c => !lost.contains c
        gaps := s.hop.gaps ++ lost.map fun (c : Chunk) => (c.first, c.turns, if c.gap then c.cause else 1) } }.raise
      0x0A05 1 subjNone []

/-- Strikes in an hour. -/
def hourStrikes : Nat := 3600 * secStrikes

/-- A corrected word (R353): 0x0A01 above 16 in an hour. -/
def State.eccCorrected (s : State) : State :=
  let l := s.now :: s.mpd.corrected.filter fun t => decide (s.since t < hourStrikes)
  let s1 := { s with mpd := { s.mpd with corrected := l } }.addSat Reg.MPD_ECC_CNT_CORR 1
  if 16 < l.length then { s1 with mpd := { s1.mpd with corrected := [] } }.raise 0x0A01 1 subjNone [] else s1

/-- Distinct numbers of a list. -/
def distinct (l : List Nat) : List Nat := l.foldl (fun a x => if a.contains x then a else x :: a) []

/-- An uncorrectable word at an address in units of 8 B (R352, R353): 0x0A0A at 4 distinct blocks in an hour. -/
def State.eccBad (w : Nat) (pos : List Nat) (s : State) : State :=
  let l := (s.now, w / 8) :: s.mpd.uncorrected.filter fun (e : Nat × Nat) => decide (s.since e.1 < hourStrikes)
  let s1 := { s with mpd := { s.mpd with
    uncorrected := l, poison := if s.mpd.poison.contains w then s.mpd.poison else w :: s.mpd.poison } }
  let s2 := ((s1.addSat Reg.MPD_ECC_CNT_UNCORR 1).setFields
    [(Reg.MPD_ECC_ADDR_ADDR, w / 8), (Reg.MPD_ECC_ADDR_VALID, 1)]).poisonRegion (w * 8) pos
  if 4 ≤ (distinct (l.map (·.2))).length then
    { s2 with mpd := { s2.mpd with uncorrected := [] } }.raise 0x0A0A 3 subjNone []
  else s2

/-- ECC_ERROR: what a reader finds, taken in turn. -/
def State.ecc (e : EccIn) (s : State) : State :=
  let s1 := forAll e.corrected (fun _ s => s.eccCorrected) s
  forAll e.bad (fun (w : Nat × List Nat) s => s.eccBad w.1 w.2) s1

/-- Strikes of a scrub pass. -/
def State.scrubTime (s : State) : Nat := s.reg Reg.MPD_SCRUB_HOURS * hourStrikes

/-- SCRUB_PASS (R353): a pass of HOURS hours ends and the next begins.
DEDUCED (log 219). -/
def execScrubPass (e : EccIn) (s : State) : Host.Outcome State Fault Refusal :=
  .next (if s.flag Reg.MPD_STAT_READY && decide (s.scrubTime ≤ s.since s.mpd.scrubAt) then
      let s1 := s.ecc e
      { s1 with mpd := { s1.mpd with scrubAt := s.now } }
    else s)

end Sys2Proof.Machine
end

