-- ==== Sys2Proof/Machine/Rings.lean ====
section
/-! DEFINITION. Functions, rings, doorbells, entries, interrupts and wake (chapter 14). -/
namespace Sys2Proof.Machine

/-! ## Functions (R359, R365, R386) -/

def State.fn (s : State) (n : Nat) : HostFn := s.hif.fns.get HostFn.initial n
def State.setFn (n : Nat) (f : HostFn) (s : State) : State := { s with hif := { s.hif with fns := s.hif.fns.put n f } }
def State.updFn (n : Nat) (f : HostFn → HostFn) (s : State) : State := s.setFn n (f (s.fn n))

/-- The link is up (HIF_LINK.GEN). -/
def State.linkUp (s : State) : Bool := s.reg Reg.HIF_LINK_GEN != 0

/-- The identity of function `n`: PF0, or a VF, which takes its vendor through SR-IOV (R44, R358, R359). -/
def State.pciIdentity (s : State) (n : Nat) : PciIdentity :=
  let caps : List PciCap := [.powerManagement, .pciExpress, .msix, .aer, .ari]
  let pf := n == 0
  { vendor := 0x1F9B, device := if pf then 0x1152 else 0x1153, classCode := 0x118000, subVendor := 0x1F9B, subsystem := 0x0480
    intPin := 0, caps := if pf then caps ++ [.sriov, .serialNumber] else caps, vectors := if pf then 64 else 32
    serialNo := if pf then some s.serial else none
    vfs := if pf then some (1, 1, if s.hif.ari then 255 else 7) else none }

/-- PF0, and the VFs that exist (R359). -/
def State.fnExists (s : State) (n : Nat) : Bool := decide (n ≤ s.hif.numVf)

/-- A function is suspended (R386). -/
def State.suspended (s : State) (n : Nat) : Bool := !((s.fn n).d0 && (s.fn n).bme && s.linkUp && s.fnExists n)

/-- The path of a function's registers. -/
def fnPath (n : Nat) : Path := if n = 0 then .pf0 else .vf n

/-- Privileges in force (R365): READ 0, DISPATCH 1, HOSTIN 2, CAPTURE 3, REPLAY 4, SNAP 5. -/
def State.privilege (s : State) (n b : Nat) : Bool := s.bitOf (Reg.HIF_FN_PRIVn_PRIV n) b

/-! ## Rings -/

/-- The number a ring is kept under. -/
def ringKey (fn r : Nat) : Nat := fn * 1024 + r

def State.ring? (s : State) (fn r : Nat) : Option Ring := (s.hif.rings.find? fun e => e.1 == ringKey fn r).map (·.2)
def State.setRing (fn r : Nat) (x : Ring) (s : State) : State :=
  { s with hif := { s.hif with rings := s.hif.rings.put (ringKey fn r) x } }
def State.updRing (fn r : Nat) (f : Ring → Ring) (s : State) : State :=
  match s.ring? fn r with
  | some x => s.setRing fn r (f x)
  | none => s
def State.dropRing (fn r : Nat) (s : State) : State :=
  { s with hif := { s.hif with rings := s.hif.rings.drop (· == ringKey fn r) } }

/-- Rings of a function loaded. -/
def State.ringsOf (s : State) (fn : Nat) : List (Nat × Ring) := s.hif.rings.filter fun e => e.1 / 1024 == fn

def kindCmd : Nat := 1
def kindCpl : Nat := 2
def kindEvt : Nat := 3
def kindFlm : Nat := 4

/-- Ring kinds that the host produces. -/
def Ring.fromHost (x : Ring) : Bool := x.kind == kindCmd || x.kind == kindFlm

/-- Entries of a ring. -/
def Ring.size (x : Ring) : Nat := 2 ^ x.log2n

/-- The difference of two free-running indices (R373). -/
def idxSub (a b : Nat) : Nat := (a + (2 ^ 32 - b % 2 ^ 32)) % 2 ^ 32

/-- Phase of an index (R373). -/
def phaseOf (log2n i : Nat) : Nat := if bitAt i log2n then 0 else 1

/-- The host address of an entry: 64 B in a CMD ring, 32 B in the others. -/
def Ring.slot (x : Ring) (i : Nat) : Nat := x.base + i % x.size * (if x.kind = kindCmd then 64 else 32)

/-- A flume serves the ring. -/
def State.flume? (s : State) (fn r : Nat) : Option Flume := (s.hif.flumes.find? fun e => e.1 == ringKey fn r).map (·.2)

/-- An entry waits to be written to a ring. -/
def State.entryWaits (s : State) (fn r : Nat) : Bool := s.hif.ready.any fun e => e.1 == fn && e.2.ring == r

/-- A context is busy (R372). -/
def State.ctxBusy (s : State) (k : Nat) : Bool :=
  let fn := k / 1024
  let r := k % 1024
  (match s.ring? fn r with | some x => x.flight != [] | none => false)
    || (match s.flume? fn r with | some f => f.buf.isSome | none => false) || s.entryWaits fn r

/-! ## Interface errors (R384, R391) -/

/-- The module wrote to host memory. -/
def State.hostWrite (fn addr : Nat) (l : List Nat) (s : State) : State :=
  { s with hif := { s.hif with writes := s.hif.writes ++ [(fn, addr, l)] } }

/-- Nothing has been sent to the host by the command in hand. -/
def State.quiet (s : State) : State := { s with hif := { s.hif with writes := [], msgs := [], pmes := [], svcOut := [] } }

/-! ## The context cache (R369, R372) -/

/-- Bytes 32 to 63 of a context as they are written back; `head` is bytes 0 to 31. -/
def Ring.owned (x : Ring) (head : List Nat) : List Nat :=
  let l := head ++ leBytes 4 x.midx ++ leBytes 4 x.hidx ++ [bit x.armed + 2 * bit x.error, 0, 0, 0] ++ leBytes 4 x.drop
    ++ List.replicate 12 0
  (l ++ leBytes 4 (crc32 l)).drop 32

/-- The host-owned bytes of a context. -/
def Ring.head (x : Ring) : List Nat :=
  leBytes 8 x.base ++ [x.kind, x.log2n] ++ leBytes 2 x.pair ++ [x.vec + 128 * bit x.ien, x.modcnt] ++ leBytes 2 x.modtime
    ++ [x.minCls + 8 * bit x.clr] ++ List.replicate 15 0

/-- The address of a ring's context (R368). -/
def State.ctxAddr (s : State) (fn r : Nat) : Nat :=
  s.reg (Reg.HIF_FN_RCT_HI_BASE_HI fn) * 2 ^ 32 + s.reg (Reg.HIF_FN_RCT_LO_BASE_LO fn) * 65536 + r * 64

/-- The module-owned bytes of a ring are written back. -/
def State.writeBack (fn r : Nat) (s : State) : State :=
  match s.ring? fn r with
  | some x => s.hostWrite fn (s.ctxAddr fn r + 32) (x.owned x.head)
  | none => s

/-- The least recently used context that is not busy. -/
def State.evictable (s : State) : Option Nat := s.hif.cache.reverse.find? fun k => !s.ctxBusy k

/-- A context comes to the front of the cache; none where every cached context is busy. -/
def State.cacheIn (fn r : Nat) (s : State) : Option State :=
  let k := ringKey fn r
  let front := fun (s : State) => { s with hif := { s.hif with cache := k :: s.hif.cache.filter (· != k) } }
  if s.hif.cache.contains k ∨ s.hif.cache.length < 4096 then some (front s)
  else match s.evictable with
    | some v =>
      let s1 := s.writeBack (v / 1024) (v % 1024)
      some (front { s1 with hif := { s1.hif with cache := s1.hif.cache.filter (· != v) } })
    | none => none

/-- Work for a ring needs its context: a miss is counted, and the work waits while every cached context is busy. -/
def State.needCtx (fn r : Nat) (s : State) : State × Bool :=
  let s1 := if s.hif.cache.contains (ringKey fn r) then s else s.addSat (Reg.HIF_FN_CACHE_MISS fn) 1
  match s1.cacheIn fn r with
  | some t => (t, true)
  | none => (s1, false)

/-- A context leaves the cache. -/
def State.cacheOut (fn r : Nat) (s : State) : State :=
  { s with hif := { s.hif with cache := s.hif.cache.filter (· != ringKey fn r) } }

/-! ## Interrupts (R382) -/

/-- A message of a vector, or its pending bit: a suspended function sends no message (R382, R387).
DEDUCED (log 298). -/
def State.sendVector (fn v : Nat) (s : State) : State :=
  let f := s.fn fn
  if f.msix && f.unmasked.contains v && !s.suspended fn then { s with hif := { s.hif with msgs := s.hif.msgs ++ [(fn, v)] } }
  else s.setFn fn { f with pend := v :: f.pend.filter (· != v) }

/-- The message of a ring, which is then disarmed. -/
def State.ringSignal (fn r : Nat) (s : State) : State :=
  match s.ring? fn r with
  | some x => if x.ien && x.armed then (s.setRing fn r { x with armed := false }).sendVector fn x.vec else s
  | none => s

/-- The signal conditions after an entry has been written. -/
def State.ringWritten (fn r : Nat) (irq : Bool) (s : State) : State :=
  match s.ring? fn r with
  | some x =>
    let y := { x with since := x.since + 1, firstAt := x.firstAt.or (some s.now) }
    let s1 := s.setRing fn r y
    if irq || decide (max 1 x.modcnt ≤ y.since) then s1.ringSignal fn r else s1
  | none => s

/-- MODTIME_EXPIRY. -/
def execModtimeExpiry (fn r : Nat) (s : State) : Host.Outcome State Fault Refusal :=
  .next (match s.ring? fn r with
    | some x =>
      match x.firstAt with
      | some t =>
        if x.ien && x.armed && x.modtime != 0 && !x.fromHost && decide (x.modtime * 32 ≤ s.since t * 1000) && s.linkUp then
          (s.quiet).ringSignal fn r
        else s
      | none => s
    | none => s)

/-- The pending messages of a function go out where their vectors are unmasked and the function is not suspended.
DEDUCED (log 298). -/
def State.sendPending (fn : Nat) (s : State) : State :=
  let f := s.fn fn
  if f.msix && !s.suspended fn then
    let out := f.pend.filter f.unmasked.contains
    let s1 := s.setFn fn { f with pend := f.pend.filter fun v => !f.unmasked.contains v }
    { s1 with hif := { s1.hif with msgs := s1.hif.msgs ++ out.map fun v => (fn, v) } }
  else s

/-- VECTOR_UNMASK: MSI-X enabled or not, and the vectors unmasked; pending messages go out (R382). -/
def execVectorUnmask (fn : Nat) (enable : Bool) (unmasked : List Nat) (s : State) : Host.Outcome State Fault Refusal :=
  .next (if s.fnExists fn && s.linkUp then
      (s.quiet.updFn fn fun f => { f with
        msix := enable, unmasked := unmasked.filter (· < (if fn = 0 then 64 else 32)) }).sendPending fn
    else s)

/-! ## Time of a write (R383, R469) -/

/-- The hardware clock now, in 2^-16 ns: the strike's instant and a part of a strike that no rule gives; 0 until it is set
(R460).
DESIGN CHOICE (log 106). -/
def State.clockNow (s : State) : Nat :=
  if s.flag Reg.TIM_STAT_SET then s.now * 31250 * 65536 + Config.freeNat s.free % (31250 * 65536) else 0

/-- A part of a strike has been taken. -/
def State.took (s : State) : State := { s with free := s.free + 1 }

/-- Client time of a hardware clock time, in 2^-16 ns (R469). -/
def HostFn.clientTime (f : HostFn) (h : Nat) : Nat :=
  let c : Int := (h : Int) + f.ofs * 65536 + f.rate * ((h : Int) - f.a) / 1000000000000
  (clampInt 0 (2 ^ 48 * 1000000000 * 65536 - 1) c).toNat

/-- The 12 bytes of a timestamp (R12).
DESIGN CHOICE (log 106). -/
def stampBytes (t : Nat) : List Nat :=
  leBytes 6 (t / 65536 / 1000000000) ++ leBytes 4 (t / 65536 % 1000000000) ++ leBytes 2 (t % 65536)

/-! ## Entries (R374, R376, R378, R387, R389) -/

/-- The 32 bytes of an entry. -/
def HostEntry.bytes (e : HostEntry) (ts : List Nat) (ph : Nat) : List Nat :=
  let info := if e.evt then 7 else 10
  let mark := if e.evt then 2 * bit e.delayed + 8 * bit e.again else 2 * bit e.delayed + 4 * bit e.again
  (e.lead.set info (e.lead.getD info 0 + mark)) ++ ts ++ e.tail ++ [ph]

/-- Entries not yet written, of a ring: indices MIDX to HIDX + N (R373).
DESIGN CHOICE (log 17). -/
def Ring.free (x : Ring) : Bool := decide (idxSub x.midx x.hidx < x.size)

/-- Writes an entry at MIDX of its ring, with its timestamp and phase; its snapshot counts as delivered (R374, R383,
R403). -/
def State.putEntry (fn r : Nat) (e : HostEntry) (s : State) : State :=
  match s.ring? fn r with
  | some x =>
    let ts := stampBytes ((s.fn fn).clientTime s.clockNow)
    let s1 := s.took.hostWrite fn (x.slot x.midx) (e.bytes ts (phaseOf x.log2n x.midx))
    let s2 := s1.setRing fn r { x with midx := (x.midx + 1) % 2 ^ 32 }
    let s3 := s2.updFn fn fun f => { f with issued := (f.issued ++ [e]).drop (f.issued.length + 1 - 16) }
    let s4 := match e.snap with
      | some g => { s3 with est := { s3.est with deliver := s3.est.deliver ++ [g] } }
      | none => s3
    s4.ringWritten fn r e.irq
  | none => s

/-- A held entry is discarded (R387). -/
def State.heldFull (fn : Nat) (s : State) : State := s.hifFault fn 0 0x0B08

/-- Holds an entry of a suspended function; one that finds 4 096 is discarded (R387). -/
def State.hold (fn : Nat) (e : HostEntry) (s : State) : State :=
  if (s.fn fn).held.length < 4096 then s.updFn fn fun f => { f with held := f.held ++ [{ e with delayed := true }] }
  else s.heldFull fn

/-- An entry is due to a ring of a function.
DEDUCED (log 119). -/
def State.post (fn : Nat) (e : HostEntry) (s : State) : State :=
  if s.suspended fn then s.hold fn e
  else { s with hif := { s.hif with ready := s.hif.ready ++ [(fn, e)] } }

/-- The overflow entry of an EVT ring (R378).
DEDUCED (log 119). -/
def Ring.overflow (x : Ring) (r : Nat) : HostEntry :=
  { evt := true, ring := r, lead := leBytes 4 x.dropSeq ++ leBytes 2 0x0B07 ++ [0, 4] ++ leBytes 8 x.dropStrike
    tail := leBytes 2 (sat 0xFFFF x.drop) ++ [0], delayed := false, again := false, irq := false, snap := none }

/-- The first entry that a ring may be written now: held entries of the ring come first (R389). -/
def State.nextReady (s : State) (fn r : Nat) : Option HostEntry :=
  if (s.fn fn).held.any fun e => e.ring == r then none
  else (s.hif.ready.find? fun e => e.1 == fn && e.2.ring == r).map (·.2)

/-- Takes the first ready entry of a ring away. -/
def State.unready (fn r : Nat) (s : State) : State :=
  { s with hif := { s.hif with ready := s.hif.ready.eraseP fun e => e.1 == fn && e.2.ring == r } }

/-- A ring takes entries. -/
def Ring.writable (x : Ring) : Bool := !x.fromHost && !x.error && x.unloading.isNone && x.free

/-- ENTRY_WRITE: the oldest entry ready for a ring, or the overflow entry of an EVT ring (R374, R378). -/
def execEntryWrite (fn r : Nat) (s : State) : Host.Outcome State Fault Refusal :=
  .next (match s.ring? fn r with
    | some x =>
      if x.writable && !s.suspended fn && !s.hif.turnOff && s.appsRun then
        match s.nextReady fn r with
        | some e =>
          let c := s.quiet.needCtx fn r
          if c.2 then (c.1.unready fn r).putEntry fn r e else c.1
        | none =>
          if x.drop = 0 then s
          else
            let c := s.quiet.needCtx fn r
            if c.2 then (c.1.setRing fn r { x with drop := 0 }).putEntry fn r (x.overflow r) else c.1
      else s
    | none => s)

/-- The ring of a held entry is loaded with the same kind.
DEDUCED (log 99). -/
def State.heldHome (s : State) (fn : Nat) (e : HostEntry) : Bool :=
  match s.ring? fn e.ring with
  | some x => x.kind == (if e.evt then kindEvt else kindCpl)
  | none => false

/-- HELD_ENTRY_FLUSH: the first held entry whose ring is loaded is written (R389).
DEDUCED (log 98). -/
def execHeldEntryFlush (fn : Nat) (s : State) : Host.Outcome State Fault Refusal :=
  .next (if !s.suspended fn && !s.hif.turnOff && s.appsRun then
      match (s.fn fn).held.find? (s.heldHome fn) with
      | some e =>
        match s.ring? fn e.ring with
        | some x =>
          if x.writable then
            let c := s.quiet.needCtx fn e.ring
            if c.2 then (c.1.updFn fn fun f => { f with held := f.held.erase e }).putEntry fn e.ring e else c.1
          else s
        | none => s
      | none => s
    else s)

/-- HOLD_TIMEOUT: entries whose ring was not reloaded within HOLD_TO (R389). -/
def execHoldTimeout (fn : Nat) (s : State) : Host.Outcome State Fault Refusal :=
  .next (if !s.suspended fn && decide (s.reg Reg.HIF_HOLD_HOLD_TO * secStrikes ≤ s.since (s.fn fn).resumedAt)
        && (s.fn fn).held.any (fun e => !s.heldHome fn e) then
      (s.updFn fn fun f => { f with held := f.held.filter (s.heldHome fn) }).hifFault fn 0 0x0B08
    else s)

/-! ## Wake (R386, R388) -/

/-- PM_PME of a function.
DEDUCED (log 103). -/
def State.sendPme (fn : Nat) (s : State) : State :=
  let s1 := s.updFn fn fun f => { f with pmeAt := s.now + 1 }
  { s1 with hif := { s1.hif with pmes := s1.hif.pmes ++ [fn] } }

/-- A wake source arises in a suspended function.
DEDUCED (log 103). -/
def State.wakeSource (fn : Nat) (s : State) : State :=
  let f := s.fn fn
  if f.pmeEn && !(f.d0 && s.linkUp && !s.hif.turnOff) then
    let s1 := s.setFn fn { f with pmeStatus := true }
    if s.flag Reg.HIF_LINK_PERST then s1.setFlag Reg.HIF_LINK_WAKE true
    else if s.linkUp && !s.hif.turnOff then s1.sendPme fn
    else s1
  else s

/-- An event entry for a record with sequence number `seq` (R378). -/
def EvRec.entry (e : EvRec) (seq r : Nat) : HostEntry :=
  { evt := true, ring := r
    lead := leBytes 4 seq ++ leBytes 2 e.code ++ [e.cls, bit e.clear] ++ leBytes 8 e.strike
    tail := [0, 0, 0], delayed := false, again := false, irq := false, snap := none }

/-- A record reaches one EVT ring of a function: held, due, or counted as not written (R378, R387).
DEDUCED (log 99, 107). -/
def State.eventTo (fn seq : Nat) (e : EvRec) (r : Nat) (s : State) : State :=
  let x := e.entry seq r
  if s.suspended fn then
    let s1 := s.hold fn x
    if s.flag (Reg.HIF_FN_WAKE_WEN fn) && decide (s.reg (Reg.HIF_FN_WAKE_WCLS fn) ≤ e.cls) then s1.wakeSource fn else s1
  else match s.ring? fn r with
    | none => s.hold fn x
    | some g =>
      if g.kind != kindEvt || g.error || g.unloading.isSome then s
      else
        let waits := countIf (fun w => w.1 == fn && w.2.ring == r) s.hif.ready
        if g.drop = 0 ∧ idxSub g.midx g.hidx + waits < g.size then
          { s with hif := { s.hif with ready := s.hif.ready ++ [(fn, x)] } }
        else
          (s.setRing fn r { g with
            drop := g.drop + 1, dropSeq := if g.drop = 0 then seq else g.dropSeq
            dropStrike := if g.drop = 0 then e.strike else g.dropStrike }).hifFault fn r 0x0B07

/-- A committed event record reaches every EVT ring that takes it (R378). -/
def State.hostEvent (seq : Nat) (e : EvRec) (s : State) : State :=
  forAll s.hif.fns (fun f s =>
    forAll (f.2.subs.filter fun u => decide (u.2.1 ≤ e.cls) && (!e.clear || u.2.2))
      (fun u s => s.eventTo f.1 seq e u.1) s) s

/-! ## Commands in flight (R371, R375, R376) -/

/-- A ring has finished unloading: bytes 32 to 63 are written back and BUSY clears (R371). -/
def State.unloaded (fn r : Nat) (s : State) : State :=
  ((((s.writeBack fn r).dropRing fn r).cacheOut fn r).setFlag (Reg.HIF_FN_RING_OPSTAT_BUSY fn) false).updFn fn fun f =>
    { f with subs := f.subs.filter fun u => u.1 != r }

/-- A completion entry ("Table — Completion entry").
DEDUCED (log 133). -/
def cplEntry (pair cid ring head status info result : Nat) (irq : Bool) (snap : Option SnapFig) : HostEntry :=
  { evt := false, ring := pair
    lead := leBytes 4 cid ++ leBytes 2 ring ++ leBytes 2 head ++ leBytes 2 status ++ [info, 0]
    tail := leBytes 6 result ++ [0], delayed := false, again := false, irq := irq, snap := snap }

/-- A message to a service connection: an output of the command in hand, and a frame of its port (R458, R562). -/
def State.svcSend (conn : Nat) (l : List Nat) (s : State) : State :=
  let n := (s.hif.conns.get { role := 0, port := 0, client := [], lastAt := 0 } conn).port
  { s with hif := { s.hif with svcOut := s.hif.svcOut ++ [(conn, l)] } }.txPut n (s.svcFrame n l)

/-- A COMPLETION message of a service connection (R562): RING 0xFFFF, TS in hardware clock time.
DEDUCED (log 133). -/
def State.svcComplete (conn : Nat) (c : CmdRef) (y : Reply) (s : State) : State :=
  if s.hif.conns.all fun k => k.1 != conn then s
  else
  let e := (cplEntry 0 c.cid 0xFFFF 0 y.status 0 y.result false none).bytes (stampBytes s.clockNow) 0
  s.took.svcSend conn (leBytes 2 2 ++ leBytes 2 c.ring ++ leBytes 4 e.length ++ e)

/-- A command completes: its completion entry is due to the CPL ring of its ring, and a ring that unloads with nothing
left in flight is done. -/
def State.completeWith (c : CmdRef) (y : Reply) (snap : Option SnapFig) (s : State) : State :=
  match c.svc with
  | some conn => s.svcComplete conn c y
  | none =>
    match s.ring? c.fn c.ring with
    | none => s
    | some x =>
      let fl := x.flight.erase c
      let s1 := s.setRing c.fn c.ring { x with flight := fl }
      let s2 := s1.post c.fn (cplEntry x.pair c.cid c.ring c.head y.status 0 y.result c.irq snap)
      if x.unloading.isSome && fl == [] then s2.unloaded c.fn c.ring else s2

def State.complete (c : CmdRef) (y : Reply) (s : State) : State := s.completeWith c y none

/-- An eject whose command is given up. -/
def HopSlot.give (c : CmdRef) (x : HopSlot) : HopSlot :=
  if x.ejectCmd = some c then { x with ejectAt := none, ejectCmd := none } else x

/-- A deferred command is given up before its point of effect. -/
def State.abortCmd (c : CmdRef) (s0 : State) : State :=
  let s := match s0.sec.live with
    | some l => if l.cmd = c then s0.liveRevert else s0
    | none => s0
  { s with
    sec := { s.sec with stage := s.sec.stage.filter fun e => e.1 != c }
    hop := { s.hop with a := s.hop.a.give c, b := s.hop.b.give c }
    slu := { s.slu with reqs := s.slu.reqs.filter fun q => q.cmd != some c }
    auth := { s.auth with closeCmd := if s.auth.closeCmd = some c then none else s.auth.closeCmd } }

/-- A command as it is carried out: who sent it, its 64 bytes, the bytes it reads from host memory. -/
structure CmdCtx where
  ref : CmdRef
  entry : List Nat
  data : Option (List Nat)
  deriving DecidableEq, Repr

/-! ## Loading and unloading (R368, R370, R371) -/

/-- The host-owned bytes of a context are valid (R369, R370).
DEDUCED (log 100, 107). -/
def ctxForm (fn : Nat) (l : List Nat) : Bool :=
  let kind := l.getD 8 0
  let vec := l.getD 12 0
  decide (1 ≤ kind) && decide (kind ≤ 4) && decide (4 ≤ l.getD 9 0) && decide (l.getD 9 0 ≤ 16)
    && (if kind = kindCmd ∨ kind = kindFlm then vec == 0
      else !bitAt vec 6 && decide (vec % 64 < (if fn = 0 then 64 else 32)) && leAt l 10 2 == 0xFFFF)
    && (if kind = kindEvt then decide (l.getD 16 0 < 16) else l.getD 16 0 == 0)
    && (slice l 17 15).all (· == 0)

/-- The ring a context describes, fresh. -/
def ctxRing (l : List Nat) : Ring :=
  let ien := bitAt (l.getD 12 0) 7
  { kind := l.getD 8 0, base := leAt l 0 8, log2n := l.getD 9 0, pair := leAt l 10 2, vec := l.getD 12 0 % 64, ien := ien
    modcnt := l.getD 13 0, modtime := leAt l 14 2, minCls := l.getD 16 0 % 8, clr := bitAt (l.getD 16 0) 3
    midx := 0, hidx := 0, armed := ien, error := false, drop := 0, dropSeq := 0, dropStrike := 0, since := 0
    firstAt := none, unloading := none, flight := [] }

/-- The ring a context resumes. The context holds DROP, and not which event was the first of those not written: its number
and its strike are free values, of index `n` on.
DESIGN CHOICE (log 300). -/
def ctxResume (n : Nat) (l : List Nat) : Ring :=
  { ctxRing l with midx := leAt l 32 4, hidx := leAt l 36 4, armed := bitAt (l.getD 40 0) 0, drop := leAt l 44 4
                   dropSeq := Config.freeNat n % 2 ^ 32, dropStrike := Config.freeNat (n + 1) % 2 ^ 64 }

/-- Bytes 32 to 63 are all zero. -/
def ctxBlank (l : List Nat) : Bool := (slice l 32 32).all (· == 0)

/-- The result of a LOAD before its effect: RES (R370).
DEDUCED (log 100). -/
def State.loadResult (fn r : Nat) (ctx : Option (List Nat)) (fresh : Bool) (s : State) : Nat :=
  if s.suspended fn then 8
  else if (s.ring? fn r).isSome then 5
  else match ctx with
    | none => 7
    | some l =>
      if !ctxForm fn l then 1
      else if leAt l 0 8 % 4096 ≠ 0 then 2
      else
        let pairOk := (ctxRing l).fromHost == false || (match s.ring? fn (leAt l 10 2) with
          | some x => x.kind == kindCpl && x.unloading.isNone && decide (leAt l 10 2 < 1024)
          | none => false)
        if !pairOk then 3
        else if fresh || ctxBlank l || leAt l 60 4 == crc32 (l.take 60) then 0 else 4

/-- OPSTAT after an operation. -/
def State.opstat (fn r res : Nat) (s : State) : State :=
  s.setFields [(Reg.HIF_FN_RING_OPSTAT_RING fn, r), (Reg.HIF_FN_RING_OPSTAT_RES fn, res)]

/-- A ring operation may be written: the function exists and is reached. -/
def State.fnReached (s : State) (fn : Nat) : Bool := s.fnExists fn && s.linkUp && !s.deaf

/-- RING_LOAD: the write of LOAD, and the 64 bytes of the context, none where reading them failed (R370).
DEDUCED (log 100, 220). -/
def execRingLoad (fn r : Nat) (ctx : Option (List Nat)) (s : State) : Host.Outcome State Fault Refusal :=
  .next (if s.fnReached fn && decide (r < 1024) then
      let s := s.quiet
      if s.flag (Reg.HIF_FN_RING_OPSTAT_BUSY fn) then s.hifFault fn r 0x0B04
      else
        let fresh := (s.fn fn).wasReset && !(s.fn fn).loaded.contains r
        let res := s.loadResult fn r ctx fresh
        let s1 := s.opstat fn r res
        if res = 0 then
          let l := ctx.getD []
          let x := if fresh || ctxBlank l then ctxRing l else ctxResume s.free l
          let s2 := (s1.took.took.setRing fn r x).updFn fn fun (f : HostFn) =>
            { f with
              loaded := r :: f.loaded.filter (· != r)
              subs := if x.kind = kindEvt then (r, x.minCls, x.clr) :: f.subs.filter (fun u => u.1 != r) else f.subs }
          (s2.cacheIn fn r).getD s2
        else
          let s2 := if res = 7 then s1.hifFault fn r 0x0B05 else s1
          s2.hifFault fn r 0x0B04
    else s)

/-- A flume of a ring ends with the unload of the ring: its partly filled buffer is closed with END (R371). -/
def State.flumeUnload (fn r : Nat) (s : State) : State :=
  match s.flume? fn r, s.ring? fn r with
  | some f, some x =>
    let s1 := { s with hif := { s.hif with flumes := s.hif.flumes.drop (· == ringKey fn r) } }
    match f.buf with
    | some b => s1.post fn (cplEntry x.pair b.2.2 r (x.midx % 65536) stEnd 0 (f.fill + f.recs * 2 ^ 32) false f.snap)
    | none => s1
  | _, _ => s

/-- An UNLOAD begins: what a ring has in flight is left to complete. -/
def State.unloadBegin (fn r : Nat) (x : Ring) (s : State) : State :=
  let s1 := (s.opstat fn r 0).setFlag (Reg.HIF_FN_RING_OPSTAT_BUSY fn) true
  let s2 := s1.setRing fn r { x with unloading := some s.now }
  let s3 := if x.kind = kindFlm then s2.flumeUnload fn r else s2
  let s4 := if x.fromHost then s3
    else { s3 with hif := { s3.hif with ready := s3.hif.ready.filter fun e => !(e.1 == fn && e.2.ring == r) } }
  if x.flight = [] then s4.unloaded fn r else s4

/-- RING_UNLOAD: the write of UNLOAD; or, with `late`, the 100 ms after which commands not complete are aborted (R371).
DEDUCED (log 220). -/
def execRingUnload (fn r : Nat) (late : Bool) (s : State) : Host.Outcome State Fault Refusal :=
  .next (if late then
      match s.ring? fn r with
      | some x =>
        match x.unloading with
        | some t =>
          if 100 * msStrikes ≤ s.since t then
            forAll x.flight (fun c s => (s.abortCmd c).complete c (.no stAborted)) s.quiet
          else s
        | none => s
      | none => s
    else if s.fnReached fn && decide (r < 1024) then
      let s := s.quiet
      if s.flag (Reg.HIF_FN_RING_OPSTAT_BUSY fn) then s.hifFault fn r 0x0B04
      else if s.suspended fn then (s.opstat fn r 8).hifFault fn r 0x0B04
      else match s.ring? fn r with
        | none => (s.opstat fn r 5).hifFault fn r 0x0B04
        | some x =>
          if (s.ringsOf fn).any fun e => e.2.fromHost && e.2.pair == r then (s.opstat fn r 6).hifFault fn r 0x0B04
          else s.unloadBegin fn r x
    else s)

/-- RCT_BASE_WRITE: a slice base register of a function, `hi` for the high one (R368). -/
def execRctBaseWrite (fn : Nat) (hi : Bool) (w : Word) (s : State) : Host.Outcome State Fault Refusal :=
  .next (if s.fnReached fn then
      if (s.ringsOf fn).isEmpty then s.writeWord (fnPath fn) (0x100008 + fn * 0x4000 + (if hi then 4 else 0)) w.toNat
      else s.hifFault fn 0 0x0B04
    else s)

/-- PRIV_WRITE: HIF_FN_PRIVn, read-only for n = 0; a second VF never gets DISPATCH (R365, R366). -/
def execPrivWrite (path : Path) (n : Nat) (w : Word) (s : State) : Host.Outcome State Fault Refusal :=
  .next (if decide (0 < n) && decide (n < 256) && !s.deaf then
      let f := Reg.HIF_FN_PRIVn_PRIV n
      let second := n != 0 && bitAt w.toNat 1 && (range 1 256).any fun m => m != n && s.privilege m 1
      if second then (s.writeWord path f.off (putBit w.toNat 1 false)).hifFault n 0 0x0B0B
      else s.writeWord path f.off w.toNat
    else s)

/-! ## Doorbells (R380, R381) -/

/-- The doorbell is discarded. -/
def Ring.badDoorbell (x : Ring) (idx : Nat) : Bool :=
  x.error || x.unloading.isSome || decide (x.size < idxSub idx x.hidx)
    || (if x.fromHost then decide (x.size < idxSub idx x.midx) else decide (x.size < idxSub x.midx idx))

/-- A doorbell that is taken. -/
def State.doorbell (fn r idx : Nat) (arm : Bool) (x : Ring) (s : State) : State :=
  if x.fromHost then s.setRing fn r { x with hidx := idx }
  else if arm && x.ien then
    let s1 := s.setRing fn r { x with hidx := idx, armed := true, since := 0, firstAt := none }
    if x.midx = idx then s1 else s1.ringSignal fn r
  else s.setRing fn r { x with hidx := idx }

/-- DOORBELL: the written halves of the 8 bytes of a ring's doorbell; with neither half, a read, which returns MIDX. A doorbell
that finds every cached context busy has its index taken; the work that it announces waits (R372).
DESIGN CHOICE (log 293). -/
def execDoorbell (fn r : Nat) (lo hi : Option Word) (s : State) : Host.Outcome State Fault Refusal :=
  .next (match lo with
    | none =>
      if hi.isNone && s.fnReached fn && decide (r < 1024) then
        s.returns (fnPath fn) (match s.ring? fn r with | some x => x.midx | none => 0)
      else s
    | some lw =>
      if s.fnReached fn && decide (r < 1024) then
        let s := s.quiet
        let h := match hi with | some w => w.toNat | none => 0
        match s.ring? fn r with
        | none => s.hifFault fn r 0x0B06
        | some x =>
          if decide (2 ≤ h) || x.badDoorbell lw.toNat then s.hifFault fn r 0x0B06
          else
            (s.needCtx fn r).1.doorbell fn r lw.toNat (h == 1) x
      else s)

/-- HOST_READ_TIMEOUT: a read of an entry or descriptor of a ring, or of its evicted context, fails (R384). -/
def execHostReadTimeout (fn r : Nat) (s : State) : Host.Outcome State Fault Refusal :=
  .next (match s.ring? fn r with
    | some x =>
      if !x.error && ((x.fromHost && x.midx != x.hidx) || !s.hif.cache.contains (ringKey fn r)) then
        (s.setRing fn r { x with error := true }).hifFault fn r 0x0B05
      else s
    | none => s)

/-! ## Suspension, link and resets (R384 to R389) -/

/-- A function that is suspended keeps its waiting entries in the holding queue (R387). -/
def State.holdWaiting (fn : Nat) (s : State) : State :=
  let l := s.hif.ready.filter fun e => e.1 == fn
  let s1 := { s with hif := { s.hif with ready := s.hif.ready.filter fun e => e.1 != fn } }
  forAll l (fun e s => s.hold fn e.2) s1

/-- Every function that exists. -/
def State.fnsThere (s : State) : List Nat := List.range (s.hif.numVf + 1)

/-- The link goes down: 0x0B03 concerns every function (R384, R389).
DEDUCED (log 299). -/
def State.linkLost (s : State) : State :=
  let s1 := s.setFields [(Reg.HIF_LINK_GEN, 0), (Reg.HIF_LINK_WIDTH, 0), (Reg.HIF_LINK_LSTATE, if s.hif.turnOff then 3 else 0)]
  let s2 := if s.hif.turnOff then s1
    else
      let again := forEach s.fnsThere (fun n s => s.updFn n fun f =>
        { f with held := (f.issued.map fun e => { e with again := true, delayed := true }) ++ f.held, issued := [] }) s1
      (forEach s.fnsThere (fun n s => s.setFields
        [(Reg.HIF_FN_ERR_CODE n, 0x0B03), (Reg.HIF_FN_ERR_RING n, 0), (Reg.HIF_FN_ERR_VALID n, 1)]) again).raise 0x0B03 1
        (subjRing 0 0) []
  (forEach s.fnsThere State.holdWaiting s2).sessionCloseOf .pf0

/-- LINK_DOWN. -/
def execLinkDown (s : State) : Host.Outcome State Fault Refusal :=
  .next (if s.linkUp then s.quiet.linkLost else s)

/-- LINK_UP: generation and lanes trained (R357, R360); PM_PME of functions that wait (R388). -/
def execLinkUp (gen width : Nat) (s : State) : Host.Outcome State Fault Refusal :=
  .next (if s.flag Reg.PWR_DOM_PCI && !s.flag Reg.HIF_LINK_PERST && !s.linkUp && decide (1 ≤ gen)
        && decide (gen ≤ s.reg Reg.HIF_LINK_CFG_MAXGEN) && [1, 2, 4].contains width
        && decide (width ≤ s.reg Reg.HIF_LINK_CFG_MAXW) then
      let s1 := s.quiet.setFields [(Reg.HIF_LINK_GEN, gen), (Reg.HIF_LINK_WIDTH, width), (Reg.HIF_LINK_LSTATE, 1)]
      let s2 := { s1 with hif := { s1.hif with turnOff := false } }
      forAll s2.hif.fns (fun f s =>
        if f.2.pmeStatus && f.2.pmeEn && s.suspended f.1 then s.sendPme f.1
        else if s.suspended f.1 then s else s.updFn f.1 fun g => { g with resumedAt := s.now }) s2
    else s)

/-- Rings, flumes, entries and window of a function are reset (R385); `perst` keeps the wake settings.
DEDUCED (log 98, 99, 101, 102). -/
def State.fnReset (perst : Bool) (fn : Nat) (s : State) : State :=
  let wcls := s.reg (Reg.HIF_FN_WAKE_WCLS fn)
  let wen := s.reg (Reg.HIF_FN_WAKE_WEN fn)
  let s0 := forAll ((s.ringsOf fn).flatMap fun e => e.2.flight) State.abortCmd s
  let s1 := { s0 with
    regs := s0.regs.resetRange (0x100000 + fn * 0x4000) (0x100000 + fn * 0x4000 + 0x60)
    hif := { s0.hif with
      rings := s0.hif.rings.drop fun k => k / 1024 == fn
      flumes := s0.hif.flumes.drop fun k => k / 1024 == fn
      cache := s0.hif.cache.filter fun k => k / 1024 != fn
      ready := s0.hif.ready.filter fun e => e.1 != fn } }
  let f := s.fn fn
  let s2 := s1.setFn fn { HostFn.initial with
    wasReset := true, pmeEn := perst && f.pmeEn, pmeStatus := perst && f.pmeStatus
    subs := if perst then f.subs else [] }
  let s3 := if perst then s2.setFields [(Reg.HIF_FN_WAKE_WCLS fn, wcls), (Reg.HIF_FN_WAKE_WEN fn, wen)] else s2
  s3.hifFault fn 0 0x0B09

/-- VF Enable is cleared: every VF is reset and gone. -/
def State.vfsOff (perst : Bool) (s : State) : State :=
  let s1 := forEach (range 1 (s.hif.numVf + 1)) (State.fnReset perst) s
  ({ s1 with hif := { s1.hif with numVf := 0 } })

/-- FUNCTION_LEVEL_RESET (R385).
DEDUCED (log 102). -/
def execFunctionLevelReset (fn : Nat) (s : State) : Host.Outcome State Fault Refusal :=
  .next (if s.fnExists fn && s.linkUp then
      if fn = 0 then ((s.quiet.vfsOff false).fnReset false 0).sessionCloseOf .pf0
      else s.quiet.fnReset false fn
    else s)

/-- WAKE_N while PERST_N is asserted and a function with PME_En has PME_Status (R388). -/
def State.wakeLine (s : State) : State :=
  if s.hif.fns.any fun f => f.2.pmeEn && f.2.pmeStatus then s.setFlag Reg.HIF_LINK_WAKE true else s

/-- PERST_ASSERT (R385, R388).
DEDUCED (log 98, 101). -/
def execPerstAssert (s : State) : Host.Outcome State Fault Refusal :=
  .next (if s.flag Reg.HIF_LINK_PERST then s
    else
      let s0 := s.quiet.setFlag Reg.HIF_LINK_PERST true
      let s1 := if s.linkUp then s0.linkLost else s0
      ((s1.vfsOff true).fnReset true 0).wakeLine)

/-- PERST_DEASSERT (R388). -/
def execPerstDeassert (s : State) : Host.Outcome State Fault Refusal :=
  .next ((s.setFlag Reg.HIF_LINK_PERST false).setFlag Reg.HIF_LINK_WAKE false)

/-- FUNCTION_POWER_CHANGE: the power state, Bus Master Enable and PME_En a function has from now, and whether the host
clears PME_Status (R386, R388). -/
def execFunctionPowerChange (fn : Nat) (d0 bme pmeEn clear : Bool) (s : State) : Host.Outcome State Fault Refusal :=
  .next (if s.fnExists fn && s.linkUp then
      let was := s.suspended fn
      let s1 := s.quiet.updFn fn fun f =>
        { f with d0 := d0, bme := bme, pmeEn := pmeEn, pmeStatus := f.pmeStatus && !clear }
      if s1.suspended fn then s1.holdWaiting fn
      else if was then (s1.updFn fn fun f => { f with resumedAt := s.now }).sendPending fn else s1
    else s)

/-- PME_TURN_OFF (R388). -/
def execPmeTurnOff (s : State) : Host.Outcome State Fault Refusal :=
  .next (if s.linkUp && !s.hif.turnOff then
      ({ s.quiet with hif := { s.quiet.hif with turnOff := true } }).hifFault 0 0 0x0B02
    else s)

/-- PME_RESEND: every 128 ms (R388). -/
def execPmeResend (fn : Nat) (s : State) : Host.Outcome State Fault Refusal :=
  .next (let f := s.fn fn
    if f.pmeStatus && f.pmeEn && s.suspended fn && s.linkUp && !s.hif.turnOff && s.elapsed f.pmeAt (128 * msStrikes) then
      s.quiet.sendPme fn
    else s)

/-- VF_ENABLE: NumVFs with VF Enable set, 0 with it clear; ARI Capable Hierarchy (R359). -/
def execVfEnable (n : Nat) (ari : Bool) (s : State) : Host.Outcome State Fault Refusal :=
  .next (if s.linkUp && decide (n ≤ (if ari then 255 else 7)) then
      let s1 := forEach (range (n + 1) (s.hif.numVf + 1)) (State.fnReset false) s.quiet
      ({ s1 with hif := { s1.hif with numVf := n, ari := ari } })
    else s)

/-! ## The cell context table (R417 to R419) -/

/-- A cell context entry is valid for a position (R418). -/
def cellValid (g : Nat) (l : List Nat) : Bool :=
  let flg := l.getD 4 0
  let inside := fun (x : Option Rat) (lo hi : Rat) => match x with
    | some v => decide (lo ≤ v) && decide (v ≤ hi)
    | none => false
  l.length == 256 && leAt l 252 4 == crc32 (l.take 252) && leAt l 0 2 == 0x0301 && leAt l 2 2 == g && decide (flg < 4)
    && (slice l 5 3).all (· == 0) && (slice l 38 2).all (· == 0) && (slice l 40 24).all (· == 0)
    && (!bitAt flg 0 || (inside (fp32At l 24) 1 1000000 && inside (fp32At l 28) (1 / 1000) 1000))

/-- Takes the valid entries of a read of positions `first` onward; the first invalid one (R418, R419). -/
def State.cellsRead (first n : Nat) (l : List Nat) (s : State) : State × Option Nat × Nat :=
  (List.range n).foldl (fun (a : State × Option Nat × Nat) i =>
    let g := first + i
    let e := slice l (i * 256) 256
    if cellValid g e then
      ({ a.1 with hif := { a.1.hif with cellNext := a.1.hif.cellNext.put g e } }, a.2.1, a.2.2 + 1)
    else (a.1, a.2.1.or (some g), a.2.2)) (s, none, 0)

/-- HIF_CELL_STAT.VALID: positions with a valid entry held. -/
def State.cellsHeld (s : State) : Nat :=
  countIf (fun g => (s.hif.cellNext.any fun e => e.1 == g) || s.mdl.cells.any fun e => e.1 == g) (List.range 1152)

/-- A read of cell context entries ends: its data, or none when it failed (R418). -/
def State.cellsDone (first n : Nat) (data : Option (List Nat)) (s : State) : State × Nat :=
  match data with
  | none => ((s.setFields [(Reg.HIF_CELL_STAT_RDERR, 1)]).hifFault 0 0 0x0B0E, 0)
  | some l =>
    let r := s.cellsRead first n l
    let s1 := r.1.setFields [(Reg.HIF_CELL_STAT_RDERR, 0), (Reg.HIF_CELL_STAT_VALID, r.1.cellsHeld),
      (Reg.HIF_CELL_STAT_BAD, r.2.1.getD 0), (Reg.HIF_CELL_STAT_BADV, bit r.2.1.isSome)]
    (match r.2.1 with
      | some g => s1.hifFaultOn 0 0 0x0B0D (subjPos g)
      | none => s1, r.2.2)

/-- CELL_TABLE_READ: the write of HIF_CELL_HI (R392, R418). -/
def execCellTableRead (path : Path) (w : Word) (s : State) : Host.Outcome State Fault Refusal :=
  .next (if s.deaf then s
    else (s.writeWord path Reg.HIF_CELL_HI_BASE_HI.off w.toNat).setFlag Reg.HIF_CELL_STAT_BUSY true)

/-- CELL_TABLE_READ_DONE: the bytes of the whole table, none where the read failed (R418). -/
def execCellTableReadDone (data : Option (List Nat)) (s : State) : Host.Outcome State Fault Refusal :=
  .next (if s.flag Reg.HIF_CELL_STAT_BUSY then
      (s.cellsDone 0 1152 data).1.setFlag Reg.HIF_CELL_STAT_BUSY false
    else s)

end Sys2Proof.Machine
end

