-- ==== Sys2Proof/Machine/Commands.lean ====
section
/-! DEFINITION. Commands of the command catalogue (R375, R393 to R403) but those of flumes, the event log, the Hopper and
firmware. -/
namespace Sys2Proof.Machine

/-! ## What every command has in common (R365, R375, R393 to R396) -/

/-- What the catalogue says of an opcode: the argument bytes it names (first, count); the privilege it needs on a function;
the least role that admits it over the service protocol, 3 none (R563); the power states that admit it (R552); whether it
needs the session of its path (R395); whether its bytes are secret (R396); what it does. -/
structure CmdSpec where
  opc : Nat
  args : List (Nat × Nat)
  priv : CmdCtx → State → Bool
  role : Nat
  states : CmdCtx → List Nat
  session : Bool
  secret : Bool
  run : CmdCtx → State → State × Option Reply

/-- Power states of the rows of "Table — Commands admitted by power state".
DEDUCED (log 105). -/
def everyState (_ : CmdCtx) : List Nat := [pwStart, pwRun, pwTrim, pwEntry, pwBrake]
/-- DEDUCED (log 105). -/
def runStates (_ : CmdCtx) : List Nat := [pwRun, pwTrim]

/-- Restrictions to functions. -/
def anyFn (_ : CmdCtx) (_ : State) : Bool := true
def pf0Only (x : CmdCtx) (_ : State) : Bool := x.ref.fn == 0
def needs (b : Nat) (x : CmdCtx) (s : State) : Bool := s.privilege x.ref.fn b

/-- A number in the entry. -/
def CmdCtx.arg (x : CmdCtx) (i k : Nat) : Nat := leAt x.entry i k
def CmdCtx.argBytes (x : CmdCtx) (i k : Nat) : List Nat := slice x.entry i k

/-- The path of a command (R561, R611). -/
def CmdCtx.path (x : CmdCtx) : Path := match x.ref.svc with | some c => .svc c | none => fnPath x.ref.fn

/-- Bytes that must be 0: reserved CFLG bits, byte 3, 56 to 63, and arguments the catalogue does not name. -/
def argsClean (args : List (Nat × Nat)) (l : List Nat) : Bool :=
  decide (l.getD 2 0 < 4) && l.getD 3 0 == 0 && (slice l 56 8).all (· == 0)
    && (range 8 56).all fun i => l.getD i 0 == 0 || args.any fun a => decide (a.1 ≤ i) && decide (i < a.1 + a.2)

/-- The role or the privilege admits a command (R365, R393, R563). -/
def State.admits (c : CmdSpec) (x : CmdCtx) (s : State) : Bool :=
  match x.ref.svc with
  | some k => decide (c.role ≤ (s.hif.conns.get { role := 0, port := 0, client := [], lastAt := 0 } k).role)
  | none => c.priv x s

/-- A command is checked, carried out to its point of effect, and completes.
DEDUCED (log 104). -/
def State.serve (c : CmdSpec) (x : CmdCtx) (s : State) : State :=
  if !s.admits c x then s.complete x.ref (.no stPriv)
  else if !(c.states x).contains s.power || (s.flag Reg.SEC_FW_STAT_RECOV && !([0x01, 0xA0, 0xA1].contains c.opc)) then s.complete x.ref (.no stState)
  else if !argsClean c.args x.entry then s.complete x.ref (.no stBadField)
  else if c.session && (s.sessionOf x.path).isNone then s.complete x.ref (.no stState)
  else match c.run x s with
    | (t, some y) => t.complete x.ref y
    | (t, none) => t

/-- A CMD ring lets its next entry start (R371, R375, R384, R387). -/
def State.fetchable (c : CmdIn) (s : State) : Bool :=
  match s.ring? c.fn c.ring with
  | some x => x.kind == kindCmd && !x.error && x.unloading.isNone && x.midx != x.hidx && decide (x.flight.length < 16)
      && (!bitAt (c.entry.getD 2 0) 1 || x.flight == []) && c.entry.length == 64 && !s.suspended c.fn && !s.deaf
      && s.appsRun
  | none => false

/-- The entry is consumed and its command in flight; the secret of an entry is overwritten (R396). -/
def State.fetch (c : CmdIn) (secret : Bool) (s : State) : State × CmdCtx :=
  let x := (s.ring? c.fn c.ring).getD (ctxRing [])
  let i := x.midx
  let ref : CmdRef :=
    { svc := none, fn := c.fn, ring := c.ring, cid := leAt c.entry 4 4, head := (i + 1) % 65536
      irq := bitAt (c.entry.getD 2 0) 0 }
  let s1 := s.setRing c.fn c.ring { x with midx := (i + 1) % 2 ^ 32, flight := x.flight ++ [ref] }
  (if secret then s1.hostWrite c.fn (x.slot i + 8) (List.replicate 48 0) else s1,
    { ref := ref, entry := c.entry, data := c.data })

/-- A command entry of an opcode is fetched and served. -/
def State.command (k : CmdSpec) (c : CmdIn) (s : State) : State :=
  if s.fetchable c && leAt c.entry 0 2 == k.opc then
    let n := s.quiet.needCtx c.fn c.ring
    if n.2 then
      let f := n.1.fetch c k.secret
      f.1.serve k f.2
    else n.1
  else s

/-- The module reads host memory for a command: the bytes, or DMAERR with 0x0B05 (R384). -/
def CmdCtx.read (x : CmdCtx) (s : State) (k : List Nat → State × Option Reply) : State × Option Reply :=
  match x.data with
  | some l => k l
  | none => (s.hifFault x.ref.fn x.ref.ring 0x0B05, some (.no stDmaErr))

/-! ## NOP, SETPOINT, HOST_INPUT, CAPTURE -/

/-- The opcodes of "Table — Command catalogue". -/
def opcodes : List Nat :=
  [0x01, 0x10, 0x11, 0x12, 0x20, 0x21, 0x30, 0x40, 0x41, 0x42, 0x43, 0x44, 0x50, 0x51, 0x52, 0x53, 0x60, 0x61, 0x62, 0x63,
   0x64, 0x65, 0x70, 0x80, 0x81, 0x82, 0x83, 0x90, 0x91, 0xA0, 0xA1]

def cmdNop : CmdSpec :=
  { opc := 0x01, args := [], priv := anyFn, role := 0, states := everyState, session := false, secret := false
    run := fun _ s => (s, some (.ok (s.now % 2 ^ 48))) }

/-- NOP; an entry whose opcode the catalogue does not hold completes with BADOPC here (R398). -/
def execNopCmd (c : CmdIn) (s : State) : Host.Outcome State Fault Refusal :=
  .next (if opcodes.contains (leAt c.entry 0 2) then s.command cmdNop c
    else if s.fetchable c then
      let n := s.quiet.needCtx c.fn c.ring
      if n.2 then
        let f := n.1.fetch c false
        f.1.complete f.2.ref (.no stBadOpc)
      else n.1
    else s)

/-- SETPOINT: the turn whose ENV first latches it is the turn in hand before strike 20, and the next one after (R333).
DEDUCED (log 131). -/
def cmdSetpoint : CmdSpec :=
  { opc := 0x20, args := [(8, 4)], priv := needs 1, role := 3, states := runStates, session := false, secret := false
    run := fun x s =>
      (s.setpointWrite .pf0 (x.arg 8 4), some (.ok ((if s.phase < 20 then s.turn else s.turn + 1) % 2 ^ 48))) }

def execSetpoint (c : CmdIn) (s : State) : Host.Outcome State Fault Refusal := .next (s.command cmdSetpoint c)

/-- HOST_INPUT queues all selected writes or none (R399). -/
def cmdHostInput : CmdSpec :=
  { opc := 0x21, args := [(8, 1), (12, 16)], priv := needs 2, role := 3, states := runStates, session := false
    secret := false
    run := fun x s =>
      let sel := (List.range 8).filter fun k => bitAt (x.arg 8 1) k
      if sel = [] then (s, some (.no stBadField))
      else if 64 < s.gov.queue.length + sel.length then (s.note 0x0801 subjNone [], some (.refused 0x0801))
      else
        let t := forEach sel (fun k s => s.govWrite .pf0 (Reg.GOV_HOST_VAL k).off (x.arg (12 + 2 * k) 2)) s
        (t, some (.ok t.gov.queue.length)) }

def execHostInput (c : CmdIn) (s : State) : Host.Outcome State Fault Refusal := .next (s.command cmdHostInput c)

/-- CAPTURE (R350). -/
def cmdCapture : CmdSpec :=
  { opc := 0x30, args := [], priv := needs 3, role := 3, states := runStates, session := false, secret := false
    run := fun _ s =>
      let t := s.capture 0 0
      (t, some (.ok ((t.mpd.capCount + 15) % 16 + 16 * (s.turn % 2 ^ 44)))) }

def execCapture (c : CmdIn) (s : State) : Host.Outcome State Fault Refusal := .next (s.command cmdCapture c)

/-! ## Snapshots and restores (R400, R403) -/

/-- ADDR and LEN name host memory of at least `n` bytes. -/
def CmdCtx.buffer (x : CmdCtx) (n : Nat) : Bool := x.arg 8 8 % 4096 == 0 && decide (n ≤ x.arg 16 4)

/-- The module writes a snapshot at ADDR. -/
def State.sendSnap (x : CmdCtx) (l : List Nat) (s : State) : State := s.hostWrite x.ref.fn (x.arg 8 8) l

def cmdSnapCert : CmdSpec :=
  { opc := 0x40, args := [(8, 12)], priv := needs 5, role := 3, states := runStates, session := false, secret := false
    run := fun x s =>
      if !x.buffer 36928 then (s, some (.no stBadField))
      else match s.est.supStrike with
        | none => (s, some (.no stState))
        | some n =>
          let p := s.snapshot n
          ((s.sendSnap x (s.snapBytes p)).completeWith x.ref (.ok (n % 2 ^ 48)) (some ⟨p.strike, p.q, p.eq⟩), none) }

def execSnapCert (c : CmdIn) (s : State) : Host.Outcome State Fault Refusal := .next (s.command cmdSnapCert c)

def cmdSnapModel : CmdSpec :=
  { opc := 0x41, args := [(8, 12)], priv := needs 5, role := 3, states := runStates, session := false, secret := false
    run := fun x s =>
      if !x.buffer 110656 then (s, some (.no stBadField))
      else if s.mdl.lastTurn = 0 then (s, some (.no stState))
      else
        let n := (s.mdl.lastTurn - 1) * 32
        (s.sendSnap x (s.modelSnapBytes n), some (.ok (n % 2 ^ 48))) }

def execSnapModel (c : CmdIn) (s : State) : Host.Outcome State Fault Refusal := .next (s.command cmdSnapModel c)

/-- A restore: LEN is exact, and the bytes at ADDR are checked and applied. -/
def restoreRun (len : Nat) (f : List Nat → State → State × Reply) (x : CmdCtx) (s : State) : State × Option Reply :=
  if x.arg 8 8 % 4096 ≠ 0 ∨ x.arg 16 4 ≠ len then (s, some (.no stBadField))
  else x.read s fun l => ((f l s).1, some (f l s).2)

def cmdRestoreCert : CmdSpec :=
  { opc := 0x42, args := [(8, 12)], priv := pf0Only, role := 3, states := runStates, session := false, secret := false
    run := restoreRun 36928 State.restoreCert }

def execRestoreCert (c : CmdIn) (s : State) : Host.Outcome State Fault Refusal := .next (s.command cmdRestoreCert c)

def cmdRestoreModel : CmdSpec :=
  { opc := 0x43, args := [(8, 12)], priv := pf0Only, role := 3, states := runStates, session := false, secret := false
    run := restoreRun 110656 State.restoreModel }

def execRestoreModel (c : CmdIn) (s : State) : Host.Outcome State Fault Refusal := .next (s.command cmdRestoreModel c)

/-- A value lies within the bounds of a parameter, cap excepted (R184, R401).
DEDUCED (log 109). -/
def startValueOk (k : Nat) (v : Rat) : Bool :=
  if k = 7 then true
  else
    let b : Rat × Rat := ([(1 / 1000000, 1), (1 / 1000000, 1), (2 / 1000, 2), (1 / 1000000, 1), (2, 3600), (0, 1 / 10),
      (1, 1000), (0, 0), (-1 / 100, 5 / 10)] : List (Rat × Rat)).getD k (0, 0)
    decide (b.1 ≤ v) && decide (v ≤ b.2)

/-- MODEL_START (R401).
DEDUCED (log 109). -/
def cmdModelStart : CmdSpec :=
  { opc := 0x44, args := [(8, 1), (12, 36)], priv := pf0Only, role := 3, states := runStates, session := false
    secret := false
    run := fun x s =>
      let v := (List.range 9).map fun k => if k = 7 then some ((fp32At x.entry 40).getD 0) else fp32At x.entry (12 + 4 * k)
      let w := v.filterMap id
      if 8 ≤ x.arg 8 1 ∨ w.length ≠ 9 ∨ !((w.zip (List.range 9)).all fun e => startValueOk e.2 e.1) then
        (s, some (.no stBadField))
      else ({ s with mdl := { s.mdl with starts := s.mdl.starts.put (x.arg 8 1) w } }, some (.ok 0)) }

def execModelStart (c : CmdIn) (s : State) : Host.Outcome State Fault Refusal := .next (s.command cmdModelStart c)

/-! ## Requests to Sluice (R397) -/

/-- A RESET counts as one of a Service or Safety Authority session (R228, R563, R564). -/
def CmdCtx.privileged (x : CmdCtx) (s : State) : Bool :=
  match x.ref.svc with
  | some k => (s.hif.conns.get { role := 0, port := 0, client := [], lastAt := 0 } k).role == 2
  | none => x.ref.fn == 0 && (s.sessionOf .pf0).isSome

def cmdConnect : CmdSpec :=
  { opc := 0x50, args := [], priv := pf0Only, role := 1, states := runStates, session := false, secret := false
    run := fun x s => (s.request .connect (x.privileged s) (some x.ref), none) }

def execConnectReq (c : CmdIn) (s : State) : Host.Outcome State Fault Refusal := .next (s.command cmdConnect c)

def cmdOpen : CmdSpec :=
  { opc := 0x51, args := [], priv := fun x s => pf0Only x s || needs 1 x s, role := 1, states := runStates
    session := false, secret := false
    run := fun x s =>
      if s.roleStandby then (s, some (.no stState)) else (s.request .openString (x.privileged s) (some x.ref), none) }

def execOpenReq (c : CmdIn) (s : State) : Host.Outcome State Fault Refusal := .next (s.command cmdOpen c)

def cmdReset : CmdSpec :=
  { opc := 0x52, args := [], priv := pf0Only, role := 1, states := runStates, session := false, secret := false
    run := fun x s => (s.request .reset (x.privileged s) (some x.ref), none) }

def execResetReq (c : CmdIn) (s : State) : Host.Outcome State Fault Refusal := .next (s.command cmdReset c)

/-! ## The Safety Authority session (R261 to R269) -/

/-- PATH code of SEC_SA_STAT and client fingerprint of a sender. -/
def CmdCtx.sender (x : CmdCtx) (s : State) : Nat × List Nat :=
  match x.ref.svc with
  | some k =>
    let c := s.hif.conns.get { role := 0, port := 0, client := [], lastAt := 0 } k
    (2 + c.port, c.client)
  | none => (1, List.replicate 16 0)

def cmdSessionOpen : CmdSpec :=
  { opc := 0x60, args := [(8, 1), (12, 32)], priv := pf0Only, role := 2, states := runStates, session := false
    secret := true
    run := fun x s =>
      let r := s.sessionOpen x.path (x.sender s).1 (x.sender s).2 (x.arg 8 1) (x.argBytes 12 32)
      (r.1, some r.2) }

def execSessionOpen (c : CmdIn) (s : State) : Host.Outcome State Fault Refusal := .next (s.command cmdSessionOpen c)

/-- A command that acts in the session of its path. -/
def inSession (f : Session → State → State × Reply) (x : CmdCtx) (s : State) : State × Option Reply :=
  match s.sessionOf x.path with
  | some y => ((f y s).1, some (f y s).2)
  | none => (s, some (.no stState))

def cmdSessionClose : CmdSpec :=
  { opc := 0x61, args := [], priv := pf0Only, role := 2, states := runStates, session := true, secret := false
    run := fun x s =>
      let t := s.sessionClose
      ({ t with auth := { t.auth with closeCmd := some x.ref } }, none) }

def execSessionClose (c : CmdIn) (s : State) : Host.Outcome State Fault Refusal := .next (s.command cmdSessionClose c)

def cmdPasswordSet : CmdSpec :=
  { opc := 0x62, args := [(8, 1), (12, 32)], priv := pf0Only, role := 2, states := runStates, session := true
    secret := true
    run := fun x s => inSession (fun y s => s.passwordStage y (x.arg 8 1) (x.argBytes 12 32)) x s }

def execPasswordSet (c : CmdIn) (s : State) : Host.Outcome State Fault Refusal := .next (s.command cmdPasswordSet c)

def cmdKeySet : CmdSpec :=
  { opc := 0x63, args := [(8, 32)], priv := pf0Only, role := 2, states := runStates, session := true, secret := true
    run := fun x s => inSession (fun y s => s.keyStage y (x.argBytes 8 32)) x s }

def execKeySet (c : CmdIn) (s : State) : Host.Outcome State Fault Refusal := .next (s.command cmdKeySet c)

def cmdWeldClear : CmdSpec :=
  { opc := 0x53, args := [], priv := pf0Only, role := 2, states := runStates, session := true, secret := false
    run := fun x s => inSession (fun y s => s.weldClear y) x s }

def execWeldClear (c : CmdIn) (s : State) : Host.Outcome State Fault Refusal := .next (s.command cmdWeldClear c)

def cmdClogRoll : CmdSpec :=
  { opc := 0x65, args := [(8, 20)], priv := pf0Only, role := 2, states := runStates, session := true, secret := false
    run := fun x s => inSession (fun y s => s.clogRoll y (x.arg 8 4) (x.argBytes 12 16)) x s }

def execClogRoll (c : CmdIn) (s : State) : Host.Outcome State Fault Refusal := .next (s.command cmdClogRoll c)

/-- A curve: 34 strictly decreasing resistances of at least 1 ohm in units of 0.1 ohm, and their CRC-32 (R127, R402).
DEDUCED (log 110). -/
def curveValid (l : List Nat) : Bool :=
  l.length == 140 && leAt l 136 4 == crc32 (l.take 136)
    && (List.range 34).all (fun k => decide (10 ≤ leAt l (4 * k) 4))
    && (List.range 33).all fun k => decide (leAt l (4 * (k + 1)) 4 < leAt l (4 * k) 4)

/-- The resistances of a curve.
DEDUCED (log 110). -/
def curveOf (l : List Nat) : List Nat := (List.range 34).map fun k => leAt l (4 * k) 4

/-- Why a table is turned away; none where it is valid (R402).
DEDUCED (log 111). -/
def State.tableRefusal (kind : Nat) (l : List Nat) (s : State) : Option Reply :=
  if kind = 1 then (if ocvValid l then none else some (.refused 0x0606))
  else if kind = 2 then (if mapValid l then none else some (.refused 0x0761))
  else if s.contactorClosed then some (.refused 0x0507)
  else if curveValid l then none else some (.no stBadField)

/-- The least and greatest LEN of a kind.
DEDUCED (log 110). -/
def tableLen (kind n : Nat) : Bool :=
  if kind = 1 then decide (456 ≤ n) && decide (n ≤ 6516)
  else if kind = 2 then decide (4 ≤ n) && decide (n ≤ 4096) else n == 140

/-- DEDUCED (log 111). -/
def cmdTableLoad : CmdSpec :=
  { opc := 0x64, args := [(8, 2), (12, 12)], priv := pf0Only, role := 2, states := runStates, session := true
    secret := false
    run := fun x s =>
      let kind := x.arg 8 1
      let slot := x.arg 9 1
      if !([1, 2, 3].contains kind && decide (slot < (if kind = 2 then 4 else 8)) && tableLen kind (x.arg 12 4)
          && (x.ref.svc.isSome || x.arg 16 8 % 4096 == 0)) then (s, some (.no stBadField))
      else x.read s fun l =>
        match s.tableRefusal kind (l.take (x.arg 12 4)) with
        | some y =>
          (if y.result = 0x0761 then s.raise 0x0761 1 (subjMap slot) []
            else if y.status = stRefused then s.note y.result (subjNum slot) [] else s, some y)
        | none => inSession (fun y s => s.tableStage y kind slot (l.take (x.arg 12 4))) x s }

def execTableLoad (c : CmdIn) (s : State) : Host.Outcome State Fault Refusal := .next (s.command cmdTableLoad c)

/-! ## CELL_REFRESH (R418) -/

def cmdCellRefresh : CmdSpec :=
  { opc := 0x70, args := [(8, 4)], priv := pf0Only, role := 3, states := runStates, session := false, secret := false
    run := fun x s =>
      let first := x.arg 8 2
      let n := x.arg 10 2
      if n = 0 ∨ 1152 < first + n then (s, some (.no stBadField))
      else if s.flag Reg.HIF_CELL_STAT_BUSY then (s, some (.no stBusy))
      else match x.data with
        | none => ((s.cellsDone first n none).1, some (.no stDmaErr))
        | some l =>
          let r := s.cellsDone first n (some l)
          (r.1, some (.ok r.2)) }

/-- DESIGN CHOICE (log 108). -/
def execCellRefresh (c : CmdIn) (s : State) : Host.Outcome State Fault Refusal := .next (s.command cmdCellRefresh c)

end Sys2Proof.Machine
end

