-- ==== Sys2Proof/Machine/EventLog.lean ====
section
/-! DEFINITION. The event log: records, folds, commits and the frozen view (R444 to R450). -/
namespace Sys2Proof.Machine

/-! ## Records (R444) -/

/-- Bytes 0 to 57 of a record. -/
def EvSlot.body (e : EvSlot) : List Nat :=
  leBytes 6 e.seq ++ leBytes 2 e.rcd.code ++ leBytes 8 e.rcd.strike
    ++ [e.rcd.cls + 8 * bit e.rcd.clear + 16 * bit e.rcd.tv, 0] ++ leBytes 2 e.rcd.rpt ++ leBytes 4 e.rcd.span
    ++ leBytes 4 e.rcd.subj ++ padTo 30 e.rcd.data

/-- The stored CRC of a record: that of its bytes, or a value no rule gives where it has failed. -/
def EvSlot.crc (e : EvSlot) : Nat := if e.crcOk then crc32 e.body else Config.freeNat e.seq % 2 ^ 32

/-- The 64 bytes of a record. -/
def EvSlot.bytes (e : EvSlot) : List Nat := e.body ++ leBytes 4 e.crc ++ [0, 0xA5]

/-- The newest committed SEQ; 0 before the first record.
DEDUCED (log 120). -/
def State.newestSeq (s : State) : Nat := s.evl.nextSeq - 1

/-- EVL_STAT, EVL_OLD and EVL_NEW after a change of the log. -/
def State.evlRegs (s : State) : State :=
  let n := s.evl.slots.length
  let old := match s.evl.slots.head? with | some e => e.seq | none => 0
  let new := match s.evl.slots.getLast? with | some e => e.seq | none => 0
  s.setFields [(Reg.EVL_STAT_USED, n), (Reg.EVL_STAT_NEAR, bit (decide (61440 ≤ n))), (Reg.EVL_STAT_FULL, bit s.evl.full),
    (Reg.EVL_OLD_LO_SEQ, old % 2 ^ 32), (Reg.EVL_OLD_HI_SEQ, old / 2 ^ 32), (Reg.EVL_NEW_LO_SEQ, new % 2 ^ 32),
    (Reg.EVL_NEW_HI_SEQ, new / 2 ^ 32)]

/-! ## The writer (R446, R448) -/

/-- A record is written into the next slot, with the next SEQ, and reaches the EVT rings. -/
def State.evlPut (r : EvRec) (s : State) : State :=
  let q := s.evl.nextSeq
  let s1 := { s with evl := { s.evl with
    slots := s.evl.slots ++ [({ seq := q, crcOk := true, rcd := r } : EvSlot)], nextSeq := q + 1 } }
  (s1.evlRegs).hostEvent q r

/-- The records that the reserved slots take. -/
def EvRec.reserved (r : EvRec) : Bool := r.code == 0x0610 || r.code == 0x0511

/-- The log becomes full: 0x0141 takes the last ordinary slot (R448). -/
def State.evlFill (s : State) : State :=
  let s1 := { s with evl := { s.evl with full := true } }
  ((s1.evlPut (s1.event 0x0141 1 subjNone false [])).activate 0x0141 1 subjNone false).captureFault 0x0141 1

/-- A record is written where R448 lets it be, and lost otherwise. -/
def State.evlCommit (r : EvRec) (s : State) : State :=
  let n := s.evl.slots.length
  if s.evl.full then (if r.reserved && decide (n < 65536) then s.evlPut r else s.loseRecord r)
  else if n = 65519 then
    let s1 := s.evlFill
    if r.reserved then s1.evlPut r else s1.loseRecord r
  else
    let s1 := s.evlPut r
    if n + 1 = 61440 then s1.raiseLevel 0x0140 1 subjNone [] else s1

/-- The writer takes the next queued record; 0x0145 follows at the first space after a loss (R446).
DEDUCED (log 120). -/
def State.evlWrite (s : State) : State :=
  match s.evl.queue with
  | [] => s
  | r :: q =>
    let s1 := ({ s with evl := { s.evl with queue := q } }).evlCommit r
    if s1.evl.lostDue then
      ({ s1 with evl := { s1.evl with lostDue := false } }).raisePaced 0x0145 0x0145 1 subjNone []
    else s1

/-! ## Folds (R447) -/

/-- The summary record of a fold. -/
def Fold.summary (f : Fold) : EvRec :=
  { f.rcd with strike := f.last, rpt := sat 65535 f.count, span := sat 0xFFFFFFFF (f.last - f.first) }

/-- A fold closes: its summary is queued. -/
def State.closeFold (f : Fold) (s : State) : State :=
  ({ s with evl := { s.evl with folds := s.evl.folds.erase f } }).enqueue f.summary

/-- FOLD_CLOSE: RWIN without an occurrence, or the count limit. -/
def execFoldClose (s : State) : Host.Outcome State Fault Refusal :=
  .next (match s.evl.folds.find? fun f => decide (f.last + s.foldWindow < s.now) || decide (65535 ≤ f.count) with
    | some f => if s.sys.core then s.closeFold f else s
    | none => s)

/-! ## The frozen view (R450) -/

/-- A freeze ends. -/
def State.unfreeze (s : State) : State := (s.setFlag Reg.EVL_STAT_FROZEN false).note 0x0144 subjNone []

/-- FREEZE_TIMEOUT. -/
def execFreezeTimeout (s : State) : Host.Outcome State Fault Refusal :=
  .next (if s.flag Reg.EVL_STAT_FROZEN && decide (s.reg Reg.EVL_CTRL_FRZ_TO * secStrikes ≤ s.since s.evl.frozenAt) then
      s.unfreeze
    else s)

/-- EVLOG_MARK (R449). -/
def cmdEvlogMark : CmdSpec :=
  { opc := 0x80, args := [], priv := needs 0, role := 0, states := everyState, session := false, secret := false
    run := fun _ s => (s, some (.ok (s.newestSeq % 2 ^ 48))) }

def execEvlogMark (c : CmdIn) (s : State) : Host.Outcome State Fault Refusal := .next (s.command cmdEvlogMark c)

/-- EVLOG_FREEZE. -/
def cmdEvlogFreeze : CmdSpec :=
  { opc := 0x81, args := [], priv := pf0Only, role := 2, states := everyState, session := false, secret := false
    run := fun _ s =>
      if s.flag Reg.EVL_STAT_FROZEN then (s, some (.no stBusy))
      else
        let n := s.evl.slots.length
        let s1 := ({ s with evl := { s.evl with frozenAt := s.now } }).setFields
          [(Reg.EVL_STAT_FROZEN, 1), (Reg.EVL_FRZ_FCOUNT, n)]
        (s1.note 0x0143 subjNone [], some (.ok n)) }

def execEvlogFreeze (c : CmdIn) (s : State) : Host.Outcome State Fault Refusal := .next (s.command cmdEvlogFreeze c)

/-- EVLOG_RELEASE. -/
def cmdEvlogRelease : CmdSpec :=
  { opc := 0x82, args := [], priv := pf0Only, role := 2, states := everyState, session := false, secret := false
    run := fun _ s =>
      if s.flag Reg.EVL_STAT_FROZEN then (s.unfreeze, some (.ok 1)) else (s, some (.ok 0)) }

def execEvlogRelease (c : CmdIn) (s : State) : Host.Outcome State Fault Refusal := .next (s.command cmdEvlogRelease c)

end Sys2Proof.Machine
end

