-- ==== Sys2Proof/Machine/Hopper.lean ====
section
/-! DEFINITION. The Hopper archive: packed turns, chunks, cartridges and the lifetime tier (R422 to R441), and the clear of
the event log (R451). -/
namespace Sys2Proof.Machine

/-! ## The packed turn (R424 to R427) -/

/-- The code of a bank in the bank table of a turn, 0 where the turn is not known. -/
def bankCode (trecs : List TurnRec) (turn b : Nat) : Nat :=
  match trecs.find? fun t => t.turn == turn with
  | some t => t.banks.getD b 0
  | none => 0

/-- The predicted D of a position's word (R425). -/
def predictedD (trecs : List TurnRec) (r : StrikeRec) (g : Nat) : Bool :=
  let b := g / 64
  let p := g % 64
  let c := bankCode trecs (r.strike / 32) b
  let m := r.strike - groupDelay (bitsAt c 0 3)
  !bitAt c 5 || decide (bitsAt c 6 7 ≤ p) || bitAt r.miss b
    || (bitAt (bankCode trecs (m / 32) b) 4 && decide (p / 2 = m % 32))

/-- Flags of a word as an exception entry holds them: D, C, O, S from bit 11 up. -/
def wordFlags (w : Nat) (d : Bool) : Nat :=
  2048 * bit (wD w != d) + 4096 * bit (wC w) + 8192 * bit (wO w) + 16384 * bit (wS w)

/-- The exception entries of a strike (R425). -/
def exceptions (trecs : List TurnRec) (r : StrikeRec) : List Nat :=
  (List.range 1157).filterMap fun ch =>
    let d := if ch < 1152 then predictedD trecs r ch else bitAt r.miss 18
    let f := wordFlags (r.word ch) d
    if f = 0 then none else some (ch + f)

/-- The 24-bit values of a strike record. -/
def StrikeRec.values (r : StrikeRec) : List Nat := (List.range 1157).map fun ch => r.word ch / 256 % 2 ^ 24

/-- A packed strike from its values. -/
def packStrike (trecs : List TurnRec) (vals : List Nat) (r : StrikeRec) : List Nat :=
  let e := exceptions trecs r
  vals.flatMap (leBytes 3) ++ leBytes 4 r.status ++ leBytes 2 e.length ++ e.flatMap (leBytes 2)

/-- The turn part of a packed turn. -/
def turnPart (t : TurnRec) : List Nat :=
  ((List.range 18).flatMap fun b => leBytes 4 (t.chkLast.getD b 0)) ++ presence t ++ [0, 0, 0]
    ++ t.temps.flatMap fun e => leBytes 4 e.2

/-- A packed turn from the packed strikes; the CRC is taken over `plain`, the strikes before any differences. -/
def packTurn (t : TurnRec) (strikes plain : List Nat) : List Nat :=
  let tail := turnPart t
  let head := leBytes 8 t.turn ++ leBytes 4 (64 + plain.length + tail.length) ++ leBytes 2 t.temps.length
    ++ leBytes 8 (unsigned 64 t.acc0) ++ leBytes 2 (unsigned 16 t.frac0)
    ++ (List.range 18).flatMap fun b => leBytes 2 (t.banks.getD b 0)
  head ++ leBytes 4 (crc32 (head ++ plain ++ tail)) ++ strikes ++ tail

/-- Differences modulo 2^24 of the values of a strike from those of the strike before it (R427). -/
def valueDiff (now before : List Nat) : List Nat := List.zipWith (fun a b => (a + 2 ^ 24 - b) % 2 ^ 24) now before

/-- The packed turns of a chunk, as they are and with differences. The predicted flags look into `all` the turns held, since
strike m − G may lie in a turn before the chunk (R425).
DESIGN CHOICE (log 128). -/
def packChunk (all trecs : List TurnRec) (recs : List StrikeRec) : List Nat × List Nat :=
  let f := fun (a : List Nat × List Nat × Option (List Nat)) (t : TurnRec) =>
    let rs := recs.filter fun r => r.strike / 32 == t.turn
    let plain := rs.flatMap fun r => packStrike all r.values r
    let d := rs.foldl (fun (x : List Nat × Option (List Nat)) r =>
      (x.1 ++ packStrike all (match x.2 with | some b => valueDiff r.values b | none => r.values) r, some r.values))
      ([], a.2.2)
    (a.1 ++ packTurn t plain plain, a.2.1 ++ packTurn t d.1 plain, d.2)
  let r := trecs.foldl f ([], [], none)
  (r.1, r.2.1)

/-! ## Chunks (R428) -/

/-- The 32 bytes of a SHA-256.
DEDUCED (log 130). -/
def sha (l : List Nat) : List Nat := beBytes 32 (Config.sha256 l)

/-- A chunk header of 256 bytes.
DEDUCED (log 127). -/
def chunkHeader (s : State) (kind flags first turns raw stored cause : Nat) (data : List Nat) : List Nat :=
  let body := leBytes 2 0x0401 ++ [kind, flags] ++ leBytes 4 turns ++ leBytes 8 first ++ leBytes 8 s.hop.seq
    ++ leBytes 8 s.serial ++ leBytes 4 (layoutCrc s.auth.committed.layout) ++ leBytes 4 raw ++ leBytes 4 stored
    ++ [cause] ++ List.replicate 19 0 ++ beBytes 32 s.hop.prev ++ data ++ List.replicate 124 0
  body ++ leBytes 4 (crc32 body)

/-- 256 MiB and the 3 072 MiB of Hopper staging. -/
def backlogMax : Nat := 268435456
def stagingMax : Nat := 3221225472

/-- The bytes a chunk takes in staging or on a cartridge. -/
def Chunk.size (c : Chunk) : Nat := c.stored + 256

def stagingBytes (l : List Chunk) : Nat := l.foldl (fun a c => a + c.size) 0

/-- HOP_BACKLOG and 0x0C09 after a change of staging (R430). -/
def State.backlogRegs (s : State) : State :=
  let n := stagingBytes s.hop.staging
  (s.setReg Reg.HOP_BACKLOG_MIB (sat 0xFFFF (n / 1048576))).level (decide (backlogMax < n)) 0x0C09 1 subjNone []

/-- Slots and their states (R435). -/
def hsEmpty : Nat := 0
def hsPending : Nat := 1
def hsResync : Nat := 2
def hsInSync : Nat := 3
def hsFailed : Nat := 4
def hsEjected : Nat := 5

def State.hopSlot (s : State) (k : Nat) : HopSlot := if k = 0 then s.hop.a else s.hop.b
def State.setHopSlot (k : Nat) (x : HopSlot) (s : State) : State :=
  { s with hop := if k = 0 then { s.hop with a := x } else { s.hop with b := x } }
def State.hopState (s : State) (k : Nat) : Nat := s.reg (Reg.HOP_SLOT_STAT_STATE k)
def State.setHopState (k v : Nat) (s : State) : State := s.setReg (Reg.HOP_SLOT_STAT_STATE k) v

/-- A cartridge is writing. -/
def State.hopWriting (s : State) (k : Nat) : Bool := s.hopState k == hsResync || s.hopState k == hsInSync
def State.writers (s : State) : List Nat := (List.range 2).filter s.hopWriting

/-- 0x0C04 and 0x0C05 (R439).
DEDUCED (log 125). -/
def State.hopLevels (s : State) : State :=
  (s.level (decide (s.writers.length = 1)) 0x0C04 1 subjNone []).level
    (decide (s.writers.length = 0) && s.flag Reg.HOP_CTRL_EN) 0x0C05 1 subjNone []

/-- Changes the cartridge of a slot. -/
def State.mapCart (k : Nat) (f : Cartridge → Cartridge) (s : State) : State :=
  s.setHopSlot k { s.hopSlot k with cart := (s.hopSlot k).cart.map f }

/-- How many of the oldest chunks must go for the rest to fit in staging. -/
def overStaged : List Chunk → Nat
  | [] => 0
  | c :: r => if stagingBytes (c :: r) ≤ stagingMax then 0 else overStaged r + 1

/-- The gap that covers the turns of a chunk given up: GCAUSE 0x02, or that of a gap chunk itself (R431). -/
def Chunk.asGap (c : Chunk) : Nat × Nat × Nat := (c.first, c.turns, if c.gap then c.cause else 2)

/-- A chunk enters staging; the oldest chunks that no longer fit become gaps (R431). -/
def State.stage (c : Chunk) (s : State) : State :=
  let l := s.hop.staging ++ [c]
  let n := overStaged l
  let s1 := { s with hop := { s.hop with
    staging := l.drop n, seq := s.hop.seq + 1, prev := Config.sha256 c.header
    sealed := s.hop.sealed ++ [c.header], gaps := s.hop.gaps ++ (l.take n).map Chunk.asGap } }
  s1.backlogRegs

/-- HOP_RATE: ratio of the last 3 600 chunks, and the days that 30 TB hold at it (R454). -/
def State.rateRegs (s : State) : State :=
  let raw := s.hop.ratios.foldl (fun a e => a + e.1) 0
  let st := s.hop.ratios.foldl (fun a e => a + e.2) 0
  if raw = 0 ∨ st = 0 then s
  else
    let perDay := st * 86400 / s.hop.ratios.length
    s.setFields [(Reg.HOP_RATE_RATIO, sat 0xFFFF (raw * 100 / st)),
      (Reg.HOP_RATE_SPAN, if perDay = 0 then 0xFFFF else sat 0xFFFF (300000000000000 / perDay))]

/-- Closes the open chunk before turn `stop` (R423).
DEDUCED (log 127). -/
def State.closeChunk (first stop : Nat) (short : Bool) (s : State) : State :=
  let recs := (s.mpd.recs.filter fun r => decide (first * 32 ≤ r.strike) && decide (r.strike < stop * 32)).reverse
  let trecs := (s.mpd.turns.filter fun t => decide (first ≤ t.turn) && decide (t.turn < stop)).reverse
  let p := packChunk s.mpd.turns trecs recs
  let z := Config.zstd p.2
  let isRaw := decide (p.1.length ≤ z.length)
  let bytes := if isRaw then p.1 else z
  let h := chunkHeader s 1 (bit isRaw + 2 * bit short) first (stop - first) p.1.length bytes.length 0 (sha bytes)
  let c : Chunk := { seq := s.hop.seq, gap := false, first := first, turns := stop - first, cause := 0, recs := recs
                     trecs := trecs, raw := p.1.length, stored := bytes.length, header := h }
  let s1 := s.stage c
  ({ s1 with hop := { s1.hop with
      next := some stop, ratios := ((p.1.length, bytes.length) :: s1.hop.ratios).take 3600 } }).rateRegs

/-- The last turn whose records are all committed, plus 1.
DESIGN CHOICE (log 128). -/
def State.packedTo (s : State) : Nat := (s.mpd.head + 1) / 32

/-- The open chunk is closed as short at the last turn packed (R423). -/
def State.closeShort (s : State) : State :=
  match s.hop.next with
  | some f => if f < s.packedTo ∧ s.hop.off.isNone then s.closeChunk f s.packedTo true else s
  | none => s

/-- CHUNK_CLOSE: the turns up to the next multiple of 1 000 are packed (R423, R430). -/
def execChunkClose (s : State) : Host.Outcome State Fault Refusal :=
  .next (match s.hop.next with
    | some f =>
      let b := (f / 1000 + 1) * 1000
      if s.flag Reg.HOP_CTRL_EN && s.hop.gaps == [] && s.hop.off.isNone && decide (b ≤ s.packedTo) && s.sys.core
          && s.appsRun then
        s.closeChunk f b (f % 1000 != 0)
      else s
    | none => s)

/-- GAP_CHUNK (R431). -/
def execGapChunk (s : State) : Host.Outcome State Fault Refusal :=
  .next (match s.hop.gaps with
    | [] => s
    | (first, turns, cause) :: r =>
      if s.sys.core && s.appsRun then
        let h := chunkHeader s 2 0 first turns 0 0 cause (sha [])
        let c : Chunk := { seq := s.hop.seq, gap := true, first := first, turns := turns, cause := cause, recs := []
                           trecs := [], raw := 0, stored := 0, header := h }
        let s1 := { s with hop := { s.hop with
          gaps := r, minute := { s.hop.minute with gapTurns := s.hop.minute.gapTurns + turns } } }
        ((s1.stage c).addSat Reg.HOP_BACKLOG_GAPS 1).note 0x0C0A subjNone (leBytes 8 first ++ leBytes 4 turns ++ [cause])
      else s)

/-- The compressor at strike 0: packing starts, stops with EN = 0, and starts again behind a gap (R431). -/
def State.hopTurnStart (s : State) : State :=
  let t := s.turn
  let s0 := s.hopLevels
  if s.flag Reg.HOP_CTRL_EN then
    match s.hop.off, s.hop.next with
    | some f, _ => { s0 with hop := { s0.hop with
        off := none, next := some t, gaps := if f < t then s0.hop.gaps ++ [(f, t - f, 3)] else s0.hop.gaps } }
    | none, some _ => s0
    | none, none => { s0 with hop := { s0.hop with
        next := some t
        gaps := match s.hop.lastTurn with
          | some l => if l + 1 < t then s0.hop.gaps ++ [(l + 1, t - (l + 1), 4)] else s0.hop.gaps
          | none => s0.hop.gaps } }
  else if s.hop.off.isSome then s0
  else
    let s1 := s0.closeShort
    { s1 with hop := { s1.hop with off := some t } }

/-! ## Commits to cartridges (R422, R428, R430) -/

/-- The full-rate tier: the oldest chunks make way. -/
def trimTier : Nat → List Chunk → List Chunk
  | 0, l => l
  | n + 1, l => if stagingBytes l ≤ 30000000000000 then l else trimTier n (l.drop 1)

/-- Staging without the chunks that every writing cartridge has (R430, R431). -/
def State.pruneStaging (s : State) : State :=
  let w := s.writers
  if w = [] then s
  else
    let least := w.foldl (fun a k => min a (s.hopSlot k).done) s.hop.seq
    ({ s with hop := { s.hop with staging := s.hop.staging.filter fun c => decide (least < c.seq) } }).backlogRegs

/-- HOP_FR_OLD and HOP_FR_NEW. -/
def State.frameRegs (s : State) : State :=
  let held := (List.range 2).filterMap fun k => (s.hopSlot k).cart
  let old := held.filterMap fun c => c.chunks.head?.map (·.first)
  let o := match old with | [] => 0 | a :: r => r.foldl min a
  let sync := (List.range 2).filter fun k => s.hopState k == hsInSync
  let top := sync.foldl (fun a k => min a (s.hopSlot k).done) s.hop.seq
  let new := if sync = [] then none
    else (held.flatMap fun c => c.chunks).foldl (fun (a : Option Chunk) c =>
      if c.seq ≤ top then (match a with | some b => if b.seq < c.seq then some c else a | none => some c) else a) none
  let s1 := s.setFields [(Reg.HOP_FR_OLD_LO_TURN, o % 2 ^ 32), (Reg.HOP_FR_OLD_HI_TURN, o / 2 ^ 32)]
  match new with
  | some c =>
    let n := c.first + c.turns - 1
    s1.setFields [(Reg.HOP_FR_NEW_LO_TURN, n % 2 ^ 32), (Reg.HOP_FR_NEW_HI_TURN, n / 2 ^ 32)]
  | none => s1

/-- The next chunk due to a cartridge. -/
def State.dueChunk (s : State) (k : Nat) : Option Chunk :=
  let x := s.hopSlot k
  s.hop.staging.find? fun c => decide (x.done < c.seq) && (x.ejectAt.isNone || decide (c.seq ≤ x.ejectSeq))

/-- A chunk is committed on a cartridge. -/
def State.commitChunk (k : Nat) (c : Chunk) (s : State) : State :=
  let s1 := s.mapCart k fun t => { t with chunks := trimTier t.chunks.length (t.chunks ++ [c]) }
  let s2 := s1.setHopSlot k { s1.hopSlot k with done := c.seq }
  let s3 := { s2 with hop := { s2.hop with lastTurn := some (max (c.first + c.turns - 1) (s2.hop.lastTurn.getD 0)) } }
  s3.pruneStaging.frameRegs

/-- CHUNK_COMMIT: the header of the next chunk is written and read back on cartridge `k`; its wear in % after it (R428,
R439).
DESIGN CHOICE (log 129). -/
def execChunkCommit (k wear : Nat) (s : State) : Host.Outcome State Fault Refusal :=
  .next (if decide (k < 2) && s.hopWriting k && decide (wear < 100) && s.flag Reg.HOP_CTRL_EN then
      match s.dueChunk k with
      | some c =>
        ((s.commitChunk k c).setReg (Reg.HOP_SLOT_STAT_WEAR k) wear).level (decide (90 ≤ wear)) 0x0C0B 1 (subjHopper k) []
      | none => s
    else s)

/-! ## The record area (R434) -/

/-- Records of both logs not yet copied, in order: event-log records, then change-log entries. -/
def State.uncopied (s : State) : List (List Nat) :=
  ((s.evl.slots.filter fun e => decide (s.evl.copied ≤ e.seq)).map EvSlot.bytes)
    ++ s.auth.log.filter fun l => decide (s.auth.copied ≤ leAt l 0 4)

/-- The record area of 0.5 TB: the oldest records make way (R422). -/
def trimArea : List (List Nat) → List (List Nat)
  | [] => []
  | l :: r => if (l :: r).foldl (fun a x => a + x.length) 0 ≤ 500000000000 then l :: r else trimArea r

/-- The record area is brought up to date on every writing cartridge, while the archive runs.
DESIGN CHOICE (log 294). -/
def State.copyRecords (s : State) : State :=
  let l := s.uncopied
  if s.writers = [] ∨ l = [] ∨ !s.flag Reg.HOP_CTRL_EN then s
  else
    let s1 := forAll s.writers (fun k s => s.mapCart k fun c => { c with records := trimArea (c.records ++ l) }) s
    { s1 with
      evl := { s1.evl with copied := s1.evl.nextSeq }, auth := { s1.auth with copied := s1.auth.nextSeq }
      hop := { s1.hop with sealed := s1.hop.sealed ++ l } }

/-- RECORD_AREA_COPY. -/
def execRecordAreaCopy (s : State) : Host.Outcome State Fault Refusal := .next (if s.sys.core then s.copyRecords else s)

/-- Hours of hardware clock time. -/
def State.hourNow (s : State) : Nat := s.now / (3600 * secStrikes)

/-- HOUR_SEAL (R434): the hash of the hour's chunk headers and copied records, signed.
DEDUCED (log 130). -/
def execHourSeal (s : State) : Host.Outcome State Fault Refusal :=
  .next (if decide (s.hop.hour < s.hourNow) && s.sys.core then
      let h := sha s.hop.sealed.flatten
      let sig := h ++ Config.ecdsaSign h
      let s1 := if s.flag Reg.HOP_CTRL_EN then
          forAll s.writers (fun k s => s.mapCart k fun c => { c with seals := c.seals ++ [sig] }) s
        else s
      { s1 with hop := { s1.hop with hour := s.hourNow, sealed := [] } }
    else s)

/-! ## The minute record (R433) -/

def MinPos.zero : MinPos :=
  { means := 0, n := 0, lo := none, hi := none, tLo := none, tHi := none, s := 0, o := 0, c := 0, d := 0, bal := 0 }

/-- The lower and the higher of a value kept and a new one. -/
def lowOf (a : Option Int) (x : Int) : Option Int := match a with | some b => some (min b x) | none => some x
def highOf (a : Option Int) (x : Int) : Option Int := match a with | some b => some (max b x) | none => some x

/-- Bits set in the first `n` bits. -/
def bitsSet (n w : Nat) : Nat := countIf (bitAt w) (List.range n)

/-- Counts the flags of a word. -/
def MinPos.word (w : Nat) (p : MinPos) : MinPos :=
  { p with s := sat 65535 (p.s + bit (wS w)), o := sat 65535 (p.o + bit (wO w)), c := sat 65535 (p.c + bit (wC w))
           d := sat 65535 (p.d + bit (wD w)) }

/-- A strike of the minute: current, missing frames, flags; VSTR and energy from a word of VSTR with S, O and D at 0.
DESIGN CHOICE (log 301). -/
def State.minuteStrike (r : StrikeRec) (s : State) : State :=
  let m := s.hop.minute
  let w := r.word 1155
  let ok := !wS w && !wO w && !wD w
  let v := wValue w
  let e : Rat := if ok then (r.iSel : Rat) * v / 10000000 / 32000 / 3600 else 0
  let m1 : Minute := { m with
    iN := m.iN + 1, iSum := m.iSum + r.iSel, iLo := lowOf m.iLo r.iSel, iHi := highOf m.iHi r.iSel
    vN := m.vN + bit ok, vSum := if ok then m.vSum + v else m.vSum
    vLo := if ok then lowOf m.vLo v else m.vLo, vHi := if ok then highOf m.vHi v else m.vHi
    eDis := if 0 < e then m.eDis + e else m.eDis, eChg := if e < 0 then m.eChg - e else m.eChg
    cls := max m.cls s.govClass, missing := m.missing + bitsSet 19 r.miss
    pos := r.words.foldl (fun t w => t.upd MinPos.zero w.1 (MinPos.word w.2)) m.pos }
  { s with hop := { s.hop with minute := m1 } }

/-- A turn of the minute, at strike 31: position sums, temperatures, insulation. -/
def State.minuteTurn (s : State) : State :=
  let m := s.hop.minute
  let pos := s.allPositions.foldl (fun (t : Tab MinPos) g =>
    let x := posSums (s.recsOf s.turn) g
    t.upd MinPos.zero g fun p =>
      let p1 := if x.n = 0 then p else { p with
        lo := lowOf p.lo x.lo, hi := highOf p.hi x.hi
        means := if 8 ≤ x.n then p.means + (x.sum : Rat) / (x.n : Rat) else p.means, n := if 8 ≤ x.n then p.n + 1 else p.n }
      match s.posTemp g with
      | some v => { p1 with tLo := lowOf p1.tLo v, tHi := highOf p1.tHi v }
      | none => p1) m.pos
  let hot := (s.thm.dieMean.map (·.2)).foldl max m.die
  let m1 : Minute := { m with
    turns := m.turns + 1, pos := pos, die := hot, m0 := max m.m0 (s.tempValue tempM)
    riso := if s.flag Reg.IMD_RESULT_VALID then some (min (m.riso.getD 65535) (s.reg Reg.IMD_RESULT_RISO)) else m.riso }
  { s with hop := { s.hop with minute := m1 } }

/-- A mean rounded to a whole number; 0 of nothing. -/
def meanInt (sum : Int) (n : Nat) : Int := if n = 0 then 0 else Config.round ((sum : Rat) / (n : Rat))

/-- The 64 bytes of a position in a minute record; 0 for a vacant one. -/
def State.minuteEntry (s : State) (g : Nat) : List Nat :=
  if s.vacant (g / 64) (g % 64) then List.replicate 64 0
  else
    let p := s.hop.minute.pos.get MinPos.zero g
    let e := s.estPos g
    let m := s.mdlPos g
    let f := (m.fitGen.map (·.par)).getD []
    leBytes 4 (unsigned 32 (if p.n = 0 then 0 else Config.round (p.means / (p.n : Rat))))
      ++ leBytes 4 (unsigned 32 (p.lo.getD 0)) ++ leBytes 4 (unsigned 32 (p.hi.getD 0))
      ++ leBytes 4 e.lo.floor.toNat ++ leBytes 4 e.hi.ceil.toNat
      ++ leBytes 2 (unsigned 16 (p.tLo.getD 0)) ++ leBytes 2 (unsigned 16 (p.tHi.getD 0))
      ++ leBytes 4 (Config.round ((m.out.map (·.soc)).getD 0 * 1000000)).toNat ++ fpBytes (m.theta.getD 0 0)
      ++ fpBytes (f.getD 0 0) ++ fpBytes (f.getD 2 0) ++ leBytes 2 (s.isi g) ++ leBytes 2 m.lpi
      ++ leBytes 2 p.s ++ leBytes 2 p.o ++ leBytes 2 p.c ++ leBytes 2 p.d
      ++ leBytes 4 (unsigned 32 (meanInt (s.bal.bleedQ.get 0 g + s.bal.shutQ.get 0 g - p.bal) 320000)) ++ List.replicate 8 0

/-- The minute record of 73 984 B. -/
def State.minuteBytes (s : State) : List Nat :=
  let m := s.hop.minute
  let four := fun (i : Int) => leBytes 4 (unsigned 32 i)
  let head := leBytes 8 m.first ++ leBytes 4 m.turns ++ leBytes 8 (unsigned 64 s.cur.acc)
    ++ four (meanInt m.iSum m.iN) ++ four (m.iLo.getD 0) ++ four (m.iHi.getD 0)
    ++ four (meanInt m.vSum m.vN) ++ four (m.vLo.getD 0) ++ four (m.vHi.getD 0)
    ++ leBytes 4 (Config.round m.eDis).toNat ++ leBytes 4 (Config.round m.eChg).toNat
    ++ [m.cls, s.mode + 16 * s.conn] ++ leBytes 2 (sat 65535 m.faults) ++ leBytes 2 (m.riso.getD 0)
    ++ leBytes 2 (unsigned 16 m.die) ++ leBytes 2 (unsigned 16 m.m0) ++ leBytes 4 m.missing ++ leBytes 4 m.gapTurns
    ++ List.replicate 182 0
  let body := (List.range 1152).flatMap s.minuteEntry
  head ++ leBytes 4 (crc32 (head ++ body)) ++ body

/-- The minute in hand ends: its record is due while the archive runs, and the next minute begins.
DESIGN CHOICE (log 294). -/
def State.minuteEnd (s : State) : State :=
  let bal := s.allPositions.foldl (fun (t : Tab MinPos) g =>
    t.put g { MinPos.zero with bal := s.bal.bleedQ.get 0 g + s.bal.shutQ.get 0 g }) []
  { s with hop := { s.hop with
      minDue := if s.flag Reg.HOP_CTRL_EN then s.hop.minDue ++ [s.minuteBytes] else s.hop.minDue, minute := { Minute.start s.turn with pos := bal } } }

/-- Strike 0 of a minute's first turn ends the minute before it. -/
def State.minuteStart (s : State) : State :=
  if s.turn % 60000 = 0 ∧ s.hop.minute.turns ≠ 0 then s.minuteEnd else s

/-- Minute records go to a cartridge, which holds 20 274 660: the oldest make way. -/
def Cartridge.addMinutes (l : List (List Nat)) (c : Cartridge) : Cartridge :=
  { c with minutes := (c.minutes ++ l).drop (c.minutes.length + l.length - 20274660) }

/-- MINUTE_RECORD: the oldest minute record due is written on every writing cartridge, of 20 274 660. -/
def execMinuteRecord (s : State) : Host.Outcome State Fault Refusal :=
  .next (match s.hop.minDue with
    | [] => s
    | l :: r =>
      if s.sys.core && s.flag Reg.HOP_CTRL_EN then
        let s1 := forAll s.writers (fun k s => s.mapCart k fun c =>
          c.addMinutes [l]) s
        { s1 with hop := { s1.hop with minDue := r } }
      else s)

/-! ## Cartridges (R429, R435 to R440) -/

/-- Domain of a slot. -/
def hopDomain (k : Nat) : Field := if k = 0 then Reg.PWR_DOM_HPA else Reg.PWR_DOM_HPB

/-- Classes of a cartridge (R429). -/
def Cartridge.blank (c : Cartridge) : Bool := !c.label && c.chunks == []
def Cartridge.own (serial : Nat) (c : Cartridge) : Bool := c.label && c.owner == serial

/-- The newest CSEQ on a cartridge. -/
def Cartridge.top (c : Cartridge) : Nat := match c.chunks.getLast? with | some x => x.seq | none => 0

/-- An empty cartridge. -/
def Cartridge.erased (c : Cartridge) : Cartridge := { c with chunks := [], minutes := [], records := [], seals := [], newest := 0 }

/-- Admission of the cartridge of a slot: the state, and RESULT (R437).
DEDUCED (log 126). -/
def State.hopAdmit (k : Nat) (erase : Bool) (s : State) : State × Nat :=
  match (s.hopSlot k).cart with
  | none => (s, 0)
  | some c =>
    let other := 1 - k
    let otherSync := s.hopState other == hsInSync
    let own := c.own s.serial
    let held := match (s.hopSlot other).cart with
      | some o => o.chunks.any fun x => x.seq == c.top
      | none => false
    let keep := own && !erase && (!otherSync || held)
    let label := fun (c : Cartridge) =>
      { c with label := true, owner := s.serial, admissions := c.admissions + 1, clean := false }
    let c1 := label (if keep then c else c.erased)
    let s1 := s.setHopSlot k
      { cart := some c1, done := c1.top, ejectAt := none, ejectCmd := none, ejectSeq := 0 }
    let s2 := (s1.setHopState k (if otherSync then hsResync else hsInSync)).setFields
      [(Reg.HOP_SLOT_STAT_FOREIGN k, 0), (Reg.HOP_SLOT_STAT_LATCH k, 0), (hopDomain k, 1), (Reg.HOP_SLOT_STAT_PROG k, 0)]
    let s3 := ((s2.goneAt 0x0C08 (subjHopper k)).note 0x0C01 (subjHopper k) []).note 0x0C06 (subjHopper k) []
    (s3.hopLevels.frameRegs, if !keep then 2 else if otherSync then 1 else 0)

/-- A cartridge is found in a slot: PD_HPx on, PENDING, and admission where its label allows it (R436, R437).
DEDUCED (log 126). -/
def State.cartFound (k : Nat) (c : Cartridge) (readable : Bool) (s : State) : State :=
  let s1 := (s.setHopSlot k { cart := some c, done := c.top, ejectAt := none, ejectCmd := none, ejectSeq := 0 }).setFields
    [(Reg.HOP_SLOT_STAT_PRES k, 1), (hopDomain k, 1), (Reg.HOP_SLOT_STAT_STATE k, hsPending),
     (Reg.HOP_SLOT_SER_LO_SER k, c.serial % 2 ^ 32), (Reg.HOP_SLOT_SER_HI_SER k, c.serial / 2 ^ 32)]
  if readable && (c.blank || c.own s.serial) then
    (if s.flag Reg.HOP_CTRL_AUTO then (s1.hopAdmit k false).1 else s1)
  else (s1.setFlag (Reg.HOP_SLOT_STAT_FOREIGN k) true).raiseLevel 0x0C08 1 (subjHopper k) []

/-- The Hopper controllers can be powered: from Millpond ready on, and in neither BRAKE nor an entry to STANDSTILL (R530). -/
def State.hopPowered (s : State) : Bool :=
  s.sys.core && s.flag Reg.MPD_STAT_READY && decide (s.power < pwEntry)

/-- CARTRIDGE_INSERT: present for 500 ms; the cartridge as it is found, and whether its label can be read (R436). Where the
domain is off, the cartridge waits in its slot for Millpond ready.
DESIGN CHOICE (log 129). -/
def execCartridgeInsert (k : Nat) (c : Cartridge) (readable : Bool) (s : State) : Host.Outcome State Fault Refusal :=
  .next (if decide (k < 2) && s.hopState k == hsEmpty && (s.hopSlot k).cart.isNone then
      if s.hopPowered then s.cartFound k c readable
      else s.setHopSlot k { HopSlot.empty with cart := some c }
    else s)

/-- A command that waits on a slot is answered.
DEDUCED (log 123). -/
def State.ejectAnswer (k : Nat) (y : Reply) (s : State) : State :=
  match (s.hopSlot k).ejectCmd with
  | some c => (s.setHopSlot k { s.hopSlot k with ejectAt := none, ejectCmd := none }).complete c y
  | none => s

/-- CARTRIDGE_REMOVED: presence lost for 10 ms (R439).
DEDUCED (log 123, 124, 125). -/
def execCartridgeRemoved (k : Nat) (s : State) : Host.Outcome State Fault Refusal :=
  .next (if decide (k < 2) && s.hopState k == hsEmpty then s.setHopSlot k HopSlot.empty
    else if k < 2 then
      let s0 := s.ejectAnswer k (.refused 0x0C02)
      let s1 := (s0.setHopSlot k { cart := none, done := 0, ejectAt := none, ejectCmd := none, ejectSeq := 0 }).setFields
        [(Reg.HOP_SLOT_STAT_STATE k, hsEmpty), (Reg.HOP_SLOT_STAT_PRES k, 0), (Reg.HOP_SLOT_STAT_FOREIGN k, 0),
         (Reg.HOP_SLOT_STAT_LATCH k, 0), (Reg.HOP_SLOT_STAT_WEAR k, 0), (Reg.HOP_SLOT_STAT_PROG k, 0),
         (Reg.HOP_SLOT_SER_LO_SER k, 0), (Reg.HOP_SLOT_SER_HI_SER k, 0), (hopDomain k, 0)]
      let s2 := (s1.goneAt 0x0C08 (subjHopper k)).goneAt 0x0C0B (subjHopper k)
      let s3 := if s.hopState k = hsEjected then s2 else s2.raise 0x0C02 1 (subjHopper k) []
      s3.hopLevels.frameRegs
    else s)

/-- CARTRIDGE_FAILED: an unrecoverable write error, or full wear; the wear read, in % (R439). -/
def execCartridgeFailed (k wear : Nat) (s : State) : Host.Outcome State Fault Refusal :=
  .next (if decide (k < 2) && s.hopWriting k then
      let s1 := (s.setHopState k hsFailed).setReg (Reg.HOP_SLOT_STAT_WEAR k) (sat 255 wear)
      let s2 := (s1.raise 0x0C03 1 (subjHopper k) []).level (decide (90 ≤ wear)) 0x0C0B 1 (subjHopper k) []
      s2.pruneStaging.hopLevels.frameRegs
    else s)

/-- Chunks in ascending CSEQ, each once. -/
def insertChunk (c : Chunk) : List Chunk → List Chunk
  | [] => [c]
  | d :: r => if c.seq < d.seq then c :: d :: r else if c.seq = d.seq then d :: r else d :: insertChunk c r

/-- RESYNC_COMPLETE: what the other cartridge holds has been copied (R438).
DEDUCED (log 125); DESIGN CHOICE (log 304). -/
def execResyncComplete (k : Nat) (s : State) : Host.Outcome State Fault Refusal :=
  .next (if decide (k < 2) && s.hopState k == hsResync then
      let s1 := match (s.hopSlot (1 - k)).cart with
        | some o =>
          if s.hopState (1 - k) = hsInSync then
            s.mapCart k fun c => { c with
              chunks := trimTier (c.chunks.length + o.chunks.length) (o.chunks.foldr insertChunk c.chunks)
              minutes := o.minutes, records := o.records, seals := o.seals }
          else s
        | none => s
      let s2 := (s1.setHopState k hsInSync).setReg (Reg.HOP_SLOT_STAT_PROG k) 10000
      (s2.note 0x0C07 (subjHopper k) []).hopLevels.frameRegs
    else s)

/-- HOP_EJECT (R440): the slot leaves the writer set after the chunk in progress. -/
def cmdHopEject : CmdSpec :=
  { opc := 0x90, args := [(8, 1)], priv := pf0Only, role := 2, states := runStates, session := false, secret := false
    run := fun x s =>
      let a := x.arg 8 1
      let k := a % 2
      if 4 ≤ a then (s, some (.no stBadField))
      else if !([hsResync, hsInSync, hsFailed].contains (s.hopState k)) || (s.hopSlot k).ejectAt.isSome then
        (s, some (.no stState))
      else if !bitAt a 1 && s.hopState (1 - k) != hsInSync then (s.note 0x0C0E (subjHopper k) [], some (.refused 0x0C0E))
      else
        let s1 := if s.hopWriting k then s.closeShort else s
        (s1.setHopSlot k { s1.hopSlot k with
          ejectAt := some s.now, ejectCmd := some x.ref, ejectSeq := s1.hop.seq - 1 }, none) }

def execHopEject (c : CmdIn) (s : State) : Host.Outcome State Fault Refusal := .next (s.command cmdHopEject c)

/-- EJECT_COMPLETE: 1.4 s after the fetch, with every chunk issued committed (R440). -/
def execEjectComplete (k : Nat) (s : State) : Host.Outcome State Fault Refusal :=
  .next (match (s.hopSlot k).ejectAt with
    | some t =>
      if decide (k < 2) && decide (1400 * msStrikes ≤ s.since t) && (!s.hopWriting k || (s.dueChunk k).isNone) then
        let top := ((s.hopSlot k).cart.map Cartridge.top).getD 0
        let s1 := (s.mapCart k fun c => { c with clean := true, newest := top }).setFields
          [(hopDomain k, 0), (Reg.HOP_SLOT_STAT_LATCH k, 1), (Reg.HOP_SLOT_STAT_STATE k, hsEjected)]
        let s2 := (s1.note 0x0C0D (subjHopper k) []).ejectAnswer k (.ok (top % 2 ^ 48))
        (s2.setHopSlot k { s2.hopSlot k with ejectAt := none }).pruneStaging.hopLevels.frameRegs
      else s
    | none => s)

/-- HOP_ADMIT (R437). -/
def cmdHopAdmit : CmdSpec :=
  { opc := 0x91, args := [(8, 1)], priv := pf0Only, role := 2, states := runStates, session := false, secret := false
    run := fun x s =>
      let a := x.arg 8 1
      let k := a % 2
      if 4 ≤ a then (s, some (.no stBadField))
      else if s.hopState k != hsPending && s.hopState k != hsEjected then (s, some (.no stState))
      else if s.flag (Reg.HOP_SLOT_STAT_FOREIGN k) && !bitAt a 1 then
        (s.note 0x0C0F (subjHopper k) [], some (.refused 0x0C0F))
      else
        let r := s.hopAdmit k (bitAt a 1)
        (r.1, some (.ok r.2)) }

def execHopAdmit (c : CmdIn) (s : State) : Host.Outcome State Fault Refusal := .next (s.command cmdHopAdmit c)

/-- The oldest chunks whose sizes sum to at most `n` bytes. -/
def firstBytes : Nat → List Chunk → List Chunk
  | _, [] => []
  | n, c :: r => if c.size ≤ n then c :: firstBytes (n - c.size) r else []

/-- What power-fail detection and the entry to standstill write out: the short chunk, staging, the minute, the record area
(R432, R545). Within hold-up (`held`) a backlog of 256 MiB is written, and the newest chunks beyond it are lost.
DESIGN CHOICE (log 294). -/
def State.hopFlush (held : Bool) (s : State) : State :=
  let s1 := s.closeShort
  let s2 := forAll (if s1.flag Reg.HOP_CTRL_EN then s1.writers else []) (fun k s =>
    let due := s.hop.staging.filter fun c => decide ((s.hopSlot k).done < c.seq)
    forAll (if held then firstBytes backlogMax due else due) (fun c s => s.commitChunk k c) s) s1
  let s3 := s2.minuteEnd
  let due := s3.hop.minDue
  let s4 := forAll s3.writers (fun k s => s.mapCart k fun c => c.addMinutes due) s3
  ({ s4 with hop := { s4.hop with minDue := [] } }).copyRecords

/-! ## Clearing the event log (R451) -/

/-- DESIGN CHOICE (log 122). -/
def cmdEvlogClear : CmdSpec :=
  { opc := 0x83, args := [(8, 6), (16, 4)], priv := pf0Only, role := 2, states := runStates, session := true
    secret := false
    run := fun x s =>
      if s.flag Reg.EVL_STAT_FROZEN then (s, some (.no stBusy))
      else match s.evl.slots.getLast? with
        | none => (s.note 0x0147 subjNone [], some (.refused 0x0147))
        | some e =>
          if e.seq % 2 ^ 48 = x.arg 8 6 ∧ e.crc = x.arg 16 4 then
            let s1 := s.copyRecords
            let lost := s.reg Reg.EVL_LOST_COUNT
            let data := leBytes 6 e.seq ++ leBytes 4 e.crc ++ leBytes 2 lost ++ leBytes 2 (s.reg Reg.EVL_LOST_CODE)
              ++ leBytes 4 (s.reg Reg.EVL_LOST_STRK_LO_STRK) ++ leBytes 4 (s.reg Reg.EVL_LOST_STRK_HI_STRK)
              ++ leBytes 2 (match s.sessionOf x.path with | some y => y.number | none => 0)
            let s2 := { s1 with evl := { s1.evl with slots := [], full := false } }
            let s3 := ((s2.goneAt 0x0140 subjNone).goneAt 0x0141 subjNone).evlPut (s2.event 0x0142 0 subjNone false data)
            ((s3.setFields [(Reg.EVL_LOST_COUNT, 0), (Reg.EVL_LOST_CODE, 0), (Reg.EVL_LOST_STRK_LO_STRK, 0),
              (Reg.EVL_LOST_STRK_HI_STRK, 0)]).sessionTouch, some (.ok (s2.evl.nextSeq % 2 ^ 48)))
          else (s.note 0x0147 subjNone [], some (.refused 0x0147)) }

def execEvlogClear (c : CmdIn) (s : State) : Host.Outcome State Fault Refusal := .next (s.command cmdEvlogClear c)

end Sys2Proof.Machine
end

