-- ==== Sys2Proof/Machine/Flumes.lean ====
section
/-! DEFINITION. Flumes: opening, records, buffers, overrun and end (R349, R379, R404 to R416). -/
namespace Sys2Proof.Machine

/-! ## Records (R408 to R415) -/

/-- A gap record from unit `a` to unit `b`.
DEDUCED (log 114). -/
def gapRecord (a b cause : Nat) : List Nat := recHead 0x0F 0 32 a ++ leBytes 8 b ++ [cause] ++ List.replicate 7 0

/-- The CUR block of a strike record (R409). -/
def curBlock (r : StrikeRec) : List Nat :=
  ((List.range 5).flatMap fun i => leBytes 4 (r.word (1152 + i))) ++ leBytes 4 r.status ++ leBytes 8 (unsigned 64 r.acc)

/-- A strike record of a flume (R409). -/
def Flume.strikeRecord (f : Flume) (arch : Nat) (r : StrikeRec) : List Nat :=
  let body := (if bitAt f.fields 1 then curBlock r else [])
    ++ (if bitAt f.fields 0 then f.positions.flatMap fun g => leBytes 4 (r.word g) else [])
  recHead 1 arch (16 + body.length) r.strike ++ body

/-- The fields of a position in a turn record (R411).
DESIGN CHOICE (log 116). -/
def State.turnEntry (s : State) (f : Flume) (t : TurnRec) (g : Nat) : List Nat :=
  let x := posSums (s.mpd.recs.filter fun r => r.strike / 32 == t.turn) g
  let c := t.cert.get (0, 1000000) g
  (if bitAt f.fields 0 then
      [x.n] ++ leBytes 3 (unsigned 24 (if x.n < 8 then 0 else Config.round ((x.sum : Rat) / (x.n : Rat))))
    else [])
    ++ (if bitAt f.fields 1 then leBytes 4 (unsigned 32 x.lo) ++ leBytes 4 (unsigned 32 x.hi) else [])
    ++ (if bitAt f.fields 2 then leBytes 4 c.1 ++ leBytes 4 c.2 else [])

/-- The latest temperature word of an input at a turn: NEW and T only in the turn that converted it. An input that is not
fitted reads U (R126). -/
def State.turnTemp (s : State) (turn j : Nat) : Nat :=
  match s.mpd.turns.find? fun t => decide (t.turn ≤ turn) && (t.unfit.contains j || t.temps.any fun e => e.1 == j) with
  | some t =>
    let w := if t.unfit.contains j then 1024 + inputNo j else Tab.get 0 t.temps j
    if t.turn = turn then w else putBit (putBit w 15 false) 13 false
  | none => 1024 + inputNo j

/-- A turn record of a flume (R411). -/
def State.turnRecord (s : State) (f : Flume) (t : TurnRec) : List Nat :=
  let body := (if bitAt f.fields 3 then padTo 48 t.block else []) ++ f.positions.flatMap (s.turnEntry f t)
    ++ (if bitAt f.fields 4 then (List.range 584).flatMap fun j => leBytes 4 (s.turnTemp t.turn j) else [])
  recHead 2 0 (16 + body.length) (t.turn * 32) ++ body

/-- The 64 bytes of a position in a model output record (R191, R412). -/
def State.outEntry (s : State) (stale : Bool) (g : Nat) : List Nat :=
  match (s.mdlPos g).out with
  | none => List.replicate 18 0 ++ [bit stale * 2] ++ List.replicate 45 0
  | some o =>
    let four := fun (x : Rat) => leBytes 4 (unsigned 32 (Config.round (x * 1000000)))
    four o.soc ++ four o.sd ++ four o.ocv ++ four o.pol ++ leBytes 2 (unsigned 16 (Config.round (o.core * 100)))
      ++ [bit o.converged + 2 * bit (stale || o.stale) + 4 * bit o.reinit + 8 * bit o.noTable, 0]
      ++ ((List.range 9).flatMap fun k => fpBytes (o.theta.getD k 0)) ++ fpBytes o.nis ++ [0, 0, 0, 0]

/-- A model output record of a turn (R412). -/
def State.outRecord (s : State) (f : Flume) (turn : Nat) : List Nat :=
  let stale := s.mdl.lastTurn != turn + 1
  recHead 3 0 (32 + 64 * f.count) (turn * 32) ++ leBytes 2 f.first ++ leBytes 2 f.count ++ [bit stale]
    ++ List.replicate 11 0 ++ f.positions.flatMap (s.outEntry stale)

/-! ## The next record of a flume (R406, R414, R416) -/

/-- The least multiple of DECIM at or above a number. -/
def Flume.align (f : Flume) (n : Nat) : Nat := (n + f.decim - 1) / f.decim * f.decim

/-- A unit lies in the window. -/
def Flume.within (f : Flume) (n : Nat) : Bool := match f.stop with | some x => decide (n ≤ x) | none => true

/-- The last unit of a gap within the window. -/
def Flume.clip (f : Flume) (n : Nat) : Nat := match f.stop with | some x => min n x | none => n

/-- The flume with its next unit moved on. -/
def Flume.move (f : Flume) (n : Nat) : Flume := { f with next := f.align n }

/-- The least of the numbers above `n`. -/
def leastAbove (n : Nat) (l : List Nat) : Option Nat :=
  l.foldl (fun a x => if n < x then (match a with | some b => some (min b x) | none => some x) else a) none

/-- What a flume delivers next: the record, the flume behind it, and whether a Hopper chunk failed its check. -/
abbrev Delivery := List Nat × Flume × Bool

/-- A gap up to the unit before `m`.
DEDUCED (log 114). -/
def Flume.gapTo (f : Flume) (m cause : Nat) : Delivery :=
  (gapRecord f.next (f.clip (m - 1)) cause, { f.move m with gaps := f.gaps + 1 }, false)

/-- The records of the strike ring (kinds 0x01 and 0x06).
DEDUCED (log 114). -/
def State.nextStrike (s : State) (f : Flume) : Option Delivery :=
  if f.next ≤ s.mpd.head then
    match s.recAt f.next with
    | some r => some (f.strikeRecord 0 r, f.move (f.next + 1), false)
    | none => (leastAbove f.next (s.mpd.recs.map (·.strike))).map fun m => f.gapTo m 2
  else none

/-- The records of both rings (kind 0x02). -/
def State.nextTurn (s : State) (f : Flume) : Option Delivery :=
  match s.mpd.turns.find? fun t => t.turn == f.next with
  | some t => some (s.turnRecord f t, f.move (f.next + 1), false)
  | none => (leastAbove f.next (s.mpd.turns.map (·.turn))).map fun m =>
      (gapRecord (f.next * 32) (f.clip (m - 1) * 32) 2, { f.move m with gaps := f.gaps + 1 }, false)

/-- The model outputs of a turn (kind 0x03), once its step is made or the turn is over; earlier turns are gone.
DEDUCED (log 114). -/
def State.nextOut (s : State) (f : Flume) : Option Delivery :=
  let done := if s.sys.done.contains 1 then s.turn + 1 else s.turn
  if f.next + 1 < done ∧ f.align (done - 1) ≠ f.next then
    some (gapRecord (f.next * 32) (f.clip (f.align (done - 1) - 1) * 32) 1, { f.move (done - 1) with gaps := f.gaps + 1 }, false)
  else if f.next < done then some (s.outRecord f f.next, f.move (f.next + 1), false)
  else none

/-- The event-log records (kind 0x05). -/
def State.nextEvent (s : State) (f : Flume) : Option Delivery :=
  match s.evl.slots.find? fun e => e.seq == f.next with
  | some e => some (recHead 6 0 80 e.seq ++ e.bytes, { f with next := f.next + 1 }, false)
  | none =>
    if f.next < s.evl.nextSeq then
      let m := (leastAbove f.next (s.evl.slots.map (·.seq))).getD s.evl.nextSeq
      some (gapRecord f.next (f.clip (m - 1)) 4, { f with next := m, gaps := f.gaps + 1 }, false)
    else none

/-- The chunks a slot serves (R435, R441); `bad` names slots whose chunk fails its DATA hash. -/
def State.served7 (s : State) (k : Nat) (bad : List Nat) : List Chunk :=
  if [hsResync, hsInSync, hsFailed].contains (s.hopState k) && !bad.contains k then
    ((s.hopSlot k).cart.map fun c => c.chunks.filter fun x => !x.gap).getD []
  else []

/-- A strike as the Hoppers hold it: slot A before slot B (R441). -/
def State.hopStrike (s : State) (bad : List Nat) (n : Nat) : Option StrikeRec :=
  ((s.served7 0 bad) ++ s.served7 1 bad).findSome? fun c =>
    if c.first * 32 ≤ n ∧ n < (c.first + c.turns) * 32 then c.recs.find? fun r => r.strike == n else none

/-- The archived records (kind 0x07). -/
def State.nextArchive (s : State) (f : Flume) (bad : List Nat) : Option Delivery :=
  if f.within f.next then
    match s.hopStrike bad f.next with
    | some r => some (f.strikeRecord 1 r, f.move (f.next + 1), false)
    | none =>
      let l := ((s.served7 0 bad) ++ s.served7 1 bad).flatMap fun c => c.recs.map (·.strike)
      let m := match leastAbove f.next l with | some m => m | none => (f.stop.getD f.next) + 1
      some (gapRecord f.next (f.clip (m - 1)) 3, { f.move m with gaps := f.gaps + 1 }, (s.hopStrike [] f.next).isSome)
  else none

/-- The periodic snapshot that waits (kind 0x08).
DEDUCED (log 117). -/
def State.nextSnap (s : State) (f : Flume) : Option Delivery :=
  match s.est.waiting with
  | some (p, _) =>
    if f.next ≤ p.strike ∧ f.within p.strike then
      some (recHead 8 0 36944 p.strike ++ s.snapBytes p,
        { f with next := p.strike + 1, snap := some ⟨p.strike, p.q, p.eq⟩ }, false)
    else none
  | none => none

/-- The next record of a flume, when there is one. -/
def State.nextRecord (s : State) (f : Flume) (bad : List Nat) : Option Delivery :=
  if f.trunc then none
  else
  match f.gap with
  | some (a, b, c) => some (gapRecord a b c, { f with gap := none, gaps := f.gaps + 1 }, false)
  | none =>
    if f.kind = 4 then
      match f.queue with
      | [] => none
      | (n, l) :: q => some (l, { f with queue := q, next := n }, false)
    else if !f.within f.next then none
    else if f.kind = 1 ∨ f.kind = 6 then s.nextStrike f
    else if f.kind = 2 then s.nextTurn f
    else if f.kind = 3 then s.nextOut f
    else if f.kind = 5 then s.nextEvent f
    else if f.kind = 7 then s.nextArchive f bad
    else s.nextSnap f

/-! ## Buffers (R379) -/

def State.setFlume (fn r : Nat) (f : Flume) (s : State) : State :=
  { s with hif := { s.hif with flumes := s.hif.flumes.put (ringKey fn r) f } }
def State.dropFlume (fn r : Nat) (s : State) : State :=
  { s with hif := { s.hif with flumes := s.hif.flumes.drop (· == ringKey fn r) } }

/-- A descriptor is valid: 4 KiB aligned, SIZE 0 or 1, every other byte 0. -/
def descOk (l : List Nat) : Bool :=
  l.length == 32 && leAt l 0 8 % 4096 == 0 && decide (l.getD 8 0 ≤ 1) && (slice l 9 3).all (· == 0)
    && (slice l 16 16).all (· == 0)

/-- The buffer of a descriptor: address, size, DID. -/
def descBuf (l : List Nat) : Nat × Nat × Nat := (leAt l 0 8, if l.getD 8 0 = 0 then 4096 else 65536, leAt l 12 4)

/-- A completion of a descriptor. -/
def State.completeBuf (fn r : Nat) (did status info result : Nat) (snap : Option SnapFig) (s : State) : State :=
  match s.ring? fn r with
  | some x => s.post fn (cplEntry x.pair did r (x.midx % 65536) status info result false snap)
  | none => s

/-- The buffer in hand is closed; MORE while a record continues in the next one. -/
def State.closeBuf (fn r status : Nat) (f : Flume) (s : State) : State × Flume :=
  match f.buf with
  | none => (s, f)
  | some b =>
    let whole := f.rest == []
    (s.completeBuf fn r b.2.2 status (bit !whole) (f.fill + f.recs * 2 ^ 32) (if whole then f.snap else none),
      { f with buf := none, fill := 0, recs := 0, snap := if whole then none else f.snap })

/-- Bytes are written into the buffer in hand; `begins`: a record begins with them. -/
def State.fillBuf (fn : Nat) (l : List Nat) (begins : Bool) (f : Flume) (s : State) : State × Flume :=
  match f.buf with
  | none => (s, f)
  | some b =>
    (s.hostWrite fn (b.1 + f.fill) l,
      { f with fill := f.fill + l.length, recs := if begins then f.recs + 1 else f.recs
               firstAt := if f.fill = 0 then s.now else f.firstAt })

/-- Writes what a record has left into the buffer in hand, and closes it where more is left. -/
def State.putBytes (fn r : Nat) (l : List Nat) (begins : Bool) (f : Flume) (s : State) : State :=
  let room := (match f.buf with | some b => b.2.1 | none => 0) - f.fill
  let w := s.fillBuf fn (l.take room) begins { f with rest := l.drop room }
  if l.drop room = [] then w.1.setFlume fn r w.2
  else
    let c := w.1.closeBuf fn r stOk w.2
    c.1.setFlume fn r c.2

/-- A flume writes its next record into the buffer in hand (R379). -/
def State.putRecord (fn r : Nat) (bad : List Nat) (f : Flume) (s : State) : State :=
  if f.rest ≠ [] then s.putBytes fn r f.rest false f
  else match s.nextRecord f bad with
    | none => s.setFlume fn r f
    | some (l, g, failed) =>
      let size := match f.buf with | some b => b.2.1 | none => 0
      if f.fill ≠ 0 ∧ size < f.fill + l.length then
        let c := s.closeBuf fn r stOk f
        c.1.setFlume fn r c.2
      else
        let s1 := if failed then s.note 0x0C0C subjNone [] else s
        s1.putBytes fn r l true { g with delivered := g.delivered + 1 }

/-- The flume of a ring that may work, and its ring. -/
def State.flumeAt (s : State) (fn r : Nat) : Option (Flume × Ring) :=
  match s.flume? fn r, s.ring? fn r with
  | some f, some x =>
    if !x.error && x.unloading.isNone && !s.suspended fn && !s.hif.turnOff && !s.deaf && s.appsRun then some (f, x)
    else none
  | _, _ => none

/-- Takes the next posted descriptor: its buffer, or a completion with BADFIELD (R379). -/
def State.takeDesc (fn r : Nat) (x : Ring) (l : List Nat) (f : Flume) (s : State) : State × Flume :=
  let s1 := s.setRing fn r { x with midx := (x.midx + 1) % 2 ^ 32 }
  if descOk l then (s1, { f with buf := some (descBuf l), fill := 0, recs := 0 })
  else (s1.completeBuf fn r (leAt l 12 4) stBadField 0 0 none, f)

/-- FLUME_RECORD: the next record of a flume; the descriptor read where a buffer is needed, what its read of the Millpond
finds, and the slots whose chunk fails its hash (R352, R379, R441). -/
def execFlumeRecord (fn r : Nat) (desc : List Nat) (e : EccIn) (bad : List Nat) (s : State) :
    Host.Outcome State Fault Refusal :=
  .next (match s.flumeAt fn r with
    | none => s
    | some (f, x) =>
      if f.rest = [] ∧ (s.nextRecord f bad).isNone then s
      else
        let s := s.quiet.ecc e
        if f.buf.isSome then s.putRecord fn r bad f
        else if x.midx = x.hidx then s
        else
          let n := s.needCtx fn r
          if n.2 then
            let d := n.1.takeDesc fn r x desc f
            if d.2.buf.isSome then d.1.putRecord fn r bad d.2 else d.1
          else n.1)

/-- FLUME_FLUSH: the flush time has passed since the first record of the buffer (R379). -/
def execFlumeFlush (fn r : Nat) (s : State) : Host.Outcome State Fault Refusal :=
  .next (match s.flumeAt fn r with
    | none => s
    | some (f, _) =>
      if f.buf.isSome && f.fill != 0 && f.flush != 0 && decide (f.flush * msStrikes ≤ s.since f.firstAt) then
        let c := s.quiet.closeBuf fn r stOk f
        c.1.setFlume fn r c.2
      else s)

/-- Nothing of a flume's window is left to deliver.
DEDUCED (log 115). -/
def State.flumeOver (s : State) (f : Flume) : Bool :=
  f.trunc || (f.rest == [] && f.gap.isNone
    && match f.stop with
      | none => false
      | some x => if f.kind = 4 then f.queue == [] && decide (x < s.now)
          else if f.kind = 8 then decide (x < f.next) || (decide (x < s.now) && (s.nextSnap f).isNone)
          else decide (x < f.next))

/-- FLUME_END: the last buffer is closed with END, or with TRUNC after an overrun; without one in hand, the next posted
descriptor carries it (R349, R406).
DEDUCED (log 115). -/
def execFlumeEnd (fn r : Nat) (desc : List Nat) (s : State) : Host.Outcome State Fault Refusal :=
  .next (match s.flumeAt fn r with
    | none => s
    | some (f, x) =>
      if s.flumeOver f then
        let s := s.quiet
        let st := if f.trunc then stTrunc else stEnd
        if f.buf.isSome then ((s.closeBuf fn r st f).1).dropFlume fn r
        else if x.midx = x.hidx then s
        else
          let d := s.takeDesc fn r x desc f
          if d.2.buf.isSome then ((d.1.closeBuf fn r st d.2).1).dropFlume fn r else d.1
      else s)

/-! ## Overrun (R349) -/

/-- The turn of a committed record. -/
def State.headTurn (s : State) : Nat := s.mpd.head / 32

/-- The turn a flume is about to read, for the kinds that read the rings. -/
def Flume.turnAt (f : Flume) : Nat := if f.kind = 2 then f.next else f.next / 32

/-- Lag of a flume in turns.
DEDUCED (log 113). -/
def State.lag (s : State) (f : Flume) : Nat :=
  if f.kind = 1 ∨ f.kind = 2 ∨ f.kind = 6 then s.headTurn - f.turnAt else 0

/-- A reader of the strike or turn ring moves to turn `n`: a gap record names what it skips within its window, with what an
earlier gap not yet delivered names (R349, R406). -/
def Flume.skip (f : Flume) (cause n : Nat) : Flume :=
  let first := fun (a : Nat) => match f.gap with | some g => g.1 | none => a
  if f.kind = 2 then { f.move n with gap := some (first (f.next * 32), f.clip (n - 1) * 32, cause) }
  else { f.move (n * 32) with gap := some (first f.next, f.clip (n * 32 - 1), cause) }

/-- READER_OVERRUN: of the Hopper compressor, or of the flume of a ring.
DEDUCED (log 113). -/
def execReaderOverrun (reader : Option (Nat × Nat)) (s : State) : Host.Outcome State Fault Refusal :=
  .next (match reader with
    | none =>
      match s.hop.next with
      | some f =>
        if s.hop.off.isNone && decide (f + 170000 < s.headTurn) then
          let n := s.headTurn - 120000
          (({ s with hop := { s.hop with next := some n, gaps := s.hop.gaps ++ [(f, n - f, 1)] } }).addSat
            Reg.MPD_OVR_HOPPER 1).raise 0x0A07 1 subjNone (leBytes 8 f)
        else s
      | none => s
    | some (fn, r) =>
      match s.flume? fn r with
      | some f =>
        if decide (170000 < s.lag f) && !f.trunc then
          let n := s.headTurn - 120000
          let s1 := (s.quiet.addSat Reg.MPD_OVR_FLUME 1).note 0x0A08 (subjRing fn r) (leBytes 8 f.next)
          if f.kind = 6 then
            (if f.buf.isSome then ((s1.closeBuf fn r stTrunc { f with rest := [] }).1).dropFlume fn r
            else s1.setFlume fn r { f with trunc := true })
          else s1.setFlume fn r (f.skip 1 n)
        else s
      | none => s)

/-! ## FLUME_OPEN, FLUME_CLOSE, FLUME_STAT (R404 to R407, R410) -/

/-- The privilege of a kind. -/
def kindPrivilege (kind : Nat) : Nat := if kind = 6 then 3 else if kind = 7 then 4 else if kind = 8 then 5 else 0

/-- FIELDS of a kind. -/
def fieldsOk (kind v : Nat) : Bool :=
  if kind = 1 ∨ kind = 6 ∨ kind = 7 then decide (1 ≤ v) && decide (v ≤ 3)
  else if kind = 2 then decide (v < 32)
  else if kind = 3 then v == 1
  else if kind = 4 then decide (v < 8)
  else v == 0

/-- An END of all ones. -/
def noEnd : Nat := 2 ^ 64 - 1

/-- The arguments of FLUME_OPEN are in range (R405, R406).
DEDUCED (log 117). -/
def State.openArgs (s : State) (x : CmdCtx) : Bool :=
  let kind := x.arg 10 1
  let all := kind == 5 || kind == 8
  decide (1 ≤ kind) && decide (kind ≤ 8) && fieldsOk kind (x.arg 11 1)
    && (all || (decide (1 ≤ x.arg 14 2) && decide (x.arg 12 2 + x.arg 14 2 ≤ 1152)))
    && decide (x.arg 12 2 < 1152) && (x.arg 16 8 == 0 || decide (x.arg 16 8 ≤ x.arg 24 8))
    && (kind == 6 || x.arg 36 8 == 0)
    && (match s.ring? x.ref.fn (x.arg 8 2) with
      | some g => g.kind == kindFlm && g.unloading.isNone && decide (x.arg 8 2 < 1024)
          && (match s.ring? x.ref.fn g.pair with | some p => p.unloading.isNone | none => false)
      | none => false)

/-- The capture of a trigger turn (R410). -/
def State.captureAt (s : State) (turn : Nat) : Option Capture := (s.mpd.caps.find? fun e => e.2.turn == turn).map (·.2)

/-- The flume of the arguments, before its window. -/
def flumeOf (x : CmdCtx) : Flume :=
  let kind := x.arg 10 1
  let all := kind == 5 || kind == 8
  { kind := kind, fields := x.arg 11 1, first := if all then 0 else x.arg 12 2, count := if all then 0 else x.arg 14 2
    start := x.arg 16 8, stop := if x.arg 24 8 = noEnd then none else some (x.arg 24 8)
    decim := if kind = 4 ∨ kind = 5 ∨ kind = 8 then 1 else max 1 (x.arg 32 2), flush := x.arg 34 2, next := 0
    delivered := 0, gaps := 0, gap := none, buf := none, fill := 0, recs := 0, firstAt := 0, rest := [], snap := none
    capt := x.arg 36 8, trunc := false, queue := [] }

/-- A flume whose start lies too far behind the head begins with a gap record (R406). -/
def State.behind (s : State) (f : Flume) : Flume :=
  if 170000 < s.lag f then f.skip 2 (s.headTurn - 120000) else f

/-- Newest strike written to a Hopper. -/
def State.hopNewest (s : State) : Nat :=
  ((List.range 2).flatMap fun k => ((s.hopSlot k).cart.map fun c => c.chunks).getD []).foldl
    (fun a c => if c.gap then a else max a ((c.first + c.turns) * 32 - 1)) 0

/-- The window of a flume at its point of effect; none for a capture that is not held or does not overlap (R406, R410). -/
def State.window (s : State) (f : Flume) : Option Flume :=
  let st := f.start
  if f.kind = 1 then some (s.behind (f.move (if st = 0 then s.now + 1 else st)))
  else if f.kind = 2 ∨ f.kind = 3 then
    let u := if st = 0 then s.turn + 1 else (st + 31) / 32
    let g := { f with stop := f.stop.map (· / 32) }
    some (if f.kind = 2 then s.behind (g.move u) else g.move (max u (s.turn + 1)))
  else if f.kind = 4 ∨ f.kind = 8 then some (f.move (max st (s.now + 1)))
  else if f.kind = 5 then
    some { f with next := if st = 0 then (match s.evl.slots.head? with | some e => e.seq | none => s.evl.nextSeq) else st }
  else if f.kind = 7 then
    some ({ f with stop := some (min (f.stop.getD noEnd) s.hopNewest) }.move (if st = 0 then s.now + 1 else st))
  else match s.captureAt f.capt with
    | none => none
    | some c =>
      let lo := (c.turn - 120000) * 32
      let hi := (c.turn + c.post) * 32 - 1
      let a := max lo st
      let b := match f.stop with | some x => min hi x | none => hi
      if a ≤ b then some (s.behind ({ f with stop := some b }.move a)) else none

def cmdFlumeOpen : CmdSpec :=
  { opc := 0x10, args := [(8, 36)], priv := fun x s => s.privilege x.ref.fn (kindPrivilege (x.arg 10 1)), role := 3
    states := fun x => if x.arg 10 1 = 5 then everyState x else runStates x, session := false, secret := false
    run := fun x s =>
      let r := x.arg 8 2
      if !s.openArgs x then (s, some (.no stBadField))
      else match s.window (flumeOf x) with
        | none => (s, some (.no stBadField))
        | some f =>
          if (s.flume? x.ref.fn r).isSome then (s, some (.no stBusy))
          else if 1024 ≤ s.hif.flumes.length then (s.addSat Reg.HIF_FLUME_STAT_FULL 1, some (.no stNoSpace))
          else (s.setFlume x.ref.fn r f, some (.ok r)) }

def execFlumeOpen (c : CmdIn) (s : State) : Host.Outcome State Fault Refusal := .next (s.command cmdFlumeOpen c)

def cmdFlumeClose : CmdSpec :=
  { opc := 0x11, args := [(8, 2)], priv := anyFn, role := 3, states := everyState, session := false, secret := false
    run := fun x s =>
      let r := x.arg 8 2
      match s.flume? x.ref.fn r with
      | none => (s, some (.no stBadField))
      | some f =>
        if 1024 ≤ r then (s, some (.no stBadField))
        else (((s.closeBuf x.ref.fn r stEnd { f with rest := [] }).1).dropFlume x.ref.fn r,
          some (.ok (sat 0xFFFFFFFF f.delivered))) }

def execFlumeClose (c : CmdIn) (s : State) : Host.Outcome State Fault Refusal := .next (s.command cmdFlumeClose c)

def cmdFlumeStat : CmdSpec :=
  { opc := 0x12, args := [(8, 2)], priv := anyFn, role := 3, states := everyState, session := false, secret := false
    run := fun x s =>
      match s.flume? x.ref.fn (x.arg 8 2) with
      | none => (s, some (.no stBadField))
      | some f => (s, some (.ok (sat 0xFFFFFFFF (s.lag f) + 2 ^ 32 * sat 0xFFFF f.gaps))) }

def execFlumeStat (c : CmdIn) (s : State) : Host.Outcome State Fault Refusal := .next (s.command cmdFlumeStat c)

end Sys2Proof.Machine
end

