-- ==== Sys2Proof/Machine/Ethernet.lean ====
section
/-! DEFINITION. The Ethernet ports and the hardware clock's master: frames, links, PTP, holdover and the AON counter
(chapter 17). -/
namespace Sys2Proof.Machine

/-! ## Ports (R455 to R459) -/

/-- The port has an IPv4 address. -/
def State.ipSet (s : State) (n : Nat) : Bool := s.reg (Reg.NET_IP_ADDR n) != 0

/-- The port answers IPv4 traffic: an address is set and no other station holds it (R456). -/
def State.ipUp (s : State) (n : Nat) : Bool := s.ipSet n && !s.net.conflict.get false n

/-- A PTP frame (R457). -/
def State.isPtp (s : State) (n : Nat) (f : FrameIn) : Bool :=
  f.vlan == vlanOf (s.flag (Reg.NET_VLAN_PTAG n)) (s.reg (Reg.NET_VLAN_PVID n))
    && ((f.etype == 0x88F7 && [s.portMac n, 0x011B19000000, 0x0180C200000E].contains f.dst)
      || (f.etype == 0x0800 && s.ipSet n && f.proto == 17 && [319, 320].contains f.dport
        && [s.reg (Reg.NET_IP_ADDR n), 0xE0000181, 0xE000006B].contains f.ipDst))

/-- A telegram of a receiving connection (R457, R459). -/
def State.isTelegram (s : State) (n : Nat) (f : FrameIn) : Bool :=
  f.etype == s.reg Reg.SLU_TG_ETYPE_ETYPE && (List.range 8).any fun k =>
    s.tgReceives k && f.vlan == s.tgVlan k && (f.dst == s.portMac n || f.dst == s.tgMac k)

/-- A service frame: ARP, ICMPv4 echo request, or TCP to NET_SVC.PORT at the port's address. -/
def State.isService (s : State) (n : Nat) (f : FrameIn) : Bool :=
  f.vlan == vlanOf (s.flag (Reg.NET_VLAN_STAG n)) (s.reg (Reg.NET_VLAN_SVID n))
    && (f.etype == 0x0806
      || (f.etype == 0x0800 && s.ipSet n && f.ipDst == s.reg (Reg.NET_IP_ADDR n)
        && ((f.proto == 1 && f.echo) || (f.proto == 6 && f.dport == s.reg Reg.NET_SVC_PORT))))

/-- The class a port accepts a frame in. -/
def State.frameClass (s : State) (n : Nat) (f : FrameIn) : Option FrameClass :=
  if 1522 < f.len then none
  else if s.isPtp n f then some .ptp else if s.isTelegram n f then some .telegram
  else if s.isService n f then some .service else none

/-- Accepted frames per second of a class ("Table — Frames accepted by a port"). -/
def FrameClass.rate : FrameClass → Nat
  | .ptp => 512
  | .telegram => 20000
  | .service => 2000

def FrameClass.num : FrameClass → Nat
  | .ptp => 0
  | .telegram => 1
  | .service => 2

/-- Drops a frame beyond its rate: counted, and 0x0F03 at most once a minute per port.
DEDUCED (log 145). -/
def State.policed (n : Nat) (s : State) : State :=
  let s1 := s.addSat (Reg.NET_DROP_POL n) 1
  let last := s.net.raised.get 0 n
  if last = 0 ∨ 60 * secStrikes ≤ s.since (last - 1) then
    (State.note { s1 with net := { s1.net with raised := s1.net.raised.put n (s.now + 1) } } 0x0F03 subjNone [n])
  else s1

/-- A frame of an accepted class is passed on while its class is within its rate in the second in hand.
DESIGN CHOICE (log 147). -/
def State.passFrame (n : Nat) (c : FrameClass) (f : FrameIn) (s : State) : State :=
  let key := n * 4 + c.num
  let sec := s.now / secStrikes
  let e := s.net.rate.get (sec, 0) key
  let used := if e.1 = sec then e.2 else 0
  if used < c.rate then
    let held := f.etype == 0x0806 && f.arpHeld && s.reg (Reg.NET_IP_ADDR n) != 0 && !s.deaf && s.appsRun
    let s1 := { s with net := { s.net with
      rate := s.net.rate.put key (sec, used + 1), passed := some c
      conflict := if held then s.net.conflict.put n true else s.net.conflict } }
    if held then s1.raiseAs false 0x0F04 1 subjNone false [n] else s1
  else s.policed n

/-- ETH_FRAME_RECEIVE on port 0 (ETH-A) or 1 (ETH-B).
DESIGN CHOICE (log 147). -/
def execEthFrameReceive (port : Nat) (f : FrameIn) (s : State) : Host.Outcome State Fault Refusal :=
  .next (if s.portLive port then
      let s0 := { s with net := { s.net with passed := none } }
      match s0.frameClass port f with
      | some c => s0.passFrame port c f
      | none => s0.addSat (Reg.NET_DROP_FILT port) 1
    else s)

/-! ## The time states (R460 to R464) -/

/-- Values of TIM_STAT.STATE. -/
def tmFree : Nat := 0
def tmTod : Nat := 1
def tmAcq : Nat := 2
def tmTrack : Nat := 3
def tmLocked : Nat := 4
def tmHoldover : Nat := 5

/-- DEDUCED (log 134, 142). -/
def State.timeState (s : State) : Nat := s.reg Reg.TIM_STAT_STATE
/-- DEDUCED (log 135). -/
def State.clockSet (s : State) : Bool := s.flag Reg.TIM_STAT_SET

/-- Seconds since the last write of the AON counter.
DEDUCED (log 136). -/
def State.aonAge (s : State) : Nat := s.tim.aonAge + s.since s.tim.aonAt / secStrikes

/-- The counter is valid: 1 ms plus 20 ppm of its age is within TOD_MAX, and AON has kept its supply (R464).
DEDUCED (log 136). -/
def State.aonValidAt (s : State) (age : Nat) : Bool :=
  s.tim.aonOk && decide (1000 + age * 20 ≤ s.reg Reg.TIM_CFG_TOD_MAX * 1000000)

/-- TV and TODV of a time state (R461). A time that was not on the PTP timescale never counts as time of day (R462).
DEDUCED (log 137). -/
def State.timeFlags (s : State) : State :=
  let st := s.timeState
  let aon := s.aonValidAt s.aonAge && s.tim.aonTai
  let todv := if st = tmFree then false else if st = tmTod then aon else s.tim.tai || aon
  (s.setFlag Reg.TIM_STAT_TV (decide (tmTrack ≤ st))).setFlag Reg.TIM_STAT_TODV todv

/-- Moves to a time state. -/
def State.toTime (st : Nat) (s : State) : State := (s.setReg Reg.TIM_STAT_STATE st).timeFlags

/-- TIM_RATE takes a rate in units of 10^-12. -/
def State.setRate (r : Int) (s : State) : State := s.setReg Reg.TIM_RATE_VAL (unsigned 32 r)

/-- The number before the first strike after a set at a time in ns: the first strike lies at least 100 µs later (R462).
DEDUCED (log 134). -/
def beforeFirst (ns : Nat) : Nat := (ns + 100000 + 31249) / 31250 - 1

/-- Sets the clock, once (R23, R462): `age` of the AON counter, SRC, the state.
DEDUCED (log 137, 144). -/
def State.setClock (ns age src st : Nat) (s : State) : State :=
  let k := beforeFirst ns
  let s1 := { s with
    sys := { s.sys with strike := k, first := k }
    tim := { s.tim with aonAge := age, aonAt := k } }
  ((s1.setFlag Reg.TIM_STAT_SET true).setReg Reg.TIM_STAT_SRC src).toTime st

/-- ACQ_WAIT_EXPIRY: no offset measured; `aon` is the AON counter's reading, ns (R462). -/
def execAcqWaitExpiry (aon : Nat) (s : State) : Host.Outcome State Fault Refusal :=
  .next (if s.flag Reg.PWR_DOM_NET && !s.clockSet then
      let age := aon / 1000000000 - s.tim.aonSec
      if s.aonValidAt age then (s.setClock aon age 1 tmTod).note 0x0D01 subjNone []
      else (s.setClock 0 age 0 tmFree).raise 0x0D02 1 subjNone []
    else s)

/-! ## PTP (R462 to R468) -/

/-- PTP runs on a port. -/
def State.ptpOn (s : State) (n : Nat) : Bool := s.portLive n && s.flag (Reg.TIM_PTP_P_EN n)

/-- What the best master clock algorithm compares, first to last (IEEE 1588-2019).
PRESUMED (log 138). -/
def AnnounceIn.rank (a : AnnounceIn) : List Nat :=
  [a.prio1, a.clkClass, a.accuracy, a.variance, a.prio2, a.gm, a.steps, a.sender, a.port]

/-- The first of two lists is the lower.
PRESUMED (log 138). -/
def lower : List Nat → List Nat → Bool
  | a :: x, b :: y => decide (a < b) || (a == b && lower x y)
  | _, _ => false

/-- The module's own attributes when it may be master (R466).
DESIGN CHOICE (log 262). -/
def State.ownRank (s : State) : List Nat :=
  [s.reg Reg.TIM_PTP_CFG_PRIO1, 248, 0xFE, 0xFFFF, s.reg Reg.TIM_PTP_CFG_PRIO2, Config.clockIdentity (s.portMac 0), 0]

/-- Strikes of three Announce intervals of a port. -/
def State.announceWait (s : State) (n : Nat) : Nat := 3 * 2 ^ s.reg (Reg.TIM_PTP_P_LOGANN n) * secStrikes

/-- A master takes part in the selection: heard within three Announce intervals on a port where PTP runs.
DEDUCED (log 139). -/
def State.masterFresh (s : State) (m : Master) : Bool :=
  s.ptpOn m.ann.port && decide (s.since m.heard < s.announceWait m.ann.port)

/-- The best master heard, when it is better than the module itself (R466).
PRESUMED (log 138). -/
def State.bestMaster (s : State) : Option Master :=
  let best := s.tim.masters.foldl (fun (a : Option Master) m =>
    if s.masterFresh m then
      match a with
      | some b => if lower m.ann.rank b.ann.rank then some m else a
      | none => some m
    else a) none
  match best with
  | some m => if s.reg Reg.TIM_PTP_CFG_ROLE = 0 ∨ lower m.ann.rank s.ownRank then some m else none
  | none => none

/-- The states of the ports as IEEE 1588-2019 numbers them: 3 DISABLED, 4 LISTENING, 6 MASTER, 9 SLAVE.
DEDUCED (log 140). -/
def State.portStates (s : State) : State :=
  forEach [0, 1] (fun n s =>
    let role := s.reg Reg.TIM_PTP_CFG_ROLE
    let st := if !s.ptpOn n then 3
      else match s.tim.sel with
        | some m => if m.1 = n then 9 else if role = 2 then 6 else 4
        | none => if role = 0 then 4 else 6
    s.setReg (Reg.TIM_PSTAT_PSTATE n) st) s

/-- Follows a master. A change of master never steps the clock. -/
def State.follow (m : Master) (s : State) : State :=
  let new := some (m.ann.port, m.ann.sender)
  ({ s with tim := { s.tim with
      sel := new, tai := m.ann.timescale, syncAt := if s.tim.sel = new then s.tim.syncAt else s.now } }).portStates

/-- The selection follows the best master; without one, the master followed stays until it counts as lost (R464).
DEDUCED (log 141). -/
def State.selectMaster (s : State) : State :=
  match s.bestMaster with
  | some m => (s.follow m).timeFlags
  | none => s

/-- PTP_ANNOUNCE.
DEDUCED (log 139). -/
def execPtpAnnounce (a : AnnounceIn) (s : State) : Host.Outcome State Fault Refusal :=
  .next (if s.ptpOn a.port && !s.deaf && s.appsRun && a.domain == s.reg Reg.TIM_PTP_CFG_DOMAIN && a.sdo == s.reg Reg.TIM_PTP_CFG_SDOID
        && a.sender != Config.clockIdentity (s.portMac 0) then
      let same := fun (m : Master) => m.ann.port == a.port && m.ann.sender == a.sender
      let m : Master := { ann := a, heard := s.now }
      State.selectMaster { s with tim := { s.tim with masters := s.tim.masters.filter (fun x => !same x) ++ [m] } }
    else s)

/-- The time state after an offset in ps (R463). -/
def State.steered (s : State) (off : Nat) : Nat :=
  if 1000000000 < off then tmAcq
  else if 16 ≤ s.tim.near then tmLocked
  else if s.timeState = tmLocked ∧ s.tim.far < 4 then tmLocked
  else tmTrack

/-- An offset steers the rate and the state.
DESIGN CHOICE (log 143). -/
def State.steer (off : Int) (s : State) : State :=
  let th := s.reg Reg.TIM_SERVO_LOCK_TH * 1000
  let inside := decide (off.natAbs ≤ th)
  let sv := Config.servo s.tim.integral off
  let lim : Int := s.reg Reg.TIM_CFG_SLEW * 1000000
  let r := clampInt (-lim) lim sv.1
  let s1 := { s with tim := { s.tim with
    integral := sv.2, rates := (r :: s.tim.rates).take 64, syncAt := s.now
    near := if inside then s.tim.near + 1 else 0, far := if inside then 0 else s.tim.far + 1 } }
  let s2 := (s1.setRate r).toTime (s1.steered off.natAbs)
  s2.level (decide (s.reg Reg.TIM_SERVO_FARMAX * 1000000000000 < off.natAbs)) 0x0D03 1 subjNone []

/-- The offset of a Sync, ps: what the delay and the port's delayAsymmetry do not explain (R467). -/
def State.offsetOf (s : State) (x : SyncIn) : Int :=
  (x.arrived : Int) - x.sent - x.delay - signed 32 (s.reg (Reg.TIM_ASYM_ASYM x.port))

/-- PTP_SYNC: the first offset sets the clock, every later one steers it.
DEDUCED (log 142). -/
def execPtpSync (x : SyncIn) (s : State) : Host.Outcome State Fault Refusal :=
  .next (if s.ptpOn x.port && !s.deaf && s.appsRun && s.tim.sel == some (x.port, x.sender) then
      let off := s.offsetOf x
      let s1 := (s.setReg Reg.TIM_OFS_VAL (unsigned 32 (clampInt (-(2 ^ 31)) (2 ^ 31 - 1) (off / 1000)))).setReg
        (Reg.TIM_PSTAT_MPD x.port) (sat 0xFFFF (x.delay / 1000))
      if s.clockSet then s1.steer off
      else
        let age := x.aon / 1000000000 - s.tim.aonSec
        let t := s1.setClock ((x.arrived - off) / 1000).toNat age (2 + x.port) tmTrack
        { t with tim := { t.tim with syncAt := t.now } }
    else s)

/-- The mean of the last servo rates (R464). -/
def State.meanRate (s : State) : Int :=
  match s.tim.rates with
  | [] => signed 32 (s.reg Reg.TIM_RATE_VAL)
  | l => Config.round ((l.foldl (· + ·) 0 : Int) / (l.length : Rat))

/-- The clock goes on without its master (R464). -/
def State.unled (s : State) : State :=
  let st := s.timeState
  if st = tmTrack ∨ st = tmLocked then
    let s1 := { s with tim := { s.tim with holdAt := s.now, near := 0, far := 0 } }
    ((s1.setRate s.meanRate).toTime tmHoldover).raise 0x0D04 1 subjNone []
  else if st = tmAcq then s.toTime tmTod
  else s

/-- MASTER_LOST: no Sync for three Announce intervals, or the master has left the selection without a successor.
DEDUCED (log 141). -/
def execMasterLost (s : State) : Host.Outcome State Fault Refusal :=
  .next (match s.tim.sel with
    | some m =>
      if decide (s.announceWait m.1 ≤ s.since s.tim.syncAt) || s.bestMaster.isNone then
        let s1 := { s with tim := { s.tim with
          sel := none, masters := s.tim.masters.filter fun x => !(x.ann.port == m.1 && x.ann.sender == m.2) } }
        (if s.clockSet then s1.unled else s1).portStates.selectMaster
      else s
    | none => s)

/-- HOLDOVER_EXPIRY: HOLD_MAX counts 10 s. -/
def execHoldoverExpiry (s : State) : Host.Outcome State Fault Refusal :=
  .next (if s.timeState == tmHoldover && decide (s.reg Reg.TIM_SERVO_HOLD_MAX * 10 * secStrikes ≤ s.since s.tim.holdAt) then
      (s.toTime tmTod).raise 0x0D05 1 subjNone []
    else s)

/-- Strikes of a message interval of 2^`log` s, `log` in 4 bits, signed. -/
def intervalStrikes (log : Nat) : Nat :=
  if log < 8 then secStrikes * 2 ^ log else secStrikes / 2 ^ (16 - log)

/-- A PTP message as a port sends it (R466).
PRESUMED (log 295). -/
def State.ptpFrame (s : State) (n : Nat) (m : PtpMsg) : TxFrame :=
  let udp := s.flag (Reg.TIM_PTP_P_UDP n)
  { dst := some (if udp then 0x01005E000181 else match m with | .pdelayReq => 0x0180C200000E | _ => 0x011B19000000)
    src := s.portMac n, etype := if udp then 0x0800 else 0x88F7, body := .ptp m
    vlan := if s.flag (Reg.NET_VLAN_PTAG n) then some (s.reg (Reg.NET_VLAN_PVID n), s.reg (Reg.NET_VLAN_PPCP n)) else none }

/-- The PTP messages that a port owes at a strike: a MASTER its Sync, with a Follow_Up where it is two-step, and its Announce; a
SLAVE its delay request; with a peer-to-peer profile every port its own (R466, R468).
PRESUMED (log 295). -/
def State.ptpDue (s : State) (n : Nat) : List PtpMsg :=
  let on := fun (log : Nat) => s.now % intervalStrikes log == 0
  let st := s.reg (Reg.TIM_PSTAT_PSTATE n)
  let p2p := s.reg Reg.TIM_PTP_CFG_PROFILE != 0
  let dly := on (s.reg (Reg.TIM_PTP_P_LOGDLY n))
  if !s.ptpOn n || s.deaf || !s.appsRun then []
  else (if st = 6 ∧ on (s.reg (Reg.TIM_PTP_P_LOGSYNC n)) then
      [PtpMsg.sync] ++ (if s.flag (Reg.TIM_PTP_P_STEP n) then [] else [PtpMsg.followUp]) else [])
    ++ (if st = 6 ∧ on (s.reg (Reg.TIM_PTP_P_LOGANN n)) then [PtpMsg.announce] else [])
    ++ (if p2p && dly then [PtpMsg.pdelayReq] else if st == 9 && dly then [PtpMsg.delayReq] else [])

/-- The ports at a strike: PTP messages that fall due, and what is sent (R458). -/
def State.netStrike (s : State) : State :=
  (forEach [0, 1] (fun n s => forAll (s.ptpDue n) (fun m s => s.txPut n (s.ptpFrame n m)) s) s).txStrike

/-- Once a second the seconds go into the AON counter while time is valid, and TODV follows the bound (R464).
DEDUCED (log 145). -/
def State.clockSecond (s : State) : State :=
  let s1 := if s.flag Reg.TIM_STAT_TV then
      { s with tim := { s.tim with
          aonSec := s.now / secStrikes, aonTai := s.tim.tai, aonAge := 0, aonAt := s.now, aonOk := true } }
    else s
  s1.timeFlags

/-! ## Links (R479) -/

/-- A port's link goes down: 0x0F01 where the port is enabled, and its masters leave the selection (R468).
DEDUCED (log 146, 185). -/
def State.linkDown (n : Nat) (s : State) : State :=
  let s1 := (s.setFields [(Reg.NET_PORT_LINK n, 0), (Reg.NET_PORT_G1 n, 0)])
  let s2 := if s.flag (Reg.NET_PORT_EN n) then s1.raiseAs false 0x0F01 1 subjNone false [n] else s1
  s2.portStates.selectMaster

/-- No enabled port is without a link: 0x0F01 has gone.
DEDUCED (log 185). -/
def State.linksBack (s : State) : State :=
  if [0, 1].any fun n => s.flag (Reg.NET_PORT_EN n) && !s.flag (Reg.NET_PORT_LINK n) then s else s.goneAt 0x0F01 subjNone

/-- The speeds a port advertises (NET_PORTn.SPEED). -/
def State.speedOk (s : State) (n : Nat) (g1 : Bool) : Bool :=
  match s.reg (Reg.NET_PORT_SPEED n) with
  | 0 => true
  | 1 => !g1
  | _ => g1

/-- ETH_LINK_CHANGE: the link of a port comes up at 1000BASE-T or 100BASE-TX, or goes down.
DEDUCED (log 146). -/
def execEthLinkChange (port : Nat) (up g1 : Bool) (s : State) : Host.Outcome State Fault Refusal :=
  .next (if decide (port < 2) && s.flag Reg.PWR_DOM_NET && up != s.flag (Reg.NET_PORT_LINK port) then
      if up then
        if s.flag (Reg.NET_PORT_EN port) && s.speedOk port g1 then
          (s.setFields [(Reg.NET_PORT_LINK port, 1), (Reg.NET_PORT_G1 port, bit g1)]).linksBack.portStates
        else s
      else s.linkDown port
    else s)

end Sys2Proof.Machine
end

