-- ==== Sys2Proof/Machine/TimedPulses.lean ====
section
/-! DEFINITION. Client clocks, time-trigger outputs, capture inputs and interval units (R469 to R477). -/
namespace Sys2Proof.Machine

/-- The latch of a register for a path (R612). -/
def latchKey (p : Path) (off : Nat) : Nat := p.num * 2 ^ 23 + off

/-- Latches a value of a register for a path. -/
def State.latchFor (p : Path) (off v : Nat) (s : State) : State := { s with latch := s.latch.put (latchKey p off) v }

/-! ## Client clocks -/

/-- CLIENT_CLOCK_APPLY: a write of HIF_FN_CC_CTRL of a function. -/
def execClientClockApply (fn : Nat) (w : Word) (s : State) : Host.Outcome State Fault Refusal :=
  .next (if s.fnReached fn && bitAt w.toNat 0 then
      (s.updFn fn fun (f : HostFn) => { f with
        ofs := signed 64 (s.reg (Reg.HIF_FN_CC_OFS_LO_VAL fn) + s.reg (Reg.HIF_FN_CC_OFS_HI_VAL fn) * 2 ^ 32)
        rate := signed 32 (s.reg (Reg.HIF_FN_CC_RATE_VAL fn)), a := s.clockNow }).took
    else s)

/-! ## Time-trigger outputs -/

def Tto.initial : Tto := { armed := none, next := 0, issued := 0, pulse := none, pend := none }
def State.tto (s : State) (k : Nat) : Tto := s.tim.tto.get Tto.initial k
def State.setTto (k : Nat) (x : Tto) (s : State) : State := { s with tim := { s.tim with tto := s.tim.tto.put k x } }

/-- An output is armed with nothing. -/
def State.ttoDisarm (k : Nat) (s : State) : State :=
  (s.setTto k { s.tto k with armed := none, pend := none }).setFlag (Reg.TIM_TTO_CTRL_ACTIVE k) false

/-- The mode and times in an output's registers. -/
def State.ttoPlan (s : State) (k : Nat) : TtoPlan :=
  { mode := s.reg (Reg.TIM_TTO_CTRL_MODE k)
    start := (s.reg (Reg.TIM_TTO_START_LO_VAL k) + s.reg (Reg.TIM_TTO_START_HI_VAL k) * 2 ^ 32) * 1000000000
      + s.reg (Reg.TIM_TTO_START_NS_VAL k)
    width := s.reg (Reg.TIM_TTO_WIDTH_VAL k), period := s.reg (Reg.TIM_TTO_PERIOD_VAL k)
    count := s.reg (Reg.TIM_TTO_COUNT_VAL k) }

/-- WIDTH and PERIOD are no reserved encodings in the plan's mode (R472).
DEDUCED (log 148). -/
def TtoPlan.legal (p : TtoPlan) : Bool :=
  match p.mode with
  | 1 => decide (16 ≤ p.width) && decide (p.width ≤ 4000000000)
  | 2 => decide (1000 ≤ p.period) && decide (p.period ≤ 4000000000) && decide (16 ≤ p.width)
      && decide (p.width + 16 ≤ p.period)
  | _ => true

/-- The first START + i * PERIOD at or after a time. -/
def TtoPlan.firstFrom (p : TtoPlan) (t : Nat) : Nat :=
  if t ≤ p.start then p.start else p.start + (t - p.start + p.period - 1) / p.period * p.period

/-- A plan comes into force; `t` is the earliest time it may issue. -/
def State.ttoStart (k : Nat) (p : TtoPlan) (t : Nat) (s : State) : State :=
  let s1 := s.setReg (Reg.TIM_TTO_CTRL_DONE k) 0
  if p.mode = 0 then s1.ttoDisarm k
  else if p.mode = 1 ∧ p.start < t then
    ((s1.ttoDisarm k).setFlag (Reg.TIM_TTO_CTRL_LATE k) true).note 0x0D08 subjNone []
  else
    (s1.setTto k { Tto.initial with armed := some p, next := if p.mode = 1 then p.start else p.firstFrom t }).setFlag
      (Reg.TIM_TTO_CTRL_ACTIVE k) true

/-- The pulse in hand ends, and what waited for it takes effect. -/
def State.ttoEnd (k : Nat) (s : State) : State :=
  let x := s.tto k
  match x.pulse with
  | none => s
  | some e =>
    let s1 := s.setTto k { x with pulse := none, pend := none }
    match x.pend with
    | none => s1
    | some none => s1.ttoDisarm k
    | some (some (p, t)) => s1.ttoStart k p (max t e)

/-- A write of MODE off: at once, or at the end of the pulse being issued. -/
def State.ttoOff (k : Nat) (s : State) : State :=
  let x := s.tto k
  if x.pulse.isSome then s.setTto k { x with pend := some none } else s.ttoDisarm k

/-- TTO_ARM: a write of TIM_TTOk_CTRL with ARM = 1.
DEDUCED (log 148). -/
def execTtoArm (path : Path) (k : Nat) (w : Word) (s : State) : Host.Outcome State Fault Refusal :=
  .next (if decide (k < 4) && bitAt w.toNat 3 && !s.deaf then
      let s1 := s.writeWord path (Reg.TIM_TTO_CTRL_MODE k).off w.toNat
      let p := s1.ttoPlan k
      if !p.legal then s1.noteBad path 1
      else if !s1.runOrTrim then s1
      else
        let t := s1.clockNow / 65536 + 10000
        let s2 := s1.took
        let x := s2.tto k
        if x.pulse.isSome then s2.setTto k { x with pend := some (some (p, t)) } else s2.ttoStart k p t
    else s)

/-- The pulse due of an armed output is issued. -/
def State.ttoIssue (k : Nat) (s : State) : State :=
  let x := s.tto k
  match x.armed with
  | none => s
  | some p =>
    if s.now < x.next / 31250 then s
    else
      let n := x.issued + 1
      let last := p.mode == 1 || (p.count != 0 && decide (p.count ≤ n))
      ((s.setTto k { x with
          armed := if last then none else some p, issued := n, next := x.next + p.period, pulse := some (x.next + p.width) }).setReg
        (Reg.TIM_TTO_CTRL_DONE k) (n % 65536)).setFlag (Reg.TIM_TTO_CTRL_ACTIVE k) (!last)

/-- TTO_PULSE: the pulse whose time has come. -/
def execTtoPulse (k : Nat) (s : State) : Host.Outcome State Fault Refusal :=
  .next (if decide (k < 4) && s.runOrTrim && s.clockSet && (match (s.tto k).armed with
        | some _ => decide ((s.tto k).next / 31250 ≤ s.now)
        | none => false) then
      (s.ttoEnd k).ttoIssue k
    else s)

/-- At a strike: pulses past their end, and the disarming of R473. -/
def State.ttoStrike (s : State) : State :=
  forEach [0, 1, 2, 3] (fun k s =>
    let x := s.tto k
    if !s.runOrTrim then
      if x = Tto.initial then s else (s.setTto k Tto.initial).setFlag (Reg.TIM_TTO_CTRL_ACTIVE k) false
    else match x.pulse with
      | some e => if e ≤ s.now * 31250 then s.ttoEnd k else s
      | none => s) s

/-! ## Capture inputs and interval units -/

/-- The capture queues and the interval units run (R477).
DEDUCED (log 150). -/
def State.capturesRun (s : State) : Bool := s.runOrTrim || s.power == pwBrake

def State.tciQueue (s : State) (n : Nat) : List (Nat × Bool) := s.tim.tci.get [] n

/-- A queue and its LEVEL. -/
def State.setTci (n : Nat) (l : List (Nat × Bool)) (s : State) : State :=
  State.setReg { s with tim := { s.tim with tci := s.tim.tci.put n l } } (Reg.TIM_TCI_CFG_LEVEL n) l.length

/-- A selected edge joins its input's queue of 32, or is dropped (R475). -/
def State.tciEdge (n : Nat) (rising : Bool) (t : Nat) (s : State) : State :=
  if bitAt (s.reg (Reg.TIM_TCI_CFG_EDGE n)) (if rising then 0 else 1) then
    let q := s.tciQueue n
    if q.length < 32 then s.setTci n (q ++ [(t, rising)])
    else (s.setFlag (Reg.TIM_TCI_CFG_OVF n) true).raisePaced (0x0D09 * 256 + n) 0x0D09 0 subjNone []
  else s

def State.ivl (s : State) (k : Nat) : Ivl := s.tim.ivl.get { pend := none, dup := false } k

/-- PEND of TIM_IVLk_RESF, with the unit's state. -/
def State.setIvl (k : Nat) (x : Ivl) (s : State) : State :=
  State.setBit { s with tim := { s.tim with ivl := s.tim.ivl.put k x } } (Reg.TIM_IVL_RESF_VAL k) 20 x.pend.isSome

/-- A result of an interval unit, in units of 0.5 ns (done() of R476). -/
def State.ivlDone (k res : Nat) (tie : Bool) (s : State) : State :=
  let top := 2 * 4294967295 + 1
  let v := sat top res
  let old := s.reg (Reg.TIM_IVL_RESF_VAL k)
  let x := s.ivl k
  let f := v % 2 * 0x8000 + 0x10000 + bit tie * 0x20000 + bit (decide (top < res)) * 0x40000 + bit x.dup * 0x80000
    + bitsAt old 24 8 * 0x1000000
  let s1 := ((s.setReg (Reg.TIM_IVL_RES_VAL k) (v / 2)).setReg (Reg.TIM_IVL_RESF_VAL k) f).setIvl k { x with pend := none }
  if s.flag (Reg.TIM_IVL_CFG_CONT k) then s1 else s1.setFlag (Reg.TIM_IVL_CFG_EN k) false

/-- A START edge of a unit.
DEDUCED (log 149). -/
def State.ivlStart (k t : Nat) (s : State) : State :=
  let x := s.ivl k
  if x.pend.isNone then s.setIvl k { pend := some t, dup := false }
  else (s.setIvl k { x with dup := true }).setBit (Reg.TIM_IVL_RESF_VAL k) 19 true

/-- A STOP edge of a unit. -/
def State.ivlStop (k t : Nat) (s : State) : State :=
  match (s.ivl k).pend with
  | some ts => if ts ≤ t then s.ivlDone k (t - ts) (decide (t = ts)) else s.ivlDone k 0 true
  | none =>
    let r := s.reg (Reg.TIM_IVL_RESF_VAL k)
    s.setReg (Reg.TIM_IVL_RESF_VAL k) (if bitsAt r 24 8 < 255 then r + 0x1000000 else r)

/-- One interval unit takes an edge; START and STOP on the same edge is reserved, and the unit does nothing. -/
def State.ivlEdge (n : Nat) (rising : Bool) (t k : Nat) (s : State) : State :=
  let start := s.reg (Reg.TIM_IVL_CFG_SIN k) == n && s.flag (Reg.TIM_IVL_CFG_SFALL k) == !rising
  let stop := s.reg (Reg.TIM_IVL_CFG_PIN k) == n && s.flag (Reg.TIM_IVL_CFG_PFALL k) == !rising
  if !s.flag (Reg.TIM_IVL_CFG_EN k) || (start && stop) then s
  else if start then s.ivlStart k t
  else if stop then s.ivlStop k t
  else s

/-- TCI_EDGE: an edge of an input, `part` units of 0.5 ns after the latest strike.
DEDUCED (log 149). -/
def execTciEdge (n : Nat) (rising : Bool) (part : Nat) (s : State) : Host.Outcome State Fault Refusal :=
  .next (let t := s.now * 62500 + part
    if decide (n < 4) && decide (part < 62500) && s.capturesRun && s.clockSet && decide (s.tim.edgeAt ≤ t) then
      let s1 := { s with tim := { s.tim with edgeAt := t } }
      forEach [0, 1] (State.ivlEdge n rising t) (s1.tciEdge n rising t)
    else s)

/-- The words of a queue entry: SEC_LO, SEC_HI, NS, FRAC (TIM_TCIn_SEC_LO). -/
def tciWords (t : Nat) (rising : Bool) : Nat × Nat × Nat × Nat :=
  let ns := t / 2
  let sec := ns / 1000000000
  (sec % 2 ^ 32, sec / 2 ^ 32 % 65536 + bit rising * 0x10000 + 0x20000, ns % 1000000000, t % 2 * 0x8000)

/-- TCI_READ: a read of TIM_TCIn_SEC_LO by a path. -/
def execTciRead (path : Path) (n : Nat) (s : State) : Host.Outcome State Fault Refusal :=
  .next (if decide (n < 4) && s.sys.core then
      let q := s.tciQueue n
      let w := match q with
        | [] => (0, 0, 0, 0)
        | e :: _ => tciWords e.1 e.2
      let s1 := s.setTci n (q.drop 1)
      ((((s1.returns path w.1).latchFor path (Reg.TIM_TCI_SEC_HI_VAL n).off w.2.1).latchFor path
        (Reg.TIM_TCI_NS_VAL n).off w.2.2.1).latchFor path (Reg.TIM_TCI_FRAC_VAL n).off w.2.2.2)
    else s)

/-- INTERVAL_TIMEOUT: a START that has been pending for TMO ms. -/
def execIntervalTimeout (k : Nat) (s : State) : Host.Outcome State Fault Refusal :=
  .next (match (s.ivl k).pend with
    | some ts =>
      let tmo := s.reg (Reg.TIM_IVL_CFG_TMO k)
      if decide (k < 2) && s.capturesRun && tmo != 0 && decide (ts + tmo * 2000000 < (s.now + 1) * 62500) then
        (s.setIvl k { pend := none, dup := false }).addSat (Reg.TIM_IVL_TMOCNT_CNT k) 1
      else s
    | none => s)

end Sys2Proof.Machine
end

