-- ==== Sys2Proof/Machine/Can.lean ====
section
/-! DEFINITION. The CAN controllers: filters, queues, transmit buffers, the module's own frames, errors (chapter 18), and
the commit of an event record with its alarm frame (R446, R501). -/
namespace Sys2Proof.Machine

def CanQueue.initial : CanQueue := { fill := 0, get := 0, put := 0, lost := 0 }

def CanCtl.initial : CanCtl :=
  { filters := [], len := 0, swap := none, rx0 := CanQueue.initial, rx1 := CanQueue.initial
    tef := CanQueue.initial, tx := none, attempts := [], alost := 0, hold := 0, lostTo := none, tec := 0, recv := 0
    rejoin := false, refPend := none, refSent := 0, refLast := none, refTv := false, refTurn := 0, round := 0, roundAt := 0
    discPend := false, discSof := none, answered := [], absent := [], alarms := [] }

def State.canCtl (s : State) (c : Nat) : CanCtl := s.can.ctl.get CanCtl.initial c
def State.setCan (c : Nat) (x : CanCtl) (s : State) : State := { s with can := { s.can with ctl := s.can.ctl.put c x } }
def State.updCan (c : Nat) (f : CanCtl → CanCtl) (s : State) : State := s.setCan c (f (s.canCtl c))

/-- A CAN event of class 0 (R503).
DEDUCED (log 253). -/
def State.canNote (c code : Nat) (s : State) : State := s.note code subjNone [c]

/-- The controllers run in RUN, TRIM and BRAKE (R481). -/
def State.canPowered (s : State) : Bool := s.sys.core && (s.runOrTrim || s.power == pwBrake)

/-- A controller exists. -/
def canIs (c : Nat) : Bool := decide (c < 3)

/-- A controller takes part on its bus. -/
def State.canOn (s : State) (c : Nat) : Bool :=
  canIs c && s.canPowered && !s.flag (Reg.CAN_CTRL_INIT c) && s.flag (Reg.CAN_STAT_SYNC c)
    && decide (s.reg (Reg.CAN_STAT_ESTATE c) < 2)

/-- The highest format of a controller, in the encoding of header byte 18 (R482). -/
def State.canTop (s : State) (c : Nat) : Nat :=
  match s.reg (Reg.CAN_CTRL_FMT c) with
  | 0 => 1
  | 1 => 3
  | _ => 4

/-- The MSI-X signal of a controller. -/
def State.canSignal (c : Nat) (enable : Bool) (s : State) : State :=
  if enable then s.sendVector 0 (s.reg (Reg.CAN_CTRL_VEC c)) else s

/-! ## Configuration (R483, R485, R488) -/

/-- A bit timing word is inside the limits of its phase (R483). -/
def timingOk (quanta least : Nat) (w : Nat) : Bool :=
  let brp := bitsAt w 0 5
  let t1 := bitsAt w 5 8
  let t2 := bitsAt w 13 7
  let sjw := bitsAt w 20 7
  decide (1 ≤ brp) && decide (quanta ≤ 1 + t1 + t2) && decide (least ≤ brp * (1 + t1 + t2))
    && decide (1 ≤ sjw) && decide (sjw ≤ t2)

/-- The word written to a configuration register is no reserved encoding. `rel` is the register's offset in the controller. -/
def State.canConfigOk (s : State) (c rel w : Nat) : Bool :=
  if rel = 0x08 then timingOk 8 80 w
  else if rel = 0x0C then timingOk 5 10 w
  else if rel = 0x10 then timingOk 4 (if s.flag (Reg.CAN_CTRL_XLFM c) then 4 else 10) w
  else if rel = 0x40 ∨ rel = 0x50 then
    decide (bitsAt w 0 7 * (32 + [8, 64, 2048, 0].getD (bitsAt w 8 2) 0) ≤ 65536)
  else true

/-- A controller leaves the bus for INIT, or integrates on it (R485, R502).
DEDUCED (log 158). -/
def State.canInit (c : Nat) (on : Bool) (s : State) : State :=
  if on then
    (s.updCan c fun x => { x with tx := none, refSent := 0, refLast := none, rejoin := true }).setFields
      [(Reg.CAN_STAT_ESTATE c, 3), (Reg.CAN_STAT_SYNC c, 0)]
  else
    let x := s.canCtl c
    if 255 < x.tec then s.setFields [(Reg.CAN_STAT_ESTATE c, 2), (Reg.CAN_STAT_SYNC c, 0)]
    else s.setFields [(Reg.CAN_STAT_ESTATE c, bit (decide (127 < x.tec) || decide (127 < x.recv))), (Reg.CAN_STAT_SYNC c, 1)]

/-- A write of CAN_CTRL: FMT and XLFM change only while INIT is 1, and XLFM clears only where CAN_XBT allows it. -/
def State.canCtrlWrite (path : Path) (c w : Nat) (s : State) : State :=
  let f := Reg.CAN_CTRL_FMT c
  let x := Reg.CAN_CTRL_XLFM c
  let change := bitsAt w 1 2 != s.reg f || bitsAt w 3 1 != s.reg x
  let was := s.flag (Reg.CAN_CTRL_INIT c)
  let xbt := s.storedWord (0x32010 + c * 0x400)
  let slow := bitAt w 3 || timingOk 4 10 xbt
  let s1 :=
    if change && !was then
      (s.writeWord path (0x32000 + c * 0x400) (keepField s f (keepField s x w))).canNote c 0x0E09
    else if !slow then (s.writeWord path (0x32000 + c * 0x400) (keepField s x w)).noteBad path 1
    else s.writeWord path (0x32000 + c * 0x400) w
  let now := s1.flag (Reg.CAN_CTRL_INIT c)
  if was = now then s1 else s1.canInit c now

/-- A write of one of the registers that take writes only while INIT is 1. A reserved encoding of one field leaves that
field alone; a setting of all of them outside the limits leaves them all (R17, R483, R488). -/
def State.canConfigWrite (path : Path) (c rel w : Nat) (s : State) : State :=
  if !s.flag (Reg.CAN_CTRL_INIT c) then s.canNote c 0x0E09
  else
    let a := 0x32000 + c * 0x400 + rel
    if s.canConfigOk c rel (s.legalWord a w) then s.writeWord path a w else s.noteBad path 1

/-- CAN_INIT_WRITE: a write of CAN_CTRL, a bit timing register, CAN_SSP or a receive queue configuration. -/
def execCanInitWrite (path : Path) (c rel : Nat) (w : Word) (s : State) : Host.Outcome State Fault Refusal :=
  .next (if canIs c && !s.deaf then
      if rel = 0 then s.canCtrlWrite path c w.toNat
      else if [0x08, 0x0C, 0x10, 0x14, 0x40, 0x50].contains rel then s.canConfigWrite path c rel w.toNat
      else s
    else s)

/-! ## Filters (R486, R487) -/

/-- Words 0 to 3 of an element of a bank. -/
def CanCtl.element (x : CanCtl) (bank el : Nat) : Nat × Nat × Nat × Nat :=
  let w := fun k => x.filters.get 0 (el + k * 512 + bank * 2048)
  (w 0, w 1, w 2, w 3)

/-- An element matches a frame (R486). -/
def elementMatches (e : Nat × Nat × Nat × Nat) (f : CanFrame) : Bool :=
  let id := bitsAt f.id 0 29 &&& e.2.1
  let kind := if f.fmt = 4 then 3 else if f.fmt = 1 ∨ f.fmt = 3 then 2 else 1
  bitAt e.1 0 && bitsAt e.1 4 2 != 3 && bitsAt e.1 17 7 == 0 && bitsAt e.2.1 29 3 == 0 && bitsAt e.2.2.1 29 3 == 0
    && bitsAt e.2.2.2 29 3 == 0 && bitAt e.1 kind && decide (e.2.2.1 ≤ id) && decide (id ≤ e.2.2.2)
    && (!bitAt e.1 16 || (f.fmt == 4 && f.vcid == bitsAt e.1 24 8))

/-- The element that decides a frame: the highest PRI, then the lowest number. -/
def CanCtl.decides (x : CanCtl) (bank : Nat) (f : CanFrame) : Option Nat :=
  (List.range x.len).foldl (fun (a : Option Nat) k =>
    let e := x.element bank k
    if elementMatches e f then
      match a with
      | some b => if bitsAt (x.element bank b).1 6 2 < bitsAt e.1 6 2 then some k else a
      | none => some k
    else a) none

/-- What happens to a frame: the queue (2 drops it), TAG and FIDX (R486, R488). -/
def State.canFilter (s : State) (c : Nat) (f : CanFrame) : Nat × Nat × Nat :=
  let x := s.canCtl c
  let bank := s.reg (Reg.CAN_STAT_FBANK c)
  match x.decides bank f with
  | some k => (bitsAt (x.element bank k).1 4 2, bitsAt (x.element bank k).1 8 8, k)
  | none => (s.reg (Reg.CAN_FLT_CFG_NM c), 0, 0x8000)

/-- CAN_FILTER_WRITE: a write of CAN_FLT_DATA. -/
def execCanFilterWrite (path : Path) (c : Nat) (w : Word) (s : State) : Host.Outcome State Fault Refusal :=
  .next (if canIs c && !s.deaf then
      let k := s.reg (Reg.CAN_FLT_IDX_IDX c)
      if bitsAt k 11 1 = s.reg (Reg.CAN_STAT_FBANK c) then s.canNote c 0x0E0D
      else (s.writeWord path (Reg.CAN_FLT_DATA_DATA c).off w.toNat).updCan c fun x =>
        { x with filters := x.filters.put k w.toNat }
    else s)

/-- A write of CAN_FLT_CFG: with SWAP = 1 the banks swap at the next start of frame or bus idle. -/
def State.canFilterCfg (path : Path) (c w : Nat) (s : State) : State :=
  let s1 := s.writeWord path (Reg.CAN_FLT_CFG_LEN c).off w
  if bitAt w 12 then s1.updCan c fun x => { x with swap := some (s1.reg (Reg.CAN_FLT_CFG_LEN c)) } else s1

/-- CAN_FILTER_SWAP: the start of frame or bus idle at which a waiting swap takes effect. -/
def execCanFilterSwap (c : Nat) (s : State) : Host.Outcome State Fault Refusal :=
  .next (if canIs c then
      match (s.canCtl c).swap with
      | some n =>
        (s.updCan c fun x => { x with swap := none, len := n }).setReg (Reg.CAN_STAT_FBANK c)
          (1 - s.reg (Reg.CAN_STAT_FBANK c))
      | none => s
    else s)

/-! ## Queues (R488 to R490) -/

def CanCtl.rxq (x : CanCtl) (j : Nat) : CanQueue := if j = 0 then x.rx0 else x.rx1
def CanCtl.setRxq (x : CanCtl) (j : Nat) (q : CanQueue) : CanCtl :=
  if j = 0 then { x with rx0 := q } else { x with rx1 := q }

/-- A receive queue and its CAN_RXQj_STAT. -/
def State.setRxq (c j : Nat) (q : CanQueue) (s : State) : State :=
  (s.updCan c fun x => x.setRxq j q).setReg (Reg.CAN_RXQ_STAT_VAL c j)
    (q.fill + q.get % 64 * 2 ^ 8 + q.put % 64 * 2 ^ 16 + q.lost * 2 ^ 24)

/-- Bytes of data an entry of a queue holds. -/
def State.rxSlot (s : State) (c j : Nat) : Nat := [8, 64, 2048].getD (s.reg (Reg.CAN_RXQ_CFG_DSIZE c j)) 64

/-- A start-of-frame timestamp (R496): units of 12.5 ns.
DEDUCED (log 151). -/
def sofBytes (t : Nat) : List Nat := stampBytes (t * 819200)

/-- The 32 bytes of a receive entry's header.
DEDUCED (log 154). -/
def rxHeader (f : CanFrame) (trunc alost : Bool) (tag fidx : Nat) : List Nat :=
  sofBytes f.sof ++ leBytes 4 (bitsAt f.id 0 29) ++ leBytes 2 f.len
    ++ [f.fmt + 8 * bit f.rtr + 16 * bit f.brs + 32 * bit f.esi, bit trunc + 2 * bit alost]
    ++ leBytes 2 fidx ++ [f.sdt % 256, f.vcid % 256] ++ leBytes 4 f.af ++ [tag, 0, 0, 0]

/-- A frame goes into a queue, or finds it full. -/
def State.canStore (c j : Nat) (f : CanFrame) (tag fidx : Nat) (s : State) : State :=
  let x := s.canCtl c
  let q := x.rxq j
  let depth := max 1 (s.reg (Reg.CAN_RXQ_CFG_DEPTH c j))
  let slot := s.rxSlot c j
  if q.fill < depth then
    let addr := 0x8800 + j * 0x10000 + q.put % depth * (32 + slot)
    let bytes := rxHeader f (decide (slot < f.data.length)) (x.lostTo == some f.sof) tag fidx ++ f.data.take slot
    let s1 := (s.writeMem c addr bytes).setRxq c j
      { q with fill := q.fill + 1, put := q.put + 1 }
    s1.canSignal c (q.fill == 0 && s.flag (Reg.CAN_CTRL_IE_RX c))
  else
    (s.setRxq c j { q with lost := sat 255 (q.lost + 1) }).raisePaced (0x0E03 * 256 + c * 2 + j) 0x0E03 0 subjNone [c]

/-- An answer to the discovery round in hand (R500). -/
def State.canAnswer (c : Nat) (f : CanFrame) (s : State) : State :=
  let x := s.canCtl c
  let base := s.reg (Reg.CAN_DISC_CFG_RBASE c)
  match x.discSof with
  | some t =>
    let n := f.id - base
    let round := (x.round + 255) % 256
    if s.flag (Reg.CAN_DISC_CFG_EN c) && f.fmt == 0 && !f.rtr && decide (base ≤ f.id) && decide (f.id < base + 64)
        && f.len == 8 && f.data.headD 256 == round && decide (f.sof ≤ t + 8000000) && !x.answered.contains n then
      let s1 := s.updCan c fun x => { x with answered := n :: x.answered }
      let map := s.reg (Reg.CAN_DISC_MAP_LO_MAP c) + s.reg (Reg.CAN_DISC_MAP_HI_MAP c) * 2 ^ 32
      if bitAt map n then s1 else s1.canNote c 0x0E06
    else s
  | none => s

/-- REC after a frame received without error (ISO 11898-1).
DESIGN CHOICE (log 263). -/
def State.canRxGood (c : Nat) (s : State) : State :=
  let x := s.canCtl c
  let r := if x.recv = 0 then 0 else if x.recv ≤ 127 then x.recv - 1 else 119 + Config.freeNat s.free % 9
  let s1 := if 127 < x.recv then s.took else s
  (s1.updCan c fun x => { x with recv := r }).setReg (Reg.CAN_ERR_REC c) (sat 255 r)

/-- Error active or error passive by the counters.
PRESUMED (log 152). -/
def State.canEstate (c : Nat) (s : State) : State :=
  let x := s.canCtl c
  let passive := decide (127 < x.tec) || decide (127 < x.recv)
  let was := s.reg (Reg.CAN_STAT_ESTATE c)
  if was = 0 ∧ passive then
    ((s.setReg (Reg.CAN_STAT_ESTATE c) 1).canNote c 0x0E02).canSignal c (s.flag (Reg.CAN_CTRL_IE_ERR c))
  else if was = 1 ∧ !passive then s.setReg (Reg.CAN_STAT_ESTATE c) 0
  else s

/-- CAN_FRAME_RECEIVE: a frame that has become valid for a receiver.
DESIGN CHOICE (log 161). -/
def execCanFrameReceive (c : Nat) (f : CanFrame) (s : State) : Host.Outcome State Fault Refusal :=
  .next (if s.canOn c && decide (f.fmt ≤ s.canTop c) then
      let s1 := (s.canRxGood c).canEstate c
      let d := s1.canFilter c f
      let s2 := if d.1 < 2 then s1.canStore c d.1 f d.2.1 d.2.2 else s1
      (s2.updCan c fun x => { x with lostTo := none }).canAnswer c f
    else s)

/-- CAN_RX_ACK: a write of CAN_RXQj_ACK. -/
def execCanRxAck (c j : Nat) (w : Word) (s : State) : Host.Outcome State Fault Refusal :=
  .next (if canIs c && decide (j < 2) && !s.deaf then
      let q := (s.canCtl c).rxq j
      let n := w.toNat % 128
      if q.fill < n then s.canNote c 0x0E0B
      else s.setRxq c j { q with fill := q.fill - n, get := q.get + n }
    else s)

/-- CAN_TEF_ACK: a write of CAN_TEF_ACK.
DEDUCED (log 155). -/
def execCanTefAck (c : Nat) (w : Word) (s : State) : Host.Outcome State Fault Refusal :=
  .next (if canIs c && !s.deaf then
      let q := (s.canCtl c).tef
      let n := w.toNat % 128
      if q.fill < n then s.canNote c 0x0E0B
      else s.updCan c fun x => { x with tef := { q with fill := q.fill - n, get := q.get + n } }
    else s)

/-! ## The message window (R491) -/

/-- Bytes of the message RAM. -/
def canRamSize : Nat := 0x28800

/-- CAN_MWIN_ACCESS: a read of CAN_MWIN_DATA, or a write of it.
DEDUCED (log 160). -/
def execCanMwinAccess (path : Path) (c : Nat) (w : Option Word) (s : State) : Host.Outcome State Fault Refusal :=
  .next (if canIs c && !s.deaf then
      let a := s.reg (Reg.CAN_MWIN_ADDR_ADDR c) / 4 * 4
      let s1 := s.setReg (Reg.CAN_MWIN_ADDR_ADDR c) (a + 4)
      match w with
      | none =>
        s1.returns path (if a < canRamSize then ofLe ((s.memory c).readBytes a 4) else 0)
      | some v =>
        if a / 0x820 < 16 ∧ s.bitOf (Reg.CAN_TXPEND_TXB c) (a / 0x820) then s1.canNote c 0x0E0A
        else if a < canRamSize then s1.writeMem c a (leBytes 4 v.toNat)
        else s1
    else s)

/-! ## What a controller offers (R492, R495) -/

/-- The header of a transmit buffer. -/
def State.canHeader (s : State) (c k : Nat) : List Nat := (s.memory c).readBytes (k * 0x820) 32

/-- The order of a frame's arbitration field, strongest first: leading 11 identifier bits, the ranks of "Table — Order of
frames with the same leading 11 identifier bits", extension bits, RTR, FDF. -/
def arbKey (id fmt : Nat) (rtr : Bool) : List Nat :=
  match fmt with
  | 0 => if rtr then [id % 2048, 4, 0, 0, 0] else [id % 2048, 1, 0, 0, 0]
  | 2 => [id % 2048, 2, 0, 0, 0]
  | 4 => [id % 2048, 3, 0, 0, 0]
  | _ => [bitsAt id 18 11, 5, bitsAt id 0 18, bit rtr, bit (fmt == 3)]

/-- The arbitration order of a pending frame. -/
def State.canKey (s : State) (c src : Nat) : List Nat :=
  match src with
  | 0 => arbKey (s.reg (Reg.CAN_REF_CFG_RID c)) 0 false ++ [0]
  | 1 => arbKey (s.reg (Reg.CAN_ALM_CFG_AID c)) 0 false ++ [1]
  | 2 => arbKey (s.reg (Reg.CAN_DISC_CFG_QID c)) 0 false ++ [2]
  | k + 3 =>
    let h := s.canHeader c k
    arbKey (leAt h 12 4) (h.getD 18 0 % 8) (bitAt (h.getD 18 0) 3) ++ [k + 3]

/-- What is pending at a controller: alarm frames and discovery requests are built by an application core (R31, R502). -/
def State.canPending (s : State) (c : Nat) : List Nat :=
  let x := s.canCtl c
  (if x.refPend.isSome then [0] else []) ++ (if x.alarms.isEmpty || !s.appsRun then [] else [1])
    ++ (if x.discPend && s.appsRun then [2] else [])
    ++ (range 3 19).filter fun k => s.bitOf (Reg.CAN_TXPEND_TXB c) (k - 3)

/-- The pending frame that wins against every other. -/
def State.canOffer (s : State) (c : Nat) : Option Nat :=
  (s.canPending c).foldl (fun (a : Option Nat) k =>
    match a with
    | some b => if lower (s.canKey c k) (s.canKey c b) then some k else a
    | none => some k) none

/-- The controller has sent the start of frame of what it offers at a time: an attempt begins. -/
def State.canBegin (c : Nat) (sof : Option Nat) (s : State) : State :=
  let x := s.canCtl c
  match x.tx, sof with
  | none, some t =>
    match s.canOffer c with
    | some k => s.setCan c { x with
        tx := some (k, t), attempts := x.attempts.put k (x.attempts.get 0 k + 1)
        refTv := if k = 0 then s.flag Reg.TIM_STAT_TV else x.refTv
        discSof := if k = 2 then some t else x.discSof }
    | none => s
  | _, _ => s

/-! ## Buffers (R491, R493, R494) -/

/-- The lengths of frames of FD formats. -/
def fdLengths : List Nat := [0, 1, 2, 3, 4, 5, 6, 7, 8, 12, 16, 20, 24, 32, 48, 64]

/-- LEN is valid for FMT (R488). -/
def lenOk (fmt len : Nat) : Bool :=
  match fmt with
  | 0 | 1 => decide (len ≤ 8)
  | 2 | 3 => fdLengths.contains len
  | _ => decide (1 ≤ len) && decide (len ≤ 2048)

/-- The header check of a transmit request. -/
def State.canHeaderOk (s : State) (c : Nat) (h : List Nat) : Bool :=
  let fmt := h.getD 18 0 % 8
  decide (fmt ≤ s.canTop c) && lenOk fmt (leAt h 16 2) && h.getD 18 0 / 64 == 0 && h.getD 15 0 / 32 == 0
    && h.getD 19 0 == 0 && leAt h 20 2 == 0

/-- TXPEND, and the bits CAN_TXREQ and CAN_TXCAN show. -/
def State.setPend (c pend : Nat) (s : State) : State :=
  s.setFields [(Reg.CAN_TXPEND_TXB c, pend), (Reg.CAN_TXREQ_TXB c, pend), (Reg.CAN_TXCAN_TXB c, (s.canCtl c).hold)]

/-- One buffer is requested.
DEDUCED (log 157). -/
def State.canRequest (c k : Nat) (s : State) : State :=
  let pend := s.reg (Reg.CAN_TXPEND_TXB c)
  if bitAt pend k then s
  else if s.canHeaderOk c (s.canHeader c k) then
    (s.updCan c fun x => { x with
      attempts := x.attempts.put (k + 3) 0, alost := putBit x.alost k false, hold := putBit x.hold k false }).setPend c
      (putBit pend k true)
  else s.canNote c 0x0E0C

/-- CAN_TX_REQUEST: a W1S write of CAN_TXREQ. -/
def execCanTxRequest (c : Nat) (w : Word) (s : State) : Host.Outcome State Fault Refusal :=
  .next (if canIs c && !s.deaf then
      forEach ((List.range 16).filter fun k => bitAt w.toNat k) (State.canRequest c) s
    else s)

/-- A transmit event entry (R494).
DESIGN CHOICE (log 153). -/
def State.canTef (c k : Nat) (h ts : List Nat) (att out : Nat) (s : State) : State :=
  if Config.tefAsked h then
    let q := (s.canCtl c).tef
    if q.fill < 32 then
      let e := ts ++ slice h 12 4 ++ [k, h.getD 18 0, att, out] ++ List.replicate 12 0
      (s.writeMem c (0x8200 + q.put % 32 * 32) e).updCan c fun x =>
        { x with tef := { q with fill := q.fill + 1, put := q.put + 1 } }
    else s.canNote c 0x0E04
  else s

/-- A buffer completes: sent at a start of frame, cancelled, or given up (R494).
DEDUCED (log 154). -/
def State.canDone (c k : Nat) (sof : Option Nat) (canc : Bool) (s : State) : State :=
  let x := s.canCtl c
  let h := s.canHeader c k
  let out := bit sof.isSome + 2 * bit canc + 4 * bit (bitAt x.alost k)
  let att := sat 255 (x.attempts.get 0 (k + 3))
  let ts := match sof with
    | some t => sofBytes t
    | none => List.replicate 12 0
  let seq := (s.reg (Reg.CAN_TXSEQ_CSEQ c) + 1) % 65536
  let s0 := (s.writeMem c (k * 0x820) ts).writeMem c (k * 0x820 + 28) ([att, out] ++ leBytes 2 seq)
  let s1 := (s0.setCan c { x with hold := putBit x.hold k false }).setPend c
    (putBit (s.reg (Reg.CAN_TXPEND_TXB c)) k false)
  ((s1.setFields [(Reg.CAN_TXSEQ_CSEQ c, seq), (Reg.CAN_TXDONE_TXB c, putBit (s1.reg (Reg.CAN_TXDONE_TXB c)) k true)]).canTef
    c k h ts att out).canSignal c (s.flag (Reg.CAN_CTRL_IE_TX c))

/-- One buffer is cancelled: held while its frame is on the bus.
DEDUCED (log 157). -/
def State.canCancel (c k : Nat) (s : State) : State :=
  let x := s.canCtl c
  if !s.bitOf (Reg.CAN_TXPEND_TXB c) k then s
  else if x.tx.any fun t => t.1 == k + 3 then
    (s.setCan c { x with hold := putBit x.hold k true }).setPend c (s.reg (Reg.CAN_TXPEND_TXB c))
  else s.canDone c k none true

/-- CAN_TX_CANCEL: a W1S write of CAN_TXCAN; the start of frame of the frame the controller is sending, when it is. -/
def execCanTxCancel (c : Nat) (w : Word) (sof : Option Nat) (s : State) : Host.Outcome State Fault Refusal :=
  .next (if canIs c && !s.deaf then
      forEach ((List.range 16).filter fun k => bitAt w.toNat k) (State.canCancel c)
        (if s.canOn c then s.canBegin c sof else s)
    else s)

/-! ## The module's own frames (R498 to R501) -/

/-- The 8 bytes of the next reference message. -/
def CanCtl.refBytes (x : CanCtl) : List Nat :=
  match x.refLast with
  | some (t, n, tv) =>
    let ns := t * 25 / 2
    leBytes 4 (ns % 1000000000 + n % 4 * 2 ^ 30) ++ leBytes 4 (ns / 1000000000 % 2 ^ 31 + bit tv * 2 ^ 31)
  | none => List.replicate 8 0

/-- CAN_REFERENCE_MESSAGE. -/
def execCanReferenceMessage (c : Nat) (s : State) : Host.Outcome State Fault Refusal :=
  .next (if canIs c && s.canPowered && s.runOrTrim && s.flag (Reg.CAN_REF_CFG_EN c) && !s.flag (Reg.CAN_CTRL_INIT c)
        && s.phase == 0 && s.turn % max 1 (s.reg (Reg.CAN_REF_CFG_PER c)) == 0
        && (s.canCtl c).refTurn != s.turn + 1 then
      s.updCan c fun x => { x with refPend := some s.turn, refTurn := s.turn + 1 }
    else s)

/-- REFERENCE_WITHDRAW. -/
def execReferenceWithdraw (c : Nat) (s : State) : Host.Outcome State Fault Refusal :=
  .next (match (s.canCtl c).refPend with
    | some t =>
      if canIs c && !(s.canCtl c).tx.any (fun x => x.1 == 0)
          && decide (s.reg (Reg.CAN_REF_CFG_PER c) * 16 ≤ s.since (t * 32)) then
        (s.updCan c fun x => { x with refPend := none }).canNote c 0x0E07
      else s
    | none => s)

/-- The round in hand is judged: CAN_DISC_MAP, and nodes lost (R500). -/
def State.canJudge (c : Nat) (s : State) : State :=
  let x := s.canCtl c
  if x.discSof.isNone then s
  else
    let map := (List.range 64).foldl (fun a n => a + bit (x.answered.contains n) * 2 ^ n) 0
    let old := s.reg (Reg.CAN_DISC_MAP_LO_MAP c) + s.reg (Reg.CAN_DISC_MAP_HI_MAP c) * 2 ^ 32
    let s1 := s.setFields [(Reg.CAN_DISC_MAP_LO_MAP c, map % 2 ^ 32), (Reg.CAN_DISC_MAP_HI_MAP c, map / 2 ^ 32)]
    forEach (List.range 64) (fun n s =>
      if bitAt map n then s.updCan c fun x => { x with absent := x.absent.drop (· == n) }
      else
        let k := x.absent.get 0 n
        if k = 0 ∧ !bitAt old n then s
        else if k = 1 then
          (s.updCan c fun x => { x with absent := x.absent.drop (· == n) }).raise 0x0E05 1 subjNone [c]
        else s.updCan c fun x => { x with absent := x.absent.put n 1 }) s1

/-- DISCOVERY_REQUEST: every PER seconds a round is judged and the next request becomes pending.
DEDUCED (log 156). -/
def execDiscoveryRequest (c : Nat) (s : State) : Host.Outcome State Fault Refusal :=
  .next (let x := s.canCtl c
    if canIs c && s.canPowered && s.runOrTrim && s.flag (Reg.CAN_DISC_CFG_EN c) && !s.flag (Reg.CAN_CTRL_INIT c)
        && (x.roundAt == 0 || s.elapsed x.roundAt (s.reg (Reg.CAN_DISC_CFG_PER c) * secStrikes)) then
      (s.canJudge c).updCan c fun x => { x with
        round := x.round + 1, roundAt := s.now + 1, discPend := true, discSof := none, answered := [] }
    else s)

/-- The alarm frame of a record: queued, or dropped where 32 wait (R501).
DEDUCED (log 146). -/
def State.canAlarm (e : EvRec) (c : Nat) (s : State) : State :=
  if s.flag (Reg.CAN_ALM_CFG_EN c) && decide (1 ≤ e.cls) && s.canPowered then
    if (s.canCtl c).alarms.length < 32 then
      s.updCan c fun x => { x with
        alarms := x.alarms ++ [leBytes 2 e.code ++ [e.cls + 8 * bit e.clear, 0] ++ leBytes 4 (e.strike % 2 ^ 32)] }
    else (s.addSat (Reg.CAN_ALM_CFG_DROP c) 1).raisePaced (0x0E08 * 256 + c) 0x0E08 0 subjNone [c]
  else s

/-! ## Completion, arbitration and errors (R492 to R494, R502) -/

/-- TEC after a frame sent without error. -/
def State.canTxGood (c : Nat) (s : State) : State :=
  let s1 := s.updCan c fun x => { x with tec := x.tec - 1 }
  s1.setReg (Reg.CAN_ERR_TEC c) (sat 255 (s1.canCtl c).tec)

/-- What is known to have left the module.
DEDUCED (log 156). -/
def State.canSent (c id : Nat) (data : List Nat) (s : State) : State :=
  { s with can := { s.can with sent := some (c, id, data) } }

/-- The frame of a source has been sent. -/
def State.canFinish (c src sof : Nat) (s : State) : State :=
  let x := s.canCtl c
  match src with
  | 0 =>
    (s.setCan c { x with refPend := none, refLast := some (sof, x.refSent, x.refTv), refSent := x.refSent + 1 }).canSent
      c (s.reg (Reg.CAN_REF_CFG_RID c)) x.refBytes
  | 1 => (s.setCan c { x with alarms := x.alarms.drop 1 }).canSent c (s.reg (Reg.CAN_ALM_CFG_AID c)) (x.alarms.headD [])
  | 2 =>
    (s.setCan c { x with discPend := false }).canSent c (s.reg (Reg.CAN_DISC_CFG_QID c)) [(x.round + 255) % 256]
  | k + 3 =>
    let h := s.canHeader c k
    (s.canDone c k (some sof) false).canSent c (leAt h 12 4) ((s.memory c).readBytes (k * 0x820 + 32) (leAt h 16 2))

/-- The frame of a source is given up: cancelled, or made once only.
DEDUCED (log 159). -/
def State.canGiveUp (c src : Nat) (canc : Bool) (s : State) : State :=
  match src with
  | 0 => s.updCan c fun x => { x with refPend := none }
  | 1 => s.updCan c fun x => { x with alarms := x.alarms.drop 1 }
  | 2 => s.updCan c fun x => { x with discPend := false }
  | k + 3 => s.canDone c k none canc

/-- A frame that lost arbitration or met an error: a held cancellation takes effect, one-shot ends it, else it stays
pending.
DEDUCED (log 159). -/
def State.canFailed (c src : Nat) (s : State) : State :=
  let held := decide (3 ≤ src) && bitAt (s.canCtl c).hold (src - 3)
  if held then s.canGiveUp c src true
  else if s.flag (Reg.CAN_CTRL_ONESHOT c) then s.canGiveUp c src false
  else s

/-- CAN_TX_COMPLETE: the frame on the bus completes without error; its start of frame, where no other command has told it;
the transceiver loop delay measured on it (CAN_SSP.DELAY). -/
def execCanTxComplete (c : Nat) (sof : Option Nat) (loop : Nat) (s : State) : Host.Outcome State Fault Refusal :=
  .next (if s.canOn c then
      let s1 := s.canBegin c sof
      match (s1.canCtl c).tx with
      | some (k, t) =>
        let fd := decide (3 ≤ k) && decide (2 ≤ (s1.canHeader c (k - 3)).getD 18 0 % 8)
        let s2 := (s1.updCan c fun x => { x with tx := none }).canFinish c k t
        let s3 := if fd then s2.setReg (Reg.CAN_SSP_DELAY c) loop else s2
        (s3.canTxGood c).canEstate c
      | none => s1
    else s)

/-- ARBITRATION_LOSS: the frame on the bus loses, and the stronger frame is received. -/
def execArbitrationLoss (c : Nat) (sof : Option Nat) (s : State) : Host.Outcome State Fault Refusal :=
  .next (if s.canOn c then
      let s1 := s.canBegin c sof
      match (s1.canCtl c).tx with
      | some (k, t) =>
        (s1.updCan c fun x => { x with
          tx := none, lostTo := some t, alost := if 3 ≤ k then putBit x.alost (k - 3) true else x.alost }).canFailed c k
      | none => s1
    else s)

/-- Error counters after an error: 8 for a transmitter; 1, or 8, for a receiver (ISO 11898-1).
PRESUMED (log 152). -/
def State.canCount (c : Nat) (tx : Bool) (n : Nat) (s : State) : State :=
  let s1 := s.updCan c fun x => if tx then { x with tec := x.tec + 8 } else { x with recv := sat 255 (x.recv + n) }
  s1.setFields [(Reg.CAN_ERR_TEC c, sat 255 (s1.canCtl c).tec), (Reg.CAN_ERR_REC c, sat 255 (s1.canCtl c).recv)]

/-- CAN_ERROR_FRAME: a bus error in the frame the controller sends, or in one it receives; `more`: a dominant bit follows
the receiver's error flag.
PRESUMED (log 152). -/
def execCanErrorFrame (c : Nat) (sof : Option Nat) (more : Bool) (s : State) : Host.Outcome State Fault Refusal :=
  .next (if s.canOn c then
      let s1 := s.canBegin c sof
      match (s1.canCtl c).tx with
      | some (k, _) =>
        (((s1.updCan c fun x => { x with tx := none }).canFailed c k).canCount c true 8).canEstate c
      | none => (s1.canCount c false (if more then 8 else 1)).canEstate c
    else s)

/-- A forced block reset: the frame on the bus ends in an error frame, and the receive queues are emptied (R543).
DEDUCED (log 302). -/
def State.canForced (c : Nat) (s : State) : State :=
  let s1 := match (s.canCtl c).tx with
    | some (k, _) => ((s.updCan c fun x => { x with tx := none }).canFailed c k).canCount c true 8
    | none => s
  forEach [0, 1] (fun j s =>
    let q := (s.canCtl c).rxq j
    s.setRxq c j { q with fill := 0, get := q.put }) s1

/-- CAN_BUS_OFF: TEC has passed 255. -/
def execCanBusOff (c : Nat) (s : State) : Host.Outcome State Fault Refusal :=
  .next (if s.canOn c && decide (255 < (s.canCtl c).tec) then
      ((((s.updCan c fun x => { x with tx := none, rejoin := false }).setFields
        [(Reg.CAN_STAT_ESTATE c, 2), (Reg.CAN_STAT_SYNC c, 0)]).raiseAs false 0x0E01 1 subjNone false [c])).canSignal c
        (s.flag (Reg.CAN_CTRL_IE_ERR c))
    else s)

/-- 0x0E01 has gone once no controller is in bus-off. -/
def State.busOffGone (s : State) : State :=
  if [0, 1, 2].any fun c => s.reg (Reg.CAN_STAT_ESTATE c) == 2 then s else s.goneAt 0x0E01 subjNone

/-- CAN_BUS_OFF_RECOVERY: 128 sequences of 11 recessive bits. -/
def execCanBusOffRecovery (c : Nat) (s : State) : Host.Outcome State Fault Refusal :=
  .next (if canIs c && s.canPowered && !s.flag (Reg.CAN_CTRL_INIT c) && s.reg (Reg.CAN_STAT_ESTATE c) == 2
        && (s.flag (Reg.CAN_CTRL_AREC c) || (s.canCtl c).rejoin) then
      ((s.updCan c fun x => { x with tec := 0, recv := 0, rejoin := false }).setFields
        [(Reg.CAN_ERR_TEC c, 0), (Reg.CAN_ERR_REC c, 0), (Reg.CAN_STAT_ESTATE c, 0), (Reg.CAN_STAT_SYNC c, 1)]).busOffGone
    else s)

/-- PROTOCOL_EXCEPTION: a frame of a higher format (R482).
DESIGN CHOICE (log 161). -/
def execProtocolException (c : Nat) (s : State) : Host.Outcome State Fault Refusal :=
  .next (if s.canOn c && decide (s.canTop c < 4) then s.addSat (Reg.CAN_ERR_PXCNT c) 1 else s)

/-! ## The commit of an event record -/

/-- The writer commits the next record; the alarm frames of R501 follow in event-log order (R19). -/
def State.evlTake (s : State) : State :=
  let t := s.evlWrite
  forAll (t.evl.slots.drop s.evl.slots.length) (fun e t => forEach [0, 1, 2] (State.canAlarm e.rcd) t) t

/-- The writer empties the queue: `n` bounds the records it takes. -/
def State.evlDrain : Nat → State → State
  | 0, s => s
  | n + 1, s => if s.evl.queue = [] then s else (s.evlTake).evlDrain n

/-- EVENT_RECORD_COMMIT (R446). -/
def execEventRecordCommit (s : State) : Host.Outcome State Fault Refusal :=
  .next (match s.evl.queue with
    | [] => s
    | _ :: _ => if s.sys.core then s.quiet.evlTake else s)

end Sys2Proof.Machine
end

