-- ==== Sys2Proof/Machine/Tandem.lean ====
section
/-! DEFINITION. Tandem operation: SOLE_DRIVE, the Millrace link, pairing, the turn image, handover and failover
(chapter 19). -/
namespace Sys2Proof.Machine

def State.tandem (s : State) : Bool := s.flag Reg.TDM_CFG_TANDEM
def State.partner (s : State) : Nat := s.reg Reg.TDM_PSER_LO_SER + s.reg Reg.TDM_PSER_HI_SER * 2 ^ 32
def State.paired (s : State) : Bool := s.flag Reg.TDM_STAT_PAIRED
def State.millrace (s : State) : Bool := s.flag Reg.TDM_STAT_LINK
def State.handover (s : State) : Bool := s.flag Reg.TDM_STAT_HO

/-- Values of TDM_STAT.LOOP. -/
def loopFree : Nat := 0
def loopHeld : Nat := 1
def loopBand : Nat := 2

/-- The loop reading for a current in 0.1 mA (R507).
DESIGN CHOICE (log 267). -/
def loopOf (i : Nat) : Nat :=
  if 80 ≤ i ∧ i ≤ 140 then loopFree else if 20 ≤ i then loopBand else loopHeld

/-- The loop reads FREE. -/
def State.loopIsFree (s : State) : Bool := s.reg Reg.TDM_STAT_LOOP == loopFree

/-- Flags of the partner's latest KEEP frame ("Table — KEEP flags"). -/
def State.partnerClaim (s : State) : Bool := bitAt s.tdm.flags 0
def State.partnerGrant (s : State) : Bool := bitAt s.tdm.flags 1

/-- The flags that this module's KEEP frames show. -/
def State.keepFlags (s : State) : Nat :=
  bit s.tdm.claim + 2 * bit s.token + 4 * bit (s.flag Reg.TDM_STAT_READY) + 8 * bit s.handover + 16 * bit s.tdm.released
    + 32 * bit s.tdm.noGrant + 64 * bit (s.flag Reg.PWR_STAT_WARM)

/-! ## The turn image (R101, R515) -/

/-- Fixed-point bytes of a quantity: units of 2^-16, signed, 8 bytes. -/
def fixBytes (x : Rat) : List Nat := leBytes 8 (unsigned 64 (x * 65536).floor)
def ofFix (l : List Nat) : Rat := (signed 64 (ofLe l) : Rat) / 65536

/-- SLU_STAT as the image carries it: MODE, CONN, EMER, FB, WLOCK and the governing class at their places.
DEDUCED (log 162). -/
def State.imageStat (s : State) : Nat :=
  s.mode + s.conn * 2 ^ 4 + bit (s.flag Reg.SLU_STAT_EMER) * 2 ^ 6 + s.reg Reg.SLU_STAT_FB * 2 ^ 8
    + bit s.slu.weldLock * 2 ^ 12 + s.govClass * 2 ^ 16

/-- The Sluice part, 1 024 bytes: status, precharge attempts of the last 600 s, IMD_RESULT, class and code.
DEDUCED (log 162). -/
def State.imageSluice (s : State) : List Nat :=
  let att := (s.slu.attempts.filter fun a => decide (s.now ≤ a + 600 * secStrikes)).take 3
  padTo 1024 (leBytes 4 s.imageStat ++ leBytes 4 att.length ++ padTo 24 (att.flatMap fun a => leBytes 8 (a / 32))
    ++ leBytes 4 (s.storedWord 0x30048) ++ [s.govClass, 0] ++ leBytes 2 s.govCode)

/-- One certified entry, 48 bytes ("Table — Certified entry of the image").
DEDUCED (log 162). -/
def State.imageEntry (s : State) (g : Nat) : List Nat :=
  let p := s.estPos g
  let e := p.evid.getD { kind := 0, turn := 0, gen := 0 }
  leBytes 4 p.lo.floor.toNat ++ leBytes 4 p.hi.ceil.toNat ++ leBytes 8 p.capLo.floor.toNat ++ leBytes 8 p.capHi.ceil.toNat
    ++ leBytes 4 (sat 0xFFFFFFFF p.rest) ++ leBytes 2 (unsigned 16 p.tMin) ++ [bit p.learned + 2 * bit (s.served g), e.kind]
    ++ leBytes 2 e.gen ++ leBytes 8 e.turn ++ List.replicate 6 0

/-- The state of a slot that passes (R293), 128 bytes: biquad histories, integrator, derivative term, repetitive phase. -/
def GovSlot.imageBytes (x : GovSlot) : List Nat :=
  padTo 128 (padTo 64 (x.sec.flatMap fun h =>
      leBytes 2 (unsigned 16 h.1) ++ leBytes 2 (unsigned 16 h.2.1) ++ leBytes 2 (unsigned 16 h.2.2.1)
        ++ leBytes 2 (unsigned 16 h.2.2.2))
    ++ leBytes 8 (unsigned 64 x.i) ++ leBytes 8 (unsigned 64 x.d) ++ leBytes 2 x.p)

/-- One direction of the envelope part: three limits, accounts, exhausted flags, tier, limit in force. -/
def EnvDir.imageBytes (d : EnvDir) : List Nat :=
  (d.l.take 3).flatMap fixBytes ++ fixBytes d.b10 ++ fixBytes d.b2 ++ [bit d.x10, bit d.x2, d.tier, 0] ++ fixBytes d.inf

/-- The envelope part, 256 bytes.
DEDUCED (log 162). -/
def State.imageEnv (s : State) : List Nat :=
  padTo 256 (padTo 64 s.env.dis.imageBytes ++ padTo 64 s.env.chg.imageBytes ++ fixBytes s.env.iref ++ leBytes 4 s.env.miss)

/-- The digest entry of a position: mean in µV and count of the turn's words with S, O and D at 0 (R101). -/
def State.digestEntry (s : State) (g : Nat) : List Nat :=
  let t := s.lastTurn g
  let m := if t.q = 0 then 0 else Config.round ((t.qsum : Rat) / (t.q : Rat))
  leBytes 4 (unsigned 24 m * 256 + t.q % 256)

/-- The mean string current of the last turn, mA. -/
def State.digestCurrent (s : State) : Int :=
  if s.lastI.1 = 0 then 0 else Config.round ((s.lastI.2 : Rat) / (s.lastI.1 : Rat) / 10)

/-- The measurement digest of the previous turn, 4 612 bytes.
DEDUCED (log 165). -/
def State.digest (s : State) : List Nat :=
  (List.range 1152).flatMap s.digestEntry ++ leBytes 4 (unsigned 32 s.digestCurrent)

/-- The image of the turn in hand, 62 280 bytes.
DEDUCED (log 163). -/
def State.imageBytes (s : State) (final : Bool) : List Nat :=
  let head := leBytes 2 s.sec.run.tif ++ [bit final, 0] ++ leBytes 4 62280 ++ leBytes 8 s.turn ++ leBytes 8 s.serial
    ++ leBytes 8 (s.est.supStrike.getD 0) ++ leBytes 4 s.auth.crcAfter ++ leBytes 4 (layoutCrc s.auth.committed.layout)
    ++ leBytes 8 (unsigned 64 s.est.acc0) ++ List.replicate 16 0
  let body := head ++ s.imageSluice ++ (List.range 1152).flatMap s.imageEntry
    ++ (List.range 8).flatMap (fun n => (s.slot n).imageBytes) ++ s.imageEnv ++ s.digest
  body ++ leBytes 4 (crc32c body)

/-- Images leave an ACTIVE module, and one that has released the claim until the handover ends, which repeats the final image
(R512, R523).
DEDUCED (log 173). -/
def State.sendsImages (s : State) : Bool := s.millrace && (s.roleActive || (s.handover && s.tdm.released))

/-- IMG: the image is built and sent; R531 gives the power states. -/
def execImg (s : State) : Host.Outcome State Fault Refusal :=
  .next (if s.taskMay 4 26 29 && (s.runOrTrim || (s.power == pwStart && s.paired)) then
      let s1 := s.taskDone 4
      if s.sendsImages then
        let final := s.handover && s.tdm.hoOpen.isSome
        { s1 with tdm := { s1.tdm with
            image := s.imageBytes final, finalAt := if final then some s.turn else s1.tdm.finalAt } }
      else s1
    else s)

/-! ## What a standby takes from an image (R102, R517) -/

/-- FORMATs that the running image accepts: from its TIF_MIN to its own (R513, and the image header of R565).
DEDUCED (log 163). -/
def State.formatOk (s : State) (f : Nat) : Bool := decide (s.sec.run.tifMin ≤ f) && decide (f ≤ s.sec.run.tif)

/-- The checks of R516 on the bytes of an assembled image. -/
def State.imageGood (s : State) (l : List Nat) : Bool :=
  l.length == 62280 && leAt l 62276 4 == crc32c (l.take 62276) && leAt l 16 8 == s.partner && leAt l 8 8 == s.turn
    && s.formatOk (leAt l 0 2)

/-- One entry of the certified part becomes the published state of its position (R172). -/
def State.takeEntry (l : List Nat) (g : Nat) (s : State) : State :=
  let e := slice l (1088 + 48 * g) 48
  if bitAt (e.getD 30 0) 1 then
    let k := e.getD 31 0
    s.setEst g { s.estPos g with
      lo := (leAt e 0 4 : Nat), hi := (leAt e 4 4 : Nat), capLo := (leAt e 8 8 : Nat), capHi := (leAt e 16 8 : Nat)
      rest := leAt e 24 4, tMin := signed 16 (leAt e 28 2), tMax := signed 16 (leAt e 28 2), learned := bitAt (e.getD 30 0) 0
      evid := if k = 0 then none else some { kind := k, turn := leAt e 34 8, gen := leAt e 32 2 } }
  else s

/-- A slot's state as an image carries it, over the module's own (R293). -/
def GovSlot.fromImage (e : List Nat) (x : GovSlot) : GovSlot :=
  let h := fun i => (signed 16 (leAt e (8 * i) 2), signed 16 (leAt e (8 * i + 2) 2), signed 16 (leAt e (8 * i + 4) 2),
    signed 16 (leAt e (8 * i + 6) 2))
  { x with sec := (List.range 8).map h, i := signed 64 (leAt e 64 8), d := signed 64 (leAt e 72 8), p := leAt e 80 2 }

/-- At the strike 0 after an image the slots load their states (R293). -/
def State.govLoad (s : State) : State :=
  if s.tdm.govDue then
    let s1 := forEach (List.range 8) (fun n s =>
      s.setSlot n ((s.slot n).fromImage (slice s.tdm.held (56384 + 128 * n) 128))) s
    { s1 with tdm := { s1.tdm with govDue := false } }
  else s

/-- A position of the cross-compare: compared, and different (R102).
The partner's corner and inlet are free values.
DESIGN CHOICE (log 164). -/
def State.crossPos (s : State) (l : List Nat) (g : Nat) : Bool × Bool :=
  let t := s.lastTurn g
  let e := leAt l (57664 + 4 * g) 4
  let n := s.turn - 1
  let mine : Rat := if t.q = 0 then 0 else (t.qsum : Rat) / (t.q : Rat)
  let its : Rat := signed 24 (e / 256)
  let inside := fun (x : Rat) => decide (0 ≤ x) && decide (x ≤ 4500000)
  let tol : Rat := if s.inletExtended || Config.partnerInletOutside n then 1600 else 1000
  (Config.partnerCorner n (g / 64) == (s.bank (g / 64)).fc && decide (24 ≤ t.q) && decide (24 ≤ e % 256) &&
    inside mine && inside its, decide (tol < abs (mine - its)))

/-- Compares the digests of the same turn (R102).
DEDUCED (log 165). -/
def State.crossCompare (l : List Nat) (s : State) : State :=
  let s1 := forAll s.allPositions (fun g s =>
    let c := s.crossPos l g
    if c.1 then
      let n := if c.2 then s.tdm.cross.get 0 g + 1 else 0
      State.level (decide (16 ≤ n)) 0x0310 1 (subjPos g) []
        { s with tdm := { s.tdm with cross := s.tdm.cross.put g n } }
    else s) s
  let mine : Rat := s.digestCurrent
  let its : Rat := signed 32 (leAt l 62272 4)
  let bad := decide (max (abs mine) (abs its) * (5 / 1000) + 500 < abs (mine - its))
  let n := if bad then s1.tdm.crossI + 1 else 0
  State.level (decide (16 ≤ n)) 0x0311 1 subjNone [] { s1 with tdm := { s1.tdm with crossI := n } }

/-- The weld lockout of the partner is adopted. -/
def State.adoptWeld (l : List Nat) (s : State) : State :=
  if bitAt (leAt l 64 4) 12 && !s.slu.weldLock then s.setWeldLock.note 0x100D subjNone [] else s

/-- The insulation result of the partner, held; VALID stays 0 while this monitor does not inject (R120, R121). -/
def State.holdImd (l : List Nat) (s : State) : State :=
  let w := leAt l 96 4
  ({ s with imd := { s.imd with heldOk := bitAt w 16 } }).setFields
    [(Reg.IMD_RESULT_RISO, bitsAt w 0 16), (Reg.IMD_RESULT_VALID, 0), (Reg.IMD_RESULT_LB, bitsAt w 17 1),
     (Reg.IMD_RESULT_HELD, 1), (Reg.IMD_RESULT_LOC, bitsAt w 24 8)]

/-- An accepted image (R516, R517). -/
def State.imageTaken (l : List Nat) (s : State) : State :=
  let s1 := { s with tdm := { s.tdm with
    imgRun := s.tdm.imgRun + 1, imgTurn := some s.turn, held := l, govDue := true
    want := if bitAt (l.getD 2 0) 0 && s.flag Reg.TDM_STAT_READY then .handover else s.tdm.want } }
  let s2 := (s1.setFields [(Reg.TDM_IMG_ACC, (s.reg Reg.TDM_IMG_ACC + 1) % 65536), (Reg.TDM_STAT_AGE, 0)]).setConn
    (bitsAt (leAt l 64 4) 4 2)
  let s3 := forEach (List.range 1152) (State.takeEntry l) s2
  let s4 := ((s3.holdImd l).crossCompare l).adoptWeld l
  (s4.level (leAt l 32 4 != s4.auth.crcAfter) 0x1004 1 subjNone []).goneAt 0x1003 subjNone

/-- IMAGE_RECEIVE: the bytes assembled from the segments of a turn; `whole`: every segment has arrived by strike 31.
DESIGN CHOICE (log 267). -/
def execImageReceive (bytes : List Nat) (whole : Bool) (s : State) : Host.Outcome State Fault Refusal :=
  .next (if s.roleStandby && s.paired && s.millrace && !s.deaf then
      if whole && s.imageGood bytes then s.imageTaken bytes
      else
        let s1 := s.addSat Reg.TDM_IMG_REJ 1
        if s.flag Reg.TDM_STAT_READY then s1 else { s1 with tdm := { s1.tdm with imgRun := 0 } }
    else s)

/-- IMAGE_AGE_ALARM (R516). -/
def execImageAgeAlarm (s : State) : Host.Outcome State Fault Refusal :=
  .next (if s.tandem && s.roleStandby && s.tdm.decided && decide (4 < s.reg Reg.TDM_STAT_AGE) then
      s.raiseLevel 0x1003 1 subjNone []
    else s)

/-! ## Carrying the partner's state on (R522) -/

/-- Charge and uncertainty of the strikes after ACCREF up to the last completed SUP; none where the ring no longer holds
ACCREF. -/
def State.sinceRef (s : State) (ref : Nat) : Option (Rat × Rat) :=
  match s.mpd.recs.find? fun r => r.strike == ref with
  | some r =>
    let last := s.est.supStrike.getD ref
    let l := s.mpd.recs.filter fun x => decide (ref < x.strike) && decide (x.strike ≤ last)
    some (((s.est.acc0 - r.acc : Int) : Rat), l.foldl (fun a x => a + s.boundOf (!bitAt x.miss 18) x.iSel.natAbs x.sel) 0)
  | none => none

/-- The certified state of the last image rolled forward. -/
def State.estTake (s : State) : State :=
  let ref := leAt s.tdm.held 24 8
  match s.sinceRef ref with
  | some (q, eq) =>
    let t : Rat := ((s.est.supStrike.getD ref - ref : Nat) : Rat) / secStrikes
    forAll s.servedAll (fun g s =>
      let p := s.estPos g
      let i := restoredInterval p.lo p.hi p.capLo p.capHi q eq t 0 0
      s.setEst g { p with lo := i.1, hi := i.2, anchor := none }) s
  | none => { s with est := { s.est with pos := [] } }

/-- A direction of the envelope as the image carries it. -/
def envDirOf (e : List Nat) : EnvDir :=
  { l := (List.range 3).map fun i => ofFix (slice e (8 * i) 8), b10 := ofFix (slice e 24 8), b2 := ofFix (slice e 32 8)
    x10 := e.getD 40 0 == 1, x2 := e.getD 41 0 == 1, tier := e.getD 42 0, inf := ofFix (slice e 44 8) }

/-- Accounts, tiers, iref and limits in force of the last image (R336); the limits are latched at the next strike 0. -/
def State.envTake (s : State) : State :=
  let e := slice s.tdm.held 57408 256
  let d := envDirOf (slice e 0 64)
  let c := envDirOf (slice e 64 64)
  let i := ofFix (slice e 128 8)
  { s with env := { s.env with
      dis := d, chg := c, iref := i, miss := leAt e 136 4, fresh := false, stale := 0
      written := some (d.inf, c.inf, s.ofRated i) } }

/-- The precharge attempts of the last image. -/
def State.attemptsTake (s : State) : State :=
  let n := leAt s.tdm.held 68 4
  { s with slu := { s.slu with
      attempts := (List.range (min n 3)).map fun i => leAt s.tdm.held (72 + 8 * i) 8 * 32 } }

/-- Strike 0 of the turn after a handover's claim: the envelope of the final image, whose limits are latched here (R520). -/
def State.handoverEnv (s : State) : State :=
  if s.tdm.claim && !s.token && s.tdm.want == .handover && s.tdm.imgTurn.isSome then s.envTake else s

/-- Everything R522 carries on, with the envelope part or without it. -/
def State.takeOver (env : Bool) (s : State) : State :=
  if s.tdm.imgTurn.isSome then (doIf env State.envTake s.estTake).attemptsTake else s

/-! ## Claim and grant (R508, R520, R521, R523) -/

/-- The grant is latched: role, turn and manner of the change. -/
def State.granted (fo : Bool) (role : Nat) (s : State) : State :=
  let s1 := s.setFields [(Reg.TDM_STAT_TOKEN, 1), (Reg.TDM_STAT_ROLE, role), (Reg.TDM_LAST_FO, bit fo),
    (Reg.TDM_TURN_LO_TURN, s.turn % 2 ^ 32), (Reg.TDM_TURN_HI_TURN, s.turn / 2 ^ 32)]
  { s1 with tdm := { s1.tdm with want := .none, retry := none, decided := true, released := false } }

/-- Coils as they stand for CONN at a handover.
DEDUCED (log 171). -/
def State.coilsFor (s : State) : State :=
  let c := s.conn
  let on := fun k => decide (c = connClosed ∧ k ≠ 2) || decide (c = connPrecharge ∧ k ≠ 0)
  { s with slu := { s.slu with
      kPos := on 0, kNeg := on 1, kPre := on 2, closeFrom := [], openFrom := []
      seq := if c = connPrecharge then .precharge else if c = connOpening then .opening else .idle
      stepAt := s.now, preAt := s.now, preRun := 0, preIRun := 0 } }

/-- A handover's claim is granted: the state is carried on, the envelope from the strike 0 that has passed since the claim, and
the string keeps its CONN.
DEDUCED (log 171). -/
def State.grantHandover (s : State) : State :=
  let s1 := ((s.granted false 1).takeOver (s.tdm.claimAt / 32 == s.turn)).coilsFor
  State.note { s1 with env := { s1.env with connOk := s1.conn == connClosed } } 0x1008 subjNone []

/-- A failover take is granted: the string opens as after an emergency opening (R222, R521). The coils count as off from here
on (R224). -/
def State.grantFailover (s : State) : State :=
  let s1 := ((s.granted true (if s.millrace then 1 else 0)).takeOver true).raise 0x100A 1 subjNone []
  let s2 := s1.emergencyOpen false 0x100A
  { s2 with slu := { s2.slu with offAt := [(0, s.now), (1, s.now), (2, s.now)] } }.watchOpen

/-- A fault of the failover set whose handover was given up opens the string in the kind of R219 (R523).
DEDUCED (log 173). -/
def State.hoFaultOpens (s : State) : State :=
  match s.tdm.hoFault with
  | some code => ({ s with tdm := { s.tdm with hoFault := none } }).openFor false code 3 3
  | none => s

/-- The former ACTIVE module has the token back (R523).
DEDUCED (log 173). -/
def State.grantReclaim (s : State) : State :=
  let s1 := s.granted false (if s.paired then 1 else 0)
  let c := s.tdm.coils
  let s2 := { s1 with slu := { s1.slu with kPos := c.1, kNeg := c.2.1, kPre := c.2.2 } }
  let s3 := (s2.raise 0x100C 1 subjNone []).setFields [(Reg.TDM_STAT_HO, 0), (Reg.TDM_LAST_ABAND, 1)]
  s3.hoFaultOpens

/-- The check failed: the claim drops; back-off of 1 turn for the lower serial number, 4 turns for the other. -/
def State.claimFails (s : State) : State :=
  let w := s.tdm.want
  let s1 := { s with tdm := { s.tdm with claim := false } }
  if w = .handover then { s1 with tdm := { s1.tdm with want := .none, noGrant := true } }
  else
    let wait := if s.serial < s.partner then 1 else 4
    State.note { s1 with tdm := { s1.tdm with retry := some (s.turn + wait) } } 0x1007 subjNone []

/-- At the strike that follows the 40 µs of a claim.
DEDUCED (log 174). -/
def State.claimCheck (s : State) : State :=
  if s.tdm.claim && !s.token && decide (s.tdm.claimAt + 2 ≤ s.now) then
    if s.loopIsFree then
      match s.tdm.want with
      | .handover => s.grantHandover
      | .failover => s.grantFailover
      | .reclaim => s.grantReclaim
      | _ => (s.granted false (if s.paired then 1 else 0)).watchOpen
    else s.claimFails
  else s

/-- The claim is written, at or after a strike.
DEDUCED (log 174). -/
def State.assertClaim (at_ : Nat) (s : State) : State :=
  { s with tdm := { s.tdm with claim := true, claimAt := at_, retry := none, noGrant := false } }

/-- The module may claim: neither a hardware drop since the reset (R509), nor RETIRED (R555), nor HALT (R578) forbids it.
DEDUCED (log 172). -/
def State.mayClaim (s : State) : Bool := !s.tdm.blocked && !s.sec.noClaim && s.sec.lc != 4

/-- TOKEN_CLAIM: the lockstep pair claims while the loop reads FREE; the grant follows 40 µs later. In BRAKE it claims for its
actuator outputs alone (R536). -/
def execTokenClaim (s : State) : Host.Outcome State Fault Refusal :=
  .next (if s.tdm.retry.isNone && !s.tdm.claim && s.mayClaim && s.loopIsFree && !s.deaf then
      if s.inRun && s.tdm.want != .none then s.assertClaim s.now
      else if s.power == pwBrake && s.clockSet then
        State.assertClaim s.now { s with tdm := { s.tdm with want := .start, decided := true } }
      else s
    else s)

/-- CLAIM_BACKOFF_END: the retry, at a strike 0. -/
def execClaimBackoffEnd (s : State) : Host.Outcome State Fault Refusal :=
  .next (match s.tdm.retry with
    | some t =>
      if s.atStrike0 && decide (t ≤ s.turn + 1) && s.inRun && s.mayClaim then
        if s.loopIsFree then s.assertClaim (s.now + 1)
        else
          let wait := if s.serial < s.partner then 1 else 4
          State.note { s with tdm := { s.tdm with retry := some (s.turn + 1 + wait) } } 0x1007 subjNone []
      else s
    | none => s)

/-- The hardware causes of R509 that stand: 0x0129, the die shutdown latch, CORE without power.
DEDUCED (log 168). -/
def State.claimLost (s : State) : Bool := s.inEffect 0x0129 || s.thm.latch || !s.sys.core

/-- CLAIM_DROP: in hardware, or the release of a handover at strike 31 of the turn of its final image (R520).
DEDUCED (log 168). -/
def execClaimDrop (hw : Bool) (s : State) : Host.Outcome State Fault Refusal :=
  .next (if hw then (if s.tdm.claim && s.claimLost then (s.hoStop true).dropClaim true else s)
    else if s.token && s.handover && s.phase == 31 && s.tdm.finalAt == some s.turn && s.flag Reg.TDM_STAT_PREADY then
      let c := (s.slu.kPos, s.slu.kNeg, s.slu.kPre)
      let s1 := (s.dropClaim false).inhibit true
      { s1 with slu := { s1.slu with openFrom := [], offAt := [] }, tdm := { s1.tdm with released := true, coils := c } }
    else s)

/-! ## The role (R505, R514) -/

/-- ROLE_DECIDE: at pairing or at the end of DISC_WAIT from the first strike; the partner's PREF where it is paired. A start
waits for it (R533), and the claim itself is made only in RUN (R535).
DESIGN CHOICE (log 164); DEDUCED (log 170, 190). -/
def execRoleDecide (pref : Bool) (s : State) : Host.Outcome State Fault Refusal :=
  .next (if (s.inRun || (s.power == pwStart && s.tandem && s.clockSet)) && !s.tdm.decided then
      let claim : State := { s with tdm := { s.tdm with decided := true, want := .start } }
      let stand : State := { s with tdm := { s.tdm with decided := true } }
      if !s.tandem then claim
      else if s.paired then
        if s.partnerGrant then stand
        else
          let mine := s.flag Reg.TDM_CFG_PREF
          let first := if mine = pref then decide (s.serial < s.partner) else mine
          if first then claim else stand
      else if s.reg Reg.TDM_CFG_DISC_WAIT * 3200 ≤ s.since s.sys.first then (if s.loopIsFree then claim else stand)
      else s
    else s)

/-- FAILOVER_TAKE: FREE at 32 consecutive strikes; the claim at the next strike 0 (R521).
DEDUCED (log 172). -/
def execFailoverTake (s : State) : Host.Outcome State Fault Refusal :=
  .next (if s.inRun && s.tandem && s.roleStandby && s.tdm.decided && !s.tdm.claim && s.mayClaim && s.atStrike0
        && decide (32 ≤ s.tdm.freeRun) && s.tdm.want == .none && !s.handover then
      State.assertClaim (s.now + 1) { s with tdm := { s.tdm with want := .failover } }
    else s)

/-! ## The loop (R507, R511) -/

/-- LOOP_FAULT_BAND. -/
def execLoopFaultBand (s : State) : Host.Outcome State Fault Refusal :=
  .next (if decide (32 < s.tdm.bandRun) then s.raiseLevel 0x1006 1 subjNone [] else s)

/-- LOOP_DISAGREE. -/
def execLoopDisagree (s : State) : Host.Outcome State Fault Refusal :=
  .next (if decide (2 ≤ s.tdm.disRun) then s.raiseLevel 0x1005 1 subjNone [] else s)

/-- The loop at a strike: its reading, its runs, and the comparison with the partner's CLAIM. -/
def State.loopStrike (i : Nat) (s : State) : State :=
  let v := loopOf i
  let free := v == loopFree
  let cmp := s.paired && s.millrace && decide (s.tdm.flagAt + 2 < s.now)
  let s1 := s.setReg Reg.TDM_STAT_LOOP v
  let s2 := { s1 with tdm := { s1.tdm with
    freeRun := if free then s.tdm.freeRun + 1 else 0
    bandRun := if v = loopBand then s.tdm.bandRun + 1 else 0
    cmpN := s.tdm.cmpN + bit cmp, cmpBad := s.tdm.cmpBad + bit (cmp && free == s.partnerClaim) } }
  if v = loopBand then s2 else s2.goneAt 0x1006 subjNone

/-- Strike 0: the comparison of the turn that ended. -/
def State.loopTurn (s : State) : State :=
  let t := s.tdm
  let bad := decide (0 < t.cmpN) && t.cmpN == t.cmpBad
  let s1 := { s with tdm := { t with cmpN := 0, cmpBad := 0, disRun := if bad then t.disRun + 1 else if t.cmpN = 0 then t.disRun else 0 } }
  if s1.tdm.disRun = 0 then s1.goneAt 0x1005 subjNone else s1

/-! ## The link (R512) -/

/-- The pairing ends: an ACTIVE module becomes SOLO (R505).
DEDUCED (log 167). -/
def State.unpair (s : State) : State :=
  let s1 := s.setFields [(Reg.TDM_STAT_PAIRED, 0), (Reg.TDM_STAT_PREADY, 0)]
  if s1.roleActive then s1.setReg Reg.TDM_STAT_ROLE 0 else s1

/-- The handover is abandoned (R523). -/
def State.hoGiveUp (s : State) : State := (s.hoAbandon false).hoFaultOpens

/-- The link goes down: a handover before its claim is given up, and one whose claim stands becomes a failover take (R523).
DEDUCED (log 167). -/
def State.millraceDown (s : State) : State :=
  let s1 := ((s.setFields [(Reg.TDM_STAT_LINK, 0)]).raiseLevel 0x1002 1 subjNone [])
  let s2 := if s1.handover then (if s1.tdm.released then s1.setFlag Reg.TDM_STAT_HO false else s1.hoGiveUp) else s1
  ({ s2 with tdm := { s2.tdm with keepGood := 0, flags := 0, want := if s2.tdm.want != Want.handover then s2.tdm.want
    else if s2.tdm.claim then .failover else .none } }).unpair

/-- MILLRACE_LINK_DOWN: 32 strikes without a valid KEEP frame. -/
def execMillraceLinkDown (s : State) : Host.Outcome State Fault Refusal :=
  .next (if s.millrace && decide (32 ≤ s.tdm.keepMiss) then s.millraceDown else s)

/-- The partner's flags touch a handover (R520, R523). -/
def State.keepHandover (s : State) : State :=
  let f := s.tdm.flags
  if s.handover && s.tdm.released then
    if bitAt f 1 then
      let s1 := s.setFields [(Reg.TDM_STAT_HO, 0), (Reg.TDM_LAST_FO, 0), (Reg.TDM_TURN_LO_TURN, s.turn % 2 ^ 32),
        (Reg.TDM_TURN_HI_TURN, s.turn / 2 ^ 32)]
      State.note { s1 with tdm := { s1.tdm with released := false } } 0x1008 subjNone []
    else if bitAt f 5 then { s with tdm := { s.tdm with want := .reclaim } }
    else s
  else if s.handover && !bitAt f 2 then s.hoGiveUp
  else if s.tdm.want = .handover && !s.tdm.claim && !bitAt f 3 then { s with tdm := { s.tdm with want := .none } }
  else s

/-- PREADY and the time since the partner was last ready (R518).
DEDUCED (log 169). -/
def State.keepReady (s : State) : State :=
  let ready := s.paired && bitAt s.tdm.flags 2
  let s1 := s.setFlag Reg.TDM_STAT_PREADY ready
  let at_ := if ready || !s.roleActive then 0 else if s.tdm.notReadyAt = 0 then s.now + 1 else s.tdm.notReadyAt
  let s2 := { s1 with tdm := { s1.tdm with notReadyAt := at_ } }
  if ready then s2.goneAt 0x100B subjNone else s2

/-- KEEP_FRAME_RECEIVE.
DESIGN CHOICE (log 267). -/
def execKeepFrameReceive (k : KeepIn) (s : State) : Host.Outcome State Fault Refusal :=
  .next (if s.tandem && s.flag Reg.PWR_DOM_MLR && k.valid then
      let change := bitAt k.flags 0 != s.partnerClaim
      let good := s.tdm.keepGood + 1
      let s1 := { s with tdm := { s.tdm with
        keepMiss := 0, keepGood := good, flags := k.flags, flagAt := if change then s.now else s.tdm.flagAt } }
      let s2 := if !s.millrace && decide (32 ≤ good) then (s1.setFlag Reg.TDM_STAT_LINK true).goneAt 0x1002 subjNone else s1
      if s2.millrace then s2.keepReady.keepHandover else s2
    else s)

/-- PARTNER_NOT_READY: an ACTIVE module whose partner has been not ready for 1 s.
DEDUCED (log 169). -/
def execPartnerNotReady (s : State) : Host.Outcome State Fault Refusal :=
  .next (if s.roleActive && s.elapsed s.tdm.notReadyAt secStrikes then s.raiseLevel 0x100B 1 subjNone [] else s)

/-! ## Pairing (R513) -/

/-- The proof of a HELLO: over this module's latest nonce and the sender's serial number, under the string key. -/
def State.helloProof (s : State) (serial : Nat) : List Nat :=
  (beBytes 32 (Config.hmac256 (s.auth.committed.key.getD []) (s.tdm.nonce ++ leBytes 8 serial))).take 16

/-- The conditions of a pairing that a HELLO can show.
DEDUCED (log 163, 166). -/
def State.helloGood (s : State) (h : HelloIn) (proof : List Nat) : Bool :=
  h.serial == s.partner && h.partner == s.serial && h.layout == layoutCrc s.auth.committed.layout
    && proof == s.helloProof h.serial && s.formatOk h.format && decide (h.oldest ≤ s.sec.run.tif)
    && decide (s.sec.run.tif ≤ h.format)

/-- HELLO_RECEIVE. A record without a proof only tells its nonce.
DEDUCED (log 166); DESIGN CHOICE (log 267). -/
def execHelloReceive (h : HelloIn) (s : State) : Host.Outcome State Fault Refusal :=
  .next (if s.tandem && s.millrace && !s.deaf then
      let s1 := { s with tdm := { s.tdm with pnonce := some h.nonce } }
      match h.proof with
      | none => s1
      | some p =>
        if s.helloGood h p then
          let s2 := (s1.setFlag Reg.TDM_STAT_PAIRED true).goneAt 0x1001 subjNone
          if s2.roleSolo && s2.token then s2.setReg Reg.TDM_STAT_ROLE 1 else s2
        else (s1.unpair).raiseLevel 0x1001 1 subjNone []
    else s)

/-! ## Readiness (R518) and handover (R519, R520, R523) -/

/-- The conditions of readiness beside the run of images.
DEDUCED (log 170). -/
def State.mayBeReady (s : State) : Bool :=
  s.roleStandby && s.paired && s.millrace && decide (s.reg Reg.TDM_STAT_AGE ≤ 4)
    && leAt s.tdm.held 32 4 == s.auth.crcAfter && decide (s.mode < modeIsolated) && !s.loopIsFree
    && !s.inEffect 0x1005 && !s.inEffect 0x1006 && !s.tdm.failing

/-- READY at a strike. -/
def State.readyStrike (s : State) : State :=
  let may := s.mayBeReady
  let ready := may && (s.flag Reg.TDM_STAT_READY || decide (32 ≤ s.tdm.imgRun))
  let s1 := s.setFlag Reg.TDM_STAT_READY ready
  if may then s1 else { s1 with tdm := { s1.tdm with imgRun := 0 } }

/-- Strike 0: the image age, and the run of images of a standby that is not ready. -/
def State.ageTurn (s : State) : State :=
  match s.tdm.imgTurn with
  | some t =>
    let age := s.turn - t
    let s1 := s.setReg Reg.TDM_STAT_AGE (sat 0xFFFF age)
    if 1 < age && !s.flag Reg.TDM_STAT_READY then { s1 with tdm := { s1.tdm with imgRun := 0 } } else s1
  | none => s

/-- A handover begins (R520). -/
def State.hoBegin (kind code : Nat) (s : State) : State :=
  let s1 := s.setFields [(Reg.TDM_STAT_HO, 1), (Reg.TDM_LAST_KIND, kind), (Reg.TDM_LAST_CODE, if kind = 2 then code else 0),
    (Reg.TDM_LAST_ABAND, 0)]
  State.imdStop { s1 with tdm := { s1.tdm with
    hoAt := s.turn, hoFault := if kind = 2 then some code else none, hoOpen := none, finalAt := none, released := false } }

/-- A trigger that finds no ready partner acts as it would on a SOLO module (R519). -/
def State.hoRefuse (kind code : Nat) (s : State) : State :=
  if kind = 1 then s.raise 0x1009 1 subjNone []
  else if kind = 2 then s.openFor false code 3 3
  else s

/-- A completed SUP takes up a trigger, and looks for the open coupling relay (R519, R520). -/
def State.hoSup (s : State) : State :=
  let s1 := match s.tdm.trigger with
    | none => s
    | some (k, c) =>
      let t := { s with tdm := { s.tdm with trigger := none } }
      if t.handover then
        (if k = 2 then { t with tdm := { t.tdm with hoFault := t.tdm.hoFault.or (some c) } } else t)
      else if t.roleActive && t.flag Reg.TDM_STAT_PREADY then t.hoBegin k c
      else t.hoRefuse k c
  if s1.handover && s1.tdm.hoOpen.isNone && !s1.imd.relayFb then
    { s1 with tdm := { s1.tdm with hoOpen := some s1.turn } }
  else s1

/-- HANDOVER_REQUEST: a write of TDM_CMD from PF0, or by a Service connection (R519, R563).
DEDUCED (log 225). -/
def execHandoverRequest (path : Path) (w : Word) (s : State) : Host.Outcome State Fault Refusal :=
  .next (if s.powerPath path && bitAt w.toNat 0 && !s.deaf then
      if s.roleActive then
        { s with tdm := { s.tdm with trigger := s.tdm.trigger.or (some (1, 0)) } }
      else s.raise 0x1009 1 subjNone []
    else s)

/-- HANDOVER_TIMEOUT: HO_MAX turns from the decision.
DEDUCED (log 173). -/
def execHandoverTimeout (s : State) : Host.Outcome State Fault Refusal :=
  .next (if s.handover && decide (s.tdm.hoAt + s.reg Reg.TDM_CFG_HO_MAX ≤ s.turn) then
      if s.tdm.released then
        (s.raise 0x1009 1 subjNone []) |> fun (t : State) => { t with tdm := { t.tdm with want := .reclaim } }
      else s.hoGiveUp
    else s)

/-- The KEEP frame of a strike, built in hardware (R512). -/
def State.keepFrame (s : State) : KeepIn :=
  { valid := true, strike := s.now, serial := s.serial, role := s.reg Reg.TDM_STAT_ROLE, flags := s.keepFlags }

/-- A HELLO record with a fresh nonce; its proof waits for a nonce of the partner (R513).
DEDUCED (log 163, 166). -/
def State.helloRecord (nonce : List Nat) (s : State) : HelloIn :=
  { serial := s.serial, partner := s.partner, layout := layoutCrc s.auth.committed.layout, config := s.auth.crcAfter
    format := s.sec.run.tif, oldest := s.sec.run.tifMin, nonce := nonce
    proof := s.tdm.pnonce.map fun n =>
      (beBytes 32 (Config.hmac256 (s.auth.committed.key.getD []) (n ++ leBytes 8 s.serial))).take 16 }

/-- A HELLO is due: every 100 ms until paired, and at each change of the configuration CRC (R512). -/
def State.helloDue (s : State) : Bool :=
  s.tandem && s.flag Reg.PWR_DOM_MLR && !s.deaf
    && ((!s.paired && s.now % 3200 == 0) || s.tdm.helloOut.any fun h => h.config != s.auth.crcAfter)

/-- A HELLO is sent. -/
def State.helloSend (s : State) : State :=
  let n := (Config.random s.free).take 16
  State.took { s with tdm := { s.tdm with nonce := n, helloOut := some (s.helloRecord n) } }

/-- The tandem function at a strike, before the measurements: the grant, the link, the frames sent. -/
def State.tdmStrike (s : State) : State :=
  let miss := s.tdm.keepMiss + 1
  let s1 := { s with tdm := { s.tdm with keepMiss := miss, keepGood := if 1 < miss then 0 else s.tdm.keepGood } }
  let s2 := (doIf s1.helloDue State.helloSend s1).claimCheck
  { s2 with tdm := { s2.tdm with keepOut := if s2.flag Reg.PWR_DOM_MLR then some s2.keepFrame else none } }

end Sys2Proof.Machine
end

