-- ==== Sys2Proof/Machine/Power.lean ====
section
/-! DEFINITION. Resets, starts, power states, supplies and power failure (chapter 20). -/
namespace Sys2Proof.Machine

/-! ## The strap (R537) -/

/-- Nominal resistances of bins 1 to 14 in ohms. -/
def strapNominals : List Nat :=
  [1000, 1470, 2150, 3160, 4640, 6810, 10000, 14700, 21500, 31600, 46400, 68100, 100000, 147000]

/-- The bin of a resistance, 15 where none matches, and whether it is ambiguous or reserved.
DESIGN CHOICE (log 265). -/
def strapBin (ohms : Nat) : Nat × Bool :=
  if ohms ≤ 50 then (0, false)
  else if 300000 < ohms then (15, false)
  else match (List.range 14).find? fun i => decide (100 * gap ohms (strapNominals.getD i 0) ≤ 6 * strapNominals.getD i 0) with
    | some i => if 12 ≤ i then (15, true) else (i + 1, false)
    | none => (15, true)

/-- The strap is measured and its bin latched. -/
def State.strapLatch (ohms : Nat) (s : State) : State :=
  let b := strapBin ohms
  ({ s with pwr := { s.pwr with strapBad := b.2 } }).setFields
    [(Reg.PWR_STRAP_BIN, b.1), (Reg.PWR_STRAP_AMB, bit b.2), (Reg.PWR_STRAP_RAW, sat 0xFFF (ohms / 100))]

/-- The bin in force, and what it selects. -/
def State.bin (s : State) : Nat := s.reg Reg.PWR_STRAP_BIN
def State.singleSupply (s : State) : Bool := [3, 4, 5, 9, 10, 11].contains s.bin
def State.keeperOn (s : State) : Bool := !([6, 7, 8, 9, 10, 11].contains s.bin)
def State.wakesBy (s : State) (key : Bool) : Bool :=
  if key then !([1, 4, 7, 10].contains s.bin) else !([2, 5, 8, 11].contains s.bin)

/-! ## What the resets clear (R539) -/

/-- Registers that no reset clears: identity and build, starts counted, strap, levels of pins and of feedback contacts.
DEDUCED (log 179). -/
def alwaysKept (k : Nat) : Bool :=
  decide (k < 0x10 * 32) || [Reg.PWR_STAT_CHG.key, Reg.PWR_STAT_KEY.key, Reg.PWR_START_CNT.key, Reg.PWR_START_STARTS.key,
    Reg.PWR_STRAP_BIN.key, Reg.PWR_STRAP_AMB.key, Reg.PWR_STRAP_RAW.key, Reg.SLU_STAT_FB.key,
    Reg.HIF_LINK_PERST.key].contains k

/-- The PWR registers that a cold reset keeps: all but PWR_BRST and the state of the module.
DEDUCED (log 180). -/
def coldKept (k : Nat) : Bool :=
  decide (0x1000 * 32 ≤ k) && decide (k < 0x2000 * 32) && k / 32 != 0x1018
    && !([Reg.PWR_STAT_STATE.key, Reg.PWR_STAT_PF.key, Reg.PWR_STAT_WARM.key].contains k)

/-- A fault kept in MRAM and latched again: class 4, and what R229 holds.
DEDUCED (log 178). -/
def Active.kept (f : Active) : Bool := f.cls == 4 || f.held

/-- The state after a power-on reset, or after a cold reset: what MRAM, OTP, AON and the cartridges hold stays. The bank and
die shutdown latches clear only at a power cycle (R145).
DEDUCED (log 180). -/
def State.wiped (cold cycle : Bool) (s0 : State) : State :=
  let s := s0.sessionAbort
  { State.reset with
    pending := s.pending
    free := s.free
    regs := s.regs.filter fun e => alwaysKept e.1 || (cold && coldKept e.1)
    flt := { FaultState.initial with
      active := (s.flt.active.filter Active.kept).map fun f => { f with turn := 0, absent := f.absent.map fun _ => 0 }
      latches := s.flt.latches }
    evl := { EvlState.initial with
      slots := s.evl.slots, nextSeq := s.evl.nextSeq, full := s.evl.full, copied := s.evl.copied }
    bnk := if cycle then [] else
      (s.bnk.filter fun e => e.2.shut).map fun e => (e.1, { Bank.initial with shut := true })
    thm := { ThmState.initial with latch := !cycle && s.thm.latch, store := s.thm.store }
    slu := { SluState.initial with weldLock := s.slu.weldLock, failover := s.slu.failover }
    sio := { SioState.initial with
      inputs := s.sio.inputs.map fun e =>
        (e.1, { SafetyIn.initial with latch := e.2.latch }) }
    auth := s.auth
    hop := { HopState.initial with
      a := { HopSlot.empty with cart := s.hop.a.cart }, b := { HopSlot.empty with cart := s.hop.b.cart }
      seq := s.hop.seq, prev := s.hop.prev, lastTurn := s.hop.lastTurn, hour := s.hop.hour }
    tim := { TimeState.initial with
      aonSec := s.tim.aonSec, aonTai := s.tim.aonTai, aonAge := s.tim.aonAge, aonOk := s.tim.aonOk }
    pwr := { PwrState.initial with strapBad := s.pwr.strapBad }
    sec := { s.sec.running with
      lcNext := none, retire := none, stage := none, coldAt := none, live := none, nonce := [], mismatches := []
      refused := false }
    ram := [] }

/-- A start begins: its source, the count of starts (R532, R554). -/
def State.beginStart (cause : Nat) (s : State) : State :=
  (((s.setFields [(Reg.PWR_START_CAUSE, cause), (Reg.PWR_START_WSRC, 0)]).addSat Reg.PWR_START_STARTS 1).evlRegs.clogRegs
    ).saRegs.secRegs

/-- What a reset that ends a debug grant, the time in SERVICE, or a freeze leaves to record (R450, R556, R581). -/
def State.resetNotes (powerOn : Bool) (s : State) : List (Nat × Nat × List Nat) :=
  (if s.reg Reg.SEC_DBG_LEVEL = dbgShut then [] else [(0x1219, 0, [])])
    ++ (if powerOn ∧ s.sec.lc = lcService then [(0x1217, 0, [])] else [])
    ++ if s.flag Reg.EVL_STAT_FROZEN then [(0x0144, 0, [])] else []

/-- POWER_ON_RESET: supply back after a power cycle, or a wake (R538, R547); the strap's resistance. A power cycle waits
for the die hold of R145. -/
def execPowerOnReset (cycle : Bool) (ohms : Nat) (s : State) : Host.Outcome State Fault Refusal :=
  .next (if cycle || (s.power == pwStandstill && !s.sys.core && s.pwr.wake.isSome) then
      let notes := s.resetNotes true
      let s1 := (s.wiped false cycle).strapLatch ohms
      let lc := if s.sec.lc = lcService then lcField else s.sec.lc
      let s2 := { s1 with
        pwr := { s1.pwr with after := notes, woken := if cycle then none else s.pwr.wake, hold := cycle }
        sec := { s1.sec with lc := lc }, sys := { s1.sys with core := !cycle } }
      s2.beginStart (if cycle then 0 else s.pwr.wake.getD 0)
    else s)

/-- DIE_HOLD_RELEASE: the hottest die sensor reads below 105 °C; the start begins here (R145). -/
def execDieHoldRelease (hottest : Int) (s : State) : Host.Outcome State Fault Refusal :=
  .next (if s.pwr.hold && decide (hottest < 10500) then
      { s with pwr := { s.pwr with hold := false }, sys := { s.sys with core := true } }
    else s)

/-- COLD_RESET: a cold reset that is due, or the one that follows a power-down whose supply came back, for which the spec
names no CAUSE (R538, R549). The die shutdown latch keeps CORE off (R142).
DESIGN CHOICE (log 176, 177). -/
def execColdReset (ohms : Nat) (s : State) : Host.Outcome State Fault Refusal :=
  let reset := fun (cause : Nat) (s : State) =>
    let notes := s.resetNotes false
    let s1 := (s.wiped true false).strapLatch ohms
    State.beginStart cause { s1 with pwr := { s1.pwr with after := notes } }
  .next (if s.thm.latch then s
    else match s.pwr.coldDue with
      | some c => reset c s
      | none => if s.pwr.down && s.power != pwStandstill then (reset (Config.freeNat s.free % 16) s).took else s)

/-! ## The start (R532 to R535, R567, R574) -/

/-- The domains of BRAKE: those that it leaves off go off, PD_NET and PD_PCI stay or go on (R530). -/
def State.brakeDomains (s : State) : State :=
  ((forEach bankNos State.bankPowerOff (s.imdStop)).mdlSuspend).setFields
    [(Reg.PWR_DOM_CUR, 0), (Reg.PWR_DOM_IMD, 0), (Reg.PWR_DOM_HPA, 0), (Reg.PWR_DOM_HPB, 0), (Reg.PWR_DOM_VEC, 0),
     (Reg.PWR_DOM_MLR, 0), (Reg.PWR_DOM_NET, 1), (Reg.PWR_DOM_PCI, 1), (Reg.CUR_STAT_LANE, 0), (Reg.CUR_STAT_REL, 0), (Reg.CUR_STAT_ALIGN, 0), (Reg.CUR_STAT_SEL, 3)]

/-- The module is in BRAKE.
DEDUCED (log 189). -/
def State.enterBrake (s : State) : State := ((s.setReg Reg.PWR_STAT_STATE pwBrake).brakeDomains).dbgCheck

/-- The committed threshold set comes into force (R73, R211, R265). -/
def State.loadThresholds (s : State) : State :=
  let c := s.auth.committed
  ({ s with slu := { s.slu.runsCleared with
    thr := if c.hasThr then s.thresholdFields else [], cfg := c.hasThr, thrNext := none } }).setFlag Reg.SLU_STAT_CFG c.hasThr

/-- The safety configuration comes into force: RWL fields, threshold set, tables, failover set (R73, R127, R161, R211,
R234); a map that is not valid stays out of service (R327).
DEDUCED (log 195). -/
def State.loadConfig (s : State) : State :=
  let c := s.auth.committed
  let s1 := s.loadCommitted.loadThresholds
  let curves := (List.range 8).filterMap fun k =>
    let l := c.tables.get [] (16 + k)
    if l = [] then none else some (k, curveOf l)
  let maps := (List.range 4).filterMap fun k =>
    let l := c.tables.get [] (8 + k)
    if l = [] ∨ !mapValid l then none else some (k, l)
  let s2 := { s1 with
    slu := { s1.slu with failover := c.failover }
    thm := { s1.thm with curves := curves }
    env := { s1.env with maps := maps, mapNext := [] }
    cur := { s1.cur with cfc := s1.reg Reg.CUR_CTRL_CFC, vfc := s1.reg Reg.CUR_CTRL_VFC }
    pwr := { s1.pwr with cfgOk := true } }
  let bad := (List.range 4).filter fun k => c.tables.get [] (8 + k) != [] && !mapValid (c.tables.get [] (8 + k))
  ((forEach bad (fun k s => s.raise 0x0761 1 (subjMap k) []) s2.mapsShown).estBoot).secRegs

/-- What the lockstep pair records first: the die shutdown, damaged records, a failed self-test, the wake, the strap, and
what earlier resets left (R143, R446, R537, R547, R574).
DESIGN CHOICE (log 121). -/
def State.bootRecords (r : BootIn) (s : State) : State :=
  let s1 := match s.thm.store with
    | some (n, t, k, c) =>
      let e : EvRec := { s.event 0x0511 3 (subjNum k) false (leBytes 2 (unsigned 16 t) ++ [k, c]) with strike := n }
      State.record { s with thm := { s.thm with store := none } } e
    | none => s
  let s2 := forEach r.badRecs (fun q s =>
    let t := { s with evl := { s.evl with
      slots := s.evl.slots.map fun (e : EvSlot) => if e.seq = q then { e with crcOk := false } else e } }
    t.raise 0x0146 1 subjNone (leBytes 6 q))
    { s1 with evl := { s1.evl with slots := s1.evl.slots.map fun (e : EvSlot) => { e with crcOk := true } } }
  let s3 := match s2.sec.badGroup with
    | some _ => ({ s2 with sec := { s2.sec with badGroup := none } }).raise 0x0152 3 subjNone []
    | none => s2
  let s4 := match s3.pwr.woken with
    | some w => ({ s3 with pwr := { s3.pwr with woken := none } }).note 0x110B subjNone [w]
    | none => s3
  let s5 := if s4.pwr.strapBad then s4.raise 0x1107 1 subjNone [] else s4
  forAll s5.pwr.after (fun (e : Nat × Nat × List Nat) s => if e.2.1 = 0 then s.note e.1 subjNone e.2.2 else s.raise e.1 e.2.1 subjNone e.2.2)
    { s5 with pwr := { s5.pwr with after := [] } }

/-- The boot ROM picks the image: the active slot, else the other one, else ROM recovery (R567). -/
def State.bootImage (r : BootIn) (s : State) : State :=
  let usable := fun k => (s.fwSlot k).filter fun i => s.fwCurrent i && !r.badSlots.contains k
  match usable s.sec.active, usable s.fwOther with
  | some i, _ => ({ s with sec := { s.sec with run := i } }).setFields [(Reg.SEC_FW_STAT_FALLBACK, 0), (Reg.SEC_FW_STAT_RECOV, 0)]
  | none, some i =>
    (({ s with sec := { s.sec with run := i, active := s.fwOther } }).setFields
      [(Reg.SEC_FW_STAT_FALLBACK, 1), (Reg.SEC_FW_STAT_RECOV, 0)]).raise 0x1214 1 subjNone []
  | none, none => (s.setFlag Reg.SEC_FW_STAT_RECOV true).raise 0x1215 1 subjNone []

/-- The boot: self-test, image, records, configuration, domains, the Millpond's initialisation. -/
def State.boot (r : BootIn) (s : State) : State :=
  match r.badGroup with
  | some g => ({ s with pwr := { s.pwr with stopped := true }, sec := { s.sec with badGroup := some g } }).setFlag Reg.SYS_LS_STAT_STEST false
  | none =>
    let s1 := ((s.setFlag Reg.SYS_LS_STAT_STEST true).bootRecords r).bootImage r
    let recov := s1.flag Reg.SEC_FW_STAT_RECOV
    let s2 := if r.cfgCrcOk && !recov then s1.loadConfig.abortDone else s1
    let s3 := { s2 with pwr := { s2.pwr with booted := true } }
    let s4 := if recov ∨ s3.bin = 0 ∨ 4 ≤ s3.reg Reg.PWR_START_CNT then s3.enterBrake
      else s3.setFlag Reg.PWR_DOM_MLR (s3.flag Reg.TDM_CFG_TANDEM)
    (s4.setFields [(Reg.PWR_DOM_NET, 1), (Reg.PWR_DOM_PCI, 1)]).secRegs

/-- START_SEQUENCE.
DEDUCED (log 189, 190). -/
def execStartSequence (r : BootIn) (s : State) : Host.Outcome State Fault Refusal :=
  .next (if s.sys.core && s.power == pwStart && !s.pwr.booted && !s.pwr.stopped then s.boot r else s)

/-- MILLPOND_READY: PD_HPA and PD_HPB go on for present cartridges, whose labels are read or not (R354, R532). -/
def execMillpondReady (readA readB : Bool) (s : State) : Host.Outcome State Fault Refusal :=
  .next (if s.sys.core && s.pwr.booted && !s.flag Reg.MPD_STAT_READY then
      let s1 := { s.setFlag Reg.MPD_STAT_READY true with mpd := { s.mpd with scrubAt := s.now } }
      let found := fun (k : Nat) (b : Bool) (s : State) =>
        match (s.hopSlot k).cart with
        | some c => if s.hopPowered then s.cartFound k c b else s
        | none => s
      found 1 readB (found 0 readA s1)
    else s)

/-- Every bank enabled is released, and CUR is. -/
def State.allReleased (s : State) : Bool :=
  s.flag Reg.CUR_STAT_REL
    && (List.range s.populated).all fun nn => !s.flag (Reg.BNK_CTRL_EN nn) || (s.bank nn).step == .released

/-- The first condition of R533 that does not hold.
DEDUCED (log 195). -/
def State.runUnmet (s : State) : Option Nat :=
  if !s.pwr.cfgOk then some 0
  else if !s.clockSet then some 1
  else if !s.flag Reg.MPD_STAT_READY then some 2
  else if !s.allReleased then some 3
  else if s.est.building != [] then some 4
  else if s.tandem && !s.tdm.decided && decide (s.since s.sys.first < s.reg Reg.TDM_CFG_DISC_WAIT * 3200) then some 5
  else none

/-- The fuses advance at the first entry to RUN under an image (R567). -/
def State.blowFuses (s : State) : State :=
  let i := s.sec.run
  let s1 := if s.sec.fuseSvn < i.svn then
      ({ s with sec := { s.sec with fuseSvn := i.svn } }).note 0x1216 subjNone []
    else s
  let revoke := (List.range 4).foldl (fun s k =>
    if bitAt i.revoke k && !bitAt s.sec.revoked k then
      ({ s with sec := { s.sec with revoked := putBit s.sec.revoked k true } }).note 0x1216 subjNone []
    else s) s1
  revoke.secRegs

/-- RUN_ENTRY, just before the strike 0 (R533). The vector engine is on unless the die is too warm (R141). -/
def execRunEntry (s : State) : Host.Outcome State Fault Refusal :=
  .next (if s.power == pwStart && s.sys.core && !s.pwr.stopped && s.atStrike0 && s.runUnmet.isNone then
      let s1 := s.setFields [(Reg.PWR_STAT_STATE, pwRun), (Reg.PWR_START_CNT, 0),
        (Reg.PWR_DOM_VEC, bit (!s.flag Reg.THM_DIE_VEC_OFF)), (Reg.EST_STAT_RWIN, 1)]
      let s2 := { s1 with
        imd := { s1.imd with testAt := 0 }
        est := { s1.est with firstRun := some (s.now + 1), snapAt := s.now + 1, windowDone := false }
        sys := { s1.sys with chkBegin := s.turn + 2, chkDone := 0, chkLate := false } }
      (s2.blowFuses).dbgCheck
    else s)

/-- START_TIMEOUT: 8 s from t0 have passed (R534).
DEDUCED (log 175). -/
def execStartTimeout (s : State) : Host.Outcome State Fault Refusal :=
  .next (if s.power == pwStart && s.sys.core && s.pwr.coldDue.isNone then
      let n := s.reg Reg.PWR_START_CNT + 1
      let s1 := (s.raise 0x1103 1 subjNone [s.runUnmet.getD 0]).setReg Reg.PWR_START_CNT (min 4 n)
      if 4 ≤ n then (s1.raise 0x1104 1 subjNone []).enterBrake
      else { s1 with pwr := { s1.pwr with coldDue := some 4 } }
    else s)

/-! ## The warm reset (R230, R231, R541, R542) -/

/-- The EST block is cleared (R539); 0x0621 for each start anchor that goes with it (R166). -/
def State.estCleared (s : State) : State :=
  forAll (s.est.pos.filter fun e => e.2.anchor.isSome) (fun e s => s.note 0x0621 (subjPos e.1) []) ({ s with
    est := { EstState.initial with firstRun := s.est.firstRun, snapAt := s.est.snapAt, windowDone := s.est.windowDone
                                   acc0 := s.cur.acc }
    mdl := { ModelState.initial with fresh := s.servedAll.map fun g => (g, true) }
    regs := s.regs.drop fun k => decide (0x28000 * 32 ≤ k) && decide (k < 0x2C000 * 32) && !rwlKey k }).estBoot

/-- Sluice at the entry to a warm reset (R230). A module without the token runs no sequence, and its CONN is its partner's
(R233). -/
def State.warmSluice (s : State) : State :=
  let s0 := { s with slu := { s.slu with reqs := [] } }
  if s.token && s.conn == connPrecharge then
    { s0.abandonNow with pwr := { s0.pwr with after := s0.pwr.after ++ [(0x072C, 1, [])] } }
  else if s.token && s.conn == connOpening && !s.flag Reg.SLU_STAT_EMER then s0.emergencyOpen true 0
  else s0

/-- The processors are held in reset: the session and the service connections end, HIF functions are reset, SYS and SEC are
cleared, a freeze ends, the Governor queue is emptied, a live update and a stage are given up (R264, R323, R450, R539, R541,
R570).
DESIGN CHOICE (log 176). -/
def State.warmAssert (src : Nat) (s : State) : State :=
  let halted := s.reg Reg.SEC_DBG_LEVEL == dbgHalt
  let s1 := (s.liveRevert.sessionAbort).warmSluice
  let s2 := forEach s1.fnsThere (State.fnReset false) s1
  let s3 := { s2 with
    gov := { s2.gov with queue := [] }
    hif := { s2.hif with conns := [] }
    sys := { s2.sys with done := [], beat := false, noBeat := 0, chkBegin := 0, chkDone := 0, chkLate := false }
    env := { s2.env with fresh := true, written := none }
    sec := { s2.sec.running with lcNext := none, retire := none, stage := none, live := none, nonce := [] }
    pwr := { s2.pwr with
      warmDue := none, warmAt := s.now, warmLate := false, cmds := []
      after := s2.pwr.after ++ (if halted then [(0x1219, 0, [])] else [])
        ++ if s2.flag Reg.EVL_STAT_FROZEN then [(0x0144, 0, [])] else [] } }
  (((s3.mdlSuspend).setFields
    ([(Reg.PWR_STAT_WARM, 1), (Reg.EVL_STAT_FROZEN, 0), (Reg.GOV_QSTAT_DEPTH, 0), (Reg.PWR_START_WSRC, src), (Reg.SEC_SVC_STAT_CONN, 0), (Reg.SEC_SVC_STAT_REJ, 0),
      (Reg.SYS_FWALL_INIT, 0), (Reg.SYS_FWALL_VALID, 0), (Reg.SYS_FWALL_COUNT, 0),
      (Reg.SYS_FWALL_ADDR_OFS, 0), (Reg.SYS_FWALL_ADDR_REG, 0)]
      ++ if halted then [(Reg.SEC_DBG_LEVEL, dbgShut), (Reg.SEC_DBG_SIGNER, 0)] else []))).secRegs

/-- A warm reset starts unless one runs, or a power-down does (R541).
DEDUCED (log 191, 250). -/
def State.warmBegin (src : Nat) (s : State) : State :=
  if s.flag Reg.PWR_STAT_WARM || s.flag Reg.PWR_STAT_PF || !s.sys.core then { s with pwr := { s.pwr with warmDue := none } }
  else s.warmAssert src

/-- WARM_RESET.
DESIGN CHOICE (log 176). -/
def execWarmReset (s : State) : Host.Outcome State Fault Refusal :=
  .next (match s.pwr.warmDue with
    | some src => s.warmBegin src
    | none => s)

/-! ## Power failure (R548 to R551) -/

/-- SUP runs: strikes run, in START, RUN, TRIM and an entry to STANDSTILL (R531). -/
def State.supRuns (s : State) : Bool := s.clockSet && s.power != pwBrake && !s.flag Reg.PWR_STAT_WARM

/-- The end of a power-down: what is still to be written, the claim released, relays open, every domain and CORE off.
DESIGN CHOICE (log 177). -/
def State.powerOff (s : State) : State :=
  let s1 := if s.power = pwEntry then s.note 0x110C subjNone [] else s
  let s2 := ((s1.hopFlush true).evlDrain 2048).sessionAbort
  let s3 := forEach bankNos State.bankPowerOff ((s2.imdStop).dropClaim false)
  { (s3.coreOff).setReg Reg.PWR_STAT_STATE (if s.power = pwEntry then pwStandstill else s.power) with
    pwr := { s3.pwr with down := true, failAt := none } }

/-- SUP's decision at a power failure: a handover to a ready partner, or an orderly opening; 0x0610 behind the records
queued, then 0x1101, then the open folds; the queue is written out (R446, R447, R549).
DEDUCED (log 188). -/
def State.powerFailSup (s : State) : State :=
  let s1 := if s.roleActive && s.token && s.flag Reg.TDM_STAT_PREADY then
      State.hoSup { s with tdm := { s.tdm with trigger := s.tdm.trigger.or (some (3, 0)) } }
    else (s.hoStop false).orderlyOpen
  let s2 := (s1.powerDown).raise 0x1101 1 subjNone []
  let s3 := (forAll s2.evl.folds State.closeFold s2).evlDrain 2048
  { s3 with pwr := { s3.pwr with decided := true } }

/-- The power-down sequence starts. Where no SUP runs, its decision is made at once, and without strikes it ends at once.
DEDUCED (log 188). -/
def State.powerFailBegin (s : State) : State :=
  let s1 := { s.setFlag Reg.PWR_STAT_PF true with
    pwr := { s.pwr with failAt := some s.now, failWaits := false, shed := false, decided := false, cmds := [] }
    tdm := { s.tdm with failing := true }, evl := { s.evl with noFold := true } }
  if s1.supRuns then s1
  else
    let s2 := s1.powerFailSup
    if s.power = pwBrake ∨ !s.clockSet then s2.powerOff else s2

/-- POWER_FAIL: the hold-up bus below 17.0 V for 100 µs; during a warm reset the sequence waits for its end (R551). -/
def execPowerFail (s : State) : Host.Outcome State Fault Refusal :=
  .next (if !s.sys.core || s.flag Reg.PWR_STAT_PF || s.pwr.failWaits then s
    else if s.flag Reg.PWR_STAT_WARM then { s with pwr := { s.pwr with failWaits := true }, tdm := { s.tdm with failing := true } }
    else s.powerFailBegin)

/-- A strike of the power-down: the load is shed, and the sequence ends once the string is open or handed over, at the
latest after 1.05 s.
DEDUCED (log 188). -/
def State.powerFailStrike (s : State) : State :=
  match s.pwr.failAt with
  | none => s
  | some t =>
    let s1 := if s.pwr.shed then s
      else { (s.setFlag Reg.PWR_DOM_VEC false).mdlSuspend.closeShort with pwr := { s.pwr with shed := true } }
    let s2 := if s1.phase = 0 then { s1 with bal := { s1.bal with next := [] } } else s1
    if (s2.pwr.decided && !s2.handover && s2.tdm.trigger.isNone && (s2.conn == connOpen || !s2.token))
        || decide (33600 ≤ s2.since t) then
      s2.powerOff
    else s2

/-- WARM_RESET_COMPLETE: just before the strike 0; the CRC over the certified state is right, or EST is cleared (R541).
DEDUCED (log 191). -/
def execWarmResetComplete (estOk : Bool) (s : State) : Host.Outcome State Fault Refusal :=
  .next (if s.flag Reg.PWR_STAT_WARM && s.atStrike0 && s.sys.core then
      let src := s.reg Reg.PWR_START_WSRC
      let s0 := (s.setFlag Reg.PWR_STAT_WARM false).loadCommitted
      let s1 := ((if s.auth.aborted.isSome then s0.loadThresholds else s0).abortDone).secRegs
      let s2 := if estOk then s1 else s1.estCleared
      let s3 := forAll s2.pwr.after (fun (e : Nat × Nat × List Nat) s =>
          if e.2.1 = 0 then s.note e.1 subjNone e.2.2 else s.raise e.1 e.2.1 subjNone e.2.2)
        { s2.note 0x110D subjNone [src] with
          pwr := { s2.pwr with after := [] }, sys := { s2.sys with alive := s.now } }
      if s3.pwr.failWaits then s3.powerFailBegin else s3
    else s)

/-- WARM_RESET_OVERRUN: 0x1105 after 250 ms, a cold reset after 1 s (R541). -/
def execWarmResetOverrun (s : State) : Host.Outcome State Fault Refusal :=
  .next (if s.flag Reg.PWR_STAT_WARM then
      let s1 := if !s.pwr.warmLate && decide (8000 ≤ s.since s.pwr.warmAt) then
          ({ s with pwr := { s.pwr with warmLate := true } }).raise 0x1105 3 subjNone []
        else s
      if 32000 ≤ s1.since s1.pwr.warmAt then { s1 with pwr := { s1.pwr with coldDue := some 5 } } else s1
    else s)

/-! ## Block resets (R543) -/

/-- The CAN controller of a bit of PWR_BRST.
DEDUCED (log 224). -/
def brstCan (k : Nat) : Nat := k - 3

/-- Turns that a forced reset of the Hopper controllers leaves unwritten: those of the staged chunks not yet committed
everywhere and of the open chunk go into a gap (R543).
DEDUCED (log 186). -/
def State.hopForced (s : State) : State :=
  match s.hop.staging with
  | [] => s
  | c :: _ =>
    let stop := s.packedTo
    { s with hop := { s.hop with
      staging := [], seq := c.seq, prev := ofBe (slice c.header 64 32), next := some stop
      gaps := s.hop.gaps ++ if c.first < stop then [(c.first, stop - c.first, 2)] else [] } }

/-- The reset of a block, forced or not. -/
def State.blockReset (k : Nat) (forced : Bool) (s : State) : State :=
  let s0 := { s with pwr := { s.pwr with brstOff := putBit s.pwr.brstOff k true, brstAt := s.pwr.brstAt.drop (· == k) } }
  let s1 := (s0.setBit Reg.PWR_BRST_REQ k false).setBit Reg.PWR_BRST_FORCED k forced
  let s2 := match s1.sec.live with
    | some l => if l.cur = k then { s1 with sec := { s1.sec with live := some { l with resetAt := some s.now } } } else s1
    | none => s1
  if k = 0 then
    s2.mdlSuspend
  else if k = 1 then
    let t := { s2 with net := { s2.net with rate := [], raised := [], passed := none, tx := [], began := [] } }
    let u := (t.linkDown 0).linkDown 1
    if forced then { u with sio := { u.sio with conns := u.sio.conns.map fun (e : Nat × TgConn) => (e.1, { e.2 with pairs := [] }) } } else u
  else if k = 2 then (if forced then s2.hopForced else s2)
  else
    let c := brstCan k
    (doIf forced (State.canForced c) s2).canInit c true

/-- BLOCK_RESET: a write of PWR_BRST by PF0, since no role admits it (R563); ignored for a BUSY block and during a power-down (R543, R551).
DEDUCED (log 224). -/
def State.brstWrite (w : Nat) (s : State) : State :=
  let s1 := s.setReg Reg.PWR_BRST_FORCED (s.reg Reg.PWR_BRST_FORCED - (s.reg Reg.PWR_BRST_FORCED &&& bitsAt w 16 6))
  if s.flag Reg.PWR_STAT_PF then s1
  else forEach ((List.range 6).filter fun k => bitAt w k) State.brstRequest s1

def execBlockReset (path : Path) (w : Word) (s : State) : Host.Outcome State Fault Refusal :=
  .next (if !s.deaf && path == .pf0 then s.brstWrite w.toNat else s)

/-- BLOCK_IDLE: the block reports idle within TMO.
DEDUCED (log 184). -/
def execBlockIdle (k : Nat) (s : State) : Host.Outcome State Fault Refusal :=
  .next (match s.pwr.brstAt.find? fun e => e.1 == k with
    | some (_, t) =>
      if decide (k < 6) && decide (s.since t ≤ s.reg Reg.PWR_BRST_CFG_TMO * msStrikes) then s.blockReset k false else s
    | none => s)

/-- BLOCK_RESET_TIMEOUT: forced, with 0x1106. -/
def execBlockResetTimeout (k : Nat) (s : State) : Host.Outcome State Fault Refusal :=
  .next (match s.pwr.brstAt.find? fun e => e.1 == k with
    | some (_, t) =>
      if decide (k < 6) && decide (s.reg Reg.PWR_BRST_CFG_TMO * msStrikes ≤ s.since t) then
        (s.blockReset k true).note 0x1106 subjNone []
      else s
    | none => s)

/-- Strike 0: blocks in reset are released.
DEDUCED (log 184). -/
def State.brstRelease (s : State) : State :=
  let off := s.pwr.brstOff
  if off = 0 then s
  else
    ({ s with pwr := { s.pwr with brstOff := 0 } }).setReg Reg.PWR_BRST_BUSY (s.reg Reg.PWR_BRST_BUSY - (s.reg Reg.PWR_BRST_BUSY &&& off))

/-! ## Power commands (R544) -/

/-- A refused power command.
DEDUCED (log 183). -/
def State.pwrRefused (s : State) : State := s.note 0x110E subjNone []

/-- The orderly opening of a change of state, when CONN is not OPEN; it ends a handover (R523, R544). -/
def State.openOrderly (s : State) : State := if s.conn = connOpen then s else (s.hoStop false).orderlyOpen

/-- The module's part in the string is open: CONN is OPEN, or another module holds the token and CONN is its state (R233).
DEDUCED (log 187). -/
def State.opened (s : State) : Bool := s.conn == connOpen || !s.token

/-- A power command is taken; `svc`: it came from a Service connection.
DEDUCED (log 183). -/
def State.pwrTake (cmd : Nat) (svc : Bool) (s : State) : State :=
  let entering := s.power == pwEntry
  if cmd = 1 then
    if s.power = pwTrim then
      { s.setFlag Reg.PWR_DOM_VEC (!s.flag Reg.THM_DIE_VEC_OFF) with pwr := { s.pwr with toRun := true } }
    else s.pwrRefused
  else if cmd = 2 then
    if s.power = pwRun then State.openOrderly { s with pwr := { s.pwr with toTrim := true } } else s.pwrRefused
  else if cmd = 3 then
    if s.runOrTrim && !s.flag Reg.PWR_STAT_PF then
      let s1 := (s.setReg Reg.PWR_STAT_STATE pwEntry).openOrderly.sessionClose
      State.dbgCheck { s1 with bal := { s1.bal with next := [] }, pwr := { s1.pwr with toRun := false, toTrim := false } }
    else s.pwrRefused
  else if cmd = 4 then
    if entering || s.flag Reg.PWR_STAT_WARM || s.flag Reg.PWR_STAT_PF then s.pwrRefused
    else { s with pwr := { s.pwr with warmDue := some (if svc then 5 else 1) } }
  else if cmd = 5 then
    if entering || (s.token && s.conn != connOpen) then s.pwrRefused
    else { s with pwr := { s.pwr with coldDue := some 1 } }
  else if cmd = 6 then
    if s.power = pwBrake then { s.setReg Reg.PWR_START_CNT 3 with pwr := { s.pwr with coldDue := some 3 } }
    else s.pwrRefused
  else s

/-- The completed SUP takes the commands that wait, in order; then a power failure's decision. -/
def State.pwrSup (s : State) : State :=
  let l := s.pwr.cmds
  let s1 := l.foldl (fun (s : State) (e : Nat × Bool) => s.pwrTake e.1 e.2) { s with pwr := { s.pwr with cmds := [] } }
  if s1.pwr.failAt.isSome && !s1.pwr.decided then s1.powerFailSup else s1

/-- A write of PWR_CMD with one of the encodings: ignored with another KEY and during a power-down, else taken at the next
completed SUP, or at once where SUP does not run (R544, R551). -/
def State.pwrCommand (cmd : Nat) (p : Path) (w : Nat) (s : State) : State :=
  if bitsAt w 0 4 = cmd ∧ bitsAt w 16 16 = 0xA5C3 ∧ !s.deaf ∧ s.powerPath p ∧ !s.flag Reg.PWR_STAT_PF then
    let svc := p != .pf0
    if s.supRuns then { s with pwr := { s.pwr with cmds := s.pwr.cmds ++ [(cmd, svc)] } } else s.pwrTake cmd svc
  else s

def execPwrCmdRun (path : Path) (w : Word) (s : State) : Host.Outcome State Fault Refusal :=
  .next (s.pwrCommand 1 path w.toNat)
def execPwrCmdTrim (path : Path) (w : Word) (s : State) : Host.Outcome State Fault Refusal :=
  .next (s.pwrCommand 2 path w.toNat)
def execPwrCmdStandstill (path : Path) (w : Word) (s : State) : Host.Outcome State Fault Refusal :=
  .next (s.pwrCommand 3 path w.toNat)
def execPwrCmdWarm (path : Path) (w : Word) (s : State) : Host.Outcome State Fault Refusal :=
  .next (s.pwrCommand 4 path w.toNat)
def execPwrCmdCold (path : Path) (w : Word) (s : State) : Host.Outcome State Fault Refusal :=
  .next (s.pwrCommand 5 path w.toNat)
def execPwrCmdRetry (path : Path) (w : Word) (s : State) : Host.Outcome State Fault Refusal :=
  .next (s.pwrCommand 6 path w.toNat)

/-! ## STANDSTILL (R545 to R547) -/

/-- STANDSTILL_ENTRY: the string is open and the closed session's commit complete; harness relays whose feedback still
reads closed after the command, bit n of bank n (R545).
DEDUCED (log 187). -/
def execStandstillEntry (relays : Nat) (s : State) : Host.Outcome State Fault Refusal :=
  .next (if s.power == pwEntry && s.opened && s.auth.commit.isNone && s.pwr.failAt.isNone && s.sys.core then
      let s1 := ((s.powerDown).note 0x110C subjNone []).imdStop
      let s2 := ((s1.evlDrain 2048).hopFlush false).dropClaim false
      let s3 := forEach (bankNos.filter fun nn => (s2.bank nn).en && bitAt relays nn) (fun nn s => s.raise 0x020D 3 (subjBank nn) []) s2
      let s4 := forEach bankNos State.bankPowerOff (s3.evlDrain 2048)
      { (s4.coreOff).setReg Reg.PWR_STAT_STATE pwStandstill with hif := { s4.hif with conns := [] } }
    else s)

/-- WAKE: CHG_DET held high for 100 ms, or KEY_WAKE risen after 50 ms low; or the input went low. In STANDSTILL a wake that
the strap enables latches; in every other state the level is only reported (R547).
DEDUCED (log 178). -/
def execWake (key level : Bool) (s : State) : Host.Outcome State Fault Refusal :=
  let f := if key then Reg.PWR_STAT_KEY else Reg.PWR_STAT_CHG
  let rose := level && (!key || !s.flag f)
  let s1 := s.setFlag f level
  .next (if rose && (s.power == pwStandstill || s.power == pwEntry) && !s.pwr.aonOff && s.wakesBy key && s.pwr.wake.isNone then
      { s1 with pwr := { s1.pwr with wake := some (if key then 7 else 6) } }
    else s1)

/-- AON_SUPPLY_LOSS: in STANDSTILL without 24 V, the keeper off by strap or the string below 40 V, which `low` tells
(R546, R464). -/
def execAonSupplyLoss (low : Bool) (s : State) : Host.Outcome State Fault Refusal :=
  .next (if s.power == pwStandstill && !s.sys.core && (low || !s.keeperOn) then
      { s with tim := { s.tim with aonOk := false }, pwr := { s.pwr with aonOff := true, wake := none } }
    else s)

/-! ## Supplies (R548, R553) -/

/-- The supply readings of a strike, and the runs below 18 V and 20 V.
DESIGN CHOICE (log 194). -/
def State.supplyStrike (i : StrikeIn) (s : State) : State :=
  let next := fun (low : Bool) (n : Nat) => if low then n + 1 else 0
  let a1 := next (decide (i.aux1 < 90)) (s.pwr.auxLow.get 0 1)
  let a2 := next (decide (i.aux2 < 90)) (s.pwr.auxLow.get 0 2)
  let c := next (decide (i.coilV < 100) && s.conn != connOpen) s.pwr.coilLow
  let s1 := ({ s with pwr := { s.pwr with auxLow := [(1, a1), (2, a2)], coilLow := c } }).setFields
    [(Reg.PWR_SUPPLY_AUX1, sat 255 i.aux1), (Reg.PWR_SUPPLY_AUX2, sat 255 i.aux2), (Reg.PWR_SUPPLY_COIL, sat 255 i.coilV)]
  let s2 := if a1 = 0 then s1.goneAt 0x1102 (subjNum 1) else s1
  let s3 := if a2 = 0 then s2.goneAt 0x1102 (subjNum 2) else s2
  if c = 0 then s3.goneAt 0x1109 subjNone else s3

/-- AUX_INPUT_LOW: input `k`, 1 or 2, below 18 V for 10 ms; with the single-supply strap AUX2 raises nothing (R537). -/
def execAuxInputLow (k : Nat) (s : State) : Host.Outcome State Fault Refusal :=
  .next (if (k == 1 || (k == 2 && !s.singleSupply)) && decide (320 ≤ s.pwr.auxLow.get 0 k) && !s.flag Reg.PWR_STAT_PF then
      s.raiseLevel 0x1102 1 (subjNum k) []
    else s)

/-- HOLDUP_TEST: the hold-up at 190 W in units of 0.1 s, at each start and every 24 h.
DEDUCED (log 254). -/
def execHoldupTest (tenths : Nat) (s : State) : Host.Outcome State Fault Refusal :=
  .next (if s.sys.core && s.clockSet && (s.pwr.huAt == 0 || s.elapsed s.pwr.huAt (86400 * secStrikes)) then
      let s1 := ({ s with pwr := { s.pwr with huAt := s.now + 1 } }).setFields
        [(Reg.PWR_SUPPLY_HOLDUP, sat 255 tenths), (Reg.PWR_STAT_HU_OK, bit (decide (20 ≤ tenths)))]
      s1.level (decide (tenths < 20)) 0x1108 1 subjNone []
    else s)

/-- COIL_SUPPLY_LOW. -/
def execCoilSupplyLow (s : State) : Host.Outcome State Fault Refusal :=
  .next (if 320 ≤ s.pwr.coilLow then s.raiseLevel 0x1109 3 subjNone [] else s)

/-- A switched domain, by its bit of PWR_DOM, is on. -/
def State.domainOn (s : State) (d : Nat) : Bool :=
  if d < 18 then s.bankOn d else bitAt (s.reg Reg.PWR_DOM_CUR + 2 * s.reg Reg.PWR_DOM_IMD + 4 * s.reg Reg.PWR_DOM_HPA
    + 8 * s.reg Reg.PWR_DOM_HPB + 16 * s.reg Reg.PWR_DOM_VEC + 32 * s.reg Reg.PWR_DOM_MLR + 64 * s.reg Reg.PWR_DOM_NET
    + 128 * s.reg Reg.PWR_DOM_PCI) (d - 18)

/-- A domain that its supply fault switches off. -/
def State.domainOff (d : Nat) (s : State) : State :=
  if d = 20 ∨ d = 21 then s.setFlag (hopDomain (d - 20)) false
  else if d = 22 then (s.setFlag Reg.PWR_DOM_VEC false).mdlSuspend
  else if d = 23 then (s.setFlag Reg.PWR_DOM_MLR false).millraceDown
  else if d = 24 then ((s.linkDown 0).linkDown 1).setFlag Reg.PWR_DOM_NET false
  else
    let s1 := if s.linkUp then s.linkLost else s
    s1.setFlag Reg.PWR_DOM_PCI false

/-- DOMAIN_SUPPLY_FAULT: `bad`, or the supply is back within tolerance, which only a class 3 fault can tell (R74, R553). -/
def execDomainSupplyFault (d : Nat) (bad : Bool) (s : State) : Host.Outcome State Fault Refusal :=
  .next (if d < 18 then
      (if s.bankOn d || !bad then
        (s.level bad 0x020E 3 (subjBank d) []).updBank d fun b => { b with supplyBad := bad }
      else s)
    else if d < 20 then (if s.domainOn d || !bad then s.level bad 0x110A 3 (subjNum d) [] else s)
    else if decide (d < 26) && bad && s.domainOn d then (s.domainOff d).raise 0x110A 1 (subjNum d) []
    else s)

/-! ## The strike -/

/-- The first strike of a start: PD_CUR and the enabled bank domains go on (R532). -/
def State.firstStrike (s : State) : State :=
  forEach ((List.range s.populated).filter fun nn => s.flag (Reg.BNK_CTRL_EN nn)) State.bankAdded (s.setFlag Reg.PWR_DOM_CUR true)

/-- Changes of power state that take effect at strike 0 (R544). -/
def State.pwrTurn (s : State) : State :=
  let s1 := if s.pwr.toRun && s.power == pwTrim then
      State.dbgCheck { s.setFields [(Reg.PWR_STAT_STATE, pwRun), (Reg.PWR_DOM_VEC, bit (!s.flag Reg.THM_DIE_VEC_OFF))] with
        pwr := { s.pwr with toRun := false }, imd := { s.imd with testAt := 0 } }
    else s
  if s1.pwr.toTrim && s1.inRun && s1.opened then
    State.dbgCheck { ((s1.setFlag Reg.PWR_DOM_VEC false).mdlSuspend).setReg Reg.PWR_STAT_STATE pwTrim with pwr := { s1.pwr with toTrim := false } }
  else s1

/-- Power and resets at a strike, before anything else of it. -/
def State.pwrStrike (i : StrikeIn) (s : State) : State :=
  let s1 := if s.power == pwStart && s.pwr.cfgOk && !s.flag Reg.PWR_DOM_CUR then s.firstStrike else s
  let s2 := doIf (s1.phase == 0) (fun s => s.brstRelease.pwrTurn) (s1.supplyStrike i)
  (s2.setFlag Reg.PWR_DOM_IMD (s2.token && s2.runOrTrim)).powerFailStrike

end Sys2Proof.Machine
end

