-- ==== Sys2Proof/Machine/Security.lean ====
section
/-! DEFINITION. Firmware images and updates, lifecycle commands, debug, lockstep and the bus firewall (chapter 21, R617). -/
namespace Sys2Proof.Machine

/-! ## Images (R565, R566) -/

/-- The part table entries of an image, and offset and length of one. -/
def fwParts (l : List Nat) : List (List Nat) := (List.range (leAt l 2 2)).map fun k => slice l (32 + 64 * k) 64
def partOff (e : List Nat) : Nat := leAt e 4 4
def partLen (e : List Nat) : Nat := leAt e 8 4

/-- LENGTH, and the end of the last part.
DEDUCED (log 199). -/
def fwLength (l : List Nat) : Nat := leAt l 16 8
def fwEnd (l : List Nat) : Nat := (fwParts l).foldl (fun a e => max a (partOff e + partLen e)) 0

/-- A part table entry is correct.
DEDUCED (log 197). -/
def partForm (len : Nat) (e : List Nat) : Bool :=
  decide (1 ≤ e.getD 0 0) && decide (e.getD 0 0 ≤ 7) && (slice e 1 3).all (· == 0) && (slice e 12 4).all (· == 0)
    && partOff e % 4096 == 0 && decide (1056 ≤ partOff e) && decide (partOff e + partLen e + 96 ≤ len)

/-- FORMAT, NPARTS, the part table and the reserved bytes are correct, one part of each type.
DEDUCED (log 197). -/
def fwForm (l : List Nat) : Bool :=
  let n := leAt l 2 2
  leAt l 0 2 == 0x0501 && decide (1 ≤ n) && decide (n ≤ 16) && decide (l.getD 8 0 ≤ 64) && decide (l.getD 9 0 < 4)
    && decide (l.getD 10 0 < 2 ^ l.getD 9 0) && l.getD 11 0 == 0 && (slice l 24 8).all (· == 0)
    && (slice l (32 + 64 * n) (1024 - 64 * n)).all (· == 0) && decide (1152 ≤ fwLength l) && decide (fwLength l ≤ l.length)
    && (fwParts l).all (partForm (fwLength l))
    && (range 1 8).all fun t => countIf (fun e => e.getD 0 0 == t) (fwParts l) == 1

/-- The signature under the key of KEYIDX.
DEDUCED (log 198). -/
def fwSigned (l : List Nat) : Bool := Config.ecdsaOk (l.getD 9 0) (l.take (fwEnd l)) (slice l (fwLength l - 96) 96)

/-- The hash of every part is correct. -/
def fwHashed (l : List Nat) : Bool :=
  (fwParts l).all fun e => beBytes 48 (Config.sha384 (slice l (partOff e) (partLen e))) == slice e 16 48

/-- What a header gives. -/
def fwImageOf (l : List Nat) : FwImage :=
  { version := leAt l 4 4, svn := l.getD 8 0, key := l.getD 9 0, revoke := l.getD 10 0, tif := leAt l 12 2
    tifMin := leAt l 14 2
    hashes := (range 1 8).map fun t =>
      match (fwParts l).find? fun e => e.getD 0 0 == t with
      | some e => slice e 16 48
      | none => [] }

/-- Why an image is not valid. -/
def State.fwRefusal (l : List Nat) (s : State) : Option Nat :=
  if !fwForm l || bitAt s.sec.revoked (l.getD 9 0) || !fwSigned l || !fwHashed l then some 0x1211
  else if l.getD 8 0 < s.sec.fuseSvn then some 0x1212 else none

/-! ## Staging and activation (R568 to R571) -/

/-- A refusal with its record.
DEDUCED (log 201). -/
def fwRefused (code : Nat) (s : State) : State × Option Reply := (s.note code subjNone [], some (.refused code))

/-- An image that is verified goes to the inactive slot, which holds none until the stage is complete.
DEDUCED (log 200). -/
def State.fwStageRun (x : CmdCtx) (l : List Nat) (s : State) : State × Option Reply :=
  match s.fwRefusal l with
  | some code => fwRefused code s
  | none =>
    (({ s with sec := { s.sec with
        stage := some (x.ref, fwImageOf l), slots := s.sec.slots.drop (· == s.fwOther) } }).secRegs, none)

/-- DEDUCED (log 196). -/
def cmdFwStage : CmdSpec :=
  { opc := 0xA0, args := [(8, 12)], priv := pf0Only, role := 2, states := everyState, session := false, secret := false
    run := fun x s =>
      let n := x.arg 16 4
      if n < 1152 ∨ 134217728 < n ∨ n % 4 ≠ 0 then (s, some (.no stBadField))
      else if s.sec.lc = lcRetired then fwRefused 0x121D s
      else if s.fwBusy then (s, some (.no stBusy))
      else x.read s fun l => s.fwStageRun x (l.take n) }

/-- FW_STAGE. -/
def execFwStage (c : CmdIn) (s : State) : Host.Outcome State Fault Refusal := .next (s.command cmdFwStage c)

/-- STAGE_COMPLETE: the slot is written, and reads back valid or not.
DEDUCED (log 200). -/
def execStageComplete (ok : Bool) (s : State) : Host.Outcome State Fault Refusal :=
  .next (match s.sec.stage with
    | some (c, i) =>
      if s.sys.core then
        let s1 := { s.quiet with sec := { s.sec with stage := none } }
        if ok then
          let s2 := ({ s1 with sec := { s1.sec with slots := s1.sec.slots.put s1.fwOther i } }).note 0x1210 subjNone []
          s2.secRegs.complete c (.ok (i.version + i.svn * 2 ^ 32))
        else ((s1.note 0x1211 subjNone []).secRegs).complete c (.refused 0x1211)
      else s
    | none => s)

/-- The pointer names the staged slot, whose image is activated. -/
def State.fwSwitch (s : State) : State :=
  ({ s with sec := { s.sec with active := s.fwOther } }).note 0x1213 subjNone []

/-- The whole image: the cold reset follows 10 ms later, at once where no strike comes.
DEDUCED (log 202). -/
def State.fwWhole (i : FwImage) (s : State) : State × Option Reply :=
  if s.auth.session.isSome || s.auth.commit.isSome then (s, some (.no stBusy))
  else if s.token && s.conn != connOpen then (s, some (.no stState))
  else
    let s1 := if s.power = pwBrake then s.fwSwitch.setReg Reg.PWR_START_CNT 0 else s.fwSwitch
    let s2 := if s.clockSet then { s1 with sec := { s1.sec with coldAt := some s.now } }
      else { s1 with pwr := { s1.pwr with coldDue := some 2 } }
    (s2.secRegs, some (.ok i.version))

/-- Parts that no bit of MASK names are those that run: types 3 to 6 have bits 0 to 3. -/
def partsAgree (mask : Nat) (run new : FwImage) : Bool :=
  (range 1 8).all fun t =>
    (decide (3 ≤ t) && decide (t ≤ 6) && bitAt mask (t - 3)) || run.hashes.getD (t - 1) [] == new.hashes.getD (t - 1) []

/-- A live update of the blocks of MASK. -/
def State.fwLive (x : CmdCtx) (mask : Nat) (i : FwImage) (s : State) : State × Option Reply :=
  if s.power = pwBrake ∨ s.flag Reg.SEC_FW_STAT_RECOV ∨ s.sec.halted ≠ [] then (s, some (.no stState))
  else if !partsAgree mask s.sec.run i then fwRefused 0x121E s
  else match fwBlocks mask with
    | [] => (s, some (.no stBadField))
    | k :: rest =>
      ((({ s with sec := { s.sec with
          live := some { cmd := x.ref, mask := mask, todo := rest, cur := k, resetAt := none } } }).brstRequest k).secRegs, none)

/-- DEDUCED (log 203). -/
def cmdFwActivate : CmdSpec :=
  { opc := 0xA1, args := [(8, 1)], priv := pf0Only, role := 2, states := everyState, session := false, secret := false
    run := fun x s =>
      let mask := x.arg 8 1
      if 16 ≤ mask then (s, some (.no stBadField))
      else if s.fwBusy then (s, some (.no stBusy))
      else match s.fwStaged with
        | none =>
          match s.fwSlot s.fwOther with
          | some i => fwRefused (if i.svn < s.sec.fuseSvn then 0x1212 else 0x1211) s
          | none => fwRefused 0x1211 s
        | some i => if mask = 0 then s.fwWhole i else s.fwLive x mask i }

/-- FW_ACTIVATE. -/
def execFwActivate (c : CmdIn) (s : State) : Host.Outcome State Fault Refusal := .next (s.command cmdFwActivate c)

/-- NEW_PART_RUNNING: block `k` runs its part of the staged image (R570). -/
def execNewPartRunning (k : Nat) (s : State) : Host.Outcome State Fault Refusal :=
  .next (match s.sec.live with
    | none => s
    | some l =>
      match l.resetAt with
      | none => s
      | some t =>
        if l.cur = k ∧ s.since t ≤ secStrikes ∧ !bitAt s.pwr.brstOff k then
          match l.todo with
          | n :: rest =>
            State.brstRequest n { s with sec := { s.sec with
              live := some { l with cur := n, todo := rest, resetAt := none } } }
          | [] =>
            match s.fwStaged with
            | some i =>
              let s1 := ({ s.quiet with sec := { s.sec with live := none } }).fwSwitch
              (({ s1 with sec := { s1.sec with run := i } }).secRegs).complete l.cmd (.ok i.version)
            | none => s
        else s)

/-- LIVE_UPDATE_TIMEOUT (R570).
DEDUCED (log 204). -/
def execLiveUpdateTimeout (s : State) : Host.Outcome State Fault Refusal :=
  .next (match s.sec.live with
    | none => s
    | some l =>
      match l.resetAt with
      | some t =>
        if secStrikes ≤ s.since t then
          (s.quiet.liveRevert.raise 0x121F 1 subjNone []).complete l.cmd (.refused 0x121F)
        else s
      | none => s)

/-! ## The lifecycle (R556, R557) -/

/-- A refused request. -/
def State.lcRefused (s : State) : State := s.note 0x1218 subjNone []

/-- Transitions that a session makes.
DEDUCED (log 207). -/
def lcInSession (a b : Nat) : Bool :=
  (a == lcCommission && b == lcField) || (a == lcField && b == lcService) || (a == lcService && b == lcField)
    || ((a == lcField || a == lcService) && b == lcCommission)
    || ((a == lcCommission || a == lcField || a == lcService) && b == lcRetired)

/-- The address of SEC_LC_CMD, and SEC_LC as it reads once a transition has taken effect. -/
def lcOffset : Nat := Reg.SEC_LC_CMD_CMD.off
def State.lcAfter (n : Nat) (s : State) : Nat := (s.setLifecycle n).storedWord Reg.SEC_LC_STATE.off

/-- The WRITE entry of a transition: OLD and NEW hold SEC_LC before and after it.
DEDUCED (log 205). -/
def State.lcLog (e : ClogFields) (n : Nat) (s : State) : State :=
  s.clogWrite { e with addr := lcOffset, old := s.storedWord Reg.SEC_LC_STATE.off, new := s.lcAfter n }

/-- The fields of an entry for a write of PF0 outside a session.
DEDUCED (log 205, 207). -/
def clogNoSession : ClogFields :=
  { kind := 0x02, path := 1, session := 0, client := [], addr := 0, old := 0, new := 0, crcAfter := 0, cflags := 0
    pseq := 0, phash := [] }

/-- The write is the second one of RETIRED: within 10 s of the first, on the same path. -/
def State.retireAgain (p : Path) (s : State) : Bool :=
  match s.sec.retire with
  | some (t, q) => q == p && decide (s.since t ≤ 10 * secStrikes)
  | none => false

/-- The first write of RETIRED waits for the second.
DEDUCED (log 206). -/
def State.retireFirst (p : Path) (s : State) : State := { s with sec := { s.sec with retire := some (s.now, p) } }

/-- A request that the table allows, from BLANK without a session, else in the session of the path. -/
def State.lcRequest (n : Nat) (p : Path) (s : State) : State :=
  let again := n != lcRetired || s.retireAgain p
  if s.sec.lc = lcBlank then
    if p = .pf0 ∧ (n = lcCommission ∨ n = lcRetired) then
      if again then (s.lcLog clogNoSession n).setLifecycle n else s.retireFirst p
    else s.lcRefused
  else if lcInSession s.sec.lc n then
    match s.sessionOf p with
    | some x =>
      if !s.clogRoom x then (s.raise 0x120B 1 subjNone (leBytes 4 lcOffset)).sessionTouch
      else if again then
        let t := (s.lcLog (x.entry 0x02) n).sessionTouch
        { t with sec := { t.sec with lcNext := some n, retire := none } }
      else (s.retireFirst p).sessionTouch
    | none => s.lcRefused
  else s.lcRefused

/-- A write of SEC_LC_CMD that names state `n`.
DEDUCED (log 226). -/
def State.lcWrite (n : Nat) (p : Path) (w : Nat) (s : State) : State :=
  if bitsAt w 0 3 = n ∧ !s.deaf ∧ s.powerPath p then
    (if bitsAt w 16 16 = 0x4C43 then s.lcRequest n p else s.lcRefused)
  else s

/-- LC_COMMISSION. -/
def execLcCommission (path : Path) (w : Word) (s : State) : Host.Outcome State Fault Refusal :=
  .next (s.lcWrite lcCommission path w.toNat)
/-- LC_FIELD. -/
def execLcField (path : Path) (w : Word) (s : State) : Host.Outcome State Fault Refusal :=
  .next (s.lcWrite lcField path w.toNat)
/-- LC_SERVICE. -/
def execLcService (path : Path) (w : Word) (s : State) : Host.Outcome State Fault Refusal :=
  .next (s.lcWrite lcService path w.toNat)
/-- LC_RETIRED. -/
def execLcRetired (path : Path) (w : Word) (s : State) : Host.Outcome State Fault Refusal :=
  .next (s.lcWrite lcRetired path w.toNat)

/-- The strikes that SERVICE may last. -/
def State.svcStrikes (s : State) : Nat := s.reg Reg.SEC_LC_SVC_MAX * 3600 * secStrikes

/-- SERVICE_TIMEOUT: SVC_MAX hours of hardware clock time have passed in SERVICE. -/
def execServiceTimeout (s : State) : Host.Outcome State Fault Refusal :=
  .next (if s.sec.lc == lcService && s.clockSet && decide (s.sec.svcAt + s.svcStrikes ≤ s.now) then s.setLifecycle lcField
    else s)

/-! ## Certificates (R561) -/

/-- A certificate chain meets R561 but for its role.
DEDUCED (log 210). -/
def State.certOk (c : CertIn) (s : State) : Bool :=
  s.anchorSet && (List.range 12).all (fun w => s.reg (Reg.SEC_ANCHOR_HASH w) == leAt c.root (4 * w) 4)
    && (c.valid || !s.flag Reg.TIM_STAT_TODV)
    && (List.range 16).all fun k =>
      let lo := s.reg (Reg.SEC_DENY_LO_FP k)
      let hi := s.reg (Reg.SEC_DENY_HI_FP k)
      (lo == 0 && hi == 0) || lo != leAt c.fp 0 4 || hi != leAt c.fp 4 4

/-- The role that a certificate chain gives. -/
def State.certRole (c : CertIn) (s : State) : Option Nat := if s.certOk c && decide (c.unit ≤ 2) then some c.unit else none

/-! ## Debug (R575 to R581) -/

/-- The number of the debug authority's key.
DEDUCED (log 198). -/
def debugKey : Nat := 16

/-- The bytes a debug request signs.
DEDUCED (log 209). -/
def State.debugText (nonce : List Nat) (level : Nat) (s : State) : List Nat :=
  nonce ++ leBytes 4 (s.reg Reg.SYS_SER_LO_SER) ++ leBytes 4 (s.reg Reg.SYS_SER_HI_SER) ++ [level, s.sec.lc]

/-- The signer of a request, 0 L and 1 S, none where the signature is bad. -/
def State.debugSigned (r : DebugIn) (nonce : List Nat) (s : State) : Option Nat :=
  let t := s.debugText nonce r.level
  match r.chain with
  | none => if Config.ecdsaOk debugKey t r.sig then some 0 else none
  | some c => if s.certRole c == some 2 && Config.ecdsaOk c.key t r.sig then some 1 else none

/-- A bad signature. -/
def State.debugFail (s : State) : State :=
  let f := s.sec.fails + 1
  let s1 := ({ s with sec := { s.sec with fails := f } }).note 0x121A subjNone []
  if 5 ≤ f then
    ({ s1 with sec := { s1.sec with lock := lockoutOf f, lockOn := true } }).secRegs.raise 0x121B 1 subjNone []
  else s1.secRegs

/-- A grant. A HALT grant in force that OBSERVE replaces ends; a new HALT releases the claim at the next SUP, at once where
SUP does not run (R578).
DEDUCED (log 212, 213). -/
def State.debugGrant (level signer : Nat) (s : State) : State :=
  let s1 := if s.reg Reg.SEC_DBG_LEVEL = dbgHalt ∧ level ≠ dbgHalt then s.dbgEnd else s
  let s2 := ({ s1 with sec := { s1.sec with fails := 0 } }).setFields [(Reg.SEC_DBG_LEVEL, level), (Reg.SEC_DBG_SIGNER, signer)]
  let s3 := (s2.note 0x1219 subjNone []).secRegs
  if level = dbgHalt then
    let s4 := { s3 with sec := { s3.sec with release := s3.supRuns, noClaim := true } }
    if s3.supRuns then s4 else s4.dropClaim false
  else s3

/-- DEBUG_CHALLENGE: the port gives a nonce, and the request that answers it comes.
DEDUCED (log 209). -/
def execDebugChallenge (r : DebugIn) (s : State) : Host.Outcome State Fault Refusal :=
  .next (if s.sys.core && s.power != pwStandstill && (r.level == dbgObserve || r.level == dbgHalt) && !s.sec.lockOn then
      let nonce := (Config.random s.free).take 32
      let s1 := { s.took with sec := { s.sec with nonce := nonce } }
      match s1.debugSigned r nonce with
      | none => s1.debugFail
      | some g => if debugSigner s.sec.lc r.level s.power = some g then s1.debugGrant r.level g else s1
    else s)

/-- DEBUG_LOCKOUT_END. -/
def execDebugLockoutEnd (s : State) : Host.Outcome State Fault Refusal :=
  .next (if s.sec.lockOn && s.sec.lock == 0 then ({ s with sec := { s.sec with lockOn := false } }).secRegs else s)

/-- DEBUG_DROP: a write of SEC_DBG_CTRL. -/
def execDebugDrop (path : Path) (w : Word) (s : State) : Host.Outcome State Fault Refusal :=
  .next (if bitAt w.toNat 0 && !s.deaf && s.powerPath path then s.dbgEnd else s)

/-- DEBUG_PRESENCE_LOST: the presence signal has been lost for 100 ms. -/
def execDebugPresenceLost (s : State) : Host.Outcome State Fault Refusal := .next (if s.sys.core then s.dbgEnd else s)

/-- Turn tasks by processor: the lockstep pair 0, the application cores 1 to 4 (of which the manual does not say which runs
what), the vector engine 5.
DESIGN CHOICE (log 266). -/
def tasksOf (proc : Nat) : List Nat := if proc = 0 then [0, 2, 3, 4, 5, 6] else if proc = 5 then [1, 7] else []

/-- The turn monitor starts its counts again when a processor resumes (R578). -/
def State.countsRestart (proc : Nat) (s : State) : State :=
  let s1 := { s with sys := { s.sys with
    miss := s.sys.miss.drop (tasksOf proc).contains
    appMiss := if 1 ≤ proc ∧ proc ≤ 4 then [] else s.sys.appMiss
    chkBegin := if proc = 0 ∧ s.sys.chkBegin ≠ 0 then s.turn + 2 else s.sys.chkBegin
    noBeat := if proc = 0 then 0 else s.sys.noBeat } }
  forEach (tasksOf proc) (fun k s => s.setBit Reg.SYS_TMON_STAT_STALE k false) s1

/-- DEBUG_RUN_CONTROL: kind 0 halt, 1 step, 2 resume, 3 a breakpoint hit, 4 a write of a core register; `taken` actions
that the checker has taken since. A full replay queue holds the action back.
DESIGN CHOICE (log 214, 266). -/
def execDebugRunControl (proc kind taken : Nat) (s : State) : Host.Outcome State Fault Refusal :=
  let halted := s.sec.halted.contains proc
  .next (if s.reg Reg.SEC_DBG_LEVEL == dbgHalt && decide (proc < 6) && decide (kind < 5)
        && (halted == ([1, 2, 4] : List Nat).contains kind) then
      let q := s.sec.replay.drop taken
      let s1 := { s with sec := { s.sec with replay := q } }
      if proc = 0 ∧ 16 ≤ q.length then s1
      else
        let s2 := { s1 with sec := { s1.sec with
          replay := if proc = 0 then q ++ [kind] else q
          halted := if kind = 2 then s1.sec.halted.filter (· != proc)
            else if halted then s1.sec.halted else proc :: s1.sec.halted } }
        (if kind = 2 then s2.countsRestart proc else s2).secRegs
    else s)

/-- "Table — Millpond regions": end of each region, and the processor that owns it: the lockstep pair 0, an application core
1 to 4 (none says which, `core` does), the vector engine 5. Regions that hardware writes belong to the first processor that
reads them, Hopper staging to the application cores, on which it runs (R31).
DESIGN CHOICE (log 273). -/
def millpondOwners (core : Nat) : List (Nat × Nat) :=
  [(0x61B800000, 0), (0x67F800000, 5), (0x7FF800000, core), (0x800000000, 0)]

/-- The processors that own the regions a write of `n` bytes at `a` reaches. -/
def ownersFrom (a n : Nat) : Nat → List (Nat × Nat) → List Nat
  | _, [] => []
  | lo, (hi, p) :: r => if a < hi ∧ lo < a + n then p :: ownersFrom a n hi r else ownersFrom a n hi r

/-- The processors that own what a debug write reaches: memory 0 the lockstep partition of SRAM, 1 the rest of SRAM, which
`core` names the owner of, 2 the Millpond (R42, R580).
DESIGN CHOICE (log 273). -/
def debugOwners (mem core a n : Nat) : List Nat :=
  if mem = 0 then [0]
  else
    let c := if 1 ≤ core ∧ core ≤ 4 then core else 1
    if mem = 1 then [if core = 5 then 5 else c] else ownersFrom a (max 1 n) 0 (millpondOwners c)

/-- DEBUG_MEMORY_WRITE: a memory, an application core or the vector engine where the address alone names no owner; offset and
bytes. It is accepted under HALT while every processor that owns what it reaches is halted, else refused (R580).
DESIGN CHOICE (log 10, 273). -/
def execDebugMemoryWrite (mem owner addr : Nat) (bytes : List Nat) (s : State) : Host.Outcome State Fault Refusal :=
  let size := if mem = 0 then 4194304 else if mem = 1 then 20971520 else 34359738368
  .next (if decide (mem < 3) && decide (addr + bytes.length ≤ size) && s.sys.core && s.reg Reg.SEC_DBG_LEVEL != dbgShut then
      if s.reg Reg.SEC_DBG_LEVEL == dbgHalt && (debugOwners mem owner addr bytes.length).all (s.sec.halted.contains ·) then
        let s1 := if mem < 2 then s.writeMem 3 (if mem = 1 then 4194304 + addr else addr) bytes
          else s.millpondWrite addr bytes
        { s1 with sec := { s1.sec with refused := false } }
      else { s with sec := { s.sec with refused := true } }
    else s)

/-! ## The lockstep pair (R573) -/

/-- The pair runs; a power-down that runs ignores the warm reset (R541). -/
def State.pairRuns (s : State) : Bool :=
  s.sys.core && s.power != pwStandstill && !s.flag Reg.PWR_STAT_WARM && !s.sec.halted.contains 0

/-- What is recorded after a warm reset.
DEDUCED (log 216). -/
def State.afterWarm (code cls : Nat) (s : State) : State :=
  { s with pwr := { s.pwr with after := s.pwr.after ++ [(code, cls, [])] } }

/-- LOCKSTEP_MISMATCH: a mismatch in a compare group; during a start the start stops.
DEDUCED (log 216). -/
def execLockstepMismatch (group : Nat) (s : State) : Host.Outcome State Fault Refusal :=
  .next (if s.pairRuns && decide (group < 64) then
      let l := s.now :: s.sec.mismatches.filter fun t => decide (s.since t < 86400 * secStrikes)
      let s1 := (({ s with sec := { s.sec with mismatches := l } }).setReg Reg.SYS_LS_STAT_MM24 (sat 255 l.length)).addSat
        Reg.SYS_LS_STAT_TOTAL 1
      if s.power = pwStart then { s1 with pwr := { s1.pwr with stopped := true } }
      else
        let s2 := s1.afterWarm 0x0150 1
        (if 3 ≤ l.length then s2.afterWarm 0x0151 3 else s2).warmBegin 2
    else s)

/-- LOCKSTEP_ECC_ERROR: an uncorrectable error in the lockstep partition of SRAM.
DEDUCED (log 215). -/
def execLockstepEccError (s : State) : Host.Outcome State Fault Refusal :=
  .next (if s.pairRuns then (s.afterWarm 0x0153 1).warmBegin 3 else s)

/-! ## The bus firewall (R42, R617) -/

/-- FIREWALL_BLOCK: a write of initiator 1 to 7 blocked in a region, at an offset in units of 64 B. -/
def execFirewallBlock (init reg ofs : Nat) (s : State) : Host.Outcome State Fault Refusal :=
  .next (if decide (1 ≤ init) && decide (init ≤ 7) && decide (reg < 3) && decide (ofs < 2 ^ 29) && s.sys.core then
      let s1 := (s.setFields [(Reg.SYS_FWALL_INIT, init), (Reg.SYS_FWALL_VALID, 1), (Reg.SYS_FWALL_ADDR_OFS, ofs),
        (Reg.SYS_FWALL_ADDR_REG, reg)]).addSat Reg.SYS_FWALL_COUNT 1
      s1.raisePaced (0x0130 * 256 + init) 0x0130 1 subjNone []
    else s)

/-! ## The strike -/

/-- Lockout, time in SERVICE, mismatches of the last 24 h, and the cold reset of an activation.
DEDUCED (log 208). -/
def State.secStrike (s : State) : State :=
  let s1 := if s.sec.lockOn then ({ s with sec := { s.sec with lock := s.sec.lock - 1 } }).secRegs else s
  let s2 := if s1.now % secStrikes = 0 then
      let l := s1.sec.mismatches.filter fun t => decide (s1.since t < 86400 * secStrikes)
      ({ s1 with sec := { s1.sec with mismatches := l } }).setFields
        [(Reg.SYS_LS_STAT_MM24, sat 255 l.length),
         (Reg.SEC_LC_SVC_LEFT, if s1.sec.lc = lcService then
            sat 0xFFFF ((s1.sec.svcAt + s1.svcStrikes - s1.now + 60 * secStrikes - 1) / (60 * secStrikes)) else 0)]
    else s1
  match s2.sec.coldAt with
  | some t =>
    if 10 * msStrikes ≤ s2.since t then
      { s2 with sec := { s2.sec with coldAt := none }, pwr := { s2.pwr with coldDue := s2.pwr.coldDue.or (some 2) } }
    else s2
  | none => s2

end Sys2Proof.Machine
end

