-- ==== Sys2Proof/Machine/Access.lean ====
section
/-! DEFINITION. Register accesses: what a read returns, latches and windows per path, and every write with the behaviour
its register has (R361 to R364, R450, R610 to R618). -/
namespace Sys2Proof.Machine

/-! ## Addresses -/

/-- The registers of the VF status mirror ("Table — VF status mirror"). -/
def mirrorOf (off : Nat) : Option Nat :=
  let at' := fun (lo n base : Nat) => if lo ≤ off ∧ off < lo + 4 * n ∧ off % 4 = 0 then some (base + (off - lo)) else none
  (((((((at' 0x1000 1 0x0).or (at' 0x1010 2 0x10)).or (at' 0x1020 2 0x20000)).or (at' 0x1030 2 0x28030)).or
    ((if off = 0x1040 then some 0x20320 else if off = 0x1044 then some 0x20324 else if off = 0x1048 then some 0x20328
      else if off = 0x104C then some 0x2032C else none))).or (at' 0x1050 2 0x20330)).or (at' 0x1060 2 0x5008)).or
    (at' 0x1070 1 0x30048)

/-- The register of the map that an offset of a path's BAR0 reaches. -/
def resolve (p : Path) (off : Nat) : Option Nat :=
  match p with
  | .vf n => if off < 0x60 then some (0x100000 + n * 0x4000 + off) else mirrorOf off
  | _ => if 0x4000 ≤ off ∧ off < 0x4060 then some (0x100000 + (off - 0x4000)) else if off < 0x40000 then some off else none

/-- A path is there: a VF that exists, an open connection, a debug grant.
DEDUCED (log 217). -/
def State.pathThere (s : State) (p : Path) : Bool :=
  match p with
  | .pf0 => s.sys.core
  | .vf n => s.sys.core && n != 0 && s.fnExists n
  | .svc c => s.sys.core && s.hif.conns.any fun e => e.1 == c
  | .dbg => s.sys.core && s.reg Reg.SEC_DBG_LEVEL != dbgShut

/-- Base of the register in a regular array: the number of the element, where an offset hits one. -/
def inArray (a base n st : Nat) : Option Nat :=
  if base ≤ a ∧ (a - base) % st = 0 ∧ (a - base) / st < n then some ((a - base) / st) else none

/-- The function whose window holds a register, and the register's offset in it. -/
def inWindow (a : Nat) : Option (Nat × Nat) :=
  if 0x100000 ≤ a ∧ a < 0x500000 then some ((a - 0x100000) / 0x4000, (a - 0x100000) % 0x4000) else none

/-! ## Values that follow the state -/

/-- Precharge attempts of the last 600 s, as SLU_STAT shows them. -/
def State.preAttempts (s : State) : Nat := countIf (fun a => decide (s.now ≤ a + 600 * secStrikes)) s.slu.attempts

/-- Progress of the scrub pass in units of 0.01 %.
DEDUCED (log 219). -/
def State.scrubProg (s : State) : Nat :=
  if s.flag Reg.MPD_STAT_READY then min 10000 (s.since s.mpd.scrubAt * 10000 / s.scrubTime) else 0

/-- A capture entry (R350). -/
def State.capEntry (s : State) (k : Nat) : Option Capture := (s.mpd.caps.find? fun e => e.1 == k).map (·.2)

/-- A register of a function window that follows the state. -/
def State.windowFields (s : State) (fn rel : Nat) : List (Nat × Nat) :=
  if rel = 0x00 then
    let held := (s.fn fn).held.length
    [(0, bit !(s.suspended fn)), (1, bit (decide (0 < held))), (16, held)]
  else if rel = 0x14 then [(16, (s.ringsOf fn).length)]
  else if rel = 0x1C then [(0, s.reg (Reg.HIF_FN_PRIVn_PRIV fn))]
  else if rel = 0x40 then [(0, unsigned 64 (s.fn fn).ofs % 2 ^ 32)]
  else if rel = 0x44 then [(0, unsigned 64 (s.fn fn).ofs / 2 ^ 32)]
  else if rel = 0x48 then [(0, unsigned 32 (s.fn fn).rate)]
  else if rel = 0x24 then [(16, countIf (fun k => k / 1024 == fn) s.hif.cache)]
  else []

/-- A capture register. -/
def State.captureFields (s : State) (a : Nat) : List (Nat × Nat) :=
  match inArray a 0x5100 16 16, inArray a 0x5108 16 16 with
  | some k, _ => match s.capEntry k with | some c => [(0, c.turn % 2 ^ 32)] | none => []
  | none, some k => match s.capEntry k with | some c => [(0, c.code), (16, c.post), (31, 1)] | none => []
  | none, none => []

/-- Fields of a register that follow the state: lowest bit and value. -/
def State.derived (s : State) (a : Nat) : List (Nat × Nat) :=
  if a = 0x10 then [(0, s.now % 2 ^ 32)]
  else if a = 0x20000 then
    [(0, s.mode), (12, bit s.slu.weldLock), (13, bit (s.flt.active.any fun f => f.held)), (16, s.govClass),
     (20, min 3 s.preAttempts)]
  else if a = 0x20004 then [(0, s.govCode)]
  else if a = 0x30010 then [(0, unsigned 64 s.cur.acc % 2 ^ 32)]
  else if a = 0x5000 then [(1, s.reg Reg.MPD_STAT_READY), (16, min 16 s.mpd.capCount)]
  else if a = 0x5018 then [(16, s.scrubProg)]
  else if a = 0x36004 then [(21, s.evl.queue.length)]
  else if a = 0x4400 then [(16, s.hif.numVf)]
  else if a = 0x4410 then [(0, s.hif.cache.length), (16, countIf s.ctxBusy s.hif.cache)]
  else if a = 0x441C then [(0, s.hif.flumes.length)]
  else match inArray a 0x32028 3 0x400, inWindow a with
    | some c, _ => [(0, (s.canCtl c).filters.get 0 (s.reg (Reg.CAN_FLT_IDX_IDX c)))]
    | none, some (fn, rel) => s.windowFields fn rel
    | none, none => s.captureFields a

/-- The word at an address as it stands: RSV and WO bits 0 (R15). -/
def State.wordAt (s : State) (a : Nat) : Nat :=
  match regAt a with
  | none => 0
  | some r =>
    let l := s.derived a
    r.fields.foldl (fun w d =>
      if d.acc == .wo then w
      else w + (match l.find? fun e => e.1 == d.lo with
        | some e => e.2 % 2 ^ d.width
        | none => s.reg (d.at a)) * 2 ^ d.lo) 0

/-! ## Latched registers (R612) -/

/-- Seconds, seconds, nanoseconds and fraction of a time in 2^-16 ns. -/
def timeWords (t : Nat) : List Nat :=
  let ns := t / 65536
  let sec := ns / 1000000000
  [sec % 2 ^ 32, sec / 2 ^ 32 % 65536, ns % 1000000000, t % 65536]

/-- The words of a group of four registers from an address on. -/
def timeGroup (a t : Nat) : List (Nat × Nat) := (List.range 4).map fun i => (a + 4 * i, (timeWords t).getD i 0)

/-- LO registers whose only partner follows them. -/
def pairLow (a : Nat) : Bool :=
  [0x10, 0x8, 0x5008, 0x28028, 0x34014, 0x34024, 0x34030, 0x34038, 0x36008, 0x36010, 0x3601C, 0x35018].contains a
    || (inArray a 0x5100 16 16).isSome
    || (List.range 18).any fun nn => (inArray a (0x10044 + nn * 0x800) 4 16).isSome

/-- The HI word of a pair as it stands at the read of LO. -/
def State.highWord (s : State) (a : Nat) : Nat :=
  if a = 0x10 then s.now / 2 ^ 32
  else match inArray a 0x5100 16 16 with
    | some k => match s.capEntry k with | some c => c.turn / 2 ^ 32 | none => 0
    | none => s.wordAt (a + 4)

/-- What a read of a LO register takes at one instant: its own word first, then what it latches.
DEDUCED (log 218). -/
def State.loGroup (s : State) (a : Nat) : List (Nat × Nat) :=
  if pairLow a then [(a, s.wordAt a), (a + 4, s.highWord a)]
  else if a = 0x30010 then
    [(a, s.wordAt a), (0x30014, unsigned 64 s.cur.acc / 2 ^ 32), (0x30018, unsigned 10 s.cur.frac)]
  else if a = 0x3020 then timeGroup a s.clockNow
  else match inWindow a with
    | some (fn, rel) => if rel = 0x50 then timeGroup a ((s.fn fn).clientTime s.clockNow) else []
    | none => []

/-- Registers that only a read of their LO register fills.
DEDUCED (log 218). -/
def latched (a : Nat) : Bool :=
  (4 ≤ a && pairLow (a - 4)) || [0x30014, 0x30018, 0x3024, 0x3028, 0x302C].contains a
    || (inArray a 0x3208 4 32).isSome || (inArray a 0x320C 4 32).isSome || (inArray a 0x3210 4 32).isSome
    || (match inWindow a with
      | some (_, rel) => rel == 0x54 || rel == 0x58 || rel == 0x5C
      | none => false)

/-! ## The read window of the event log (R450, R612) -/

/-- The record that a path's window shows; an index beyond the count, or beyond FCOUNT in a frozen window, shows none. -/
def State.windowRecord (s : State) (p : Path) : List Nat :=
  let w := s.evl.window.get (0, 0) p.num
  let n := if s.flag Reg.EVL_STAT_FROZEN && w.2 == 1 then s.reg Reg.EVL_FRZ_FCOUNT else s.evl.slots.length
  match if w.1 < n then s.evl.slots[w.1]? else none with
  | some e => e.bytes
  | none => List.replicate 64 0

/-- The word that a read returns. -/
def State.readWord (s : State) (p : Path) (a : Nat) : Nat :=
  if latched a then s.latch.get 0 (latchKey p a)
  else if a = 0x36028 then (s.evl.window.get (0, 0) p.num).1 + (s.evl.window.get (0, 0) p.num).2 * 2 ^ 16
  else match inArray a 0x36040 16 4 with
    | some w => leAt (s.windowRecord p) (4 * w) 4
    | none => s.wordAt a

/-! ## Meanings that a register access calls -/

/-- The state after a meaning that goes on. -/
def andThen (f : State → Host.Outcome State Fault Refusal) (s : State) : State :=
  match f s with
  | .next t => t
  | _ => s

/-! ## Reads -/

/-- A read of a register by a path: the word it returns, and what it latches or takes. -/
def State.regRead (p : Path) (off : Nat) (s : State) : State :=
  match resolve p (off / 4 * 4) with
  | none => s.returns p 0
  | some a =>
    match inArray a 0x3204 4 32 with
    | some n => andThen (execTciRead p n) s
    | none =>
      match inArray a 0x320A4 3 0x400 with
      | some c => andThen (execCanMwinAccess p c none) s
      | none =>
        match s.loGroup a with
        | [] => s.returns p (s.readWord p a)
        | g :: rest =>
          let s1 := forAll rest (fun e s => s.latchFor p e.1 e.2) s
          (if g.1 = 0x3020 ∨ 0x100000 ≤ g.1 then s1.took else s1).returns p g.2

/-- LO_READ_LATCH: a read of a register; a LO register latches its partners for the reading path. -/
def execLoReadLatch (path : Path) (off : Nat) (s : State) : Host.Outcome State Fault Refusal :=
  .next (if s.pathThere path then s.regRead path off else s)

/-! ## Writes -/

/-- CAN_DISC_CFG: RBASE + 63 beyond 0x7FF is a reserved encoding (R500). -/
def State.canDiscWrite (p : Path) (a w : Nat) (s : State) : State :=
  let f : Field := ⟨a, 20, 11, 0⟩
  if 0x7C0 < bitsAt w 20 11 then (s.writeWord p a (keepField s f w)).noteBad p 1 else s.writeWord p a w

/-- A register of a CAN controller. -/
def State.canWrite (p : Path) (c rel : Nat) (w : Word) (s : State) : State :=
  let a := 0x32000 + c * 0x400 + rel
  if rel = 0x00 ∨ [0x08, 0x0C, 0x10, 0x14, 0x40, 0x50].contains rel then andThen (execCanInitWrite p c rel w) s
  else if rel = 0x20 then s.canFilterCfg p c w.toNat
  else if rel = 0x28 then andThen (execCanFilterWrite p c w) s
  else if rel = 0x48 then andThen (execCanRxAck c 0 w) s
  else if rel = 0x58 then andThen (execCanRxAck c 1 w) s
  else if rel = 0x80 then andThen (execCanTxRequest c w) s
  else if rel = 0x84 then andThen (execCanTxCancel c w none) s
  else if rel = 0xA4 then andThen (execCanMwinAccess p c (some w)) s
  else if rel = 0xD0 then s.canDiscWrite p a w.toNat
  else s.writeWord p a w.toNat

/-- A register of a function window. A LOAD or UNLOAD is the command RING_LOAD or RING_UNLOAD; another OP is reserved.
DEDUCED (log 220). -/
def State.windowWrite (p : Path) (fn rel : Nat) (w : Word) (s : State) : State :=
  if rel = 0x08 ∨ rel = 0x0C then andThen (execRctBaseWrite fn (rel == 0x0C) w) s
  else if rel = 0x10 then
    (if bitsAt w.toNat 10 2 = 1 ∨ bitsAt w.toNat 10 2 = 2 then s else s.noteBad p 1)
  else if rel = 0x4C then andThen (execClientClockApply fn w) s
  else s.writeWord p (0x100000 + fn * 0x4000 + rel) w.toNat

/-- PWR_CMD: an encoding that names no command is reserved. -/
def State.pwrCmdWrite (p : Path) (w : Nat) (s : State) : State :=
  let cmd := bitsAt w 0 4
  if 1 ≤ cmd ∧ cmd ≤ 6 then s.pwrCommand cmd p w
  else if bitsAt w 16 16 = 0xA5C3 ∧ s.powerPath p then s.noteBad p 1 else s

/-- SEC_LC_CMD: an encoding that names no state is reserved, and no transition that the table allows (R17, R556).
DEDUCED (log 226). -/
def State.lcCmdWrite (p : Path) (w : Nat) (s : State) : State :=
  let n := bitsAt w 0 3
  if 1 ≤ n ∧ n ≤ 4 then s.lcWrite n p w
  else if s.powerPath p then (s.noteBad p 1).lcRefused else s

/-- TIM_TTOk_CTRL: ARM arms; MODE off ends (R471). -/
def State.ttoCtrlWrite (p : Path) (k : Nat) (w : Word) (s : State) : State :=
  if bitAt w.toNat 3 then andThen (execTtoArm p k w) s
  else
    let s1 := s.writeWord p (Reg.TIM_TTO_CTRL_MODE k).off w.toNat
    if s1.reg (Reg.TIM_TTO_CTRL_MODE k) = 0 then s1.ttoOff k else s1

/-- UDP with a profile other than the default delay request-response profile is a reserved encoding (R466).
DEDUCED (log 221). -/
def State.ptpWrite (p : Path) (a w : Nat) (s : State) : State :=
  let prof := Reg.TIM_PTP_CFG_PROFILE
  if a = 0x3040 then
    (if bitsAt w 0 2 ≠ 0 ∧ bitsAt w 0 2 ≠ 3 ∧ [0, 1].any (fun n => s.flag (Reg.TIM_PTP_P_UDP n)) then
      (s.writeWord p a (keepField s prof w)).noteBad p 1
    else s.writeWord p a w).portStates.selectMaster
  else
    let f : Field := ⟨a, 2, 1, 0⟩
    (if bitAt w 2 && s.reg prof != 0 then (s.writeWord p a (keepField s f w)).noteBad p 1
    else s.writeWord p a w).portStates.selectMaster

/-- NET_PORTn: a port that is disabled is no port without a link (R479). -/
def State.netPortWrite (p : Path) (a w : Nat) (s : State) : State := (s.writeWord p a w).linksBack.portStates.selectMaster

/-- NET_IPn: the address is rewritten, and its port answers again (R456). -/
def State.netIpWrite (p : Path) (n a w : Nat) (s : State) : State :=
  let s1 := s.writeWord p a w
  let s2 := { s1 with net := { s1.net with conflict := s1.net.conflict.put n false } }
  if [0, 1].any fun m => s2.net.conflict.get false m then s2 else s2.goneAt 0x0F04 subjNone

/-- The window of a path. -/
def State.rdIdxWrite (p : Path) (w : Nat) (s : State) : State :=
  { s with evl := { s.evl with window := s.evl.window.put p.num (bitsAt w 0 16, bitsAt w 16 1) } }

/-- Registers of the time base and the ports. -/
def State.timWrite (p : Path) (a : Nat) (w : Word) (s : State) : State :=
  match inArray a 0x3100 4 32, inArray a 0x33000 2 0x40, inArray a 0x3300C 2 0x40 with
  | some k, _, _ => s.ttoCtrlWrite p k w
  | none, some _, _ => s.netPortWrite p a w.toNat
  | none, none, some n => s.netIpWrite p n a w.toNat
  | none, none, none =>
    if a = 0x3040 ∨ a = 0x3050 ∨ a = 0x3060 then s.ptpWrite p a w.toNat else s.writeWord p a w.toNat

/-- Registers of a bank beyond the build ignore writes but for EN (R6, R616). -/
def State.bankWrite (p : Path) (a : Nat) (w : Word) (s : State) : State :=
  let nn := (a - 0x10000) / 0x800
  if (a - 0x10000) % 0x800 = 0 then s.bnkCtrlWrite p nn w.toNat
  else if s.populated ≤ nn then s else s.writeWord p a w.toNat

/-- A write of a register of the map, with the behaviour the register has.
DEDUCED (log 252, 256). -/
def State.regWrite (p : Path) (a : Nat) (w : Word) (s : State) : State :=
  let v := w.toNat
  if govAt a then s.govWrite p a v
  else if 0x10000 ≤ a ∧ a < 0x19000 then s.bankWrite p a w
  else if 0x32000 ≤ a ∧ a < 0x32C00 then s.canWrite p ((a - 0x32000) / 0x400) ((a - 0x32000) % 0x400) w
  else if (0x3000 ≤ a ∧ a < 0x4000) ∨ (0x33000 ≤ a ∧ a < 0x34000) then s.timWrite p a w
  else if a = curCtrlAt then s.curCtrlWrite p v
  else if a = Reg.IMD_CTRL_MODE.off then s.imdCtrlWrite p v
  else if thmConfigAt a then s.thmConfigWrite p a v
  else if a = envSetpAt then s.setpointWrite p v
  else if a = 0x1004 then s.pwrCmdWrite p v
  else if a = 0x1018 then (if p = .pf0 then s.brstWrite v else s)
  else if a = 0x2004 then s.lcCmdWrite p v
  else if a = 0x200C then andThen (execDebugDrop p w) s
  else if a = 0x35010 then andThen (execHandoverRequest p w) s
  else if a = 0x36028 then s.rdIdxWrite p v
  else if a = 0x440C then andThen (execCellTableRead p w) s
  else match inArray a 0x4800 256 4, inWindow a with
    | some n, _ => andThen (execPrivWrite p n w) s
    | none, some (fn, rel) => s.windowWrite p fn rel w
    | none, none => s.writeWord p a v

/-- What the debug port may write of a word: RW fields under HALT; every other bit is as a write without effect (R575). -/
def State.debugWord (s : State) (a w : Nat) : Nat :=
  match regAt a with
  | some r => r.fields.foldl (fun x d =>
      x + (match d.acc with
        | .rw => bitsAt w d.lo d.width
        | .rwl => s.reg (d.at a)
        | _ => 0) * 2 ^ d.lo) 0
  | none => 0

/-- A register has a field of an access code. -/
def hasAccess (p : Access → Bool) (a : Nat) : Bool :=
  match regAt a with
  | some r => r.fields.any fun d => p d.acc
  | none => false

/-- A word written by a path at an offset of its BAR0; the status mirror ignores writes. -/
def State.pathWrite (p : Path) (off : Nat) (w : Word) (s : State) : State :=
  match p, resolve p off with
  | _, none => s
  | .vf _, some a => if off < 0x60 then s.regWrite p a w else s
  | .dbg, some a =>
    if s.reg Reg.SEC_DBG_LEVEL == dbgHalt && hasAccess (· == .rw) a then s.regWrite p a (BitVec.ofNat 32 (s.debugWord a w.toNat))
    else s
  | _, some a => s.regWrite p a w

/-- REGISTER_WRITE: an access of `size` bytes at an offset of a path's BAR0. A 64-bit access is two words in ascending order;
another size or alignment is ignored, with 0x0B0C (R362). -/
def execRegisterWrite (path : Path) (off size : Nat) (w : BitVec 64) (s : State) : Host.Outcome State Fault Refusal :=
  .next (if s.pathThere path && !s.deaf then
      let lo := BitVec.ofNat 32 w.toNat
      let hi := BitVec.ofNat 32 (w.toNat / 2 ^ 32)
      if size = 4 ∧ off % 4 = 0 then s.quiet.pathWrite path off lo
      else if size = 8 ∧ off % 4 = 0 then (s.quiet.pathWrite path off lo).pathWrite path (off + 4) hi
      else s.hifFault path.fn 0 0x0B0C
    else s)

end Sys2Proof.Machine
end

