-- ==== Sys2Proof/Machine/Service.lean ====
section
/-! DEFINITION. The service protocol: connections, messages, roles (R560 to R563), and the loss of a session's path
(R264). -/
namespace Sys2Proof.Machine

/-! ## Connections -/

/-- An open connection. -/
def State.svcConn? (s : State) (c : Nat) : Option SvcConn := (s.hif.conns.find? fun e => e.1 == c).map (·.2)

/-- SEC_SVC_STAT.CONN follows the connections. -/
def State.svcRegs (s : State) : State := s.setReg Reg.SEC_SVC_STAT_CONN s.hif.conns.length

/-- A connection is closed: its session ends, and its latches go. -/
def State.svcClose (c : Nat) (s : State) : State :=
  let p := Path.svc c
  let s1 := s.sessionCloseOf p
  State.svcRegs { s1 with
    latch := s1.latch.drop fun k => k / 2 ^ 23 == p.num
    readData := s1.readData.drop (· == p.num)
    evl := { s1.evl with window := s1.evl.window.drop (· == p.num) }
    hif := { s1.hif with conns := s1.hif.conns.drop (· == c) } }

/-- A port serves the protocol: PD_NET on, its address held by no other station, NET_SVC.EN (R456, R459). -/
def State.svcPort (s : State) (n : Nat) : Bool :=
  s.sys.core && s.appsRun && !s.flag Reg.PWR_STAT_WARM && s.portLive n && s.ipUp n && s.flag Reg.NET_SVC_EN

/-- TLS_CONNECT. A fifth connection and other parameters are refused at the handshake; a refused client is counted, with
0x121C at most once a second per port.
DEDUCED (log 227). -/
def execTlsConnect (c : TlsIn) (s : State) : Host.Outcome State Fault Refusal :=
  .next (if s.svcPort c.port && c.params && decide (s.hif.conns.length < 4) then
      match if s.sec.identity then s.certRole c.cert else none with
      | none => (s.addSat Reg.SEC_SVC_STAT_REJ 1).raisePaced (0x121C * 256 + c.port) 0x121C 0 subjNone []
      | some role =>
        let x : SvcConn := { role := role, port := c.port, client := c.cert.fp.take 16, lastAt := s.now }
        State.svcRegs { s with hif := { s.hif with
          conns := s.hif.conns ++ [(s.hif.connNext, x)], connNext := s.hif.connNext + 1 } }
    else s)

/-! ## Messages (R562) -/

/-- TYPE, TAG and body of a message. -/
def msgType (m : List Nat) : Nat := leAt m 0 2
def msgTag (m : List Nat) : Nat := leAt m 2 2
def msgBody (m : List Nat) : List Nat := m.drop 8

/-- A message is whole, of a type, with a body of a length. -/
def msgOk (m : List Nat) (type len : Nat) : Bool :=
  msgType m == type && leAt m 4 4 == len && (msgBody m).length == len

/-- A message arrives on a connection: the connection is not idle; one that is not well formed closes it. -/
def State.onMessage (c : Nat) (ok : Bool) (f : SvcConn → State → State) (s : State) : State :=
  match s.svcConn? c with
  | none => s
  | some x =>
    if !s.appsRun then s
    else if ok then
      f x { s.quiet with hif := { s.quiet.hif with conns := s.hif.conns.put c { x with lastAt := s.now } } }
    else s.svcClose c

/-- Commands by opcode. -/
def catalogue : List CmdSpec :=
  [cmdNop, cmdSetpoint, cmdHostInput, cmdCapture, cmdSnapCert, cmdSnapModel, cmdRestoreCert, cmdRestoreModel,
   cmdModelStart, cmdConnect, cmdOpen, cmdReset, cmdSessionOpen, cmdSessionClose, cmdPasswordSet, cmdKeySet, cmdWeldClear,
   cmdClogRoll, cmdTableLoad, cmdCellRefresh, cmdEvlogMark, cmdEvlogFreeze, cmdEvlogRelease, cmdFlumeOpen, cmdFlumeClose,
   cmdFlumeStat, cmdHopEject, cmdHopAdmit, cmdEvlogClear, cmdFwStage, cmdFwActivate]

/-- Bytes that follow an entry: what its opcode would read from host memory. -/
def inlineLen (entry : List Nat) : Nat :=
  if leAt entry 0 2 = 0x64 then leAt entry 12 4 else if leAt entry 0 2 = 0xA0 then leAt entry 16 4 else 0

/-- A command of a connection is served under its role; an opcode the catalogue does not hold completes with BADOPC. -/
def State.svcCommand (c : Nat) (m : List Nat) (s : State) : State :=
  let entry := (msgBody m).take 64
  let ref : CmdRef := { svc := some c, fn := 0, ring := msgTag m, cid := leAt entry 4 4, head := 0, irq := false }
  let x : CmdCtx := { ref := ref, entry := entry, data := some ((msgBody m).drop 64) }
  match catalogue.find? fun k => k.opc == leAt entry 0 2 with
  | some k => s.serve k x
  | none => s.complete ref (.no stBadOpc)

/-- SERVICE_COMMAND: a COMMAND message. -/
def execServiceCommand (conn : Nat) (msg : List Nat) (s : State) : Host.Outcome State Fault Refusal :=
  .next (s.onMessage conn (msgOk msg 1 (64 + inlineLen (msgBody msg))) fun _ s => s.svcCommand conn msg)

/-- A REG_RESULT message. -/
def State.regResult (c : Nat) (m : List Nat) (off val status : Nat) (s : State) : State :=
  s.svcSend c (leBytes 2 5 ++ leBytes 2 (msgTag m) ++ leBytes 4 12 ++ leBytes 4 off ++ leBytes 4 val ++ leBytes 4 status)

/-- SERVICE_REG_READ: a REG_READ message, which every role admits. -/
def execServiceRegRead (conn : Nat) (msg : List Nat) (s : State) : Host.Outcome State Fault Refusal :=
  .next (s.onMessage conn (msgOk msg 3 4) fun _ s =>
    let off := leAt (msgBody msg) 0 4
    let t := s.regRead (.svc conn) off
    t.regResult conn msg off (t.readData.get 0 (Path.svc conn).num) 0)

/-- Registers that REG_WRITE reaches in the role Service: those with RW or RWL fields, PWR_CMD, TDM_CMD, SEC_LC_CMD (R556)
and SEC_DBG_CTRL (R581); an offset without a register has no effect to refuse.
DEDUCED (log 223, 225). -/
def svcWritable (off : Nat) : Bool :=
  match resolve (.svc 0) off with
  | none => true
  | some a => [0x1004, 0x35010, 0x2004, 0x200C].contains a || (regAt a).isNone || hasAccess (fun x => x == .rw || x == .rwl) a

/-- SERVICE_REG_WRITE: a REG_WRITE message; status 1 where the role does not admit the write (R563).
DEDUCED (log 222). -/
def execServiceRegWrite (conn : Nat) (msg : List Nat) (s : State) : Host.Outcome State Fault Refusal :=
  .next (s.onMessage conn (msgOk msg 4 8) fun x s =>
    let off := leAt (msgBody msg) 0 4
    let val := leAt (msgBody msg) 4 4
    if x.role = 2 ∧ svcWritable off then
      let t := if off % 4 = 0 then s.pathWrite (.svc conn) off (BitVec.ofNat 32 val) else s.hifFault 0 0 0x0B0C
      t.regResult conn msg off val 0
    else s.regResult conn msg off val 1)

/-- SERVICE_IDLE_CLOSE: no message for 900 s. -/
def execServiceIdleClose (conn : Nat) (s : State) : Host.Outcome State Fault Refusal :=
  .next (match s.svcConn? conn with
    | some x => if 900 * secStrikes ≤ s.since x.lastAt then s.svcClose conn else s
    | none => s)

/-- SESSION_PATH_LOST: a TLS connection is closed from outside, or the link of PF0 is down (R264). -/
def execSessionPathLost (path : Path) (s : State) : Host.Outcome State Fault Refusal :=
  .next (match path with
    | .svc c => if (s.svcConn? c).isSome then s.svcClose c else s
    | .pf0 => if s.linkUp then s else s.sessionCloseOf .pf0
    | _ => s)

end Sys2Proof.Machine
end

