-- ==== Sys2Proof/Machine/Turn.lean ====
section
/-! DEFINITION. The turn monitor: self-checks, deadlines, the heartbeat and the length of the turn (R34 to R40). -/
namespace Sys2Proof.Machine

/-- Strikes run and the lockstep pair works. -/
def State.pairWorks (s : State) : Bool := s.clockSet && s.sys.core && !s.deaf && !s.sec.halted.contains 0

/-- The self-check set in hand is not complete within 250 turns of the strike 0 at which it began: class 2, once, at the
strike 0 that ends them (R36).
DEDUCED (log 26). -/
def State.chkLapse (s : State) : State :=
  if s.sys.chkBegin ≠ 0 ∧ 250 + (s.sys.chkBegin - 1) ≤ s.turn ∧ !s.sys.chkLate then
    State.raise 0x0125 2 subjNone [] { s with sys := { s.sys with chkLate := true } }
  else s

/-- The self-check set after a slice: after the last one the next set begins with the slice due next, at the strike 0 of the
next turn (R36). A set holds at most 200 slices.
DEDUCED (log 26). -/
def State.chkNext (last : Bool) (s : State) : State :=
  let full := last || decide (199 ≤ s.sys.chkDone)
  { s with sys := { s.sys with
    chkBegin := if full then s.turn + 2 else if s.sys.chkBegin = 0 then s.turn + 1 else s.sys.chkBegin
    chkDone := if full then 0 else s.sys.chkDone + 1, chkLate := s.sys.chkLate && !full } }

/-- CHK: a slice in strikes 30 and 31.
DEDUCED (log 26). -/
def execChk (r : ChkIn) (s : State) : Host.Outcome State Fault Refusal :=
  .next (if s.pairWorks && s.taskMay 5 30 31 && s.power != pwStandstill then
      let s1 := (s.taskDone 5).chkNext r.last
      let g := s.sec.group % 64
      let s2 := ({ s1 with sec := { s1.sec with group := (g + 1) % 64 } }).setReg Reg.SYS_LS_STAT_GROUP g
      let s3 := if r.groupOk then s2 else s2.raise 0x0152 3 subjNone []
      forAll (r.badSlots.filter (· < 8)) State.slotBad s3
    else s)

/-! ## Deadline misses (R35 to R38, R478) -/

/-- A miss of a turn task: its report bits, and its outputs of the turn are no longer expected. -/
def State.missed (task : Nat) (s : State) : State :=
  let n := s.sys.miss.get 0 task + 1
  let s0 := s.runNoted task
  let s1 := { s0 with sys := { s0.sys with miss := s0.sys.miss.put task n, done := task :: s0.sys.done } }
  ((s1.setBit Reg.SYS_TMON_STAT_MISS task true).setBit Reg.SYS_TMON_STAT_STALE task true).setReg
    Reg.SYS_TMON_STAT_LAST_TASK task

/-- Raises a code at a class, class 0 as a record only. -/
def State.raiseCls (code cls subj : Nat) (s : State) : State :=
  if cls = 0 then s.note code subj [] else s.raise code cls subj []

/-- What the discarded outputs of a task leave behind. SUP stopped makes an orderly opening an emergency one (R219).
DEDUCED (log 229). -/
def State.missEffect (task : Nat) (s : State) : State :=
  match task with
  | 0 => if s.ramping || s.slu.seq == .posOpen || s.slu.seq == .negDelay then s.emergencyOpen false 0x0120 else s
  | 1 => s.mestMissed
  | 3 => { s with bal := { s.bal with next := [] } }
  | 4 => { s with tdm := { s.tdm with image := [] } }
  | 5 => { s with sys := { s.sys with chkBegin := if s.sys.chkBegin = 0 then s.turn + 1 else s.sys.chkBegin } }
  | 6 => { s with sio := { s.sio with conns := s.sio.conns.map fun (e : Nat × TgConn) => (e.1, { e.2 with ready := [] }) } }
  | _ => s

/-- Class of the n-th consecutive miss of a task ("Table — Deadline faults and reactions"). -/
def missClass (task n : Nat) : Nat :=
  match task with
  | 0 => if 2 ≤ n then 3 else 1
  | 1 => if 16 ≤ n then 1 else 0
  | 2 => if 2 ≤ n then 2 else 1
  | 3 => if 8 ≤ n then 1 else 0
  | 4 => if 4 ≤ n then 1 else 0
  | 5 => 0
  | _ => 3

/-- Last strike of the window of a task of the phase budget.
DEDUCED (log 24). -/
def deadlineOf (task : Nat) : Nat := (windowOf task).2

/-- The phase of a task runs in the power state in force (R531).
DEDUCED (log 23). -/
def State.phaseRuns (s : State) (task : Nat) : Bool :=
  match task with
  | 0 => s.power != pwBrake && s.power != pwStandstill
  | 1 => s.vecOn
  | 2 => decide (s.power ≤ pwTrim)
  | 3 => s.inRun
  | 4 => s.runOrTrim || (s.power == pwStart && s.paired)
  | _ => s.power != pwStandstill

/-- The processor of a task is not halted (R578).
DEDUCED (log 23). -/
def State.notHalted (s : State) (task : Nat) : Bool := !s.sec.halted.any fun p => (tasksOf p).contains task

/-- A miss of a task of the phase budget.
DEDUCED (log 23, 229). -/
def State.taskMiss (task : Nat) (s : State) : State :=
  if s.phase = deadlineOf task ∧ !s.sys.done.contains task ∧ s.phaseRuns task ∧ s.notHalted task ∧ s.clockSet ∧ !s.deaf then
    let s1 := s.missed task
    (s1.missEffect task).raiseCls (0x0120 + task) (missClass task (s1.sys.miss.get 0 task)) subjNone
  else s

/-- The miss of a task; at the end of strike 19, where MEST and SEV are decided at one instant, that of MEST is recorded first
(R38).
DEDUCED (log 23, 229). -/
def State.turnMiss (task : Nat) (s : State) : State := (if task = 6 then s.taskMiss 1 else s).taskMiss task

/-- Turns since the latest fit of a position, or since the entry to RUN.
DEDUCED (log 27). -/
def State.unfitted (s : State) (g : Nat) : Nat :=
  match s.est.firstRun with
  | some t => s.turn - max (s.sys.fitAt.get 0 g) (t / 32)
  | none => 0

/-- FIT of a position: class 0 after 60 000 turns, class 1 after 600 000 (R36).
DEDUCED (log 27). -/
def State.fitMiss (g : Nat) (s : State) : State :=
  let was := s.sys.fitLate.get 0 g
  let now := if 600000 ≤ s.unfitted g then 2 else if 60000 ≤ s.unfitted g then 1 else 0
  if s.vecOn && s.flag Reg.EST_MDL_CTRL_ZEN && s.served g && decide (was < now) then
    let n := s.sys.miss.get 0 7 + 1
    let s1 := { s with sys := { s.sys with fitLate := s.sys.fitLate.put g now, miss := s.sys.miss.put 7 n } }
    let s2 := ((s1.setBit Reg.SYS_TMON_STAT_MISS 7 true).setBit Reg.SYS_TMON_STAT_STALE 7 true).setReg
      Reg.SYS_TMON_STAT_LAST_TASK 7
    s2.raiseCls 0x0127 (now - 1) (subjPos g)
  else s

/-- Codes of the application-core tasks, task 8 first: ring service, entry writer, PTP service, telegram forwarding, alarm
and discovery frames (R391, R478, R502). -/
def appCodes : List Nat := [0x0B10, 0x0B11, 0x0D10, 0x0F10, 0x0E10]

/-- A miss of an application-core task: class 1 at 1 000 consecutive turns. -/
def State.appTaskMiss (code : Nat) (s : State) : State :=
  let e := s.sys.appMiss.get (0, 0) code
  let n := if e.1 = 0 then 1 else if e.2 = s.turn then e.1 else if e.2 + 1 = s.turn then e.1 + 1 else 1
  ({ s with sys := { s.sys with appMiss := s.sys.appMiss.put code (n, s.turn) } }).raiseCls code
    (if 1000 ≤ n then 1 else 0) subjNone

/-- DEADLINE_MISS: a task has not finished at its deadline; `g` is the position of FIT (7). Tasks 8 to 12 are those of the
application cores.
DEDUCED (log 24). -/
def execDeadlineMiss (task g : Nat) (s : State) : Host.Outcome State Fault Refusal :=
  .next (if task < 7 then s.turnMiss task
    else if task = 7 then s.fitMiss g
    else match appCodes[task - 8]? with
      | some code =>
        if s.clockSet && s.sys.core && !s.deaf && s.power != pwStandstill
            && !(s.sec.halted.any fun p => decide (1 ≤ p) && decide (p ≤ 4)) then s.appTaskMiss code
        else s
      | none => s)

/-! ## Heartbeat and length of the turn (R39) -/

/-- HEARTBEAT_MISSING: two turns in a row without a heartbeat. The hardware path opens, and the claim drops (R505).
DEDUCED (log 25). -/
def execHeartbeatMissing (s : State) : Host.Outcome State Fault Refusal :=
  .next (if decide (2 ≤ s.sys.noBeat) && !s.inEffect 0x0129 && s.notHalted 0 then
      ((s.setFlag Reg.SYS_TMON_STAT_HBFLT true).raiseAs true 0x0129 3 subjNone true []).dropClaim true
    else s)

/-- Strike 0: the turn that ended is judged, and the tasks of the new one are due. Heartbeats are due in every turn, while the
pair runs (R39, R578). -/
def State.turnMonitor (turnNs : Nat) (s : State) : State :=
  let whole := decide (32 ≤ s.since s.sys.first)
  let counts := !s.deaf && s.notHalted 0 && whole
  let s1 := { s with sys := { s.sys with
    noBeat := if counts then (if s.sys.beat then 0 else s.sys.noBeat + 1) else 0, beat := false, done := [] } }
  let s2 := doIf (s1.notHalted 5 && !s1.deaf) State.chkLapse s1
  if (turnNs < 950000 ∨ 1050000 < turnNs) ∧ whole then
    (s2.setFlag Reg.SYS_TMON_STAT_CLKFLT true).raise 0x0128 3 subjNone []
  else s2

end Sys2Proof.Machine
end

