-- ==== Sys2Proof/Machine/Supervision.lean ====
section
/-! DEFINITION. Supervision: the tests of SUP, clearing, and the requests SUP acts on (R210 to R215, R226 to R229, R397). -/
namespace Sys2Proof.Machine

/-! ## Turn means and absences (R210, R226) -/

/-- The turn gives a mean (R210). -/
def PosTurn.hasMean (t : PosTurn) : Bool := decide (8 ≤ t.n)
/-- The mean of the turn is at or above, at or below, a voltage in µV. -/
def PosTurn.atLeast (t : PosTurn) (v : Int) : Bool := decide (v * t.n ≤ t.sum)
def PosTurn.atMost (t : PosTurn) (v : Int) : Bool := decide (t.sum ≤ v * t.n)

/-- What a SUP finds of the condition of a fault in effect: it is absent under the hysteresis, or it is not (R226). -/
def State.judge (gone : Bool) (code subj : Nat) (s : State) : State :=
  if gone then s.goneAt code subj else s.mapFault code subj fun f => { f with absent := none }

/-- Hysteresis of voltage tests: 10 mV, in µV. -/
def voltGap : Int := 10000

/-! ## Tests of positions (R212) -/

/-- The runs of the tests on turn means. -/
def State.meanRuns (g : Nat) (s : State) : State :=
  let t := s.lastTurn g
  if t.hasMean then
    { s with slu := { s.slu with
        ovw := runStep (t.atLeast (s.thrUv Reg.SLU_VTH_A_OVW)) s.slu.ovw g
        ovs := runStep (t.atLeast (s.thrUv Reg.SLU_VTH_A_OVS)) s.slu.ovs g
        uvw := runStep (t.atMost (s.thrUv Reg.SLU_VTH_C_UVW)) s.slu.uvw g
        uvs := runStep (t.atMost (s.thrUv Reg.SLU_VTH_C_UVS)) s.slu.uvs g, noMean := s.slu.noMean.put g 0 } }
  else { s with slu := { s.slu with noMean := runStep (s.served g) s.slu.noMean g } }

/-- Absence of the faults of a position: of tests on means, of tests on fine samples, of comparator tests.
DEDUCED (log 231, 232, 237). -/
def State.positionAbsences (g : Nat) (s : State) : State :=
  let t := s.lastTurn g
  let subj := subjPos g
  let s1 := if t.hasMean then
      (((s.judge (t.atMost (s.thrUv Reg.SLU_VTH_A_OVW - voltGap)) 0x0710 subj).judge
        (t.atMost (s.thrUv Reg.SLU_VTH_A_OVS - voltGap)) 0x0711 subj).judge
        (t.atLeast (s.thrUv Reg.SLU_VTH_C_UVW + voltGap)) 0x0712 subj).judge
        (t.atLeast (s.thrUv Reg.SLU_VTH_C_UVS + voltGap)) 0x0713 subj
    else s
  let s2 := s1.judge (t.hasMean || !s.served g) 0x070D subj
  let s3 := (s2.judge (t.n == 0 || decide (t.hi ≤ s.thrUv Reg.SLU_VTH_B_OVF - voltGap)) 0x0701 subj).judge
    (t.n == 0 || decide (s.thrUv Reg.SLU_VTH_D_UVF + voltGap ≤ t.lo)) 0x0702 subj
  let c := s.slu.cmpPrev.get (0, 0) g
  (s3.judge (c.1 == 0) 0x0703 subj).judge (c.2 == 0) 0x0704 subj

/-- The SOC tests, on the certified interval; absent 5 000 ppm on the safe side (R213, R226). -/
def State.socLow (s : State) (g : Nat) : Bool := decide ((s.estPos g).lo ≤ ((s.thr Reg.SLU_SOC_SOCL * 1000 : Nat) : Rat))
def State.socHigh (s : State) (g : Nat) : Bool := decide (((s.thr Reg.SLU_SOC_SOCH * 1000 : Nat) : Rat) ≤ (s.estPos g).hi)
/-- DEDUCED (log 237). -/
def State.socAbsences (g : Nat) (s : State) : State :=
  let p := s.estPos g
  (s.judge (decide (((s.thr Reg.SLU_SOC_SOCL * 1000 + 5000 : Nat) : Rat) ≤ p.lo)) 0x0720 (subjPos g)).judge
    (decide (p.hi + 5000 ≤ ((s.thr Reg.SLU_SOC_SOCH * 1000 : Nat) : Rat))) 0x0721 (subjPos g)

/-! ## Tests of the string (R212, R213) -/

/-- The bounds of 0x0714 and 0x0715 in 0.1 mA: 1.05 times the 2 s limit, plus 5 A.
DEDUCED (log 233). -/
def envBound (d : EnvDir) : Rat := d.l.getD 2 0 * 10500 + 50000

/-- The mean selected current of the turn that ended, 0.1 mA, 0 without a strike. -/
def State.meanI (s : State) : Rat := if s.lastI.1 = 0 then 0 else (s.lastI.2 : Rat) / (s.lastI.1 : Rat)

/-- The turn mean of VSTR in mV is at or above, at or below, a voltage in V. -/
def State.vstrAtLeast (s : State) (v : Nat) : Bool := decide (((v * 1000 * s.lastV.1 : Nat) : Int) ≤ s.lastV.2)
def State.vstrAtMost (s : State) (v : Nat) : Bool := decide (s.lastV.2 ≤ ((v * 1000 * s.lastV.1 : Nat) : Int))

/-- The test of 0x0717 applies. -/
def State.vminOn (s : State) : Bool := s.thr Reg.SLU_VSTR_VMIN != 0 && s.conn == connClosed

/-- The runs of the string tests.
DEDUCED (log 233). -/
def State.stringRuns (s : State) : State :=
  let i := s.meanI
  let s1 := if s.env.dis.l = [] ∨ s.lastI.1 = 0 then s
    else { s with slu := { s.slu with
      env14 := runNext (decide (envBound s.env.dis < i)) s.slu.env14
      env15 := runNext (decide (i < -envBound s.env.chg)) s.slu.env15 } }
  let s2 := if s.lastV.1 = 0 then s1
    else { s1 with slu := { s1.slu with
      vmax := runNext (s.vstrAtLeast (s.thr Reg.SLU_VSTR_VMAX)) s1.slu.vmax
      vmin := runNext (s.vminOn && s.vstrAtMost (s.thr Reg.SLU_VSTR_VMIN)) s1.slu.vmin } }
  if s.vminOn then s2 else { s2 with slu := { s2.slu with vmin := 0 } }

/-- Absence of the faults of the string.
DEDUCED (log 232). -/
def State.stringAbsences (s : State) : State :=
  let i := s.meanI
  let s1 := if s.lastI.1 = 0 then s
    else
      let hw := fun (f : Field) => (((s.thr f * 10000 : Nat) : Rat) * 95 / 100)
      (((s.judge (decide (i ≤ envBound s.env.dis * 95 / 100)) 0x0714 subjNone).judge
        (decide (-(envBound s.env.chg * 95 / 100) ≤ i)) 0x0715 subjNone).judge
        (decide (i ≤ hw Reg.SLU_ITH_B_OCD_HW)) 0x0707 subjNone).judge
        (decide (-(hw Reg.SLU_ITH_B_OCC_HW) ≤ i)) 0x0708 subjNone
  let s2 := (s1.judge (!s.slu.fastPrev.1) 0x0705 subjNone).judge (!s.slu.fastPrev.2) 0x0706 subjNone
  let n : Int := s.lastV.1
  let s3 := if n = 0 then s2
    else s2.judge (decide (s.lastV.2 ≤ ((s.thr Reg.SLU_VSTR_VMAX * 1000 : Nat) - 10) * n)) 0x0716 subjNone
  if n = 0 ∧ s.vminOn then s3
  else s3.judge (!s.vminOn || decide (((s.thr Reg.SLU_VSTR_VMIN * 1000 + 10 : Nat) : Int) * n ≤ s.lastV.2)) 0x0717 subjNone

/-- More than 32 frames of a source missing in the last 1 000 turns.
DEDUCED (log 234). -/
def State.missedMany (s : State) (src : Nat) : Bool :=
  decide (32 < countIf (fun (e : Nat × Nat) => e.1 == src && decide (s.turn < e.2 + 1000)) s.slu.missed)

/-- The subject of a source of frames. -/
def subjSource (src : Nat) : Nat := if src = curNo then subjNone else subjBank src

/-! ## Tests of temperatures (R212, R213) -/

/-- A limit of Sluice on temperature. -/
def State.thrT (s : State) (f : Field) : Int := signed 16 (s.thr f)

/-- The rise of an input at its present conversion: VALUE less the lowest of its earlier conversions within 10 s.
DEDUCED (log 235). -/
def riseOf (v : Int) (hist : List (Nat × Int)) : Int :=
  match hist with
  | [] => 0
  | e :: r => v - r.foldl (fun a x => min a x.2) e.2

/-- A conversion of an input: its runs, then the absence of its faults, 2 K on the safe side.
DEDUCED (log 235, 236). -/
def State.tempTests (j : Nat) (s : State) : State :=
  let hot := s.tempValue j
  let cold := s.tempLow j
  let u := s.slu
  let past := (u.hist.get [] j).filter fun e => decide (s.turn ≤ e.1 + 10000)
  let rise := riseOf hot past
  let ror : Int := s.thr Reg.SLU_TTH_B_ROR * 10
  let s1 := { s with slu := { u with
    otw := runStep (decide (s.thrT Reg.SLU_TTH_A_OTW ≤ hot)) u.otw j
    ots := runStep (decide (s.thrT Reg.SLU_TTH_A_OTS ≤ hot)) u.ots j
    ote := runStep (decide (s.thrT Reg.SLU_TTH_B_OTE ≤ hot)) u.ote j
    utc := runStep (decide (cold ≤ s.thrT Reg.SLU_TTH_C_UTC)) u.utc j
    utd := runStep (decide (cold ≤ s.thrT Reg.SLU_TTH_C_UTD)) u.utd j
    ror := runStep (decide (ror ≤ rise)) u.ror j, hist := u.hist.put j ((s.turn, hot) :: past) } }
  let subj := subjTemp j
  (((((s1.judge (decide (hot ≤ s.thrT Reg.SLU_TTH_A_OTW - 200)) 0x0718 subj).judge
    (decide (hot ≤ s.thrT Reg.SLU_TTH_A_OTS - 200)) 0x0719 subj).judge
    (decide (hot ≤ s.thrT Reg.SLU_TTH_B_OTE - 200)) 0x071A subj).judge
    (decide (s.thrT Reg.SLU_TTH_C_UTC + 200 ≤ cold)) 0x071B subj).judge
    (decide (s.thrT Reg.SLU_TTH_C_UTD + 200 ≤ cold)) 0x071C subj).judge (decide (rise ≤ ror - 200)) 0x071D subj

/-- One input in SUP: test conversions take no part.
DEDUCED (log 236). -/
def State.tempSup (j : Nat) (s : State) : State :=
  let t := s.temp j
  if s.tempFitted j && t.new && !t.t then s.tempTests j else s

/-! ## The tests of a SUP -/

/-- Every supervision test of a turn, made while a threshold set is in force (R211, R212). -/
def State.supTests (s : State) : State :=
  if s.slu.cfg then
    let s1 := forAll s.allPositions (fun g s => (s.meanRuns g).positionAbsences g) s
    let s2 := forAll s.servedAll State.socAbsences s1.stringRuns.stringAbsences
    let s3 := forEach (List.range 19) (fun src s => s.judge (!s.missedMany src) 0x070C (subjSource src)) s2
    forAll ((List.range 584).filter sluiceInput) State.tempSup s3
  else s

/-- Persistence, from a run kept by the number a subject names. -/
def runOf (t : Tab Nat) (need : Nat) : Option Nat → Bool
  | some k => decide (need ≤ t.get 0 k)
  | none => false

/-- The temperature input a subject names. -/
def tempOfSubj (subj : Nat) : Option Nat :=
  if 0x30000000 ≤ subj ∧ subj < 0x30000000 + 584 then some (subj - 0x30000000) else none

/-- A supervision test has held for its persistence (R212).
DEDUCED (log 230). -/
def State.supTestMet (s : State) (code subj : Nat) : Bool :=
  let pos := posOfSubj subj
  let tmp := tempOfSubj subj
  let none_ := subj == subjNone
  match code with
  | 0x070C => (List.range 19).any fun src => subj == subjSource src && s.missedMany src
  | 0x070D => runOf s.slu.noMean 64 pos
  | 0x0710 => runOf s.slu.ovw 10 pos
  | 0x0711 => runOf s.slu.ovs 4 pos
  | 0x0712 => runOf s.slu.uvw 10 pos
  | 0x0713 => runOf s.slu.uvs 10 pos
  | 0x0714 => none_ && decide (50 ≤ s.slu.env14)
  | 0x0715 => none_ && decide (50 ≤ s.slu.env15)
  | 0x0716 => none_ && decide (4 ≤ s.slu.vmax)
  | 0x0717 => none_ && decide (10 ≤ s.slu.vmin)
  | 0x0718 => runOf s.slu.otw 2 tmp
  | 0x0719 => runOf s.slu.ots 2 tmp
  | 0x071A => runOf s.slu.ote 2 tmp
  | 0x071B => runOf s.slu.utc 2 tmp
  | 0x071C => runOf s.slu.utd 2 tmp
  | 0x071D => runOf s.slu.ror 2 tmp
  | 0x0720 => match pos with | some g => s.served g && s.socLow g | none => false
  | 0x0721 => match pos with | some g => s.served g && s.socHigh g | none => false
  | _ => false

/-- Class of a supervision test ("Table — Protection thresholds"). -/
def supTestClass (code : Nat) : Nat :=
  if [0x070C, 0x0710, 0x0712, 0x0718].contains code then 1
  else if [0x071B, 0x071C, 0x0720, 0x0721].contains code then 2 else 3

/-- SUPERVISION_TEST_MET, at the end of a SUP: the fault is latched with its class, and opens in the kind of its code (R212,
R219).
DEDUCED (log 230). -/
def execSupervisionTestMet (code subj : Nat) (s : State) : Host.Outcome State Fault Refusal :=
  .next (if s.slu.cfg && s.pairWorks && s.supRuns && s.sys.done.contains 0 && s.supTestMet code subj
        && !s.present code subj then
      s.raiseLevel code (supTestClass code) subj []
    else s)

/-! ## Clearing and requests (R215, R226 to R229, R251, R397) -/

/-- The event behind a fault of event type still lasts: frames are still missing, a contact still reads as it should not,
current still flows after the opening (R226).
DEDUCED (log 231). -/
def State.eventLasts (s : State) (f : Active) : Bool :=
  match f.code with
  | 0x0709 => s.sendsFrames (sourceOfSubj f.subj) && decide (0 < s.slu.missRun.get 0 (sourceOfSubj f.subj))
  | 0x070A => s.curFlows && decide (0 < s.slu.missRun.get 0 curNo)
  | 0x0722 => [0, 1, 2].any s.staysOpen
  | 0x0723 => [0, 1, 2].any s.staysClosed
  | 0x0725 => s.flowsAfterOpen
  | _ => false

/-- The condition of a fault is absent as a SUP finds it: an event-type cause once its event has passed, from the turn after its
raise (R226).
DEDUCED (log 231). -/
def State.absentNow (s : State) (f : Active) : Bool :=
  f.absent.isSome && (!f.event || (decide (f.turn < s.turn) && !s.eventLasts f))

/-- Class 1 faults whose condition is absent clear (R226). -/
def State.clearing1 (s : State) : List Active := s.flt.active.filter fun f => f.cls == 1 && s.absentNow f
def State.clearClass1 (s : State) : State := forAll s.clearing1 State.clearFault s

/-- A latched fault that a reset request clears (R228, R229).
DEDUCED (log 238). -/
def State.resettable (s : State) (privileged : Bool) (f : Active) : Bool :=
  s.absentNow f && ((f.cls == 3 && (!f.held || privileged)) || (f.cls == 4 && privileged))

/-- A request's command completes.
DEDUCED (log 238). -/
def State.answer (y : Reply) (r : Req) (s : State) : State :=
  match r.cmd with
  | some c => s.complete c y
  | none => s

/-- The reset requests of a SUP act as one, and each of them is kept; `n`: faults that the SUP has cleared before (R228, R251).
DESIGN CHOICE (log 286). -/
def State.actResets (n : Nat) (l : List Req) (s0 : State) : State :=
  let s := if l = [] then s0 else { s0 with slu := { s0.slu with acted := l } }
  if l = [] then s
  else if s.conn = connOpen then
    let gone := s.flt.active.filter (s.resettable (l.any (·.privileged)))
    forAll l (State.answer (.ok (n + gone.length))) (forAll gone State.clearFault s)
  else forAll l (fun r s => (s.note 0x072D subjNone []).answer (.refused 0x072D) r) s

/-- The opening of an open request and of an isolation; an opening decided before the release ends a handover (R219, R523). -/
def State.partString (s : State) : State :=
  if s.conn = connClosed ∨ (s.conn = connPrecharge ∧ s.slu.seq ≠ .abandon) then (s.hoStop false).orderlyOpen else s

/-- The open requests of a SUP: RESULT is CONN at the decision. -/
def State.actOpens (l : List Req) (s : State) : State :=
  if l = [] then s
  else
    let s1 := s.partString
    forAll l (State.answer (.ok s1.conn)) s1

/-- Conditions of R215 but the last.
DEDUCED (log 241). -/
def State.mayConnect (s : State) : Bool :=
  s.token && (s.mode == modeNormal || s.mode == modeDerated) && s.conn == connOpen && s.allOpen && s.inRun
    && !s.flag Reg.TDM_STAT_HO

/-- Precharge attempts of the last 600 s. -/
def State.attemptsNow (s : State) : Nat := countIf (fun a => decide (s.since a < 600 * secStrikes)) s.slu.attempts

/-- A connection starts: the reference of the weld tests is latched (R216).
DEDUCED (log 240). -/
def State.connectStart (s : State) : State :=
  let s1 := ((s.setConn connPrecharge).inhibit true).toSeq .w1Close
  { s1 with slu := { s1.slu with
      refV := s.slu.gapV, refI := s.cur.held } }

/-- One connect request; `alone`: no open and no reset request is acted on in the SUP (R215, R397).
DEDUCED (log 239). -/
def State.actConnect (alone : Bool) (r : Req) (s : State) : State :=
  if alone && s.mayConnect then
    if s.attemptsNow < 3 then s.connectStart.answer (.ok (s.turn % 2 ^ 48)) r
    else (s.raise 0x0728 1 subjNone []).answer (.refused 0x0728) r
  else (s.note 0x072A subjNone []).answer (.refused 0x072A) r

/-- The requests that wait: reset, then open, then connect (R397). -/
def State.actRequests (n : Nat) (s : State) : State :=
  let l := s.slu.reqs
  let resets := l.filter (·.kind == .reset)
  let opens := l.filter (·.kind == .openString)
  let s1 := { s with slu := { s.slu with reqs := [] } }
  forAll (l.filter (·.kind == .connect)) (State.actConnect (resets == [] && opens == []))
    ((s1.actResets n resets).actOpens opens)

/-! ## SUP -/

/-- The decisions of the hardware path are written (R208, R231).
DEDUCED (log 22). -/
def State.writeHwRecords (s : State) : State :=
  forAll s.flt.hwRecords (fun r s => s.record r) { s with flt := { s.flt with hwRecords := [] } }

/-- The module in ISOLATED with the string closed, or closing, opens it (R219, R235). -/
def State.isolate (s : State) : State := if s.mode = modeIsolated then s.partString else s

/-- A new HALT grant releases the claim (R578).
DEDUCED (log 211). -/
def State.haltRelease (s : State) : State :=
  if s.sec.release then
    let s1 : State := s.dropClaim false
    { s1 with sec := { s1.sec with release := false }, tdm := { s1.tdm with decided := false } }
  else s

/-- What a completed SUP does. -/
def State.supRun (s : State) : State :=
  let s1 := (s.writeHwRecords.pathCompare).estSup
  let s2 := (forEach (List.range 8) State.siEvaluate s1).supTests
  ((((s2.clearClass1).actRequests s2.clearing1.length).isolate.hoSup).pwrSup).haltRelease

/-- SUP, strikes 0 to 3, in START, RUN, TRIM and the entry to STANDSTILL (R32, R152, R531); `e`: what its reads of the
Millpond find. -/
def execSup (e : EccIn) (s : State) : Host.Outcome State Fault Refusal :=
  .next (if s.taskMay 0 0 3 && s.supRuns && s.pairWorks && s.phaseRuns 0 then ((s.ecc e).supRun).taskDone 0 else s)

end Sys2Proof.Machine
end

