-- ==== Sys2Proof/Machine/Commit.lean ====
section
/-! DEFINITION. The commit of a session (R66, R234, R265 to R267, R556, R622). -/
namespace Sys2Proof.Machine

/-- A branch that no layout names. -/
def Layout.blank : Layout := { fitted := false, chem := 0, first := 0, count := 0, cap := 0, serial := 0 }

/-- The layout of a bank with NPOS positions is valid (R66). -/
def layoutBankOk (t : Tab Layout) (nn npos : Nat) : Bool :=
  let l := fun k => t.get Layout.blank (nn * 4 + k)
  let n := countIf (fun k => (l k).fitted) (List.range 4)
  decide (0 < n) && (List.range n).all (fun k => (l k).fitted) && (l 0).first == 0
    && (range 1 n).all (fun k => (l k).first == (l (k - 1)).first + (l (k - 1)).count)
    && (l (n - 1)).first + (l (n - 1)).count == npos

/-- A commissioning layout is valid for every enabled bank; another one is refused.
DEDUCED (log 242). -/
def State.layoutOk (s : State) (t : Tab Layout) : Bool :=
  bankNos.all fun nn => !s.flag (Reg.BNK_CTRL_EN nn) || layoutBankOk t nn (s.reg (Reg.BNK_CTRL_NPOS nn))

/-- A failover set lists at most 32 codes of the blocks that R234 allows.
DEDUCED (log 242). -/
def failoverOk (l : List Nat) : Bool :=
  decide (l.length ≤ 32) && l.all fun c =>
    ([0x01, 0x02, 0x03, 0x0A, 0x10] : List Nat).contains (c / 256) || (decide (0x0401 ≤ c) && decide (c ≤ 0x0404))

/-- The new copy of the safety configuration; `salt`: that of a new password.
DEDUCED (log 242). -/
def State.newConfig (c : CommitIn) (x : Session) (salt : List Nat) (s : State) : SafetyConfig :=
  let old := s.auth.committed
  { old with
    fields := s.rwlFields
    tables := x.tables.foldl (fun (t : Tab TableBytes) (e : Nat × TableBytes) => t.put e.1 e.2) old.tables
    layout := match c.layout with | some l => if s.layoutOk l then l else old.layout | none => old.layout
    failover := match c.failover with | some l => if failoverOk l then l else old.failover | none => old.failover
    salt := if x.password.isSome then salt else old.salt
    tag := match x.password with | some pw => Config.argon2 salt pw | none => old.tag
    key := x.key.or old.key, hasThr := s.slu.cfg }

/-- A committed table comes into use (R127, R162, R327).
DEDUCED (log 245). -/
def State.tableCommitted (e : Nat × TableBytes) (s : State) : State :=
  if e.1 < 8 then s.beginBuild e.1 e.2
  else if e.1 < 16 then { s with env := { s.env with mapNext := s.env.mapNext.put (e.1 - 8) e.2 } }
  else { s with thm := { s.thm with curves := s.thm.curves.put (e.1 - 16) (curveOf e.2) } }

/-- Conditions of the transition to FIELD from COMMISSION (R556). -/
def State.fieldReady (s : State) : Bool :=
  s.sec.pwChanged && s.anchorSet && s.auth.committed.key.isSome && s.slu.cfg
    && bankNos.any fun nn => s.flag (Reg.BNK_CTRL_EN nn)

/-- The lifecycle transition of the session takes effect, or is refused. -/
def State.lcCommit (s : State) : State :=
  match s.sec.lcNext with
  | none => s
  | some n =>
    if s.sec.lc = lcCommission ∧ n = lcField ∧ !s.fieldReady then
      State.lcRefused { s with sec := { s.sec with lcNext := none } }
    else s.setLifecycle n

/-- The pointer is switched: the configuration is committed, its tables come into use, the lifecycle moves.
DEDUCED (log 244). -/
def State.commitSwitch (c : CommitIn) (x : Session) (s : State) : State :=
  let salt := (Config.random s.free).take 16
  let cfg := s.newConfig c x salt
  let s0 := if x.password.isSome then s.took else s
  let s1 := { s0 with
    auth := { s0.auth with committed := cfg, commit := none }
    slu := { s0.slu with failover := cfg.failover }
    sec := { s0.sec with pwChanged := s0.sec.pwChanged || x.password.isSome } }
  ((forAll x.tables State.tableCommitted s1).secRegs).lcCommit

/-- The CLOSE entry, 0x1205 and the completion of SESSION_CLOSE.
DEDUCED (log 244). -/
def State.commitClose (x : Session) (s : State) : State :=
  let crc := configCrc s.auth.committed
  let r := bit s.auth.refused
  let s1 := { s with auth := { s.auth with crcAfter := crc, closeCmd := none, refused := false } }
  let s2 := ((s1.clogWrite { x.entry 0x07 with crcAfter := crc, cflags := r }).saRegs).note 0x1205 subjNone []
  match s.auth.closeCmd with
  | some d => s2.complete d (.ok (crc + r * 2 ^ 32))
  | none => s2

/-- The threshold set of the close is judged, and no RWL write of the session waits in the Governor's queue (R211, R265).
DEDUCED (log 243). -/
def State.commitReady (s : State) : Bool := s.slu.thrNext.isNone && s.gov.queue.all fun e => e.rwl.isNone

/-- SESSION_COMMIT_COMPLETE.
DEDUCED (log 13). -/
def execSessionCommitComplete (c : CommitIn) (s : State) : Host.Outcome State Fault Refusal :=
  .next (match s.auth.commit with
    | some (x, _) => if s.commitReady && s.pairWorks then (s.commitSwitch c x).commitClose x else s
    | none => s)

end Sys2Proof.Machine
end

