-- ==== Sys2Proof/Machine/Strike.lean ====
section
/-! DEFINITION. STRIKE: everything a strike brings about, in the order of R27 and of "What each step holds". -/
namespace Sys2Proof.Machine

/-! ## Strike 0 of a turn -/

/-- Cell entries read since the last turn come into use (R189). -/
def State.cellsTurn (s : State) : State :=
  { s with
    mdl := { s.mdl with cells := s.hif.cellNext.foldl (fun (t : Tab (List Nat)) (e : Nat × List Nat) => t.put e.1 e.2) s.mdl.cells }
    hif := { s.hif with cellNext := [] } }

/-- What takes effect at strike 0, before the words of the strike. -/
def State.turnStart (i : StrikeIn) (s : State) : State :=
  let s1 := ((((s.turnMonitor i.turnNs).minuteStart).sluTurnStart).estTurnStart).tgTurnStart
  let s2 := ((((s1.cellsTurn.blocksBegin).imdTurn).bankCommands).handoverEnv).envTurnStart
  let s3 := doIf (!s2.flag Reg.PWR_STAT_PF) State.hopTurnStart s2
  ((s3.loopTurn.ageTurn).govLoad).setReg Reg.MPD_STAT_YLD (i.yld % 64 / 2 * 2)

/-! ## Banks and CUR -/

/-- A bank of which nothing comes at a strike.
DESIGN CHOICE (log 31). -/
def BankIn.absent (nn : Nat) : BankIn :=
  { bank := nn, onTime := false, strikeNo := 0, err := [], v := [], check := 0, cmpUnder := 0, cmpOver := 0, pres := 0
    relayFb := false, roundTrip := none, exA := 0, exB := 0, bleedA := 0, bleedB := 0, pulseA := 0, pulseB := 0, sig := 0
    cmpOk := false, dacErr := [], temps := [], sens0 := 0, sens1 := 0, shutI := 0, busI := 0
    shutFb := none }

/-- What comes of every bank.
DESIGN CHOICE (log 31). -/
def StrikeIn.whole (i : StrikeIn) : StrikeIn :=
  { i with banks := bankNos.map fun nn => (i.banks.find? fun b => b.bank == nn).getD (BankIn.absent nn) }

/-- One bank at a strike: its words, what the hardware path makes of them, its checks and its balancing; the words of its
positions are collected by global number. The words are formed before the slot of the strike is judged, so D for a tap
confirmed open starts with the words of the next strike (R80).
DESIGN CHOICE (log 283). -/
def strikeBank (b : BankIn) (a : State × Tab Nat) : State × Tab Nat :=
  let s1 := a.1.bankStrikeHead b
  let w := s1.frameWords b (s1.frameOk b)
  let s2 := (s1.hwBank b w).bankStrikeTail b w
  ((s2.checksStrike b w).balStrike b, a.2 ++ (s1.positions b.bank).map fun p => (globalPos b.bank p, w.getD p 0))

/-- CUR at a strike (R107 to R117, R209). -/
def State.strikeCur (c : CurIn) (s : State) : State :=
  let s1 := s.curStrikeHead c
  (s1.curStrikeTail c (s1.curWords c)).hwCurrent c

/-! ## Records (R343, R344, R411, R424) -/

/-- The missing bits of a strike: every enabled bank, and CUR, whose frame was not accepted; the bit of a disabled bank is 0
(R28, R343).
DEDUCED (log 30). -/
def State.missBits (s : State) (i : StrikeIn) : Nat :=
  let m := i.banks.foldl (fun a b => putBit a b.bank ((s.bank b.bank).en && !s.frameOk b)) 0
  putBit m 18 (!s.curOk i.cur)

/-- The strike record. -/
def State.strikeRec (s : State) (words : Tab Nat) (miss : Nat) : StrikeRec :=
  { strike := s.now, words := words, cur := s.cur.words, miss := miss, sel := s.reg Reg.CUR_STAT_SEL, iSel := s.cur.held
    acc := s.cur.acc, frac := s.cur.frac, used := s.slu.used, bound := s.cur.boundSq, bound1 := s.strikeBound (!bitAt miss 18) ^ 2
    tones := s.reg Reg.EST_DITH_TONE }

/-- The records of the turn in hand with the present one, newest first. -/
def State.turnRecs (s : State) (r : StrikeRec) : List StrikeRec :=
  (r :: ((s.mpd.late.map (·.1)).reverse ++ s.mpd.recs.take 32)).filter fun e => e.strike / 32 == s.turn

/-- The code of a bank in the bank table of a packed turn (R424). -/
def State.bankWord (s : State) (nn : Nat) : Nat :=
  let b := s.bank nn
  let w := (s.check nn).wireFrom
  b.fc + bit b.survey * 8 + bit (w != 0 && decide (w ≤ s.turn * 32 + 1)) * 16 + bit b.en * 32 + b.npos * 64

/-- The string block (R411).
DEDUCED (log 248). -/
def State.stringBlock (l : List StrikeRec) (s : State) : List Nat :=
  leBytes 8 (unsigned 64 s.cur.acc) ++ leBytes 4 (unsigned 32 (meanOf (currentSum l) 1))
    ++ leBytes 4 (unsigned 32 (meanOf (channelSum wVstr l) 1)) ++ leBytes 4 (unsigned 32 (meanOf (channelSum wVbus l) 1))
    ++ leBytes 4 (s.reg Reg.EST_MINSOC_SOC) ++ leBytes 4 (s.reg Reg.EST_MAXSOC_SOC)
    ++ leBytes 2 (s.reg Reg.ENV_LIM_D1_INF) ++ leBytes 2 (s.reg Reg.ENV_LIM_C1_INF)
    ++ [s.mode + 16 * s.conn, s.govClass] ++ leBytes 2 s.govCode
    ++ leBytes 4 ((l.map fun r => bitsSet 19 r.miss).foldl (· + ·) 0) ++ leBytes 4 (s.storedWord Reg.IMD_RESULT_RISO.off)
    ++ List.replicate 4 0

/-- The turn record, at strike 31. The accumulator before strike 0 is that of the turn's oldest record less its charge.
DESIGN CHOICE (log 116); DEDUCED (log 249). -/
def State.turnRec (r : StrikeRec) (s : State) : TurnRec :=
  let l := s.turnRecs r
  let o := l.getLastD r
  let q := o.acc * 320 + o.frac - o.iSel
  let last := s.mpd.caps.get { turn := 0, code := 0, cls := 0, post := 0 } ((s.mpd.capCount + 15) % 16)
  let served := s.servedAll
  { turn := s.turn, captured := s.mpd.capCount != 0 && last.turn == s.turn
    chkLast := bankNos.map fun nn => s.storedWord (Reg.BNK_CHK_LAST_DIFF nn).off
    unfit := (List.range 584).filter fun j => !s.tempFitted j
    ts := served.map fun g => (g, s.coreTs g)
    temps := ((List.range 584).filter fun j => s.tempFitted j && (s.temp j).new).map fun j => (j, s.tempWord j)
    acc0 := q.tdiv 320, frac0 := q.tmod 320, banks := bankNos.map s.bankWord
    cert := served.map fun g => (g, ((s.estPos g).lo.floor.toNat, (s.estPos g).hi.ceil.toNat))
    block := s.stringBlock l }

/-! ## The strike -/

/-- What follows the words of the strike: temperatures, Sluice, inputs, the estimator's bounds, the ports, the clock.
DESIGN CHOICE (log 12). -/
def State.strikeUnits (i : StrikeIn) (s : State) : State :=
  let s1 := (((s.thermalStrike i).sluStrike i.coilBad).sioStrike i).estStrike (s.curOk i.cur)
  let s2 := ((((s1.lockStrike).setpLatch).envFall).loopStrike i.loopI).readyStrike.ttoStrike.netStrike
  doIf (s2.now % secStrikes == 0) State.clockSecond s2

/-- The intake takes the record, and at strike 31 that of the turn; the Governor and the summary of the minute follow.
DESIGN CHOICE (log 12). -/
def State.strikeWrite (i : StrikeIn) (r : StrikeRec) (s : State) : State :=
  let s1 := { s with slu := { s.slu with used := [] } }.intake i.commitLate r (if s.phase = 31 then some (s.turnRec r) else none)
  let s2 := (s1.governor i r).minuteStrike r
  doIf (s2.phase == 31) State.minuteTurn s2

/-- Everything after the words of the strike.
DESIGN CHOICE (log 12). -/
def State.strikeRest (i : StrikeIn) (words : Tab Nat) (s : State) : State :=
  let t := s.strikeUnits i
  t.strikeWrite i (t.strikeRec words (s.missBits i))

/-- A strike of the module: the frames that have come are received first.
DESIGN CHOICE (log 12); DEDUCED (log 250). -/
def State.strikeRun (i : StrikeIn) (s : State) : State :=
  let s0 : State := { s with sys := { s.sys with strike := (s.sys.strike + 1) % 2 ^ 64 } }
  let s1 := (s0.pwrStrike i).secStrike
  let s2 := doIf (s1.phase == 0) (State.turnStart i) s1
  let s3 : State := if s2.flag Reg.PWR_STAT_WARM then s2 else { s2 with sys := { s2.sys with alive := s2.now } }
  let s4 := s3.tdmStrike
  let r := { i with banks := i.banks.map s4.received, cur := s4.curReceived i.cur }
  let a := forAll r.banks strikeBank (s4, [])
  (a.1.strikeCur r.cur).strikeRest r a.2

/-- STRIKE, once the hardware clock holds a set time, while CORE is powered (R21, R27, R462).
DESIGN CHOICE (log 2); DEDUCED (log 135). -/
def execStrike (i : StrikeIn) (s : State) : Host.Outcome State Fault Refusal :=
  .next (if s.clockSet && s.sys.core then s.strikeRun i.whole else s)

end Sys2Proof.Machine
end

