-- ==== Sys2Proof/Machine/Dispatch.lean ====
section
/-! DEFINITION. One arm per command: a direct call of its meaning. -/
namespace Sys2Proof.Machine

def exec (i : Instr) (s : State) : Host.Outcome State Fault Refusal :=
  match i with
  | .strike x => Sys2Proof.Machine.execStrike x s
  | .intakeCommitLate => Sys2Proof.Machine.execIntakeCommitLate s
  | .sup e => Sys2Proof.Machine.execSup e s
  | .mest => Sys2Proof.Machine.execMest s
  | .sev => Sys2Proof.Machine.execSev s
  | .env => Sys2Proof.Machine.execEnv s
  | .bal => Sys2Proof.Machine.execBal s
  | .img => Sys2Proof.Machine.execImg s
  | .chk r => Sys2Proof.Machine.execChk r s
  | .fit => Sys2Proof.Machine.execFit s
  | .deadlineMiss task g => Sys2Proof.Machine.execDeadlineMiss task g s
  | .heartbeatMissing => Sys2Proof.Machine.execHeartbeatMissing s
  | .keepaliveTimeout nn => Sys2Proof.Machine.execKeepaliveTimeout nn s
  | .bnkCtrlWrite path nn w => Sys2Proof.Machine.execBnkCtrlWrite path nn w s
  | .bankConfigApply => Sys2Proof.Machine.execBankConfigApply s
  | .filterChangeApply => Sys2Proof.Machine.execFilterChangeApply s
  | .bankDiscovery nn => Sys2Proof.Machine.execBankDiscovery nn s
  | .laneLock nn r => Sys2Proof.Machine.execLaneLock nn r s
  | .trayIdCheck nn k bytes => Sys2Proof.Machine.execTrayIdCheck nn k bytes s
  | .surveyCheck nn => Sys2Proof.Machine.execSurveyCheck nn s
  | .normalRangeCheck nn p => Sys2Proof.Machine.execNormalRangeCheck nn p s
  | .bankRelease nn => Sys2Proof.Machine.execBankRelease nn s
  | .alignmentLost nn => Sys2Proof.Machine.execAlignmentLost nn s
  | .alignmentRegained nn => Sys2Proof.Machine.execAlignmentRegained nn s
  | .branchLost nn k => Sys2Proof.Machine.execBranchLost nn k s
  | .branchReturn nn k bytes => Sys2Proof.Machine.execBranchReturn nn k bytes s
  | .relayFeedbackFault nn => Sys2Proof.Machine.execRelayFeedbackFault nn s
  | .checkDwellEnd nn => Sys2Proof.Machine.execCheckDwellEnd nn s
  | .frozenWord nn p => Sys2Proof.Machine.execFrozenWord nn p s
  | .checkCoverageLapse nn p => Sys2Proof.Machine.execCheckCoverageLapse nn p s
  | .comparatorImplausible nn p => Sys2Proof.Machine.execComparatorImplausible nn p s
  | .hallSupplyFault => Sys2Proof.Machine.execHallSupplyFault s
  | .curCtrlWrite path w => Sys2Proof.Machine.execCurCtrlWrite path w s
  | .imdPeriodEnd r => Sys2Proof.Machine.execImdPeriodEnd r s
  | .imdSelfTest => Sys2Proof.Machine.execImdSelfTest s
  | .imdRelayFault feedback ms => Sys2Proof.Machine.execImdRelayFault feedback ms s
  | .thmConfigWrite path off w => Sys2Proof.Machine.execThmConfigWrite path off w s
  | .dieSensorImplausible k => Sys2Proof.Machine.execDieSensorImplausible k s
  | .dieWarning => Sys2Proof.Machine.execDieWarning s
  | .dieCooled => Sys2Proof.Machine.execDieCooled s
  | .dieShutdown => Sys2Proof.Machine.execDieShutdown s
  | .bankWarning nn k => Sys2Proof.Machine.execBankWarning nn k s
  | .bankShutdown nn k => Sys2Proof.Machine.execBankShutdown nn k s
  | .dieHoldRelease hottest => Sys2Proof.Machine.execDieHoldRelease hottest s
  | .outletRiseAlarm => Sys2Proof.Machine.execOutletRiseAlarm s
  | .tableBuildComplete k => Sys2Proof.Machine.execTableBuildComplete k s
  | .generationSwitch => Sys2Proof.Machine.execGenerationSwitch s
  | .snapshotPeriodic => Sys2Proof.Machine.execSnapshotPeriodic s
  | .snapshotDeliver => Sys2Proof.Machine.execSnapshotDeliver s
  | .snapshotDiscard => Sys2Proof.Machine.execSnapshotDiscard s
  | .restoreWindowClose => Sys2Proof.Machine.execRestoreWindowClose s
  | .vecResume => Sys2Proof.Machine.execVecResume s
  | .impedanceBlockEnd k => Sys2Proof.Machine.execImpedanceBlockEnd k s
  | .platingBumpEnd g => Sys2Proof.Machine.execPlatingBumpEnd g s
  | .advisoryRequest crcOk => Sys2Proof.Machine.execAdvisoryRequest crcOk s
  | .advisoryPersist kind g => Sys2Proof.Machine.execAdvisoryPersist kind g s
  | .hwTestMet code subj => Sys2Proof.Machine.execHwTestMet code subj s
  | .supervisionTestMet code subj => Sys2Proof.Machine.execSupervisionTestMet code subj s
  | .thresholdSetApply => Sys2Proof.Machine.execThresholdSetApply s
  | .contactFeedbackChange k closed => Sys2Proof.Machine.execContactFeedbackChange k closed s
  | .weldTestJudge => Sys2Proof.Machine.execWeldTestJudge s
  | .prechargeComplete => Sys2Proof.Machine.execPrechargeComplete s
  | .prechargeTimeout => Sys2Proof.Machine.execPrechargeTimeout s
  | .prechargeOvercurrent => Sys2Proof.Machine.execPrechargeOvercurrent s
  | .overlapElapsed => Sys2Proof.Machine.execOverlapElapsed s
  | .feedbackCloseTimeout k => Sys2Proof.Machine.execFeedbackCloseTimeout k s
  | .feedbackOpenTimeout k => Sys2Proof.Machine.execFeedbackOpenTimeout k s
  | .openCurrentLow => Sys2Proof.Machine.execOpenCurrentLow s
  | .kNegDelayEnd => Sys2Proof.Machine.execKNegDelayEnd s
  | .orderlyTimeout => Sys2Proof.Machine.execOrderlyTimeout s
  | .breakerPulseEnd => Sys2Proof.Machine.execBreakerPulseEnd s
  | .coilCircuitFault k => Sys2Proof.Machine.execCoilCircuitFault k s
  | .class2Clear code subj => Sys2Proof.Machine.execClass2Clear code subj s
  | .siLevelChange n ch => Sys2Proof.Machine.execSiLevelChange n ch s
  | .siDiscrepancy n => Sys2Proof.Machine.execSiDiscrepancy n s
  | .testPulse tp turn => Sys2Proof.Machine.execTestPulse tp turn s
  | .tpReadbackFault tp => Sys2Proof.Machine.execTpReadbackFault tp s
  | .isoHoldEnd n => Sys2Proof.Machine.execIsoHoldEnd n s
  | .srstEdge => Sys2Proof.Machine.execSrstEdge s
  | .srstHeld => Sys2Proof.Machine.execSrstHeld s
  | .srstChatterEnd => Sys2Proof.Machine.execSrstChatterEnd s
  | .telegramSend k => Sys2Proof.Machine.execTelegramSend k s
  | .telegramReceive k port bytes => Sys2Proof.Machine.execTelegramReceive k port bytes s
  | .telegramSkewExpiry k => Sys2Proof.Machine.execTelegramSkewExpiry k s
  | .telegramTimeout k => Sys2Proof.Machine.execTelegramTimeout k s
  | .sessionIdleTimeout => Sys2Proof.Machine.execSessionIdleTimeout s
  | .sessionPathLost path => Sys2Proof.Machine.execSessionPathLost path s
  | .sessionCommitComplete c => Sys2Proof.Machine.execSessionCommitComplete c s
  | .passwordLockoutEnd => Sys2Proof.Machine.execPasswordLockoutEnd s
  | .shuttleChange nn => Sys2Proof.Machine.execShuttleChange nn s
  | .quietPeriodEnd => Sys2Proof.Machine.execQuietPeriodEnd s
  | .dissipationExcess => Sys2Proof.Machine.execDissipationExcess s
  | .bleedNonconvergence g => Sys2Proof.Machine.execBleedNonconvergence g s
  | .shuttleFault nn code => Sys2Proof.Machine.execShuttleFault nn code s
  | .govWrite path off w => Sys2Proof.Machine.execGovWrite path off w s
  | .slotFail n => Sys2Proof.Machine.execSlotFail n s
  | .slotFailExit n => Sys2Proof.Machine.execSlotFailExit n s
  | .setpointReadbackFault => Sys2Proof.Machine.execSetpointReadbackFault s
  | .aoutReadbackFault => Sys2Proof.Machine.execAoutReadbackFault s
  | .actReadbackFault k => Sys2Proof.Machine.execActReadbackFault k s
  | .analogRangeChange => Sys2Proof.Machine.execAnalogRangeChange s
  | .rangeChangeComplete => Sys2Proof.Machine.execRangeChangeComplete s
  | .setpointWrite path w => Sys2Proof.Machine.execSetpointWrite path w s
  | .setpointTimeout => Sys2Proof.Machine.execSetpointTimeout s
  | .envelopeStale => Sys2Proof.Machine.execEnvelopeStale s
  | .readerOverrun reader => Sys2Proof.Machine.execReaderOverrun reader s
  | .scrubPass e => Sys2Proof.Machine.execScrubPass e s
  | .millpondReady readA readB => Sys2Proof.Machine.execMillpondReady readA readB s
  | .linkUp gen width => Sys2Proof.Machine.execLinkUp gen width s
  | .linkDown => Sys2Proof.Machine.execLinkDown s
  | .perstAssert => Sys2Proof.Machine.execPerstAssert s
  | .perstDeassert => Sys2Proof.Machine.execPerstDeassert s
  | .functionLevelReset fn => Sys2Proof.Machine.execFunctionLevelReset fn s
  | .functionPowerChange fn d0 bme pmeEn clear => Sys2Proof.Machine.execFunctionPowerChange fn d0 bme pmeEn clear s
  | .heldEntryFlush fn => Sys2Proof.Machine.execHeldEntryFlush fn s
  | .holdTimeout fn => Sys2Proof.Machine.execHoldTimeout fn s
  | .pmeTurnOff => Sys2Proof.Machine.execPmeTurnOff s
  | .pmeResend fn => Sys2Proof.Machine.execPmeResend fn s
  | .ringLoad fn r ctx => Sys2Proof.Machine.execRingLoad fn r ctx s
  | .ringUnload fn r late => Sys2Proof.Machine.execRingUnload fn r late s
  | .rctBaseWrite fn hi w => Sys2Proof.Machine.execRctBaseWrite fn hi w s
  | .privWrite path n w => Sys2Proof.Machine.execPrivWrite path n w s
  | .doorbell fn r lo hi => Sys2Proof.Machine.execDoorbell fn r lo hi s
  | .entryWrite fn r => Sys2Proof.Machine.execEntryWrite fn r s
  | .modtimeExpiry fn r => Sys2Proof.Machine.execModtimeExpiry fn r s
  | .hostReadTimeout fn r => Sys2Proof.Machine.execHostReadTimeout fn r s
  | .cellTableRead path w => Sys2Proof.Machine.execCellTableRead path w s
  | .cellTableReadDone data => Sys2Proof.Machine.execCellTableReadDone data s
  | .nopCmd c => Sys2Proof.Machine.execNopCmd c s
  | .flumeOpen c => Sys2Proof.Machine.execFlumeOpen c s
  | .flumeClose c => Sys2Proof.Machine.execFlumeClose c s
  | .flumeStat c => Sys2Proof.Machine.execFlumeStat c s
  | .flumeRecord fn r desc e bad => Sys2Proof.Machine.execFlumeRecord fn r desc e bad s
  | .flumeFlush fn r => Sys2Proof.Machine.execFlumeFlush fn r s
  | .flumeEnd fn r desc => Sys2Proof.Machine.execFlumeEnd fn r desc s
  | .setpoint c => Sys2Proof.Machine.execSetpoint c s
  | .hostInput c => Sys2Proof.Machine.execHostInput c s
  | .capture c => Sys2Proof.Machine.execCapture c s
  | .snapCert c => Sys2Proof.Machine.execSnapCert c s
  | .snapModel c => Sys2Proof.Machine.execSnapModel c s
  | .restoreCert c => Sys2Proof.Machine.execRestoreCert c s
  | .restoreModel c => Sys2Proof.Machine.execRestoreModel c s
  | .modelStart c => Sys2Proof.Machine.execModelStart c s
  | .connectReq c => Sys2Proof.Machine.execConnectReq c s
  | .openReq c => Sys2Proof.Machine.execOpenReq c s
  | .resetReq c => Sys2Proof.Machine.execResetReq c s
  | .weldClear c => Sys2Proof.Machine.execWeldClear c s
  | .sessionOpen c => Sys2Proof.Machine.execSessionOpen c s
  | .sessionClose c => Sys2Proof.Machine.execSessionClose c s
  | .passwordSet c => Sys2Proof.Machine.execPasswordSet c s
  | .keySet c => Sys2Proof.Machine.execKeySet c s
  | .tableLoad c => Sys2Proof.Machine.execTableLoad c s
  | .clogRoll c => Sys2Proof.Machine.execClogRoll c s
  | .cellRefresh c => Sys2Proof.Machine.execCellRefresh c s
  | .evlogMark c => Sys2Proof.Machine.execEvlogMark c s
  | .evlogFreeze c => Sys2Proof.Machine.execEvlogFreeze c s
  | .evlogRelease c => Sys2Proof.Machine.execEvlogRelease c s
  | .evlogClear c => Sys2Proof.Machine.execEvlogClear c s
  | .hopEject c => Sys2Proof.Machine.execHopEject c s
  | .hopAdmit c => Sys2Proof.Machine.execHopAdmit c s
  | .fwStage c => Sys2Proof.Machine.execFwStage c s
  | .fwActivate c => Sys2Proof.Machine.execFwActivate c s
  | .liveUpdateTimeout => Sys2Proof.Machine.execLiveUpdateTimeout s
  | .chunkClose => Sys2Proof.Machine.execChunkClose s
  | .chunkCommit k wear => Sys2Proof.Machine.execChunkCommit k wear s
  | .gapChunk => Sys2Proof.Machine.execGapChunk s
  | .minuteRecord => Sys2Proof.Machine.execMinuteRecord s
  | .recordAreaCopy => Sys2Proof.Machine.execRecordAreaCopy s
  | .hourSeal => Sys2Proof.Machine.execHourSeal s
  | .cartridgeInsert k c readable => Sys2Proof.Machine.execCartridgeInsert k c readable s
  | .cartridgeRemoved k => Sys2Proof.Machine.execCartridgeRemoved k s
  | .cartridgeFailed k wear => Sys2Proof.Machine.execCartridgeFailed k wear s
  | .resyncComplete k => Sys2Proof.Machine.execResyncComplete k s
  | .ejectComplete k => Sys2Proof.Machine.execEjectComplete k s
  | .eventRecordCommit => Sys2Proof.Machine.execEventRecordCommit s
  | .foldClose => Sys2Proof.Machine.execFoldClose s
  | .freezeTimeout => Sys2Proof.Machine.execFreezeTimeout s
  | .ethFrameReceive port f => Sys2Proof.Machine.execEthFrameReceive port f s
  | .ethLinkChange port up g1 => Sys2Proof.Machine.execEthLinkChange port up g1 s
  | .ptpAnnounce a => Sys2Proof.Machine.execPtpAnnounce a s
  | .ptpSync x => Sys2Proof.Machine.execPtpSync x s
  | .acqWaitExpiry aon => Sys2Proof.Machine.execAcqWaitExpiry aon s
  | .masterLost => Sys2Proof.Machine.execMasterLost s
  | .holdoverExpiry => Sys2Proof.Machine.execHoldoverExpiry s
  | .clientClockApply fn w => Sys2Proof.Machine.execClientClockApply fn w s
  | .ttoArm path k w => Sys2Proof.Machine.execTtoArm path k w s
  | .ttoPulse k => Sys2Proof.Machine.execTtoPulse k s
  | .tciEdge n rising part => Sys2Proof.Machine.execTciEdge n rising part s
  | .tciRead path n => Sys2Proof.Machine.execTciRead path n s
  | .intervalTimeout k => Sys2Proof.Machine.execIntervalTimeout k s
  | .canInitWrite path c rel w => Sys2Proof.Machine.execCanInitWrite path c rel w s
  | .canFrameReceive c f => Sys2Proof.Machine.execCanFrameReceive c f s
  | .canRxAck c j w => Sys2Proof.Machine.execCanRxAck c j w s
  | .canTxRequest c w => Sys2Proof.Machine.execCanTxRequest c w s
  | .canTxCancel c w sof => Sys2Proof.Machine.execCanTxCancel c w sof s
  | .canTxComplete c sof loop => Sys2Proof.Machine.execCanTxComplete c sof loop s
  | .canTefAck c w => Sys2Proof.Machine.execCanTefAck c w s
  | .canMwinAccess path c w => Sys2Proof.Machine.execCanMwinAccess path c w s
  | .canFilterWrite path c w => Sys2Proof.Machine.execCanFilterWrite path c w s
  | .canFilterSwap c => Sys2Proof.Machine.execCanFilterSwap c s
  | .canReferenceMessage c => Sys2Proof.Machine.execCanReferenceMessage c s
  | .referenceWithdraw c => Sys2Proof.Machine.execReferenceWithdraw c s
  | .discoveryRequest c => Sys2Proof.Machine.execDiscoveryRequest c s
  | .canBusOff c => Sys2Proof.Machine.execCanBusOff c s
  | .canBusOffRecovery c => Sys2Proof.Machine.execCanBusOffRecovery c s
  | .keepFrameReceive k => Sys2Proof.Machine.execKeepFrameReceive k s
  | .millraceLinkDown => Sys2Proof.Machine.execMillraceLinkDown s
  | .helloReceive h => Sys2Proof.Machine.execHelloReceive h s
  | .imageReceive bytes whole => Sys2Proof.Machine.execImageReceive bytes whole s
  | .imageAgeAlarm => Sys2Proof.Machine.execImageAgeAlarm s
  | .roleDecide pref => Sys2Proof.Machine.execRoleDecide pref s
  | .tokenClaim => Sys2Proof.Machine.execTokenClaim s
  | .claimBackoffEnd => Sys2Proof.Machine.execClaimBackoffEnd s
  | .claimDrop hw => Sys2Proof.Machine.execClaimDrop hw s
  | .loopFaultBand => Sys2Proof.Machine.execLoopFaultBand s
  | .loopDisagree => Sys2Proof.Machine.execLoopDisagree s
  | .handoverRequest path w => Sys2Proof.Machine.execHandoverRequest path w s
  | .handoverTimeout => Sys2Proof.Machine.execHandoverTimeout s
  | .failoverTake => Sys2Proof.Machine.execFailoverTake s
  | .partnerNotReady => Sys2Proof.Machine.execPartnerNotReady s
  | .powerOnReset cycle ohms => Sys2Proof.Machine.execPowerOnReset cycle ohms s
  | .coldReset ohms => Sys2Proof.Machine.execColdReset ohms s
  | .startSequence r => Sys2Proof.Machine.execStartSequence r s
  | .runEntry => Sys2Proof.Machine.execRunEntry s
  | .startTimeout => Sys2Proof.Machine.execStartTimeout s
  | .warmReset => Sys2Proof.Machine.execWarmReset s
  | .warmResetComplete estOk => Sys2Proof.Machine.execWarmResetComplete estOk s
  | .warmResetOverrun => Sys2Proof.Machine.execWarmResetOverrun s
  | .blockReset path w => Sys2Proof.Machine.execBlockReset path w s
  | .blockResetTimeout k => Sys2Proof.Machine.execBlockResetTimeout k s
  | .pwrCmdRun path w => Sys2Proof.Machine.execPwrCmdRun path w s
  | .pwrCmdTrim path w => Sys2Proof.Machine.execPwrCmdTrim path w s
  | .pwrCmdStandstill path w => Sys2Proof.Machine.execPwrCmdStandstill path w s
  | .pwrCmdWarm path w => Sys2Proof.Machine.execPwrCmdWarm path w s
  | .pwrCmdCold path w => Sys2Proof.Machine.execPwrCmdCold path w s
  | .pwrCmdRetry path w => Sys2Proof.Machine.execPwrCmdRetry path w s
  | .standstillEntry relays => Sys2Proof.Machine.execStandstillEntry relays s
  | .wake key level => Sys2Proof.Machine.execWake key level s
  | .powerFail => Sys2Proof.Machine.execPowerFail s
  | .auxInputLow k => Sys2Proof.Machine.execAuxInputLow k s
  | .holdupTest tenths => Sys2Proof.Machine.execHoldupTest tenths s
  | .coilSupplyLow => Sys2Proof.Machine.execCoilSupplyLow s
  | .lcCommission path w => Sys2Proof.Machine.execLcCommission path w s
  | .lcField path w => Sys2Proof.Machine.execLcField path w s
  | .lcService path w => Sys2Proof.Machine.execLcService path w s
  | .lcRetired path w => Sys2Proof.Machine.execLcRetired path w s
  | .serviceTimeout => Sys2Proof.Machine.execServiceTimeout s
  | .tlsConnect c => Sys2Proof.Machine.execTlsConnect c s
  | .serviceCommand conn msg => Sys2Proof.Machine.execServiceCommand conn msg s
  | .serviceRegRead conn msg => Sys2Proof.Machine.execServiceRegRead conn msg s
  | .serviceRegWrite conn msg => Sys2Proof.Machine.execServiceRegWrite conn msg s
  | .serviceIdleClose conn => Sys2Proof.Machine.execServiceIdleClose conn s
  | .debugChallenge r => Sys2Proof.Machine.execDebugChallenge r s
  | .debugLockoutEnd => Sys2Proof.Machine.execDebugLockoutEnd s
  | .debugDrop path w => Sys2Proof.Machine.execDebugDrop path w s
  | .debugPresenceLost => Sys2Proof.Machine.execDebugPresenceLost s
  | .debugRunControl proc kind taken => Sys2Proof.Machine.execDebugRunControl proc kind taken s
  | .debugMemoryWrite mem owner addr bytes => Sys2Proof.Machine.execDebugMemoryWrite mem owner addr bytes s
  | .lockstepMismatch group => Sys2Proof.Machine.execLockstepMismatch group s
  | .lockstepEccError => Sys2Proof.Machine.execLockstepEccError s
  | .firewallBlock init reg ofs => Sys2Proof.Machine.execFirewallBlock init reg ofs s
  | .registerWrite path off size w => Sys2Proof.Machine.execRegisterWrite path off size w s
  | .domainSupplyFault d bad => Sys2Proof.Machine.execDomainSupplyFault d bad s
  | .aonSupplyLoss low => Sys2Proof.Machine.execAonSupplyLoss low s
  | .loReadLatch path off => Sys2Proof.Machine.execLoReadLatch path off s
  | .vfEnable n ari => Sys2Proof.Machine.execVfEnable n ari s
  | .vectorUnmask fn enable unmasked => Sys2Proof.Machine.execVectorUnmask fn enable unmasked s
  | .canErrorFrame c sof more => Sys2Proof.Machine.execCanErrorFrame c sof more s
  | .protocolException c => Sys2Proof.Machine.execProtocolException c s
  | .arbitrationLoss c sof => Sys2Proof.Machine.execArbitrationLoss c sof s
  | .stageComplete ok => Sys2Proof.Machine.execStageComplete ok s
  | .blockIdle k => Sys2Proof.Machine.execBlockIdle k s
  | .newPartRunning k => Sys2Proof.Machine.execNewPartRunning k s

end Sys2Proof.Machine
end

