-- ==== Sys2Proof/Safety.lean ====
section
/-! DEFINITION. What counts as a safe state, and the conditions of the commands of the catalogue, in the terms that the
statements use. -/
namespace Sys2Proof.Machine

/-- Every addressed memory has the canonical form. -/
def State.memoriesWf (s : State) : Bool := s.ram.all fun e => e.2.wf

/-- Every addressed memory before and after reads the same at every address but those that `p` names. -/
def State.memoryKept (s t : State) (p : Nat → Nat → Prop) : Prop :=
  ∀ k a, ¬ p k a → (t.memory k).read a = (s.memory k).read a

/-- The state and the command as the fetch of an entry leaves them (R375, R396). -/
def State.fetched (k : CmdSpec) (c : CmdIn) (s : State) : State × CmdCtx :=
  (s.quiet.needCtx c.fn c.ring).1.fetch c k.secret

/-- The entry carries the opcode, is fetched, and passes the checks that every command shares: privilege, power state,
reserved bytes, session (R365, R375, R393 to R396, R552). -/
def State.accepts (k : CmdSpec) (c : CmdIn) (s : State) : Bool :=
  let f := s.fetched k c
  s.fetchable c && leAt c.entry 0 2 == k.opc && (s.quiet.needCtx c.fn c.ring).2 && f.1.admits k f.2
    && (k.states f.2).contains f.1.power
    && !(f.1.flag Reg.SEC_FW_STAT_RECOV && !([0x01, 0xA0, 0xA1].contains k.opc))
    && argsClean k.args f.2.entry && !(k.session && (f.1.sessionOf f.2.path).isNone)

end Sys2Proof.Machine
end

