-- ==== Sys2Proof/Certificates/Slice0/Obligations.lean ====
section
/-! DEFINITION. The statements about the block: that every command completes and with what effect, what it leaves, what
every step keeps, and the rules that hold of every state. -/
open Sys2Proof Sys2Proof.Machine

/-- The turn's tasks, the strike and their deadlines: for every state and operands that meet the named conditions, each of
these commands answers the next state that its effect gives: STRIKE, INTAKE_COMMIT_LATE, SUP, MEST, SEV, ENV, BAL,
IMG, CHK, FIT, DEADLINE_MISS, HEARTBEAT_MISSING, KEEPALIVE_TIMEOUT. The conditions are on the state and the operands
alone. Where a clause follows a choice of the model, it is one of log entries 12, 13, 19, 20, 21, 22, 23, 24, 25, 26,
27, 250, 271, 272. (01_architecture.md, R27, R31, R35, R36, R38, R39, 95_what_each_step_holds.md) -/
def Obligations.TurnCommandsComplete : Prop :=
  (∀ (i : StrikeIn) (s : State),
      s.clockSet → s.sys.core →
      exec (.strike i) s = .next (s.strikeRun i.whole)) ∧
  (∀ (e : StrikeRec × Option TurnRec) (r : List (StrikeRec × Option TurnRec)) (s : State),
      s.mpd.late = e :: r →
      exec .intakeCommitLate s = .next ((({ s with mpd := { s.mpd with late := r } }).raise 0x0A06 3 subjNone []).commitRec e)) ∧
  (∀ (e : EccIn) (s : State),
      s.taskMay 0 0 3 → s.supRuns → s.pairWorks → s.phaseRuns 0 →
      exec (.sup e) s = .next (((s.ecc e).supRun).taskDone 0)) ∧
  (∀ (s : State),
      s.vecOn → s.inMest → s.sys.done.contains 1 = false → s.flag Reg.EST_MDL_CTRL_MEN = false →
      exec .mest s = .next (((({ s with mdl := { s.mdl with zTurn := s.turn + 1 } } : State).taskDone 1).setReg Reg.EST_MDL_STAT_RUN 0))) ∧
  (∀ (s : State),
      s.vecOn → s.inMest → s.sys.done.contains 1 = false → s.flag Reg.EST_MDL_CTRL_MEN →
      let u := forAll s.servedAll State.stepPos s
      let n := countIf (fun g => ((u.mdlPos g).out.map (·.converged)).getD false) u.servedAll
      let v : State := { u.setFields [(Reg.EST_MDL_STAT_CONV, n), (Reg.EST_MDL_STAT_STALE, 0)] with mdl := { u.mdl with
        fresh := u.mdl.fresh.drop u.served, lastTurn := s.turn + 1, kept := s.keepTotals, balSq := [], zTurn := s.turn + 1 } }
      exec .mest s = .next ((v.taskDone 1).setReg Reg.EST_MDL_STAT_RUN 1)) ∧
  (∀ (s : State),
      s.inSev → s.deaf = false → s.power ≠ pwStandstill → s.sys.done.contains 6 = false → s.sec.halted.contains 0 = false →
      exec .sev s = .next ((forEach (List.range 8) State.tgSev (doIf s.token State.sevStep s)).sevDone)) ∧
  (∀ (s : State),
      s.taskMay 2 20 22 → s.power ≤ pwTrim →
      exec .env s = .next ((s.envRun).taskDone 2)) ∧
  (∀ (s : State),
      s.taskMay 3 23 25 → s.inRun →
      exec .bal s = .next ((s.balRun).taskDone 3)) ∧
  (∀ (s : State),
      s.taskMay 4 26 29 → (s.runOrTrim ∨ (s.power = pwStart ∧ s.paired)) → s.sendsImages = false →
      exec .img s = .next (s.taskDone 4)) ∧
  (∀ (s : State),
      s.taskMay 4 26 29 → s.runOrTrim → s.sendsImages →
      let final := s.handover && s.tdm.hoOpen.isSome
      exec .img s = .next { s.taskDone 4 with tdm := { (s.taskDone 4).tdm with
        image := s.imageBytes final, finalAt := if final then some s.turn else (s.taskDone 4).tdm.finalAt } }) ∧
  (∀ (r : ChkIn) (s : State),
      s.pairWorks → s.taskMay 5 30 31 → s.power ≠ pwStandstill → r.groupOk → r.badSlots = [] →
      exec (.chk r) s = .next (({ (s.taskDone 5).chkNext r.last with sec := { ((s.taskDone 5).chkNext r.last).sec with group := (((s.taskDone 5).chkNext r.last).sec.group % 64 + 1) % 64 } }).setReg Reg.SYS_LS_STAT_GROUP (s.sec.group % 64))) ∧
  (∀ (r : ChkIn) (s : State),
      s.pairWorks → s.taskMay 5 30 31 → s.power ≠ pwStandstill → r.groupOk = false → r.badSlots = [] →
      exec (.chk r) s = .next ((({ (s.taskDone 5).chkNext r.last with sec := { ((s.taskDone 5).chkNext r.last).sec with group := (((s.taskDone 5).chkNext r.last).sec.group % 64 + 1) % 64 } }).setReg Reg.SYS_LS_STAT_GROUP (s.sec.group % 64)).raise 0x0152 3 subjNone [])) ∧
  (∀ (g : Nat) (s : State),
      s.vecOn → s.flag Reg.EST_MDL_CTRL_ZEN → s.inMest = false → s.fitTarget = some g →
      exec .fit s = .next ((s.fitVisit g).setReg Reg.EST_MDL_STAT_ZFIT (s.fitVisit g).zfitCount)) ∧
  (∀ (task g : Nat) (s : State),
      task < 7 →
      exec (.deadlineMiss task g) s = .next (s.turnMiss task)) ∧
  (∀ (task g : Nat) (s : State),
      task = 7 →
      exec (.deadlineMiss task g) s = .next (s.fitMiss g)) ∧
  (∀ (task g : Nat) (code : Nat) (s : State),
      8 ≤ task → appCodes[task - 8]? = some code → s.clockSet → s.sys.core → s.deaf = false → s.power ≠ pwStandstill → s.sec.halted.any (fun p => decide (1 ≤ p) && decide (p ≤ 4)) = false →
      exec (.deadlineMiss task g) s = .next (s.appTaskMiss code)) ∧
  (∀ (s : State),
      2 ≤ s.sys.noBeat → (s.inEffect 0x0129) = false → s.notHalted 0 →
      exec .heartbeatMissing s = .next (((s.setFlag Reg.SYS_TMON_STAT_HBFLT true).raiseAs true 0x0129 3 subjNone true []).dropClaim true)) ∧
  (∀ (nn : Nat) (s : State),
      s.sendsFrames nn → s.markersStopped →
      exec (.keepaliveTimeout nn) s = .next ((if s.noCoil then s else s.dropCoils).dropClaim true))

/-- Discovery, release, alignment and branches of the sense banks: for every state and operands that meet the named
conditions, each of these commands answers the next state that its effect gives: BNK_CTRL_WRITE, BANK_CONFIG_APPLY,
FILTER_CHANGE_APPLY, BANK_DISCOVERY, LANE_LOCK, TRAY_ID_CHECK, SURVEY_CHECK, NORMAL_RANGE_CHECK, BANK_RELEASE,
ALIGNMENT_LOST, ALIGNMENT_REGAINED, BRANCH_LOST, BRANCH_RETURN, RELAY_FEEDBACK_FAULT. The conditions are on the state
and the operands alone. Where a clause follows a choice of the model, it is one of log entries 28, 29, 30, 31, 32, 33,
48, 274, 277, 279. (02_sense_banks.md, R58, R62, R66, R69, R72, R619, R620) -/
def Obligations.BankCommandsComplete : Prop :=
  (∀ (path : Path) (nn : Nat) (w : Word) (s : State),
      s.deaf = false → nn < 18 →
      exec (.bnkCtrlWrite path nn w) s = .next (s.bnkCtrlWrite path nn w.toNat)) ∧
  (∀ (s : State),
      s.atStrike0 → s.runOrTrim →
      exec .bankConfigApply s = .next (forEach bankNos State.applyConfig s)) ∧
  (∀ (s : State),
      s.atStrike0 →
      exec .filterChangeApply s = .next (s.applyChanges.applyCurCorners)) ∧
  (∀ (nn : Nat) (s : State),
      (s.bank nn).en → s.bankOn nn → (s.bank nn).step = .off →
      exec (.bankDiscovery nn) s = .next ((s.toStep nn .lane).updBank nn fun b => { b with onAt := s.now })) ∧
  (∀ (nn : Nat) (r : LaneIn) (s : State),
      nn ≠ curNo → (s.bank nn).step = .lane → r.locked → r.idOk →
      exec (.laneLock nn r) s = .next (s.laneLocked nn r)) ∧
  (∀ (r : LaneIn) (s : State),
      s.flag Reg.PWR_DOM_CUR → s.flag Reg.CUR_STAT_LANE = false → r.locked → r.idOk →
      exec (.laneLock curNo r) s = .next (s.curLocked r)) ∧
  (∀ (nn : Nat) (r : LaneIn) (s : State),
      nn ≠ curNo → (s.bank nn).step = .lane → r.locked = false →
      exec (.laneLock nn r) s = .next (s.laneFailed nn)) ∧
  (∀ (nn k : Nat) (bytes : List Nat) (s : State),
      k < 4 → s.trayWaits nn k → (List.range 4).any ((s.checkTray nn k (parseTray bytes)).trayWaits nn) = false →
      exec (.trayIdCheck nn k bytes) s = .next ((s.checkTray nn k (parseTray bytes)).afterTrays nn)) ∧
  (∀ (nn : Nat) (s : State),
      (s.bank nn).step = .survey → 32 * 32 ≤ (s.bank nn).surveyTurns →
      exec (.surveyCheck nn) s = .next (s.surveyJudged nn)) ∧
  (∀ (nn p : Nat) (s : State),
      s.normDue nn p → ((s.bank nn).norm.get ⟨0, 0, false, false⟩ p).failed = false →
      exec (.normalRangeCheck nn p) s = .next (s.normPassed nn p)) ∧
  (∀ (nn p : Nat) (s : State),
      s.normDue nn p → ((s.bank nn).norm.get ⟨0, 0, false, false⟩ p).failed →
      exec (.normalRangeCheck nn p) s = .next (s.normFailed nn p)) ∧
  (∀ (nn : Nat) (s : State),
      s.releaseDue nn →
      exec (.bankRelease nn) s = .next (s.releaseBank nn)) ∧
  (∀ (nn : Nat) (s : State),
      nn ≠ curNo → s.sendsFrames nn → s.flag (Reg.BNK_STAT_ALIGN nn) → misaligned (s.bank nn) →
      exec (.alignmentLost nn) s = .next ((s.setFlag (Reg.BNK_STAT_ALIGN nn) false).raiseLevel 0x0205 2 (subjBank nn) [])) ∧
  (∀ (s : State),
      s.curFlows → s.flag Reg.CUR_STAT_ALIGN → misaligned s.cur.lane →
      exec (.alignmentLost curNo) s = .next ((s.setFlag Reg.CUR_STAT_ALIGN false).raiseLevel 0x0402 2 subjNone [])) ∧
  (∀ (nn : Nat) (s : State),
      nn ≠ curNo → s.sendsFrames nn → s.flag (Reg.BNK_STAT_ALIGN nn) = false → 8 ≤ (s.bank nn).goodRt → s.atStrike0 →
      exec (.alignmentRegained nn) s = .next (((s.setReg (Reg.BNK_LANE_TRIM nn) (Config.round (wantTrim (s.bank nn))).toNat).setFlag (Reg.BNK_STAT_ALIGN nn) true).goneAt 0x0205 (subjBank nn))) ∧
  (∀ (nn k : Nat) (s : State),
      k < 4 → s.lossDue nn k →
      exec (.branchLost nn k) s = .next (s.loseBranch nn k)) ∧
  (∀ (nn k : Nat) (bytes : List Nat) (s : State),
      k < 4 → s.returnDue nn k →
      exec (.branchReturn nn k bytes) s = .next (s.returnBranch nn k (parseTray bytes))) ∧
  (∀ (nn : Nat) (s : State),
      20 * msStrikes < (s.bank nn).relayDis →
      exec (.relayFeedbackFault nn) s = .next (s.raiseLevel 0x020D 3 (subjBank nn) []))

/-- The checks of the measurements: for every state and operands that meet the named conditions, each of these commands
answers the next state that its effect gives: CHECK_DWELL_END, FROZEN_WORD, CHECK_COVERAGE_LAPSE,
COMPARATOR_IMPLAUSIBLE. The conditions are on the state and the operands alone. Where a clause follows a choice of the
model, it is one of log entries 34, 35, 36, 37, 38, 39, 40, 257, 275, 276, 278, 280, 281, 282, 283.
(03_measurement_checks.md, R91, R93, R99) -/
def Obligations.CheckCommandsComplete : Prop :=
  (∀ (nn : Nat) (s : State),
      s.dwellDue nn → 16 ≤ (s.check nn).winN → (s.check nn).sigFail →
      exec (.checkDwellEnd nn) s = .next (s.dwellResult nn)) ∧
  (∀ (nn : Nat) (s : State),
      s.dwellDue nn → (s.check nn).winN < 16 → (s.check nn).sigFail →
      exec (.checkDwellEnd nn) s = .next (s.nextDwell nn (s.check nn).dwPos (s.check nn).dwRetest)) ∧
  (∀ (nn p : Nat) (s : State),
      s.released nn p → 64 ≤ ((s.check nn).frozen.get (0, 0) p).2 →
      exec (.frozenWord nn p) s = .next (s.raiseLevel 0x0304 3 (subjPos (globalPos nn p)) [])) ∧
  (∀ (nn p : Nat) (s : State),
      s.coverageLapsed nn p →
      exec (.checkCoverageLapse nn p) s = .next (s.raiseLevel 0x0312 2 (subjPos (globalPos nn p)) [])) ∧
  (∀ (nn p : Nat) (s : State),
      settleCount (s.bank nn).fc + 32 ≤ (s.check nn).implaus.get 0 p →
      exec (.comparatorImplausible nn p) s = .next (s.raiseLevel 0x030E 3 (subjPos (globalPos nn p)) []))

/-- The current front end, the insulation monitor and the temperatures: for every state and operands that meet the named
conditions, each of these commands answers the next state that its effect gives: HALL_SUPPLY_FAULT, CUR_CTRL_WRITE,
IMD_PERIOD_END, IMD_SELF_TEST, IMD_RELAY_FAULT, THM_CONFIG_WRITE, OUTLET_RISE_ALARM, DIE_SENSOR_IMPLAUSIBLE,
DIE_WARNING, DIE_COOLED, DIE_SHUTDOWN, BANK_WARNING, BANK_SHUTDOWN, DIE_HOLD_RELEASE. The conditions are on the state
and the operands alone. Where a clause follows a choice of the model, it is one of log entries 41, 42, 43, 44, 49, 50,
52, 53, 54, 248, 259, 270, 289, 290. (04_current_bus_isolation.md, 05_temperature.md, R113) -/
def Obligations.CurrentCommandsComplete : Prop :=
  (∀ (s : State),
      s.hallFitted → 2 ≤ s.cur.supplyRun →
      exec .hallSupplyFault s = .next (({ s with cur := { s.cur with hallD := true } }).raiseLevel 0x0406 1 subjNone [])) ∧
  (∀ (path : Path) (w : Word) (s : State),
      s.deaf = false →
      exec (.curCtrlWrite path w) s = .next (s.curCtrlWrite path w.toNat)) ∧
  (∀ (r : ImdIn) (s : State),
      s.flag Reg.IMD_RESULT_INJ → r.unsettled = false →
      exec (.imdPeriodEnd r) s = .next (s.imdSettled r)) ∧
  (∀ (r : ImdIn) (s : State),
      s.flag Reg.IMD_RESULT_INJ → r.unsettled →
      exec (.imdPeriodEnd r) s = .next (s.imdUnsettled r)) ∧
  (∀ (s : State),
      s.token → s.flag Reg.IMD_RESULT_INJ → s.flag Reg.IMD_RESULT_VALID → s.imd.testing = false → (s.imd.testAt == 0 || s.elapsed s.imd.testAt (86400 * secStrikes)) = true →
      exec .imdSelfTest s = .next ({ s with imd := { s.imd with testing := true, testAt := s.now + 1 } })) ∧
  (∀ (feedback : Bool) (ms : Nat) (s : State),
      feedback ≠ s.imd.relayCmd → 20 < ms →
      exec (.imdRelayFault feedback ms) s = .next (({ s with imd := { s.imd with relayFb := feedback } }).raiseLevel 0x0413 1 subjNone [])) ∧
  (∀ (feedback : Bool) (ms : Nat) (s : State),
      feedback = s.imd.relayCmd →
      exec (.imdRelayFault feedback ms) s = .next (({ s with imd := { s.imd with relayFb := feedback } }).goneAt 0x0413 subjNone)) ∧
  (∀ (path : Path) (off : Nat) (w : Word) (s : State),
      s.deaf = false → thmConfigAt off →
      exec (.thmConfigWrite path off w) s = .next (s.thmConfigWrite path off w.toNat)) ∧
  (∀ (s : State),
      60000 ≤ s.thm.riseRun →
      exec .outletRiseAlarm s = .next (s.raiseLevel 0x0505 1 subjNone [])) ∧
  (∀ (k : Nat) (s : State),
      16 ≤ k → 100 ≤ s.thm.bankDiff.get 0 (k - 16) →
      exec (.dieSensorImplausible k) s = .next (({ s with thm := { s.thm with bankPair := putBit s.thm.bankPair (k - 16) true } }).raiseLevel 0x0508 1 (subjBank (k - 16)) [])) ∧
  (∀ (k : Nat) (s : State),
      k < 16 → s.dieValid k → 100 ≤ s.thm.dieOff.get 0 k → 8 ≤ ((s.setBit Reg.THM_DIE_VALID_VALID k false).raiseLevel 0x0508 1 (subjNum k) []).dieCount →
      exec (.dieSensorImplausible k) s = .next ((s.setBit Reg.THM_DIE_VALID_VALID k false).raiseLevel 0x0508 1 (subjNum k) [])) ∧
  (∀ (k : Nat) (s : State),
      k < 16 → s.dieValid k → 100 ≤ s.thm.dieOff.get 0 k → ((s.setBit Reg.THM_DIE_VALID_VALID k false).raiseLevel 0x0508 1 (subjNum k) []).dieCount < 8 →
      exec (.dieSensorImplausible k) s = .next (((s.setBit Reg.THM_DIE_VALID_VALID k false).raiseLevel 0x0508 1 (subjNum k) []).raiseLevel 0x0509 3 subjNone [])) ∧
  (∀ (s : State),
      10 ≤ s.thm.warnRun → s.atStrike0 → s.thm.latch = false →
      exec .dieWarning s = .next (
        ((s.raiseLevel 0x0510 2 subjNone []).setFields
          [(Reg.THM_DIE_VEC_OFF, 1), (Reg.PWR_DOM_VEC, 0)]).mdlSuspend)) ∧
  (∀ (s : State),
      s.flag Reg.THM_DIE_VEC_OFF → 10000 ≤ s.thm.coolRun →
      exec .dieCooled s = .next (s.setFields [(Reg.THM_DIE_VEC_OFF, 0), (Reg.PWR_DOM_VEC, bit s.inRun)])) ∧
  (∀ (s : State),
      2 ≤ s.thm.hotRun.get 0 s.thm.hotIdx → s.thm.latch = false → s.sys.core →
      exec .dieShutdown s = .next (
        ({ s with thm := { s.thm with
            latch := true, store := some (s.now, s.thm.hotVal, s.thm.hotIdx, 1) } }).emergencyOpen true 0x0511 |>.coreOff)) ∧
  (∀ (nn k : Nat) (s : State),
      10 ≤ s.thm.bankWarn.get 0 (nn * 2 + k % 2) →
      exec (.bankWarning nn k) s = .next (s.raiseLevel 0x0512 2 (subjBank nn) [])) ∧
  (∀ (nn k : Nat) (s : State),
      2 ≤ s.thm.bankHot.get 0 (nn * 2 + k % 2) → ((s.bank nn).shut) = false →
      exec (.bankShutdown nn k) s = .next (((s.raise 0x0513 3 (subjBank nn) []).bankPowerOff nn).updBank nn fun b => { b with shut := true })) ∧
  (∀ (hottest : Int) (s : State),
      s.pwr.hold → hottest < 10500 →
      exec (.dieHoldRelease hottest) s = .next ({ s with pwr := { s.pwr with hold := false }, sys := { s.sys with core := true } }))

/-- Working copies, snapshots and the restore window of the certified estimator: for every state and operands that meet
the named conditions, each of these commands answers the next state that its effect gives: TABLE_BUILD_COMPLETE,
GENERATION_SWITCH, SNAPSHOT_PERIODIC, SNAPSHOT_DELIVER, SNAPSHOT_DISCARD, RESTORE_WINDOW_CLOSE. The conditions are on
the state and the operands alone. Where a clause follows a choice of the model, it is one of log entries 55, 56, 57,
58, 59, 60, 61, 62. (06_certified_estimation.md, R162, R163, R173) -/
def Obligations.EstimatorCommandsComplete : Prop :=
  (∀ (k : Nat) (l : List Nat) (s : State),
      s.est.building.find? (fun e => e.1 == k) = some (k, l) → s.sys.core → s.flag Reg.PWR_STAT_WARM = false → ocvValid l →
      exec (.tableBuildComplete k) s = .next (({ s with est := { s.est with building := s.est.building.drop (· == k), built := s.est.built.put k l } }).buildRegs)) ∧
  (∀ (k : Nat) (l : List Nat) (s : State),
      s.est.building.find? (fun e => e.1 == k) = some (k, l) → s.sys.core → s.flag Reg.PWR_STAT_WARM = false → ocvValid l = false →
      exec (.tableBuildComplete k) s = .next ((({ s with est := { s.est with building := s.est.building.drop (· == k) } }).buildRegs).note 0x0606 (subjNum k) [])) ∧
  (∀ (s : State),
      s.atStrike0 →
      exec .generationSwitch s = .next (
        let s1 := s.suspendSlots
        let s2 := forAll s.est.built (fun e s => s.serveCopy e.1 e.2) s1
        ({ s2 with est := { s2.est with built := [] } }).buildRegs)) ∧
  (∀ (a n : Nat) (s : State),
      s.est.firstRun = some a → s.est.supStrike = some n → s.runOrTrim → s.reg Reg.EST_CTRL_SNAP_INT * secStrikes ≤ s.since s.est.snapAt → s.deaf = false →
      exec .snapshotPeriodic s = .next ({ s with est := { s.est with snapAt := s.now, waiting := some (s.snapshot n, s.now) } })) ∧
  (∀ (f : SnapFig) (r : List SnapFig) (s : State),
      s.est.deliver = f :: r →
      exec .snapshotDeliver s = .next (({ s with est := { s.est with deliver := r } }).snapDelivered f)) ∧
  (∀ (x : Snapshot) (a : Nat) (s : State),
      s.est.waiting = some (x, a) → secStrikes ≤ s.since a →
      exec .snapshotDiscard s = .next ({ s with est := { s.est with waiting := none } })) ∧
  (∀ (a : Nat) (s : State),
      s.est.firstRun = some a → s.flag Reg.EST_STAT_RWIN → s.reg Reg.EST_RESTORE_WIN * secStrikes ≤ s.since a → s.flag Reg.EST_STAT_RESTORED = false →
      exec .restoreWindowClose s = .next ((({ s with est := { s.est with windowDone := true } }).setFlag Reg.EST_STAT_RWIN false).raiseLevel 0x0602 1 subjNone [])) ∧
  (∀ (a : Nat) (s : State),
      s.est.firstRun = some a → s.flag Reg.EST_STAT_RWIN → s.reg Reg.EST_RESTORE_WIN * secStrikes ≤ s.since a → s.flag Reg.EST_STAT_RESTORED →
      exec .restoreWindowClose s = .next (({ s with est := { s.est with windowDone := true } }).setFlag Reg.EST_STAT_RWIN false))

/-- The model estimator, the impedance engine and its advisories: for every state and operands that meet the named
conditions, each of these commands answers the next state that its effect gives: VEC_RESUME, IMPEDANCE_BLOCK_END,
PLATING_BUMP_END, ADVISORY_REQUEST, ADVISORY_PERSIST. The conditions are on the state and the operands alone. Where a
clause follows a choice of the model, it is one of log entries 63, 64, 65, 66, 67, 68, 69, 70, 258, 260, 261, 264,
291, 292. (07_model_impedance.md, R183, R195, R196, R204) -/
def Obligations.ModelCommandsComplete : Prop :=
  (∀ (a : Nat) (s : State),
      s.mdl.offAt = some a → s.flag Reg.PWR_DOM_VEC → s.sys.core → s.turn ≤ a + 600000 →
      exec .vecResume s = .next ({ s with mdl := { s.mdl with offAt := none } })) ∧
  (∀ (k : Nat) (s : State),
      k < 24 → s.vecOn → s.flag Reg.EST_MDL_CTRL_ZEN → s.mdl.zStart.any (fun e => e.1 == k) → s.blockStart k + blockLen k + s.zDelay + 32 ≤ s.mdl.zTurn * 32 →
      let c0 := s.blockStart k
      let n := blockLen k
      let cur := s.blockCurrent c0 n
      let i := coefficient (freqOf k) cur
      let low := decide (Config.sqrt (i.1 ^ 2 + i.2 ^ 2) * (2 * Config.sqrt 2) / (n : Rat) < (s.reg Reg.EST_ZCFG_IMIN : Rat) / 10)
      let ok := !low && !(s.mdl.zMiss.any fun t => decide (c0 ≤ t) && decide (t < c0 + n)) && s.blockCurrentGood c0 n
      let u := forAll (s.blockHolders k) (State.blockPos k c0 ok i (cur.foldl (· + ·) 0 / (n : Rat))) s
      let v := State.pushPoints k (c0 + n) { u with mdl := { u.mdl with
        zStart := u.mdl.zStart.put k (c0 + n), zMiss := u.mdl.zMiss.filter fun t => decide (s.now ≤ t + 5505024)
        quiet := u.mdl.quiet.put k (if low then u.mdl.quiet.get 0 k + 1 else 0) } }
      exec (.impedanceBlockEnd k) s = .next { v with mdl := { v.mdl with want := if v.ditherMay then v.toneChoice else [] } }) ∧
  (∀ (g : Nat) (b : Bump) (s : State),
      (s.mdlPos g).bump = some b → b.turn + 600000 ≤ s.turn → s.vecOn →
      exec (.platingBumpEnd g) s = .next (s.setMdl g { s.mdlPos g with bump := none, p2 := max 0 (min 1 ((b.top - max (b.r10.getD b.last) b.last) / ((s.reg Reg.EST_LPI_CFG_BUMP : Rat) / 10000))) })) ∧
  (∀ (crcOk : Bool) (r : AdvReq) (rest : List AdvReq) (s : State),
      s.mdl.mailbox = r :: rest → s.pairTakes → r.kind < 3 → (crcOk && s.requestGood r) = false →
      exec (.advisoryRequest crcOk) s = .next ((({ s with mdl := { s.mdl with mailbox := rest } }).setFields [(Reg.EST_ADV_LAST_POS, r.pos), (Reg.EST_ADV_LAST_KIND, r.kind), (Reg.EST_ADV_LAST_PASS, 0), (Reg.EST_ADV_LAST_VALUE, r.value)]).raise 0x0644 1 (subjPos r.pos) [])) ∧
  (∀ (crcOk : Bool) (r : AdvReq) (rest : List AdvReq) (s : State),
      s.mdl.mailbox = r :: rest → s.pairTakes → r.kind < 3 → crcOk → s.requestGood r →
      let key := r.pos * 2 + (r.kind - 1)
      let e := s.mdl.timers.get (0, 0) key
      let begun := if e.2 = 0 ∨ e.2 + 10 * secStrikes < s.now then s.now else e.1
      let u := ({ s with mdl := { s.mdl with mailbox := rest } }).setFields [(Reg.EST_ADV_LAST_POS, r.pos), (Reg.EST_ADV_LAST_KIND, r.kind), (Reg.EST_ADV_LAST_PASS, 1), (Reg.EST_ADV_LAST_VALUE, r.value)]
      exec (.advisoryRequest crcOk) s = .next { u with mdl := { u.mdl with timers := u.mdl.timers.put key (begun, s.now) } }) ∧
  (∀ (crcOk : Bool) (r : AdvReq) (rest : List AdvReq) (s : State),
      s.mdl.mailbox = r :: rest → s.pairTakes → 3 ≤ r.kind →
      exec (.advisoryRequest crcOk) s = .next (({ s with mdl := { s.mdl with mailbox := rest } }).warnTaken crcOk r)) ∧
  (∀ (g : Nat) (s : State),
      (s.mdl.timers.get (0, 0) (g * 2)).2 ≠ 0 → s.now ≤ (s.mdl.timers.get (0, 0) (g * 2)).2 + 10 * secStrikes → (s.mdl.timers.get (0, 0) (g * 2)).1 + s.reg Reg.EST_ADV_CFG_PERSIST * secStrikes ≤ s.now → s.pairTakes →
      exec (.advisoryPersist 1 g) s = .next (({ s with mdl := { s.mdl with timers := s.mdl.timers.drop (· == g * 2) } }).raise 0x0641 (s.reg Reg.EST_ADV_CFG_ISI_CLS) (subjPos g) [])) ∧
  (∀ (g : Nat) (s : State),
      (s.mdl.timers.get (0, 0) (g * 2 + 1)).2 ≠ 0 → s.now ≤ (s.mdl.timers.get (0, 0) (g * 2 + 1)).2 + 10 * secStrikes → (s.mdl.timers.get (0, 0) (g * 2 + 1)).1 + s.reg Reg.EST_ADV_CFG_PERSIST * secStrikes ≤ s.now → s.pairTakes →
      exec (.advisoryPersist 2 g) s = .next (({ s with mdl := { s.mdl with timers := s.mdl.timers.drop (· == g * 2 + 1) } }).raise 0x0643 (s.reg Reg.EST_ADV_CFG_LPI_CLS) (subjPos g) []))

/-- The hardware path, supervision, the contactor sequence and the breaker: for every state and operands that meet the
named conditions, each of these commands answers the next state that its effect gives: HW_TEST_MET,
SUPERVISION_TEST_MET, THRESHOLD_SET_APPLY, CONTACT_FEEDBACK_CHANGE, WELD_TEST_JUDGE, PRECHARGE_COMPLETE,
PRECHARGE_TIMEOUT, PRECHARGE_OVERCURRENT, OVERLAP_ELAPSED, FEEDBACK_CLOSE_TIMEOUT, FEEDBACK_OPEN_TIMEOUT,
OPEN_CURRENT_LOW, K_NEG_DELAY_END, ORDERLY_TIMEOUT, BREAKER_PULSE_END, COIL_CIRCUIT_FAULT, CLASS2_CLEAR. The
conditions are on the state and the operands alone. Where a clause follows a choice of the model, it is one of log
entries 45, 46, 228, 229, 230, 231, 232, 233, 234, 235, 236, 237, 239, 240, 241, 247, 284, 285, 286. (08_sluice.md,
R208, R217, R224, R226, R227) -/
def Obligations.SluiceCommandsComplete : Prop :=
  (∀ (code subj : Nat) (s : State),
      s.hwTestMet code subj → s.inEffectOn code subj = false →
      exec (.hwTestMet code subj) s = .next (s.raiseAs true code 3 subj (code == 0x0709 || code == 0x070A) [])) ∧
  (∀ (code subj : Nat) (s : State),
      s.slu.cfg → s.pairWorks → s.supRuns → s.sys.done.contains 0 → s.supTestMet code subj → (s.present code subj) = false →
      exec (.supervisionTestMet code subj) s = .next (s.raiseLevel code (supTestClass code) subj [])) ∧
  (∀ (x : RegFile) (s : State),
      s.slu.thrNext = some x → s.atStrike0 → thresholdOrder x →
      exec .thresholdSetApply s = .next (({ s with slu := { s.slu.runsCleared with thr := x, cfg := true, thrNext := none } }).setFlag Reg.SLU_STAT_CFG true)) ∧
  (∀ (k : Nat) (closed : Bool) (s : State),
      k < 3 → s.fbClosed k ≠ closed →
      let on := match k with | 0 => s.slu.kPos | 1 => s.slu.kNeg | _ => s.slu.kPre
      let u := s.setBit Reg.SLU_STAT_FB k closed
      exec (.contactFeedbackChange k closed) s = .next (State.imdCheck { u with slu := { u.slu with
        fbAt := u.slu.fbAt.put k s.now
        closeFrom := u.slu.closeFrom.put k (if on && !closed then s.now + 1 else 0)
        openFrom := u.slu.openFrom.put k (if !on && closed && s.token then s.now + 1 else 0)
        offAt := if closed && !s.token then [] else u.slu.offAt } })) ∧
  (∀ (s : State),
      (s.slu.seq = .w1Dwell ∨ s.slu.seq = .w2Dwell) → s.token → s.inSev → s.thr Reg.SLU_KT_WDWELL * msStrikes ≤ s.since s.slu.stepAt → s.slu.weldFail = false →
      exec .weldTestJudge s = .next (s.weldPassed (s.slu.seq == .w1Dwell))) ∧
  (∀ (s : State),
      (s.slu.seq = .w1Dwell ∨ s.slu.seq = .w2Dwell) → s.token → s.inSev → s.thr Reg.SLU_KT_WDWELL * msStrikes ≤ s.since s.slu.stepAt → s.slu.weldFail →
      exec .weldTestJudge s = .next (s.weldFailed (s.slu.seq == .w1Dwell))) ∧
  (∀ (s : State),
      s.slu.seq = .precharge → s.token → 32 ≤ s.slu.preRun → s.inSev →
      exec .prechargeComplete s = .next ((s.coilOn 0).toSeq .posClose)) ∧
  (∀ (s : State),
      s.slu.seq = .precharge → s.token → s.slu.preRun < 32 → s.thr Reg.SLU_PRE_PRE_TMAX * 100 * msStrikes ≤ s.since s.slu.preAt →
      exec .prechargeTimeout s = .next ((s.raise 0x0726 1 subjNone []).toSeq .abandon)) ∧
  (∀ (s : State),
      s.precharging → s.token → 32 ≤ s.slu.preIRun →
      exec .prechargeOvercurrent s = .next (s.raise 0x0727 3 subjNone [])) ∧
  (∀ (s : State),
      s.slu.seq = .overlap → s.token → s.inSev → s.thr Reg.SLU_KT_OVERLAP * msStrikes ≤ s.since s.slu.stepAt →
      exec .overlapElapsed s = .next ((s.coilOff 2).toSeq .preOpen)) ∧
  (∀ (k : Nat) (s : State),
      s.token → s.staysOpen k →
      exec (.feedbackCloseTimeout k) s = .next (s.raise 0x0722 3 subjNone [])) ∧
  (∀ (k : Nat) (s : State),
      s.staysClosed k → (s.inEffect 0x0723) = false →
      exec (.feedbackOpenTimeout k) s = .next (s.setWeldLock.raise 0x0723 3 subjNone [])) ∧
  (∀ (s : State),
      s.slu.seq = .ramp → s.token → 32 ≤ s.slu.lowRun →
      exec .openCurrentLow s = .next (s.toSeq .lowSeen)) ∧
  (∀ (s : State),
      s.slu.seq = .negDelay → s.token → s.inSev → 20 * msStrikes ≤ s.since s.slu.stepAt →
      exec .kNegDelayEnd s = .next ((s.coilOff 1).toSeq .opening)) ∧
  (∀ (s : State),
      s.ramping → s.token → s.orderlyLimit * msStrikes ≤ s.since s.slu.ordAt →
      exec .orderlyTimeout s = .next (s.raise 0x0729 3 subjNone [])) ∧
  (∀ (s : State),
      s.elapsed s.slu.brkAt (s.thr Reg.SLU_BRK_TW * msStrikes) → (s.thr Reg.SLU_BRK_AUX_EN = 0 ∨ s.slu.auxOpen = true) → s.thr Reg.SLU_BRK_AUX_EN ≤ 1 → s.iMag ≤ 5000 →
      exec .breakerPulseEnd s = .next ({ (s.setFlag Reg.SLU_STAT_BRK false) with slu := { s.slu with brkAt := 0 } })) ∧
  (∀ (s : State),
      s.elapsed s.slu.brkAt (s.thr Reg.SLU_BRK_TW * msStrikes) → ((s.thr Reg.SLU_BRK_AUX_EN = 1 ∧ s.slu.auxOpen = false) ∨ 5000 < s.iMag) →
      exec .breakerPulseEnd s = .next (({ (s.setFlag Reg.SLU_STAT_BRK false) with slu := { s.slu with brkAt := 0 } }).raise 0x0731 4 subjNone [])) ∧
  (∀ (k : Nat) (s : State),
      k < 3 → bitAt s.slu.coilBoth k →
      exec (.coilCircuitFault k) s = .next (s.raiseLevel 0x0732 3 subjNone [k])) ∧
  (∀ (code subj : Nat) (f : Active) (a : Nat) (s : State),
      s.flt.active.find? (fun f => f.code == code && f.subj == subj && f.cls == 2) = some f → f.absent = some a → s.thr Reg.SLU_CLR_T2 * secStrikes ≤ s.since a →
      exec (.class2Clear code subj) s = .next (s.clearFault f))

/-- Safety inputs, test pulses, SRST and telegrams: for every state and operands that meet the named conditions, each of
these commands answers the next state that its effect gives: SI_LEVEL_CHANGE, SI_DISCREPANCY, TEST_PULSE,
TP_READBACK_FAULT, ISO_HOLD_END, SRST_EDGE, SRST_HELD, SRST_CHATTER_END, TELEGRAM_SEND, TELEGRAM_RECEIVE,
TELEGRAM_SKEW_EXPIRY, TELEGRAM_TIMEOUT. The conditions are on the state and the operands alone. Where a clause follows
a choice of the model, it is one of log entries 47, 51, 242, 243, 244, 245, 246, 296. (09_safety_io.md, R240, R249,
R250) -/
def Obligations.SafetyInputCommandsComplete : Prop :=
  (∀ (n : Nat) (s : State),
      n < 8 → (s.si n).a.due →
      exec (.siLevelChange n 0) s = .next ((s.updSi n fun i => { i with a := { i.a with known := true, level := i.a.last } }).setBit Reg.SLU_SI_STAT_CHA n (s.si n).a.last)) ∧
  (∀ (n ch : Nat) (s : State),
      n < 8 → ch ≠ 0 → (s.si n).b.due →
      exec (.siLevelChange n ch) s = .next ((s.updSi n fun i => { i with b := { i.b with known := true, level := i.b.last } }).setBit Reg.SLU_SI_STAT_CHB n (s.si n).b.last)) ∧
  (∀ (n : Nat) (s : State),
      n < 8 → s.elapsed (s.si n).discAt (s.reg (Reg.SLU_SI_CFG_DISC n) * msStrikes + 1) → ((s.si n).latch) = false →
      exec (.siDiscrepancy n) s = .next ((s.updSi n fun i => { i with latch := true, latchBoth := false }).raiseLevel 0x0748 1 (subjNum n) [])) ∧
  (∀ (turn : Nat) (s : State),
      turn = s.turn → s.pulseDue 0 →
      exec (.testPulse 0 turn) s = .next ((fun (u : State) => { u with sio := { u.sio with tp0 := { u.sio.tp0 with judged := s.turn + 1 } } }) (forEach (List.range 8) (State.pulseInput 0) s))) ∧
  (∀ (turn : Nat) (s : State),
      turn = s.turn → s.pulseDue 1 →
      exec (.testPulse 1 turn) s = .next ((fun (u : State) => { u with sio := { u.sio with tp1 := { u.sio.tp1 with judged := s.turn + 1 } } }) (forEach (List.range 8) (State.pulseInput 1) s))) ∧
  (∀ (s : State),
      2 ≤ s.sio.tp0.bad →
      exec (.tpReadbackFault 0) s = .next (({ s with sio := { s.sio with tp0 := { s.sio.tp0 with hold := true } } }).raiseLevel 0x074A 1 (subjNum 0) [])) ∧
  (∀ (s : State),
      2 ≤ s.sio.tp1.bad →
      exec (.tpReadbackFault 1) s = .next (({ s with sio := { s.sio with tp1 := { s.sio.tp1 with hold := true } } }).raiseLevel 0x074A 1 (subjNum 1) [])) ∧
  (∀ (n : Nat) (s : State),
      n < 8 → (s.si n).iso → (s.bitOf Reg.SLU_SI_STAT_DEM n) = false → s.elapsed (s.si n).isoAt (s.reg (Reg.SLU_SI_CFG_ISO_HOLD n) * 3200) →
      exec (.isoHoldEnd n) s = .next (s.updSi n fun i => { i with iso := false, isoAt := 0 })) ∧
  (∀ (s : State),
      s.sio.srstLast → 32 ≤ s.sio.srstRun → s.flag Reg.SLU_SRST_LVL = false → s.flag Reg.PWR_STAT_WARM →
      exec .srstEdge s = .next ((fun (u : State) => { u with sio := { u.sio with edgeAt := s.now + 1, highAt := s.now } }) ((s.srstCount).setFlag Reg.SLU_SRST_LVL true))) ∧
  (∀ (s : State),
      s.sio.srstLast → 32 ≤ s.sio.srstRun → s.flag Reg.SLU_SRST_LVL = false → s.flag Reg.PWR_STAT_WARM = false → (decide (50 * msStrikes ≤ s.since s.sio.lowAt) && (s.sio.edgeAt == 0 || s.elapsed s.sio.edgeAt (100 * msStrikes)) && !((s.srstCount).setFlag Reg.SLU_SRST_LVL true).flag Reg.SLU_SRST_CHAT) →
      let u := (s.srstCount).setFlag Reg.SLU_SRST_LVL true
      let v : State := { u with sio := { u.sio with edgeAt := s.now + 1, highAt := s.now } }
      exec .srstEdge s = .next ((v.setReg Reg.SLU_SRST_ACC (s.reg Reg.SLU_SRST_ACC + 1)).request .reset false none)) ∧
  (∀ (s : State),
      s.sio.srstLast → 32 ≤ s.sio.srstRun → s.flag Reg.SLU_SRST_LVL = false → s.flag Reg.PWR_STAT_WARM = false → (decide (50 * msStrikes ≤ s.since s.sio.lowAt) && (s.sio.edgeAt == 0 || s.elapsed s.sio.edgeAt (100 * msStrikes)) && !((s.srstCount).setFlag Reg.SLU_SRST_LVL true).flag Reg.SLU_SRST_CHAT) = false →
      let u := (s.srstCount).setFlag Reg.SLU_SRST_LVL true
      let v : State := { u with sio := { u.sio with edgeAt := s.now + 1, highAt := s.now } }
      exec .srstEdge s = .next ((v.addSat Reg.SLU_SRST_IGN 1).note 0x074E subjNone [])) ∧
  (∀ (s : State),
      s.flag Reg.SLU_SRST_LVL → s.sio.heldDone = false → 60 * secStrikes ≤ s.since s.sio.highAt →
      exec .srstHeld s = .next ((({ s with sio := { s.sio with heldDone := true } }).setFlag Reg.SLU_SRST_HELD true).note 0x074D subjNone [])) ∧
  (∀ (s : State),
      s.flag Reg.SLU_SRST_CHAT → s.elapsed s.sio.edgeAt secStrikes →
      exec .srstChatterEnd s = .next ((s.setFlag Reg.SLU_SRST_CHAT false).goneAt 0x074C subjNone)) ∧
  (∀ (k : Nat) (s : State),
      s.tgSends k → s.inSev → s.turn % max 1 (s.reg (Reg.SLU_TG_CTRL_PER k)) = 0 → s.flag Reg.PWR_DOM_NET → s.sys.done.contains 0 → s.sio.sent.any (fun e => e.1 == k) = false → s.deaf = false →
      let l := telegram 1 (s.reg Reg.SLU_TG_CFG_SID) (s.reg (Reg.SLU_TG_PEER_PEER k)) (s.tg k).txSeq (s.turn * 32)
        s.statusPayload (s.flag Reg.TIM_STAT_TV)
      let u := s.updTg k fun c => { c with txSeq := (c.txSeq + 1) % 2 ^ 32 }
      exec (.telegramSend k) s = .next (forEach [0, 1] (fun n t => t.txPut n (t.tgFrame k n l))
        { u with sio := { u.sio with sent := u.sio.sent ++ [(k, s.portsUp, l)] } })) ∧
  (∀ (k port : Nat) (bytes : List Nat) (l : List Nat) (s : State),
      s.tgReceives k → (s.tg k).live → s.portLive port → s.deaf = false → s.appsRun → s.tgContent k port bytes = some l → s.tgAccepts k l →
      exec (.telegramReceive k port bytes) s = .next (s.tgCopy k port l)) ∧
  (∀ (k port : Nat) (bytes : List Nat) (l : List Nat) (s : State),
      s.tgReceives k → (s.tg k).live → s.portLive port → s.deaf = false → s.appsRun → s.tgContent k port bytes = some l → s.tgAccepts k l = false →
      exec (.telegramReceive k port bytes) s = .next ((s.addSat (Reg.SLU_TG_STAT_REJ k) 1).raisePaced (0x07530 + k) 0x0753 0 (subjNum k) [])) ∧
  (∀ (k : Nat) (s : State),
      s.tgReceives k →
      exec (.telegramSkewExpiry k) s = .next (s.tgExpire k)) ∧
  (∀ (k : Nat) (s : State),
      s.tgReceives k → (s.tg k).live → (s.tg k).timedOut = false → s.reg (Reg.SLU_TG_CTRL_TOUT k) * msStrikes ≤ s.since (s.tg k).accAt → s.reg (Reg.SLU_TG_CTRL_TACT k) = 2 →
      exec (.telegramTimeout k) s = .next (((s.updTg k fun c => { c with timedOut := true, started := false, cnt := none, isol := false, toutIso := false }).setFlag (Reg.SLU_TG_STAT_UP k) false).raiseLevel 0x0750 3 (subjNum k) [])) ∧
  (∀ (k : Nat) (s : State),
      s.tgReceives k → (s.tg k).live → (s.tg k).timedOut = false → s.reg (Reg.SLU_TG_CTRL_TOUT k) * msStrikes ≤ s.since (s.tg k).accAt → s.reg (Reg.SLU_TG_CTRL_TACT k) ≠ 2 →
      exec (.telegramTimeout k) s = .next (((s.updTg k fun c => { c with timedOut := true, started := false, cnt := none, isol := false, toutIso := s.reg (Reg.SLU_TG_CTRL_TACT k) == 1 }).setFlag (Reg.SLU_TG_STAT_UP k) false).raiseLevel 0x0750 1 (subjNum k) []))

/-- The end of a session, its commit and the lockout: for every state and operands that meet the named conditions, each of
these commands answers the next state that its effect gives: SESSION_IDLE_TIMEOUT, SESSION_PATH_LOST,
SESSION_COMMIT_COMPLETE, PASSWORD_LOCKOUT_END. The conditions are on the state and the operands alone. Where a clause
follows a choice of the model, it is one of log entries 47, 51, 242, 243, 244, 245, 246, 296. (09_safety_io.md, R265,
R622) -/
def Obligations.SessionEventsComplete : Prop :=
  (∀ (x : Session) (s : State),
      s.auth.session = some x → (s.reg Reg.SEC_SA_CFG_IDLE * secStrikes ≤ s.since x.lastAt ∨ s.reg Reg.SEC_SA_CFG_MAXH * 3600 * secStrikes ≤ s.since x.openedAt) →
      exec .sessionIdleTimeout s = .next (s.sessionClose)) ∧
  (∀ (s : State),
      s.linkUp = false →
      exec (.sessionPathLost .pf0) s = .next (s.sessionCloseOf .pf0)) ∧
  (∀ (c : Nat) (s : State),
      (s.svcConn? c).isSome →
      exec (.sessionPathLost (.svc c)) s = .next (s.svcClose c)) ∧
  (∀ (c : CommitIn) (x : Session) (a : Nat) (s : State),
      s.auth.commit = some (x, a) → s.commitReady → s.pairWorks →
      exec (.sessionCommitComplete c) s = .next ((s.commitSwitch c x).commitClose x)) ∧
  (∀ (s : State),
      s.auth.lockOn → s.auth.lock = 0 →
      exec .passwordLockoutEnd s = .next (({ s with auth := { s.auth with lockOn := false } }).saRegs))

/-- Bleeding, shuttles and quiet periods: for every state and operands that meet the named conditions, each of these
commands answers the next state that its effect gives: SHUTTLE_CHANGE, QUIET_PERIOD_END, DISSIPATION_EXCESS,
BLEED_NONCONVERGENCE, SHUTTLE_FAULT. The conditions are on the state and the operands alone. Where a clause follows a
choice of the model, it is one of log entries 71, 72, 73, 74, 75, 76, 77, 78, 79, 80, 287. (10_balancing.md, R278,
R289, R290) -/
def Obligations.BalanceCommandsComplete : Prop :=
  (∀ (nn : Nat) (s : State),
      s.bal.shutAt.get 0 nn ≠ 0 → s.bal.shutAt.get 0 nn - 1 + 20 ≤ s.now → (s.balNow nn).dir ≠ .off →
      let t0 := s.bal.shutAt.get 0 nn - 1
      exec (.shuttleChange nn) s = .next { s.setFields [(Reg.BAL_SHUT_POS nn, (s.balNow nn).pos), (Reg.BAL_SHUT_DIR nn, (s.balNow nn).dir.code)] with
        bal := { s.bal with
          shutAt := s.bal.shutAt.put nn 0, dwellAt := s.bal.dwellAt.put nn (t0 + 20)
          selAt := if s.reg (Reg.BAL_SHUT_DIR nn) = 0 then s.bal.selAt.put nn (s.now + 1) else s.bal.selAt } }) ∧
  (∀ (e : Nat) (s : State),
      s.bal.quiet = some e → s.reg Reg.EST_REST_REST_I * 1000 < s.iMag →
      exec .quietPeriodEnd s = .next ({ s with bal := { s.bal with quiet := none, again := true } })) ∧
  (∀ (e : Nat) (s : State),
      s.bal.quiet = some e → s.iMag ≤ s.reg Reg.EST_REST_REST_I * 1000 → e ≤ s.turn →
      exec .quietPeriodEnd s = .next ({ s with bal := { s.bal with quiet := none, quietEnd := some s.turn } })) ∧
  (∀ (s : State),
      10 ≤ s.bal.dissRun →
      exec .dissipationExcess s = .next (
        let s1 := s.raiseLevel 0x0901 1 subjNone []
        { s1 with bal := { s1.bal with shed := true, dissRun := 0 } })) ∧
  (∀ (g : Nat) (c : Nat × Nat × Rat) (s : State),
      s.bal.cand.find? (fun c => c.1 == g) = some c → c.2.1 + 48 * 3600000 ≤ s.turn →
      exec (.bleedNonconvergence g) s = .next ((fun (u : State) => { u with bal := { u.bal with cand := u.bal.cand.put g (s.turn, s.bal.excess.get 0 g) } }) (s.raise 0x0905 1 (subjPos g) []))) ∧
  (∀ (nn : Nat) (s : State),
      2 ≤ s.bal.shutIBad.get 0 nn →
      let u := (s.raise 0x0902 1 (subjBank nn) []).setFlag (Reg.BAL_SHUT_DIS nn) true
      exec (.shuttleFault nn 0x0902) s = .next { u with bal := { u.bal with shutIBad := u.bal.shutIBad.put nn 0 } }) ∧
  (∀ (nn : Nat) (s : State),
      3 ≤ s.bal.shutFbBad.get 0 nn →
      exec (.shuttleFault nn 0x0903) s = .next ((s.raiseLevel 0x0903 2 (subjBank nn) []).setFlag (Reg.BAL_SHUT_DIS nn) true))

/-- The Governor and the dispatch envelope: for every state and operands that meet the named conditions, each of these
commands answers the next state that its effect gives: GOV_WRITE, SLOT_FAIL, SLOT_FAIL_EXIT, SETPOINT_READBACK_FAULT,
AOUT_READBACK_FAULT, ACT_READBACK_FAULT, ANALOG_RANGE_CHANGE, RANGE_CHANGE_COMPLETE, SETPOINT_WRITE, SETPOINT_TIMEOUT,
ENVELOPE_STALE. The conditions are on the state and the operands alone. Where a clause follows a choice of the model,
it is one of log entries 81, 82, 83, 84, 85, 86, 87, 88, 89, 90, 91, 92, 93, 94, 95, 132, 255, 288, 303.
(11_governor.md, 12_envelope_thermal.md, R294, R332) -/
def Obligations.GovernorCommandsComplete : Prop :=
  (∀ (path : Path) (off : Nat) (w : Word) (s : State),
      govAt off → s.deaf = false →
      exec (.govWrite path off w) s = .next (s.govWrite path off w.toNat)) ∧
  (∀ (n : Nat) (s : State),
      n < 8 → s.slotOn n → (s.slot n).fail = false → s.reg (Reg.GOV_SLOT_CFG_HOLDMAX n) ≤ (s.slot n).hold → s.present 0x0803 (subjNum n) = false →
      exec (.slotFail n) s = .next (((s.setSlot n (s.slotFailed n (s.slot n).hold)).raiseLevel 0x0803 1 (subjNum n) []).slotShow n false true)) ∧
  (∀ (n : Nat) (s : State),
      n < 8 → s.slotOn n → (s.slot n).fail → s.present 0x0803 (subjNum n) = false →
      exec (.slotFail n) s = .next ((s.raiseLevel 0x0803 1 (subjNum n) []).slotShow n false true)) ∧
  (∀ (n : Nat) (s : State),
      n < 8 → s.slotOn n → (s.slot n).fail = false → s.present 0x0803 (subjNum n) →
      exec (.slotFailExit n) s = .next (s.goneAt 0x0803 (subjNum n))) ∧
  (∀ (s : State),
      2 ≤ s.gov.rbBad →
      exec .setpointReadbackFault s = .next (s.raiseLevel 0x0810 3 subjNone [])) ∧
  (∀ (s : State),
      2 ≤ s.gov.aoutBad →
      exec .aoutReadbackFault s = .next (s.raiseLevel 0x0811 3 subjNone [])) ∧
  (∀ (k : Nat) (s : State),
      2 ≤ s.gov.actBad.get 0 k →
      exec (.actReadbackFault k) s = .next (s.raiseLevel 0x0813 1 (subjNum k) [])) ∧
  (∀ (a : Nat) (s : State),
      s.changeTime = some a → 48 ≤ a →
      exec .analogRangeChange s = .next ({ s with gov := { s.gov with range := s.reg Reg.GOV_SPT_CTRL_ARANGE, aout := none } })) ∧
  (∀ (a : Nat) (s : State),
      s.changeTime = some a → 95 ≤ a →
      exec .rangeChangeComplete s = .next ({ s.setFlag Reg.GOV_SPT_STAT_RCHG false with gov := { s.gov with change := none, range := s.reg Reg.GOV_SPT_CTRL_ARANGE } })) ∧
  (∀ (path : Path) (w : Word) (s : State),
      s.deaf = false →
      exec (.setpointWrite path w) s = .next (s.setpointWrite path w.toNat)) ∧
  (∀ (a : Nat) (s : State),
      s.env.setpAt = some a → s.reg Reg.ENV_CTRL_SPTO ≠ 0 → s.reg Reg.ENV_CTRL_SPTO * 3200 ≤ s.since a → s.flag Reg.ENV_STAT_SPTO = false →
      exec .setpointTimeout s = .next ((s.raiseLevel 0x0760 1 subjNone []).setFlag Reg.ENV_STAT_SPTO true)) ∧
  (∀ (s : State),
      16 ≤ s.env.stale → s.env.falling = false →
      exec .envelopeStale s = .next (
        let s1 := (s.raiseLevel 0x0763 2 subjNone []).setFlag Reg.ENV_STAT_FALL true
        { s1 with env := { s1.env with falling := true } }))

/-- The Millpond: for every state and operands that meet the named conditions, each of these commands answers the next
state that its effect gives: READER_OVERRUN, SCRUB_PASS, MILLPOND_READY. The conditions are on the state and the
operands alone. Where a clause follows a choice of the model, it is one of log entries 10, 96, 97, 219, 249, 269.
(13_millpond.md, R345, R349) -/
def Obligations.MillpondCommandsComplete : Prop :=
  (∀ (f : Nat) (s : State),
      s.hop.next = some f → s.hop.off = none → f + 170000 < s.headTurn →
      exec (.readerOverrun none) s = .next ((({ s with hop := { s.hop with next := some (s.headTurn - 120000), gaps := s.hop.gaps ++ [(f, s.headTurn - 120000 - f, 1)] } }).addSat Reg.MPD_OVR_HOPPER 1).raise 0x0A07 1 subjNone (leBytes 8 f))) ∧
  (∀ (fn r : Nat) (f : Flume) (s : State),
      s.flume? fn r = some f → 170000 < s.lag f → f.trunc = false → f.kind ≠ 6 →
      exec (.readerOverrun (some (fn, r))) s = .next (((s.quiet.addSat Reg.MPD_OVR_FLUME 1).note 0x0A08 (subjRing fn r) (leBytes 8 f.next)).setFlume fn r (f.skip 1 (s.headTurn - 120000)))) ∧
  (∀ (fn r : Nat) (f : Flume) (s : State),
      s.flume? fn r = some f → 170000 < s.lag f → f.trunc = false → f.kind = 6 → f.buf = none →
      exec (.readerOverrun (some (fn, r))) s = .next (((s.quiet.addSat Reg.MPD_OVR_FLUME 1).note 0x0A08 (subjRing fn r) (leBytes 8 f.next)).setFlume fn r { f with trunc := true })) ∧
  (∀ (e : EccIn) (s : State),
      s.flag Reg.MPD_STAT_READY → s.scrubTime ≤ s.since s.mpd.scrubAt →
      exec (.scrubPass e) s = .next (
        let s1 := s.ecc e
        { s1 with mpd := { s1.mpd with scrubAt := s.now } })) ∧
  (∀ (readA readB : Bool) (s : State),
      s.sys.core → s.pwr.booted → s.flag Reg.MPD_STAT_READY = false → (s.hopSlot 0).cart = none → (s.hopSlot 1).cart = none →
      exec (.millpondReady readA readB) s = .next ({ s.setFlag Reg.MPD_STAT_READY true with mpd := { s.mpd with scrubAt := s.now } }))

/-- The PCIe link and its functions: for every state and operands that meet the named conditions, each of these commands
answers the next state that its effect gives: LINK_UP, LINK_DOWN, PERST_ASSERT, PERST_DEASSERT, FUNCTION_LEVEL_RESET,
FUNCTION_POWER_CHANGE, HELD_ENTRY_FLUSH, HOLD_TIMEOUT, PME_TURN_OFF, PME_RESEND, VF_ENABLE, VECTOR_UNMASK,
RCT_BASE_WRITE, PRIV_WRITE, CELL_TABLE_READ, CELL_TABLE_READ_DONE. The conditions are on the state and the operands
alone. Where a clause follows a choice of the model, it is one of log entries 98, 99, 100, 101, 102, 103, 106, 107,
119, 133, 217, 220, 256, 293, 298, 299, 300. (14_host_rings.md, R365, R385, R388) -/
def Obligations.HostFunctionCommandsComplete : Prop :=
  (∀ (gen width : Nat) (s : State),
      s.flag Reg.PWR_DOM_PCI → s.flag Reg.HIF_LINK_PERST = false → s.linkUp = false → 1 ≤ gen → gen ≤ s.reg Reg.HIF_LINK_CFG_MAXGEN → (width = 1 ∨ width = 2 ∨ width = 4) → width ≤ s.reg Reg.HIF_LINK_CFG_MAXW → s.hif.fns = [] →
      exec (.linkUp gen width) s = .next ((fun (u : State) => { u with hif := { u.hif with turnOff := false } }) (s.quiet.setFields [(Reg.HIF_LINK_GEN, gen), (Reg.HIF_LINK_WIDTH, width), (Reg.HIF_LINK_LSTATE, 1)]))) ∧
  (∀ (s : State),
      s.linkUp →
      exec .linkDown s = .next (s.quiet.linkLost)) ∧
  (∀ (s : State),
      s.flag Reg.HIF_LINK_PERST = false → s.linkUp →
      exec .perstAssert s = .next (((((s.quiet.setFlag Reg.HIF_LINK_PERST true).linkLost).vfsOff true).fnReset true 0).wakeLine)) ∧
  (∀ (s : State),
      exec .perstDeassert s = .next ((s.setFlag Reg.HIF_LINK_PERST false).setFlag Reg.HIF_LINK_WAKE false)) ∧
  (∀ (s : State),
      s.linkUp →
      exec (.functionLevelReset 0) s = .next (((s.quiet.vfsOff false).fnReset false 0).sessionCloseOf .pf0)) ∧
  (∀ (fn : Nat) (s : State),
      s.fnExists fn → fn ≠ 0 → s.linkUp →
      exec (.functionLevelReset fn) s = .next (s.quiet.fnReset false fn)) ∧
  (∀ (fn : Nat) (d0 bme pmeEn clear : Bool) (s : State),
      s.fnExists fn → s.linkUp → (s.quiet.updFn fn fun f => { f with d0 := d0, bme := bme, pmeEn := pmeEn, pmeStatus := f.pmeStatus && !clear }).suspended fn →
      exec (.functionPowerChange fn d0 bme pmeEn clear) s = .next ((s.quiet.updFn fn fun f => { f with d0 := d0, bme := bme, pmeEn := pmeEn, pmeStatus := f.pmeStatus && !clear }).holdWaiting fn)) ∧
  (∀ (fn : Nat) (d0 bme pmeEn clear : Bool) (s : State),
      s.fnExists fn → s.linkUp → (s.quiet.updFn fn fun f => { f with d0 := d0, bme := bme, pmeEn := pmeEn, pmeStatus := f.pmeStatus && !clear }).suspended fn = false → s.suspended fn →
      exec (.functionPowerChange fn d0 bme pmeEn clear) s = .next (((s.quiet.updFn fn fun f => { f with d0 := d0, bme := bme, pmeEn := pmeEn, pmeStatus := f.pmeStatus && !clear }).updFn fn fun g => { g with resumedAt := s.now }).sendPending fn)) ∧
  (∀ (fn : Nat) (e : HostEntry) (x : Ring) (s : State),
      s.suspended fn = false → s.hif.turnOff = false → s.appsRun → (s.fn fn).held.find? (s.heldHome fn) = some e → s.ring? fn e.ring = some x → x.writable → (s.quiet.needCtx fn e.ring).2 →
      exec (.heldEntryFlush fn) s = .next (((s.quiet.needCtx fn e.ring).1.updFn fn fun f => { f with held := f.held.erase e }).putEntry fn e.ring e)) ∧
  (∀ (fn : Nat) (s : State),
      (s.suspended fn) = false → s.reg Reg.HIF_HOLD_HOLD_TO * secStrikes ≤ s.since (s.fn fn).resumedAt → (s.fn fn).held.any (fun e => !s.heldHome fn e) →
      exec (.holdTimeout fn) s = .next ((s.updFn fn fun f => { f with held := f.held.filter (s.heldHome fn) }).hifFault fn 0 0x0B08)) ∧
  (∀ (s : State),
      s.linkUp → s.hif.turnOff = false →
      exec .pmeTurnOff s = .next (({ s.quiet with hif := { s.quiet.hif with turnOff := true } }).hifFault 0 0 0x0B02)) ∧
  (∀ (fn : Nat) (s : State),
      (s.fn fn).pmeStatus → (s.fn fn).pmeEn → s.suspended fn → s.linkUp → s.hif.turnOff = false → s.elapsed (s.fn fn).pmeAt (128 * msStrikes) →
      exec (.pmeResend fn) s = .next (s.quiet.sendPme fn)) ∧
  (∀ (n : Nat) (ari : Bool) (s : State),
      s.linkUp → n ≤ (if ari then 255 else 7) →
      exec (.vfEnable n ari) s = .next ((fun (u : State) => { u with hif := { u.hif with numVf := n, ari := ari } }) (forEach (range (n + 1) (s.hif.numVf + 1)) (State.fnReset false) s.quiet))) ∧
  (∀ (fn : Nat) (enable : Bool) (unmasked : List Nat) (s : State),
      s.fnExists fn → s.linkUp →
      exec (.vectorUnmask fn enable unmasked) s = .next ((s.quiet.updFn fn fun f => { f with msix := enable, unmasked := unmasked.filter (· < (if fn = 0 then 64 else 32)) }).sendPending fn)) ∧
  (∀ (fn : Nat) (hi : Bool) (w : Word) (s : State),
      s.fnReached fn → s.ringsOf fn = [] →
      exec (.rctBaseWrite fn hi w) s = .next (s.writeWord (fnPath fn) (0x100008 + fn * 0x4000 + (if hi then 4 else 0)) w.toNat)) ∧
  (∀ (path : Path) (n : Nat) (w : Word) (s : State),
      0 < n → n < 256 → s.deaf = false → bitAt w.toNat 1 = false →
      exec (.privWrite path n w) s = .next (s.writeWord path (Reg.HIF_FN_PRIVn_PRIV n).off w.toNat)) ∧
  (∀ (path : Path) (w : Word) (s : State),
      s.deaf = false →
      exec (.cellTableRead path w) s = .next ((s.writeWord path Reg.HIF_CELL_HI_BASE_HI.off w.toNat).setFlag Reg.HIF_CELL_STAT_BUSY true)) ∧
  (∀ (data : Option (List Nat)) (s : State),
      s.flag Reg.HIF_CELL_STAT_BUSY →
      exec (.cellTableReadDone data) s = .next ((s.cellsDone 0 1152 data).1.setFlag Reg.HIF_CELL_STAT_BUSY false))

/-- Host rings, doorbells and entries: for every state and operands that meet the named conditions, each of these commands
answers the next state that its effect gives: RING_LOAD, RING_UNLOAD, DOORBELL, ENTRY_WRITE, MODTIME_EXPIRY,
HOST_READ_TIMEOUT. The conditions are on the state and the operands alone. Where a clause follows a choice of the
model, it is one of log entries 98, 99, 100, 101, 102, 103, 106, 107, 119, 133, 217, 220, 256, 293, 298, 299, 300.
(14_host_rings.md, R375) -/
def Obligations.RingCommandsComplete : Prop :=
  (∀ (fn r : Nat) (ctx : Option (List Nat)) (fresh : Bool) (u : State) (s : State),
      s.fnReached fn → r < 1024 → s.quiet = u → u.flag (Reg.HIF_FN_RING_OPSTAT_BUSY fn) = false → ((u.fn fn).wasReset && !(u.fn fn).loaded.contains r) = fresh → u.loadResult fn r ctx fresh = 0 →
      let l := ctx.getD []
      let x := if fresh || ctxBlank l then ctxRing l else ctxResume u.free l
      let v := ((u.opstat fn r 0).took.took.setRing fn r x).updFn fn fun (f : HostFn) => { f with
        loaded := r :: f.loaded.filter (· != r)
        subs := if x.kind = kindEvt then (r, x.minCls, x.clr) :: f.subs.filter (fun y => y.1 != r) else f.subs }
      exec (.ringLoad fn r ctx) s = .next ((v.cacheIn fn r).getD v)) ∧
  (∀ (fn r : Nat) (x : Ring) (a : Nat) (s : State),
      s.ring? fn r = some x → x.unloading = some a → 100 * msStrikes ≤ s.since a →
      exec (.ringUnload fn r true) s = .next (forAll x.flight (fun c s => (s.abortCmd c).complete c (.no stAborted)) s.quiet)) ∧
  (∀ (fn r : Nat) (x : Ring) (s : State),
      s.fnReached fn → r < 1024 → s.flag (Reg.HIF_FN_RING_OPSTAT_BUSY fn) = false → s.suspended fn = false → s.ring? fn r = some x → (s.ringsOf fn).any (fun e => e.2.fromHost && e.2.pair == r) = false →
      exec (.ringUnload fn r false) s = .next (s.quiet.unloadBegin fn r x)) ∧
  (∀ (fn r : Nat) (lo : Word) (x : Ring) (s : State),
      s.fnReached fn → r < 1024 → s.quiet.ring? fn r = some x → x.badDoorbell lo.toNat = false →
      exec (.doorbell fn r (some lo) none) s = .next ((s.quiet.needCtx fn r).1.doorbell fn r lo.toNat false x)) ∧
  (∀ (fn r : Nat) (lo hi : Word) (x : Ring) (s : State),
      s.fnReached fn → r < 1024 → s.quiet.ring? fn r = some x → hi.toNat < 2 → x.badDoorbell lo.toNat = false →
      exec (.doorbell fn r (some lo) (some hi)) s = .next ((s.quiet.needCtx fn r).1.doorbell fn r lo.toNat (hi.toNat == 1) x)) ∧
  (∀ (fn r : Nat) (x : Ring) (s : State),
      s.fnReached fn → r < 1024 → s.ring? fn r = some x →
      exec (.doorbell fn r none none) s = .next (s.returns (fnPath fn) x.midx)) ∧
  (∀ (fn r : Nat) (x : Ring) (e : HostEntry) (s : State),
      s.ring? fn r = some x → x.writable → s.suspended fn = false → s.hif.turnOff = false → s.appsRun → s.nextReady fn r = some e → (s.quiet.needCtx fn r).2 →
      exec (.entryWrite fn r) s = .next (((s.quiet.needCtx fn r).1.unready fn r).putEntry fn r e)) ∧
  (∀ (fn r : Nat) (x : Ring) (s : State),
      s.ring? fn r = some x → x.writable → s.suspended fn = false → s.hif.turnOff = false → s.appsRun → s.nextReady fn r = none → x.drop ≠ 0 → (s.quiet.needCtx fn r).2 →
      exec (.entryWrite fn r) s = .next (((s.quiet.needCtx fn r).1.setRing fn r { x with drop := 0 }).putEntry fn r (x.overflow r))) ∧
  (∀ (fn r : Nat) (x : Ring) (a : Nat) (s : State),
      s.ring? fn r = some x → x.firstAt = some a → x.ien → x.armed → x.modtime ≠ 0 → x.fromHost = false → x.modtime * 32 ≤ s.since a * 1000 → s.linkUp →
      exec (.modtimeExpiry fn r) s = .next ((s.quiet).ringSignal fn r)) ∧
  (∀ (fn r : Nat) (x : Ring) (s : State),
      s.ring? fn r = some x → x.error = false → ((x.fromHost = true ∧ x.midx ≠ x.hidx) ∨ s.hif.cache.contains (ringKey fn r) = false) →
      exec (.hostReadTimeout fn r) s = .next ((s.setRing fn r { x with error := true }).hifFault fn r 0x0B05))

/-- Commands of the catalogue that read, capture, snapshot and restore: for every state and operands that meet the named
conditions, each of these commands answers the next state that its effect gives: NOP, SETPOINT, HOST_INPUT, CAPTURE,
SNAP_CERT, SNAP_MODEL, RESTORE_CERT, RESTORE_MODEL, MODEL_START, FLUME_OPEN, FLUME_CLOSE, FLUME_STAT, CELL_REFRESH.
The conditions are on the state and the operands alone. Where a clause follows a choice of the model, it is one of log
entries 104, 105, 108, 109, 110, 111, 112, 113, 114, 115, 116, 117, 118, 131, 238. (15_commands_flumes.md, R393, R394) -/
def Obligations.DataCommandsComplete : Prop :=
  (∀ (c : CmdIn) (s u : State) (x : CmdCtx),
      s.accepts cmdNop c = true →
      s.fetched cmdNop c = (u, x) →
      exec (.nopCmd c) s = .next (u.complete x.ref (.ok (u.now % 2 ^ 48)))) ∧
  (∀ (c : CmdIn) (s u : State) (x : CmdCtx),
      s.accepts cmdSetpoint c = true →
      s.fetched cmdSetpoint c = (u, x) →
      exec (.setpoint c) s = .next ((u.setpointWrite .pf0 (x.arg 8 4)).complete x.ref (.ok ((if u.phase < 20 then u.turn else u.turn + 1) % 2 ^ 48)))) ∧
  (∀ (c : CmdIn) (s u : State) (x : CmdCtx) (l : List Nat),
      s.accepts cmdHostInput c = true →
      s.fetched cmdHostInput c = (u, x) →
      (List.range 8).filter (fun k => bitAt (x.arg 8 1) k) = l →
      l ≠ [] →
      u.gov.queue.length + l.length ≤ 64 →
      exec (.hostInput c) s = .next ((forEach l (fun k s => s.govWrite .pf0 (Reg.GOV_HOST_VAL k).off (x.arg (12 + 2 * k) 2)) u).complete x.ref (.ok (forEach l (fun k s => s.govWrite .pf0 (Reg.GOV_HOST_VAL k).off (x.arg (12 + 2 * k) 2)) u).gov.queue.length))) ∧
  (∀ (c : CmdIn) (s u : State) (x : CmdCtx),
      s.accepts cmdCapture c = true →
      s.fetched cmdCapture c = (u, x) →
      exec (.capture c) s = .next ((u.capture 0 0).complete x.ref (.ok (((u.capture 0 0).mpd.capCount + 15) % 16 + 16 * (u.turn % 2 ^ 44))))) ∧
  (∀ (c : CmdIn) (s u : State) (x : CmdCtx) (n : Nat),
      s.accepts cmdSnapCert c = true →
      s.fetched cmdSnapCert c = (u, x) →
      x.buffer 36928 →
      u.est.supStrike = some n →
      exec (.snapCert c) s = .next ((u.sendSnap x (u.snapBytes (u.snapshot n))).completeWith x.ref (.ok (n % 2 ^ 48)) (some ⟨(u.snapshot n).strike, (u.snapshot n).q, (u.snapshot n).eq⟩))) ∧
  (∀ (c : CmdIn) (s u : State) (x : CmdCtx),
      s.accepts cmdSnapModel c = true →
      s.fetched cmdSnapModel c = (u, x) →
      x.buffer 110656 →
      u.mdl.lastTurn ≠ 0 →
      exec (.snapModel c) s = .next ((u.sendSnap x (u.modelSnapBytes ((u.mdl.lastTurn - 1) * 32))).complete x.ref (.ok ((u.mdl.lastTurn - 1) * 32 % 2 ^ 48)))) ∧
  (∀ (c : CmdIn) (s u : State) (x : CmdCtx) (l : List Nat),
      s.accepts cmdRestoreCert c = true →
      s.fetched cmdRestoreCert c = (u, x) →
      x.arg 8 8 % 4096 = 0 →
      x.arg 16 4 = 36928 →
      x.data = some l →
      exec (.restoreCert c) s = .next ((State.restoreCert l u).1.complete x.ref (State.restoreCert l u).2)) ∧
  (∀ (c : CmdIn) (s u : State) (x : CmdCtx) (l : List Nat),
      s.accepts cmdRestoreModel c = true →
      s.fetched cmdRestoreModel c = (u, x) →
      x.arg 8 8 % 4096 = 0 →
      x.arg 16 4 = 110656 →
      x.data = some l →
      exec (.restoreModel c) s = .next ((State.restoreModel l u).1.complete x.ref (State.restoreModel l u).2)) ∧
  (∀ (c : CmdIn) (s u : State) (x : CmdCtx) (w : List Rat),
      s.accepts cmdModelStart c = true →
      s.fetched cmdModelStart c = (u, x) →
      x.arg 8 1 < 8 →
      ((List.range 9).map fun k => if k = 7 then some ((fp32At x.entry 40).getD 0) else fp32At x.entry (12 + 4 * k)).filterMap id = w →
      w.length = 9 →
      (w.zip (List.range 9)).all (fun e => startValueOk e.2 e.1) →
      exec (.modelStart c) s = .next (({ u with mdl := { u.mdl with starts := u.mdl.starts.put (x.arg 8 1) w } } : State).complete x.ref (.ok 0))) ∧
  (∀ (c : CmdIn) (s u : State) (x : CmdCtx) (f : Flume),
      s.accepts cmdFlumeOpen c = true →
      s.fetched cmdFlumeOpen c = (u, x) →
      u.openArgs x →
      u.window (flumeOf x) = some f →
      u.flume? x.ref.fn (x.arg 8 2) = none →
      u.hif.flumes.length < 1024 →
      exec (.flumeOpen c) s = .next ((u.setFlume x.ref.fn (x.arg 8 2) f).complete x.ref (.ok (x.arg 8 2)))) ∧
  (∀ (c : CmdIn) (s u : State) (x : CmdCtx) (f : Flume),
      s.accepts cmdFlumeClose c = true →
      s.fetched cmdFlumeClose c = (u, x) →
      u.flume? x.ref.fn (x.arg 8 2) = some f →
      x.arg 8 2 < 1024 →
      exec (.flumeClose c) s = .next ((((u.closeBuf x.ref.fn (x.arg 8 2) stEnd { f with rest := [] }).1).dropFlume x.ref.fn (x.arg 8 2)).complete x.ref (.ok (sat 0xFFFFFFFF f.delivered)))) ∧
  (∀ (c : CmdIn) (s u : State) (x : CmdCtx) (f : Flume),
      s.accepts cmdFlumeStat c = true →
      s.fetched cmdFlumeStat c = (u, x) →
      u.flume? x.ref.fn (x.arg 8 2) = some f →
      exec (.flumeStat c) s = .next (u.complete x.ref (.ok (sat 0xFFFFFFFF (u.lag f) + 2 ^ 32 * sat 0xFFFF f.gaps)))) ∧
  (∀ (c : CmdIn) (s u : State) (x : CmdCtx) (l : List Nat),
      s.accepts cmdCellRefresh c = true →
      s.fetched cmdCellRefresh c = (u, x) →
      x.arg 10 2 ≠ 0 →
      x.arg 8 2 + x.arg 10 2 ≤ 1152 →
      u.flag Reg.HIF_CELL_STAT_BUSY = false →
      x.data = some l →
      exec (.cellRefresh c) s = .next ((u.cellsDone (x.arg 8 2) (x.arg 10 2) (some l)).1.complete x.ref (.ok (u.cellsDone (x.arg 8 2) (x.arg 10 2) (some l)).2)))

/-- Commands of the catalogue to Sluice and to the configuration authority: for every state and operands that meet the
named conditions, each of these commands answers the next state that its effect gives: CONNECT, OPEN, RESET,
SESSION_OPEN, SESSION_CLOSE, PASSWORD_SET, KEY_SET, WELD_CLEAR, CLOG_ROLL, TABLE_LOAD. The conditions are on the state
and the operands alone. Where a clause follows a choice of the model, it is one of log entries 47, 51, 104, 105, 108,
109, 110, 111, 112, 113, 114, 115, 116, 117, 118, 131, 238, 242, 243, 244, 245, 246, 296. (15_commands_flumes.md,
R393, R394, 09_safety_io.md) -/
def Obligations.RequestCommandsComplete : Prop :=
  (∀ (c : CmdIn) (s u : State) (x : CmdCtx),
      s.accepts cmdConnect c = true →
      s.fetched cmdConnect c = (u, x) →
      exec (.connectReq c) s = .next (u.request .connect (x.privileged u) (some x.ref))) ∧
  (∀ (c : CmdIn) (s u : State) (x : CmdCtx),
      s.accepts cmdOpen c = true →
      s.fetched cmdOpen c = (u, x) →
      u.roleStandby = false →
      exec (.openReq c) s = .next (u.request .openString (x.privileged u) (some x.ref))) ∧
  (∀ (c : CmdIn) (s u : State) (x : CmdCtx),
      s.accepts cmdReset c = true →
      s.fetched cmdReset c = (u, x) →
      exec (.resetReq c) s = .next (u.request .reset (x.privileged u) (some x.ref))) ∧
  (∀ (c : CmdIn) (s u : State) (x : CmdCtx),
      s.accepts cmdSessionOpen c = true →
      s.fetched cmdSessionOpen c = (u, x) →
      passwordForm (x.arg 8 1) (x.argBytes 12 32) →
      u.sessionMayOpen →
      u.passwordRight (x.arg 8 1) (x.argBytes 12 32) →
      exec (.sessionOpen c) s = .next ((u.startSession x.path (x.sender u).1 (x.sender u).2).complete x.ref (.ok ((u.startSession x.path (x.sender u).1 (x.sender u).2).auth.sessions % 65536)))) ∧
  (∀ (c : CmdIn) (s u : State) (x : CmdCtx),
      s.accepts cmdSessionClose c = true →
      s.fetched cmdSessionClose c = (u, x) →
      exec (.sessionClose c) s = .next ((fun (t : State) => { t with auth := { t.auth with closeCmd := some x.ref } }) u.sessionClose)) ∧
  (∀ (c : CmdIn) (s u : State) (x : CmdCtx) (y : Session),
      s.accepts cmdPasswordSet c = true →
      s.fetched cmdPasswordSet c = (u, x) →
      u.sessionOf x.path = some y →
      passwordForm (x.arg 8 1) (x.argBytes 12 32) →
      u.clogRoom y →
      exec (.passwordSet c) s = .next (((((u.mapSession fun z => { z with password := some ((x.argBytes 12 32).take (x.arg 8 1)) }).clogWrite (y.entry 0x05)).sessionTouch).complete x.ref (.ok 0)))) ∧
  (∀ (c : CmdIn) (s u : State) (x : CmdCtx) (y : Session),
      s.accepts cmdKeySet c = true →
      s.fetched cmdKeySet c = (u, x) →
      u.sessionOf x.path = some y →
      u.clogRoom y →
      exec (.keySet c) s = .next (((((u.mapSession fun z => { z with key := some (x.argBytes 8 32) }).clogWrite (y.entry 0x04)).sessionTouch).complete x.ref (.ok 0)))) ∧
  (∀ (c : CmdIn) (s u : State) (x : CmdCtx) (y : Session),
      s.accepts cmdWeldClear c = true →
      s.fetched cmdWeldClear c = (u, x) →
      u.sessionOf x.path = some y →
      u.clogRoom y →
      exec (.weldClear c) s = .next ((((({ u with slu := { u.slu with weldLock := false } } : State).clogWrite (y.entry 0x06)).sessionTouch).complete x.ref (.ok 0)))) ∧
  (∀ (c : CmdIn) (s u : State) (x : CmdCtx) (y : Session),
      s.accepts cmdClogRoll c = true →
      s.fetched cmdClogRoll c = (u, x) →
      u.sessionOf x.path = some y →
      exec (.clogRoll c) s = .next ((u.clogRoll y (x.arg 8 4) (x.argBytes 12 16)).1.complete x.ref (u.clogRoll y (x.arg 8 4) (x.argBytes 12 16)).2)) ∧
  (∀ (c : CmdIn) (s u : State) (x : CmdCtx) (l : List Nat) (y : Session),
      s.accepts cmdTableLoad c = true →
      s.fetched cmdTableLoad c = (u, x) →
      [1, 2, 3].contains (x.arg 8 1) →
      x.arg 9 1 < (if x.arg 8 1 = 2 then 4 else 8) →
      tableLen (x.arg 8 1) (x.arg 12 4) →
      x.ref.svc.isSome ∨ x.arg 16 8 % 4096 = 0 →
      x.data = some l →
      u.tableRefusal (x.arg 8 1) (l.take (x.arg 12 4)) = none →
      u.sessionOf x.path = some y →
      u.clogRoom y →
      exec (.tableLoad c) s = .next ((u.tableStage y (x.arg 8 1) (x.arg 9 1) (l.take (x.arg 12 4))).1.complete x.ref (.ok (leAt (l.take (x.arg 12 4)) ((l.take (x.arg 12 4)).length - 4) 4))))

/-- Commands of the catalogue to the event log, the Hoppers and the firmware: for every state and operands that meet the
named conditions, each of these commands answers the next state that its effect gives: EVLOG_MARK, EVLOG_FREEZE,
EVLOG_RELEASE, EVLOG_CLEAR, HOP_EJECT, HOP_ADMIT, FW_STAGE, FW_ACTIVATE. The conditions are on the state and the
operands alone. Where a clause follows a choice of the model, it is one of log entries 104, 105, 108, 109, 110, 111,
112, 113, 114, 115, 116, 117, 118, 120, 121, 122, 123, 124, 125, 126, 127, 128, 129, 130, 131, 238, 294, 301, 304.
(15_commands_flumes.md, R393, R394, 16_hopper_eventlog.md, 21_security_debug.md) -/
def Obligations.RecordCommandsComplete : Prop :=
  (∀ (c : CmdIn) (s u : State) (x : CmdCtx),
      s.accepts cmdEvlogMark c = true →
      s.fetched cmdEvlogMark c = (u, x) →
      exec (.evlogMark c) s = .next (u.complete x.ref (.ok (u.newestSeq % 2 ^ 48)))) ∧
  (∀ (c : CmdIn) (s u : State) (x : CmdCtx),
      s.accepts cmdEvlogFreeze c = true →
      s.fetched cmdEvlogFreeze c = (u, x) →
      u.flag Reg.EVL_STAT_FROZEN = false →
      exec (.evlogFreeze c) s = .next (((({ u with evl := { u.evl with frozenAt := u.now } } : State).setFields [(Reg.EVL_STAT_FROZEN, 1), (Reg.EVL_FRZ_FCOUNT, u.evl.slots.length)]).note 0x0143 subjNone []).complete x.ref (.ok u.evl.slots.length))) ∧
  (∀ (c : CmdIn) (s u : State) (x : CmdCtx),
      s.accepts cmdEvlogRelease c = true →
      s.fetched cmdEvlogRelease c = (u, x) →
      u.flag Reg.EVL_STAT_FROZEN →
      exec (.evlogRelease c) s = .next (u.unfreeze.complete x.ref (.ok 1))) ∧
  (∀ (c : CmdIn) (s u : State) (x : CmdCtx),
      s.accepts cmdEvlogRelease c = true →
      s.fetched cmdEvlogRelease c = (u, x) →
      u.flag Reg.EVL_STAT_FROZEN = false →
      exec (.evlogRelease c) s = .next (u.complete x.ref (.ok 0))) ∧
  (∀ (c : CmdIn) (s u : State) (x : CmdCtx) (e : EvSlot),
      s.accepts cmdEvlogClear c = true →
      s.fetched cmdEvlogClear c = (u, x) →
      u.flag Reg.EVL_STAT_FROZEN = false →
      u.evl.slots.getLast? = some e →
      e.seq % 2 ^ 48 = x.arg 8 6 →
      e.crc = x.arg 16 4 →
      let v : State := (fun (t : State) => { t with evl := { t.evl with slots := [], full := false } }) u.copyRecords
      let d := leBytes 6 e.seq ++ leBytes 4 e.crc ++ leBytes 2 (u.reg Reg.EVL_LOST_COUNT) ++ leBytes 2 (u.reg Reg.EVL_LOST_CODE)
        ++ leBytes 4 (u.reg Reg.EVL_LOST_STRK_LO_STRK) ++ leBytes 4 (u.reg Reg.EVL_LOST_STRK_HI_STRK)
        ++ leBytes 2 (match u.sessionOf x.path with | some y => y.number | none => 0)
      exec (.evlogClear c) s = .next ((((((v.goneAt 0x0140 subjNone).goneAt 0x0141 subjNone).evlPut (v.event 0x0142 0 subjNone false d)).setFields
        [(Reg.EVL_LOST_COUNT, 0), (Reg.EVL_LOST_CODE, 0), (Reg.EVL_LOST_STRK_LO_STRK, 0), (Reg.EVL_LOST_STRK_HI_STRK, 0)]).sessionTouch).complete
          x.ref (.ok (v.evl.nextSeq % 2 ^ 48)))) ∧
  (∀ (c : CmdIn) (s u : State) (x : CmdCtx),
      s.accepts cmdHopEject c = true →
      s.fetched cmdHopEject c = (u, x) →
      x.arg 8 1 < 4 →
      u.hopState (x.arg 8 1 % 2) = hsFailed →
      (u.hopSlot (x.arg 8 1 % 2)).ejectAt = none →
      2 ≤ x.arg 8 1 →
      exec (.hopEject c) s = .next (u.setHopSlot (x.arg 8 1 % 2) { u.hopSlot (x.arg 8 1 % 2) with ejectAt := some u.now, ejectCmd := some x.ref, ejectSeq := u.hop.seq - 1 })) ∧
  (∀ (c : CmdIn) (s u : State) (x : CmdCtx),
      s.accepts cmdHopAdmit c = true →
      s.fetched cmdHopAdmit c = (u, x) →
      x.arg 8 1 < 4 →
      u.hopState (x.arg 8 1 % 2) = hsPending ∨ u.hopState (x.arg 8 1 % 2) = hsEjected →
      u.flag (Reg.HOP_SLOT_STAT_FOREIGN (x.arg 8 1 % 2)) = false ∨ bitAt (x.arg 8 1) 1 →
      exec (.hopAdmit c) s = .next ((u.hopAdmit (x.arg 8 1 % 2) (bitAt (x.arg 8 1) 1)).1.complete x.ref (.ok (u.hopAdmit (x.arg 8 1 % 2) (bitAt (x.arg 8 1) 1)).2))) ∧
  (∀ (c : CmdIn) (s u : State) (x : CmdCtx) (l : List Nat),
      s.accepts cmdFwStage c = true →
      s.fetched cmdFwStage c = (u, x) →
      1152 ≤ x.arg 16 4 →
      x.arg 16 4 ≤ 134217728 →
      x.arg 16 4 % 4 = 0 →
      u.sec.lc ≠ lcRetired →
      u.fwBusy = false →
      x.data = some l →
      exec (.fwStage c) s = .next (match u.fwStageRun x (l.take (x.arg 16 4)) with | (t, some y) => t.complete x.ref y | (t, none) => t)) ∧
  (∀ (c : CmdIn) (s u : State) (x : CmdCtx) (i : FwImage),
      s.accepts cmdFwActivate c = true →
      s.fetched cmdFwActivate c = (u, x) →
      x.arg 8 1 = 0 →
      u.fwBusy = false →
      u.fwStaged = some i →
      u.auth.session = none →
      u.auth.commit = none →
      u.token = false →
      u.power ≠ pwBrake →
      u.clockSet →
      exec (.fwActivate c) s = .next ((({ u.fwSwitch with sec := { u.fwSwitch.sec with coldAt := some u.now } } : State).secRegs).complete x.ref (.ok i.version)))

/-- Flumes: for every state and operands that meet the named conditions, each of these commands answers the next state
that its effect gives: FLUME_RECORD, FLUME_FLUSH, FLUME_END. The conditions are on the state and the operands alone.
Where a clause follows a choice of the model, it is one of log entries 104, 105, 108, 109, 110, 111, 112, 113, 114,
115, 116, 117, 118, 131, 238. (15_commands_flumes.md) -/
def Obligations.FlumeCommandsComplete : Prop :=
  (∀ (fn r : Nat) (desc : List Nat) (e : EccIn) (bad : List Nat) (f : Flume) (x : Ring) (s : State),
      s.flumeAt fn r = some (f, x) → f.buf.isSome → f.rest ≠ [] →
      exec (.flumeRecord fn r desc e bad) s = .next ((s.quiet.ecc e).putRecord fn r bad f)) ∧
  (∀ (fn r : Nat) (f : Flume) (x : Ring) (s : State),
      s.flumeAt fn r = some (f, x) → f.buf.isSome → f.fill ≠ 0 → f.flush ≠ 0 → f.flush * msStrikes ≤ s.since f.firstAt →
      exec (.flumeFlush fn r) s = .next ((s.quiet.closeBuf fn r stOk f).1.setFlume fn r (s.quiet.closeBuf fn r stOk f).2)) ∧
  (∀ (fn r : Nat) (desc : List Nat) (f : Flume) (x : Ring) (s : State),
      s.flumeAt fn r = some (f, x) → s.flumeOver f → f.buf.isSome →
      exec (.flumeEnd fn r desc) s = .next (((s.quiet.closeBuf fn r (if f.trunc then stTrunc else stEnd) f).1).dropFlume fn r))

/-- The Hoppers: for every state and operands that meet the named conditions, each of these commands answers the next
state that its effect gives: CHUNK_CLOSE, GAP_CHUNK, CHUNK_COMMIT, RECORD_AREA_COPY, HOUR_SEAL, MINUTE_RECORD,
CARTRIDGE_INSERT, CARTRIDGE_REMOVED, CARTRIDGE_FAILED, RESYNC_COMPLETE, EJECT_COMPLETE. The conditions are on the
state and the operands alone. Where a clause follows a choice of the model, it is one of log entries 120, 121, 122,
123, 124, 125, 126, 127, 128, 129, 130, 294, 301, 304. (16_hopper_eventlog.md, R423, R428, R430, R431, R433, R434,
R436, R437, R438, R439, R440) -/
def Obligations.HopperCommandsComplete : Prop :=
  (∀ (f : Nat) (s : State),
      s.hop.next = some f → s.flag Reg.HOP_CTRL_EN → s.hop.gaps = [] → s.hop.off = none → (f / 1000 + 1) * 1000 ≤ s.packedTo → s.sys.core → s.appsRun →
      exec .chunkClose s = .next (s.closeChunk f ((f / 1000 + 1) * 1000) (f % 1000 != 0))) ∧
  (∀ (first turns cause : Nat) (rest : List (Nat × Nat × Nat)) (s : State),
      s.hop.gaps = (first, turns, cause) :: rest → s.sys.core → s.appsRun →
      let c : Chunk := { seq := s.hop.seq, gap := true, first := first, turns := turns, cause := cause, recs := [], trecs := []
                         raw := 0, stored := 0, header := chunkHeader s 2 0 first turns 0 0 cause (sha []) }
      let u : State := { s with hop := { s.hop with gaps := rest, minute := { s.hop.minute with gapTurns := s.hop.minute.gapTurns + turns } } }
      exec .gapChunk s = .next (((u.stage c).addSat Reg.HOP_BACKLOG_GAPS 1).note 0x0C0A subjNone (leBytes 8 first ++ leBytes 4 turns ++ [cause]))) ∧
  (∀ (k wear : Nat) (c : Chunk) (s : State),
      k < 2 → s.hopWriting k → wear < 100 → s.flag Reg.HOP_CTRL_EN → s.dueChunk k = some c →
      exec (.chunkCommit k wear) s = .next (((s.commitChunk k c).setReg (Reg.HOP_SLOT_STAT_WEAR k) wear).level (decide (90 ≤ wear)) 0x0C0B 1 (subjHopper k) [])) ∧
  (∀ (s : State),
      s.sys.core →
      exec .recordAreaCopy s = .next (s.copyRecords)) ∧
  (∀ (s : State),
      s.hop.hour < s.hourNow → s.sys.core → s.flag Reg.HOP_CTRL_EN →
      let h := sha s.hop.sealed.flatten
      let u := forAll s.writers (fun k t => t.mapCart k fun c => { c with seals := c.seals ++ [h ++ Config.ecdsaSign h] }) s
      exec .hourSeal s = .next { u with hop := { u.hop with hour := s.hourNow, sealed := [] } }) ∧
  (∀ (s : State),
      s.hop.hour < s.hourNow → s.sys.core → s.flag Reg.HOP_CTRL_EN = false →
      exec .hourSeal s = .next ({ s with hop := { s.hop with hour := s.hourNow, sealed := [] } })) ∧
  (∀ (l : List Nat) (r : List (List Nat)) (s : State),
      s.hop.minDue = l :: r → s.sys.core → s.flag Reg.HOP_CTRL_EN →
      let u := forAll s.writers (fun k t => t.mapCart k fun c =>
        { c with minutes := (c.minutes ++ [l]).drop (c.minutes.length + 1 - 20274660) }) s
      exec .minuteRecord s = .next { u with hop := { u.hop with minDue := r } }) ∧
  (∀ (k : Nat) (c : Cartridge) (readable : Bool) (s : State),
      k < 2 → s.hopState k = hsEmpty → (s.hopSlot k).cart = none → s.hopPowered →
      exec (.cartridgeInsert k c readable) s = .next (s.cartFound k c readable)) ∧
  (∀ (k : Nat) (c : Cartridge) (readable : Bool) (s : State),
      k < 2 → s.hopState k = hsEmpty → (s.hopSlot k).cart = none → s.hopPowered = false →
      exec (.cartridgeInsert k c readable) s = .next (s.setHopSlot k { HopSlot.empty with cart := some c })) ∧
  (∀ (k : Nat) (s : State),
      k < 2 → s.hopState k = hsEmpty →
      exec (.cartridgeRemoved k) s = .next (s.setHopSlot k HopSlot.empty)) ∧
  (∀ (k : Nat) (s : State),
      k < 2 → s.hopState k ≠ hsEmpty →
      let u := ((s.ejectAnswer k (.refused 0x0C02)).setHopSlot k
            { cart := none, done := 0, ejectAt := none, ejectCmd := none, ejectSeq := 0 }).setFields
        [(Reg.HOP_SLOT_STAT_STATE k, hsEmpty), (Reg.HOP_SLOT_STAT_PRES k, 0), (Reg.HOP_SLOT_STAT_FOREIGN k, 0),
         (Reg.HOP_SLOT_STAT_LATCH k, 0), (Reg.HOP_SLOT_STAT_WEAR k, 0), (Reg.HOP_SLOT_STAT_PROG k, 0),
         (Reg.HOP_SLOT_SER_LO_SER k, 0), (Reg.HOP_SLOT_SER_HI_SER k, 0), (hopDomain k, 0)]
      let v := (u.goneAt 0x0C08 (subjHopper k)).goneAt 0x0C0B (subjHopper k)
      exec (.cartridgeRemoved k) s =
        .next (if s.hopState k = hsEjected then v else v.raise 0x0C02 1 (subjHopper k) []).hopLevels.frameRegs) ∧
  (∀ (k wear : Nat) (s : State),
      k < 2 → s.hopWriting k →
      exec (.cartridgeFailed k wear) s = .next (
        let s1 := (s.setHopState k hsFailed).setReg (Reg.HOP_SLOT_STAT_WEAR k) (sat 255 wear)
        let s2 := (s1.raise 0x0C03 1 (subjHopper k) []).level (decide (90 ≤ wear)) 0x0C0B 1 (subjHopper k) []
        s2.pruneStaging.hopLevels.frameRegs)) ∧
  (∀ (k : Nat) (o : Cartridge) (s : State),
      k < 2 → s.hopState k = hsResync → (s.hopSlot (1 - k)).cart = some o → s.hopState (1 - k) = hsInSync →
      let u := s.mapCart k fun c => { c with
        chunks := trimTier (c.chunks.length + o.chunks.length) (o.chunks.foldr insertChunk c.chunks)
        minutes := o.minutes, records := o.records, seals := o.seals }
      exec (.resyncComplete k) s =
        .next ((((u.setHopState k hsInSync).setReg (Reg.HOP_SLOT_STAT_PROG k) 10000).note 0x0C07 (subjHopper k) []).hopLevels).frameRegs) ∧
  (∀ (k : Nat) (s : State),
      k < 2 → s.hopState k = hsResync → ((s.hopSlot (1 - k)).cart = none ∨ s.hopState (1 - k) ≠ hsInSync) →
      exec (.resyncComplete k) s = .next (((((s.setHopState k hsInSync).setReg (Reg.HOP_SLOT_STAT_PROG k) 10000).note 0x0C07 (subjHopper k) []).hopLevels).frameRegs)) ∧
  (∀ (k : Nat) (a : Nat) (s : State),
      (s.hopSlot k).ejectAt = some a → k < 2 → 1400 * msStrikes ≤ s.since a → (s.hopWriting k = false ∨ s.dueChunk k = none) →
      let top := ((s.hopSlot k).cart.map Cartridge.top).getD 0
      let u := (s.mapCart k fun c => { c with clean := true, newest := top }).setFields
        [(hopDomain k, 0), (Reg.HOP_SLOT_STAT_LATCH k, 1), (Reg.HOP_SLOT_STAT_STATE k, hsEjected)]
      let v := (u.note 0x0C0D (subjHopper k) []).ejectAnswer k (.ok (top % 2 ^ 48))
      exec (.ejectComplete k) s = .next ((((v.setHopSlot k { v.hopSlot k with ejectAt := none }).pruneStaging).hopLevels).frameRegs))

/-- The event log: for every state and operands that meet the named conditions, each of these commands answers the next
state that its effect gives: EVENT_RECORD_COMMIT, FOLD_CLOSE, FREEZE_TIMEOUT. The conditions are on the state and the
operands alone. Where a clause follows a choice of the model, it is one of log entries 120, 121, 122, 123, 124, 125,
126, 127, 128, 129, 130, 294, 301, 304. (16_hopper_eventlog.md, R446, R448) -/
def Obligations.EventLogCommandsComplete : Prop :=
  (∀ (s : State),
      s.evl.queue ≠ [] → s.sys.core →
      exec .eventRecordCommit s = .next (s.quiet.evlTake)) ∧
  (∀ (f : Fold) (s : State),
      s.evl.folds.find? (fun f => decide (f.last + s.foldWindow < s.now) || decide (65535 ≤ f.count)) = some f → s.sys.core →
      exec .foldClose s = .next (s.closeFold f)) ∧
  (∀ (s : State),
      s.flag Reg.EVL_STAT_FROZEN → s.reg Reg.EVL_CTRL_FRZ_TO * secStrikes ≤ s.since s.evl.frozenAt →
      exec .freezeTimeout s = .next (s.unfreeze))

/-- The Ethernet ports, the hardware clock, trigger outputs and capture inputs: for every state and operands that meet the
named conditions, each of these commands answers the next state that its effect gives: ETH_FRAME_RECEIVE,
ETH_LINK_CHANGE, ACQ_WAIT_EXPIRY, PTP_ANNOUNCE, PTP_SYNC, MASTER_LOST, HOLDOVER_EXPIRY, CLIENT_CLOCK_APPLY, TTO_ARM,
TTO_PULSE, TCI_EDGE, TCI_READ, INTERVAL_TIMEOUT. The conditions are on the state and the operands alone. Where a
clause follows a choice of the model, it is one of log entries 134, 135, 136, 137, 138, 139, 140, 141, 142, 143, 144,
145, 146, 147, 148, 149, 150, 221, 253, 262, 295. (17_ethernet_time.md) -/
def Obligations.ClockCommandsComplete : Prop :=
  (∀ (port : Nat) (f : FrameIn) (c : FrameClass) (s : State),
      s.portLive port → ({ s with net := { s.net with passed := none } }).frameClass port f = some c →
      exec (.ethFrameReceive port f) s = .next (({ s with net := { s.net with passed := none } }).passFrame port c f)) ∧
  (∀ (port : Nat) (f : FrameIn) (s : State),
      s.portLive port → ({ s with net := { s.net with passed := none } }).frameClass port f = none →
      exec (.ethFrameReceive port f) s = .next (({ s with net := { s.net with passed := none } }).addSat (Reg.NET_DROP_FILT port) 1)) ∧
  (∀ (port : Nat) (g1 : Bool) (s : State),
      port < 2 → s.flag Reg.PWR_DOM_NET → s.flag (Reg.NET_PORT_LINK port) = false → s.flag (Reg.NET_PORT_EN port) → s.speedOk port g1 →
      exec (.ethLinkChange port true g1) s = .next (((s.setFields [(Reg.NET_PORT_LINK port, 1), (Reg.NET_PORT_G1 port, bit g1)]).linksBack).portStates)) ∧
  (∀ (port : Nat) (g1 : Bool) (s : State),
      port < 2 → s.flag Reg.PWR_DOM_NET → s.flag (Reg.NET_PORT_LINK port) →
      exec (.ethLinkChange port false g1) s = .next (s.linkDown port)) ∧
  (∀ (aon : Nat) (s : State),
      s.flag Reg.PWR_DOM_NET → s.clockSet = false → s.aonValidAt (aon / 1000000000 - s.tim.aonSec) →
      exec (.acqWaitExpiry aon) s = .next ((s.setClock aon (aon / 1000000000 - s.tim.aonSec) 1 tmTod).note 0x0D01 subjNone [])) ∧
  (∀ (aon : Nat) (s : State),
      s.flag Reg.PWR_DOM_NET → s.clockSet = false → s.aonValidAt (aon / 1000000000 - s.tim.aonSec) = false →
      exec (.acqWaitExpiry aon) s = .next ((s.setClock 0 (aon / 1000000000 - s.tim.aonSec) 0 tmFree).raise 0x0D02 1 subjNone [])) ∧
  (∀ (a : AnnounceIn) (s : State),
      s.ptpOn a.port → s.deaf = false → s.appsRun → a.domain = s.reg Reg.TIM_PTP_CFG_DOMAIN → a.sdo = s.reg Reg.TIM_PTP_CFG_SDOID → a.sender ≠ Config.clockIdentity (s.portMac 0) →
      exec (.ptpAnnounce a) s = .next (State.selectMaster { s with tim := { s.tim with masters := s.tim.masters.filter (fun x => !(x.ann.port == a.port && x.ann.sender == a.sender)) ++ [{ ann := a, heard := s.now }] } })) ∧
  (∀ (x : SyncIn) (s : State),
      s.ptpOn x.port → s.deaf = false → s.appsRun → s.tim.sel = some (x.port, x.sender) → s.clockSet →
      exec (.ptpSync x) s = .next (((s.setReg Reg.TIM_OFS_VAL (unsigned 32 (clampInt (-(2 ^ 31)) (2 ^ 31 - 1) (s.offsetOf x / 1000)))).setReg (Reg.TIM_PSTAT_MPD x.port) (sat 0xFFFF (x.delay / 1000))).steer (s.offsetOf x))) ∧
  (∀ (x : SyncIn) (s : State),
      s.ptpOn x.port → s.deaf = false → s.appsRun → s.tim.sel = some (x.port, x.sender) → s.clockSet = false →
      let u := (s.setReg Reg.TIM_OFS_VAL (unsigned 32 (clampInt (-(2 ^ 31)) (2 ^ 31 - 1) (s.offsetOf x / 1000)))).setReg
        (Reg.TIM_PSTAT_MPD x.port) (sat 0xFFFF (x.delay / 1000))
      let v := u.setClock ((x.arrived - s.offsetOf x) / 1000).toNat (x.aon / 1000000000 - s.tim.aonSec) (2 + x.port) tmTrack
      exec (.ptpSync x) s = .next { v with tim := { v.tim with syncAt := v.now } }) ∧
  (∀ (m : Nat × Nat) (s : State),
      s.tim.sel = some m → s.announceWait m.1 ≤ s.since s.tim.syncAt → s.clockSet = false →
      exec .masterLost s = .next ((({ s with tim := { s.tim with sel := none, masters := s.tim.masters.filter fun x => !(x.ann.port == m.1 && x.ann.sender == m.2) } } : State).portStates).selectMaster)) ∧
  (∀ (s : State),
      s.timeState = tmHoldover → s.reg Reg.TIM_SERVO_HOLD_MAX * 10 * secStrikes ≤ s.since s.tim.holdAt →
      exec .holdoverExpiry s = .next ((s.toTime tmTod).raise 0x0D05 1 subjNone [])) ∧
  (∀ (fn : Nat) (w : Word) (s : State),
      s.fnReached fn → bitAt w.toNat 0 →
      exec (.clientClockApply fn w) s = .next ((s.updFn fn fun (f : HostFn) => { f with ofs := signed 64 (s.reg (Reg.HIF_FN_CC_OFS_LO_VAL fn) + s.reg (Reg.HIF_FN_CC_OFS_HI_VAL fn) * 2 ^ 32), rate := signed 32 (s.reg (Reg.HIF_FN_CC_RATE_VAL fn)), a := s.clockNow }).took)) ∧
  (∀ (path : Path) (k : Nat) (w : Word) (s : State),
      k < 4 → bitAt w.toNat 3 → s.deaf = false → ((s.writeWord path (Reg.TIM_TTO_CTRL_MODE k).off w.toNat).ttoPlan k).legal → (s.writeWord path (Reg.TIM_TTO_CTRL_MODE k).off w.toNat).runOrTrim → ((s.writeWord path (Reg.TIM_TTO_CTRL_MODE k).off w.toNat).took.tto k).pulse = none →
      exec (.ttoArm path k w) s = .next ((s.writeWord path (Reg.TIM_TTO_CTRL_MODE k).off w.toNat).took.ttoStart k ((s.writeWord path (Reg.TIM_TTO_CTRL_MODE k).off w.toNat).ttoPlan k) ((s.writeWord path (Reg.TIM_TTO_CTRL_MODE k).off w.toNat).clockNow / 65536 + 10000))) ∧
  (∀ (k : Nat) (p : TtoPlan) (s : State),
      k < 4 → s.runOrTrim → s.clockSet → (s.tto k).armed = some p → (s.tto k).next / 31250 ≤ s.now →
      exec (.ttoPulse k) s = .next ((s.ttoEnd k).ttoIssue k)) ∧
  (∀ (n : Nat) (rising : Bool) (part : Nat) (s : State),
      n < 4 → part < 62500 → s.capturesRun → s.clockSet → s.tim.edgeAt ≤ s.now * 62500 + part →
      exec (.tciEdge n rising part) s = .next (forEach [0, 1] (State.ivlEdge n rising (s.now * 62500 + part)) (({ s with tim := { s.tim with edgeAt := s.now * 62500 + part } } : State).tciEdge n rising (s.now * 62500 + part)))) ∧
  (∀ (path : Path) (n : Nat) (a : Nat) (b : Bool) (q : List (Nat × Bool)) (s : State),
      n < 4 → s.sys.core → s.tciQueue n = (a, b) :: q →
      exec (.tciRead path n) s = .next ((((((s.setTci n q).returns path (tciWords a b).1).latchFor path (Reg.TIM_TCI_SEC_HI_VAL n).off (tciWords a b).2.1).latchFor path (Reg.TIM_TCI_NS_VAL n).off (tciWords a b).2.2.1).latchFor path (Reg.TIM_TCI_FRAC_VAL n).off (tciWords a b).2.2.2))) ∧
  (∀ (k : Nat) (a : Nat) (s : State),
      (s.ivl k).pend = some a → k < 2 → s.capturesRun → s.reg (Reg.TIM_IVL_CFG_TMO k) ≠ 0 → a + s.reg (Reg.TIM_IVL_CFG_TMO k) * 2000000 < (s.now + 1) * 62500 →
      exec (.intervalTimeout k) s = .next ((s.setIvl k { pend := none, dup := false }).addSat (Reg.TIM_IVL_TMOCNT_CNT k) 1))

/-- The CAN controllers: for every state and operands that meet the named conditions, each of these commands answers the
next state that its effect gives: CAN_INIT_WRITE, CAN_FILTER_WRITE, CAN_FILTER_SWAP, CAN_FRAME_RECEIVE, CAN_RX_ACK,
CAN_TEF_ACK, CAN_MWIN_ACCESS, CAN_TX_REQUEST, CAN_TX_CANCEL, CAN_REFERENCE_MESSAGE, REFERENCE_WITHDRAW,
DISCOVERY_REQUEST, CAN_TX_COMPLETE, ARBITRATION_LOSS, CAN_ERROR_FRAME, CAN_BUS_OFF, CAN_BUS_OFF_RECOVERY,
PROTOCOL_EXCEPTION. The conditions are on the state and the operands alone. Where a clause follows a choice of the
model, it is one of log entries 151, 152, 153, 154, 155, 156, 157, 158, 159, 160, 161, 263, 302. (18_can.md, R491) -/
def Obligations.CanCommandsComplete : Prop :=
  (∀ (path : Path) (c : Nat) (w : Word) (s : State),
      canIs c → s.deaf = false →
      exec (.canInitWrite path c 0 w) s = .next (s.canCtrlWrite path c w.toNat)) ∧
  (∀ (path : Path) (c rel : Nat) (w : Word) (s : State),
      canIs c → s.deaf = false → (rel = 0x08 ∨ rel = 0x0C ∨ rel = 0x10 ∨ rel = 0x14 ∨ rel = 0x40 ∨ rel = 0x50) →
      exec (.canInitWrite path c rel w) s = .next (s.canConfigWrite path c rel w.toNat)) ∧
  (∀ (path : Path) (c : Nat) (w : Word) (s : State),
      canIs c → s.deaf = false → bitsAt (s.reg (Reg.CAN_FLT_IDX_IDX c)) 11 1 ≠ s.reg (Reg.CAN_STAT_FBANK c) →
      exec (.canFilterWrite path c w) s = .next ((s.writeWord path (Reg.CAN_FLT_DATA_DATA c).off w.toNat).updCan c fun x => { x with filters := x.filters.put (s.reg (Reg.CAN_FLT_IDX_IDX c)) w.toNat })) ∧
  (∀ (c : Nat) (n : Nat) (s : State),
      canIs c → (s.canCtl c).swap = some n →
      exec (.canFilterSwap c) s = .next ((s.updCan c fun x => { x with swap := none, len := n }).setReg (Reg.CAN_STAT_FBANK c) (1 - s.reg (Reg.CAN_STAT_FBANK c)))) ∧
  (∀ (c : Nat) (f : CanFrame) (s : State),
      s.canOn c → f.fmt ≤ s.canTop c → (((s.canRxGood c).canEstate c).canFilter c f).1 < 2 →
      exec (.canFrameReceive c f) s = .next (((((s.canRxGood c).canEstate c).canStore c (((s.canRxGood c).canEstate c).canFilter c f).1 f (((s.canRxGood c).canEstate c).canFilter c f).2.1 (((s.canRxGood c).canEstate c).canFilter c f).2.2).updCan c fun x => { x with lostTo := none }).canAnswer c f)) ∧
  (∀ (c : Nat) (f : CanFrame) (s : State),
      s.canOn c → f.fmt ≤ s.canTop c → 2 ≤ (((s.canRxGood c).canEstate c).canFilter c f).1 →
      exec (.canFrameReceive c f) s = .next ((((s.canRxGood c).canEstate c).updCan c fun x => { x with lostTo := none }).canAnswer c f)) ∧
  (∀ (c j : Nat) (w : Word) (s : State),
      canIs c → j < 2 → s.deaf = false → w.toNat % 128 ≤ ((s.canCtl c).rxq j).fill →
      exec (.canRxAck c j w) s = .next (s.setRxq c j { (s.canCtl c).rxq j with fill := ((s.canCtl c).rxq j).fill - w.toNat % 128, get := ((s.canCtl c).rxq j).get + w.toNat % 128 })) ∧
  (∀ (c : Nat) (w : Word) (s : State),
      canIs c → s.deaf = false → w.toNat % 128 ≤ (s.canCtl c).tef.fill →
      exec (.canTefAck c w) s = .next (s.updCan c fun x => { x with tef := { (s.canCtl c).tef with fill := (s.canCtl c).tef.fill - w.toNat % 128, get := (s.canCtl c).tef.get + w.toNat % 128 } })) ∧
  (∀ (path : Path) (c : Nat) (s : State),
      canIs c → s.deaf = false →
      exec (.canMwinAccess path c none) s = .next ((s.setReg (Reg.CAN_MWIN_ADDR_ADDR c) (s.reg (Reg.CAN_MWIN_ADDR_ADDR c) / 4 * 4 + 4)).returns path (if s.reg (Reg.CAN_MWIN_ADDR_ADDR c) / 4 * 4 < canRamSize then ofLe (((s.setReg (Reg.CAN_MWIN_ADDR_ADDR c) (s.reg (Reg.CAN_MWIN_ADDR_ADDR c) / 4 * 4 + 4)).memory c).readBytes (s.reg (Reg.CAN_MWIN_ADDR_ADDR c) / 4 * 4) 4) else 0))) ∧
  (∀ (path : Path) (c : Nat) (w : Word) (s : State),
      canIs c → s.deaf = false → s.reg (Reg.CAN_TXPEND_TXB c) = 0 → s.reg (Reg.CAN_MWIN_ADDR_ADDR c) / 4 * 4 < canRamSize →
      exec (.canMwinAccess path c (some w)) s = .next ((s.setReg (Reg.CAN_MWIN_ADDR_ADDR c) (s.reg (Reg.CAN_MWIN_ADDR_ADDR c) / 4 * 4 + 4)).writeMem c (s.reg (Reg.CAN_MWIN_ADDR_ADDR c) / 4 * 4) (leBytes 4 w.toNat))) ∧
  (∀ (c : Nat) (w : Word) (s : State),
      canIs c → s.deaf = false →
      exec (.canTxRequest c w) s = .next (forEach ((List.range 16).filter fun k => bitAt w.toNat k) (State.canRequest c) s)) ∧
  (∀ (c : Nat) (w : Word) (sof : Option Nat) (s : State),
      canIs c → s.deaf = false → s.canOn c →
      exec (.canTxCancel c w sof) s = .next (forEach ((List.range 16).filter fun k => bitAt w.toNat k) (State.canCancel c) (s.canBegin c sof))) ∧
  (∀ (c : Nat) (s : State),
      canIs c → s.canPowered → s.runOrTrim → s.flag (Reg.CAN_REF_CFG_EN c) → (s.flag (Reg.CAN_CTRL_INIT c)) = false → s.phase = 0 → s.turn % max 1 (s.reg (Reg.CAN_REF_CFG_PER c)) = 0 → (s.canCtl c).refTurn ≠ s.turn + 1 →
      exec (.canReferenceMessage c) s = .next (s.updCan c fun x => { x with refPend := some s.turn, refTurn := s.turn + 1 })) ∧
  (∀ (c : Nat) (a : Nat) (s : State),
      (s.canCtl c).refPend = some a → canIs c → (s.canCtl c).tx.any (fun x => x.1 == 0) = false → s.reg (Reg.CAN_REF_CFG_PER c) * 16 ≤ s.since (a * 32) →
      exec (.referenceWithdraw c) s = .next ((s.updCan c fun x => { x with refPend := none }).canNote c 0x0E07)) ∧
  (∀ (c : Nat) (s : State),
      canIs c → s.canPowered → s.runOrTrim → s.flag (Reg.CAN_DISC_CFG_EN c) → s.flag (Reg.CAN_CTRL_INIT c) = false → (s.canCtl c).roundAt = 0 →
      exec (.discoveryRequest c) s = .next ((s.canJudge c).updCan c fun x => { x with round := x.round + 1, roundAt := s.now + 1, discPend := true, discSof := none, answered := [] })) ∧
  (∀ (c : Nat) (sof : Option Nat) (loop : Nat) (k a : Nat) (s : State),
      s.canOn c → ((s.canBegin c sof).canCtl c).tx = some (k, a) → k < 3 →
      exec (.canTxComplete c sof loop) s = .next (((((s.canBegin c sof).updCan c fun x => { x with tx := none }).canFinish c k a).canTxGood c).canEstate c)) ∧
  (∀ (c : Nat) (sof : Option Nat) (k a : Nat) (s : State),
      s.canOn c → ((s.canBegin c sof).canCtl c).tx = some (k, a) →
      exec (.arbitrationLoss c sof) s = .next (((s.canBegin c sof).updCan c fun x => { x with tx := none, lostTo := some a, alost := if 3 ≤ k then putBit x.alost (k - 3) true else x.alost }).canFailed c k)) ∧
  (∀ (c : Nat) (sof : Option Nat) (more : Bool) (k a : Nat) (s : State),
      s.canOn c → ((s.canBegin c sof).canCtl c).tx = some (k, a) →
      exec (.canErrorFrame c sof more) s = .next (((((s.canBegin c sof).updCan c fun x => { x with tx := none }).canFailed c k).canCount c true 8).canEstate c)) ∧
  (∀ (c : Nat) (sof : Option Nat) (more : Bool) (s : State),
      s.canOn c → ((s.canBegin c sof).canCtl c).tx = none →
      exec (.canErrorFrame c sof more) s = .next (((s.canBegin c sof).canCount c false (if more then 8 else 1)).canEstate c)) ∧
  (∀ (c : Nat) (s : State),
      s.canOn c → 255 < (s.canCtl c).tec →
      exec (.canBusOff c) s = .next (
        ((((s.updCan c fun x => { x with tx := none, rejoin := false }).setFields
          [(Reg.CAN_STAT_ESTATE c, 2), (Reg.CAN_STAT_SYNC c, 0)]).raiseAs false 0x0E01 1 subjNone false [c])).canSignal c
          (s.flag (Reg.CAN_CTRL_IE_ERR c)))) ∧
  (∀ (c : Nat) (s : State),
      canIs c → s.canPowered → s.flag (Reg.CAN_CTRL_INIT c) = false → s.reg (Reg.CAN_STAT_ESTATE c) = 2 → (s.flag (Reg.CAN_CTRL_AREC c) ∨ (s.canCtl c).rejoin) →
      exec (.canBusOffRecovery c) s = .next (((s.updCan c fun x => { x with tec := 0, recv := 0, rejoin := false }).setFields [(Reg.CAN_ERR_TEC c, 0), (Reg.CAN_ERR_REC c, 0), (Reg.CAN_STAT_ESTATE c, 0), (Reg.CAN_STAT_SYNC c, 1)]).busOffGone)) ∧
  (∀ (c : Nat) (s : State),
      s.canOn c → s.canTop c < 4 →
      exec (.protocolException c) s = .next (s.addSat (Reg.CAN_ERR_PXCNT c) 1))

/-- Tandem operation: for every state and operands that meet the named conditions, each of these commands answers the next
state that its effect gives: IMAGE_RECEIVE, IMAGE_AGE_ALARM, TOKEN_CLAIM, CLAIM_BACKOFF_END, CLAIM_DROP, ROLE_DECIDE,
FAILOVER_TAKE, LOOP_FAULT_BAND, LOOP_DISAGREE, MILLRACE_LINK_DOWN, KEEP_FRAME_RECEIVE, PARTNER_NOT_READY,
HELLO_RECEIVE, HANDOVER_REQUEST, HANDOVER_TIMEOUT. The conditions are on the state and the operands alone. Where a
clause follows a choice of the model, it is one of log entries 162, 163, 164, 165, 166, 167, 168, 169, 170, 171, 172,
173, 174, 222, 225, 267, 297. (19_tandem_service.md, R514, R533, R535) -/
def Obligations.TandemCommandsComplete : Prop :=
  (∀ (bytes : List Nat) (s : State),
      s.roleStandby → s.paired → s.millrace → s.deaf = false →
      exec (.imageReceive bytes true) s = .next (if s.imageGood bytes then s.imageTaken bytes else if s.flag Reg.TDM_STAT_READY then s.addSat Reg.TDM_IMG_REJ 1 else (fun (u : State) => { u with tdm := { u.tdm with imgRun := 0 } }) (s.addSat Reg.TDM_IMG_REJ 1))) ∧
  (∀ (bytes : List Nat) (whole : Bool) (s : State),
      s.roleStandby → s.paired → s.millrace → s.deaf = false → whole = false → s.flag Reg.TDM_STAT_READY →
      exec (.imageReceive bytes whole) s = .next (s.addSat Reg.TDM_IMG_REJ 1)) ∧
  (∀ (s : State),
      s.tandem → s.roleStandby → s.tdm.decided → 4 < s.reg Reg.TDM_STAT_AGE →
      exec .imageAgeAlarm s = .next (s.raiseLevel 0x1003 1 subjNone [])) ∧
  (∀ (s : State),
      s.tdm.retry = none → s.tdm.claim = false → s.mayClaim → s.loopIsFree → s.deaf = false → s.inRun → s.tdm.want ≠ .none →
      exec .tokenClaim s = .next (s.assertClaim s.now)) ∧
  (∀ (a : Nat) (s : State),
      s.tdm.retry = some a → s.atStrike0 → a ≤ s.turn + 1 → s.inRun → s.mayClaim → s.loopIsFree →
      exec .claimBackoffEnd s = .next (s.assertClaim (s.now + 1))) ∧
  (∀ (s : State),
      s.tdm.claim → s.claimLost →
      exec (.claimDrop true) s = .next ((s.hoStop true).dropClaim true)) ∧
  (∀ (s : State),
      s.token → s.handover → s.phase = 31 → s.tdm.finalAt = some s.turn → s.flag Reg.TDM_STAT_PREADY →
      let u := (s.dropClaim false).inhibit true
      exec (.claimDrop false) s = .next { u with
        slu := { u.slu with openFrom := [], offAt := [] }
        tdm := { u.tdm with released := true, coils := (s.slu.kPos, s.slu.kNeg, s.slu.kPre) } }) ∧
  (∀ (pref : Bool) (s : State),
      s.inRun → s.tdm.decided = false → s.tandem = false →
      exec (.roleDecide pref) s = .next ({ s with tdm := { s.tdm with decided := true, want := .start } })) ∧
  (∀ (s : State),
      s.inRun → s.tandem → s.roleStandby → s.tdm.decided → s.tdm.claim = false → s.mayClaim → s.atStrike0 → 32 ≤ s.tdm.freeRun → s.tdm.want = .none → s.handover = false →
      exec .failoverTake s = .next (State.assertClaim (s.now + 1) { s with tdm := { s.tdm with want := .failover } })) ∧
  (∀ (s : State),
      32 < s.tdm.bandRun →
      exec .loopFaultBand s = .next (s.raiseLevel 0x1006 1 subjNone [])) ∧
  (∀ (s : State),
      2 ≤ s.tdm.disRun →
      exec .loopDisagree s = .next (s.raiseLevel 0x1005 1 subjNone [])) ∧
  (∀ (s : State),
      s.millrace → 32 ≤ s.tdm.keepMiss →
      exec .millraceLinkDown s = .next (s.millraceDown)) ∧
  (∀ (k : KeepIn) (s : State),
      s.tandem → s.flag Reg.PWR_DOM_MLR → k.valid → s.millrace = false → s.tdm.keepGood + 1 < 32 → bitAt k.flags 0 = s.partnerClaim →
      exec (.keepFrameReceive k) s = .next ({ s with tdm := { s.tdm with keepMiss := 0, keepGood := s.tdm.keepGood + 1, flags := k.flags } })) ∧
  (∀ (s : State),
      s.roleActive → s.elapsed s.tdm.notReadyAt secStrikes →
      exec .partnerNotReady s = .next (s.raiseLevel 0x100B 1 subjNone [])) ∧
  (∀ (h : HelloIn) (s : State),
      s.tandem → s.millrace → s.deaf = false → h.proof = none →
      exec (.helloReceive h) s = .next ({ s with tdm := { s.tdm with pnonce := some h.nonce } })) ∧
  (∀ (path : Path) (w : Word) (s : State),
      s.powerPath path → bitAt w.toNat 0 → s.deaf = false → s.roleActive →
      exec (.handoverRequest path w) s = .next ({ s with tdm := { s.tdm with trigger := s.tdm.trigger.or (some (1, 0)) } })) ∧
  (∀ (s : State),
      s.handover → s.tdm.hoAt + s.reg Reg.TDM_CFG_HO_MAX ≤ s.turn → s.tdm.released = false →
      exec .handoverTimeout s = .next (s.hoGiveUp)) ∧
  (∀ (s : State),
      s.handover → s.tdm.hoAt + s.reg Reg.TDM_CFG_HO_MAX ≤ s.turn → s.tdm.released →
      exec .handoverTimeout s = .next ((fun (u : State) => { u with tdm := { u.tdm with want := .reclaim } }) (s.raise 0x1009 1 subjNone [])))

/-- Resets and the start: for every state and operands that meet the named conditions, each of these commands answers the
next state that its effect gives: POWER_ON_RESET, COLD_RESET, START_SEQUENCE, RUN_ENTRY, START_TIMEOUT, WARM_RESET,
WARM_RESET_COMPLETE, WARM_RESET_OVERRUN, BLOCK_RESET, BLOCK_IDLE, BLOCK_RESET_TIMEOUT. The conditions are on the state
and the operands alone. Where a clause follows a choice of the model, it is one of log entries 175, 176, 177, 178,
179, 180, 181, 182, 183, 184, 185, 186, 187, 188, 189, 190, 191, 193, 194, 195, 224, 254. (20_reset_power.md, R531,
R539) -/
def Obligations.ResetCommandsComplete : Prop :=
  (∀ (ohms : Nat) (s : State),
      exec (.powerOnReset true ohms) s = .next ((fun (u : State) => State.beginStart 0 { u with pwr := { u.pwr with after := s.resetNotes true, woken := none, hold := true }, sec := { u.sec with lc := if s.sec.lc = lcService then lcField else s.sec.lc }, sys := { u.sys with core := false } }) ((s.wiped false true).strapLatch ohms))) ∧
  (∀ (ohms : Nat) (a : Nat) (s : State),
      s.power = pwStandstill → s.sys.core = false → s.pwr.wake = some a →
      exec (.powerOnReset false ohms) s = .next ((fun (u : State) => State.beginStart a { u with pwr := { u.pwr with after := s.resetNotes true, woken := some a, hold := false }, sec := { u.sec with lc := if s.sec.lc = lcService then lcField else s.sec.lc }, sys := { u.sys with core := true } }) ((s.wiped false false).strapLatch ohms))) ∧
  (∀ (ohms : Nat) (a : Nat) (s : State),
      s.thm.latch = false → s.pwr.coldDue = some a →
      exec (.coldReset ohms) s = .next ((fun (u : State) => State.beginStart a { u with pwr := { u.pwr with after := s.resetNotes false } }) ((s.wiped true false).strapLatch ohms))) ∧
  (∀ (r : BootIn) (s : State),
      s.sys.core → s.power = pwStart → s.pwr.booted = false → s.pwr.stopped = false →
      exec (.startSequence r) s = .next (s.boot r)) ∧
  (∀ (s : State),
      s.power = pwStart → s.sys.core → s.pwr.stopped = false → s.atStrike0 → s.runUnmet = none →
      let u := s.setFields [(Reg.PWR_STAT_STATE, pwRun), (Reg.PWR_START_CNT, 0),
        (Reg.PWR_DOM_VEC, bit (!s.flag Reg.THM_DIE_VEC_OFF)), (Reg.EST_STAT_RWIN, 1)]
      let v : State := { u with
        imd := { u.imd with testAt := 0 }
        est := { u.est with firstRun := some (s.now + 1), snapAt := s.now + 1, windowDone := false }
        sys := { u.sys with chkBegin := s.turn + 2, chkDone := 0, chkLate := false } }
      exec .runEntry s = .next ((v.blowFuses).dbgCheck)) ∧
  (∀ (s : State),
      s.power = pwStart → s.sys.core → s.pwr.coldDue = none → s.reg Reg.PWR_START_CNT < 3 →
      exec .startTimeout s = .next ((fun (u : State) => { u with pwr := { u.pwr with coldDue := some 4 } }) ((s.raise 0x1103 1 subjNone [s.runUnmet.getD 0]).setReg Reg.PWR_START_CNT (s.reg Reg.PWR_START_CNT + 1)))) ∧
  (∀ (s : State),
      s.power = pwStart → s.sys.core → s.pwr.coldDue = none → 3 ≤ s.reg Reg.PWR_START_CNT →
      exec .startTimeout s = .next ((((s.raise 0x1103 1 subjNone [s.runUnmet.getD 0]).setReg Reg.PWR_START_CNT 4).raise 0x1104 1 subjNone []).enterBrake)) ∧
  (∀ (a : Nat) (s : State),
      s.pwr.warmDue = some a →
      exec .warmReset s = .next (s.warmBegin a)) ∧
  (∀ (estOk : Bool) (s : State),
      s.flag Reg.PWR_STAT_WARM → s.atStrike0 → s.sys.core →
      let s0 := (s.setFlag Reg.PWR_STAT_WARM false).loadCommitted
      let s1 := ((if s.auth.aborted.isSome then s0.loadThresholds else s0).abortDone).secRegs
      let s2 := if estOk then s1 else s1.estCleared
      let s3 : State := forAll s2.pwr.after (fun (e : Nat × Nat × List Nat) s => if e.2.1 = 0 then s.note e.1 subjNone e.2.2 else s.raise e.1 e.2.1 subjNone e.2.2) { s2.note 0x110D subjNone [s.reg Reg.PWR_START_WSRC] with pwr := { s2.pwr with after := [] }, sys := { s2.sys with alive := s.now } }
      exec (.warmResetComplete estOk) s = .next (if s3.pwr.failWaits then s3.powerFailBegin else s3)) ∧
  (∀ (s : State),
      s.flag Reg.PWR_STAT_WARM → s.pwr.warmLate → 32000 ≤ s.since s.pwr.warmAt →
      exec .warmResetOverrun s = .next ({ s with pwr := { s.pwr with coldDue := some 5 } })) ∧
  (∀ (w : Word) (s : State),
      s.deaf = false →
      exec (.blockReset .pf0 w) s = .next (s.brstWrite w.toNat)) ∧
  (∀ (k : Nat) (a : Nat) (s : State),
      s.pwr.brstAt.find? (fun e => e.1 == k) = some (k, a) → k < 6 → s.since a ≤ s.reg Reg.PWR_BRST_CFG_TMO * msStrikes →
      exec (.blockIdle k) s = .next (s.blockReset k false)) ∧
  (∀ (k : Nat) (a : Nat) (s : State),
      s.pwr.brstAt.find? (fun e => e.1 == k) = some (k, a) → k < 6 → s.reg Reg.PWR_BRST_CFG_TMO * msStrikes ≤ s.since a →
      exec (.blockResetTimeout k) s = .next ((s.blockReset k true).note 0x1106 subjNone []))

/-- Power states, supplies and wake: for every state and operands that meet the named conditions, each of these commands
answers the next state that its effect gives: PWR_CMD_RUN, PWR_CMD_TRIM, PWR_CMD_STANDSTILL, PWR_CMD_WARM,
PWR_CMD_COLD, PWR_CMD_RETRY, STANDSTILL_ENTRY, WAKE, AON_SUPPLY_LOSS, POWER_FAIL, AUX_INPUT_LOW, HOLDUP_TEST,
COIL_SUPPLY_LOW, DOMAIN_SUPPLY_FAULT. The conditions are on the state and the operands alone. Where a clause follows a
choice of the model, it is one of log entries 175, 176, 177, 178, 179, 180, 181, 182, 183, 184, 185, 186, 187, 188,
189, 190, 191, 193, 194, 195, 224, 254. (20_reset_power.md) -/
def Obligations.PowerCommandsComplete : Prop :=
  (∀ (path : Path) (w : Word) (s : State),
      bitsAt w.toNat 0 4 = 1 → bitsAt w.toNat 16 16 = 0xA5C3 → s.deaf = false → s.powerPath path → s.flag Reg.PWR_STAT_PF = false → s.supRuns →
      exec (.pwrCmdRun path w) s = .next ({ s with pwr := { s.pwr with cmds := s.pwr.cmds ++ [(1, path != .pf0)] } })) ∧
  (∀ (path : Path) (w : Word) (s : State),
      bitsAt w.toNat 0 4 = 1 → bitsAt w.toNat 16 16 = 0xA5C3 → s.deaf = false → s.powerPath path → s.flag Reg.PWR_STAT_PF = false → s.supRuns = false →
      exec (.pwrCmdRun path w) s = .next (s.pwrTake 1 (path != .pf0))) ∧
  (∀ (path : Path) (w : Word) (s : State),
      bitsAt w.toNat 0 4 = 2 → bitsAt w.toNat 16 16 = 0xA5C3 → s.deaf = false → s.powerPath path → s.flag Reg.PWR_STAT_PF = false → s.supRuns →
      exec (.pwrCmdTrim path w) s = .next ({ s with pwr := { s.pwr with cmds := s.pwr.cmds ++ [(2, path != .pf0)] } })) ∧
  (∀ (path : Path) (w : Word) (s : State),
      bitsAt w.toNat 0 4 = 2 → bitsAt w.toNat 16 16 = 0xA5C3 → s.deaf = false → s.powerPath path → s.flag Reg.PWR_STAT_PF = false → s.supRuns = false →
      exec (.pwrCmdTrim path w) s = .next (s.pwrTake 2 (path != .pf0))) ∧
  (∀ (path : Path) (w : Word) (s : State),
      bitsAt w.toNat 0 4 = 3 → bitsAt w.toNat 16 16 = 0xA5C3 → s.deaf = false → s.powerPath path → s.flag Reg.PWR_STAT_PF = false → s.supRuns →
      exec (.pwrCmdStandstill path w) s = .next ({ s with pwr := { s.pwr with cmds := s.pwr.cmds ++ [(3, path != .pf0)] } })) ∧
  (∀ (path : Path) (w : Word) (s : State),
      bitsAt w.toNat 0 4 = 3 → bitsAt w.toNat 16 16 = 0xA5C3 → s.deaf = false → s.powerPath path → s.flag Reg.PWR_STAT_PF = false → s.supRuns = false →
      exec (.pwrCmdStandstill path w) s = .next (s.pwrTake 3 (path != .pf0))) ∧
  (∀ (path : Path) (w : Word) (s : State),
      bitsAt w.toNat 0 4 = 4 → bitsAt w.toNat 16 16 = 0xA5C3 → s.deaf = false → s.powerPath path → s.flag Reg.PWR_STAT_PF = false → s.supRuns →
      exec (.pwrCmdWarm path w) s = .next ({ s with pwr := { s.pwr with cmds := s.pwr.cmds ++ [(4, path != .pf0)] } })) ∧
  (∀ (path : Path) (w : Word) (s : State),
      bitsAt w.toNat 0 4 = 4 → bitsAt w.toNat 16 16 = 0xA5C3 → s.deaf = false → s.powerPath path → s.flag Reg.PWR_STAT_PF = false → s.supRuns = false →
      exec (.pwrCmdWarm path w) s = .next (s.pwrTake 4 (path != .pf0))) ∧
  (∀ (path : Path) (w : Word) (s : State),
      bitsAt w.toNat 0 4 = 5 → bitsAt w.toNat 16 16 = 0xA5C3 → s.deaf = false → s.powerPath path → s.flag Reg.PWR_STAT_PF = false → s.supRuns →
      exec (.pwrCmdCold path w) s = .next ({ s with pwr := { s.pwr with cmds := s.pwr.cmds ++ [(5, path != .pf0)] } })) ∧
  (∀ (path : Path) (w : Word) (s : State),
      bitsAt w.toNat 0 4 = 5 → bitsAt w.toNat 16 16 = 0xA5C3 → s.deaf = false → s.powerPath path → s.flag Reg.PWR_STAT_PF = false → s.supRuns = false →
      exec (.pwrCmdCold path w) s = .next (s.pwrTake 5 (path != .pf0))) ∧
  (∀ (path : Path) (w : Word) (s : State),
      bitsAt w.toNat 0 4 = 6 → bitsAt w.toNat 16 16 = 0xA5C3 → s.deaf = false → s.powerPath path → s.flag Reg.PWR_STAT_PF = false → s.supRuns →
      exec (.pwrCmdRetry path w) s = .next ({ s with pwr := { s.pwr with cmds := s.pwr.cmds ++ [(6, path != .pf0)] } })) ∧
  (∀ (path : Path) (w : Word) (s : State),
      bitsAt w.toNat 0 4 = 6 → bitsAt w.toNat 16 16 = 0xA5C3 → s.deaf = false → s.powerPath path → s.flag Reg.PWR_STAT_PF = false → s.supRuns = false →
      exec (.pwrCmdRetry path w) s = .next (s.pwrTake 6 (path != .pf0))) ∧
  (∀ (relays : Nat) (s : State),
      s.power = pwEntry → s.opened → s.auth.commit = none → s.pwr.failAt = none → s.sys.core →
      let s1 := ((s.powerDown).note 0x110C subjNone []).imdStop
      let s2 := ((s1.evlDrain 2048).hopFlush false).dropClaim false
      let s3 := forEach (bankNos.filter fun nn => (s2.bank nn).en && bitAt relays nn) (fun nn s => s.raise 0x020D 3 (subjBank nn) []) s2
      let s4 := forEach bankNos State.bankPowerOff (s3.evlDrain 2048)
      exec (.standstillEntry relays) s = .next { (s4.coreOff).setReg Reg.PWR_STAT_STATE pwStandstill with hif := { s4.hif with conns := [] } }) ∧
  (∀ (s : State),
      s.power = pwStandstill → s.pwr.aonOff = false → s.wakesBy false → s.pwr.wake = none →
      exec (.wake false true) s = .next ((fun (u : State) => { u with pwr := { u.pwr with wake := some 6 } }) (s.setFlag Reg.PWR_STAT_CHG true))) ∧
  (∀ (s : State),
      s.power = pwStandstill → s.pwr.aonOff = false → s.wakesBy true → s.pwr.wake = none → s.flag Reg.PWR_STAT_KEY = false →
      exec (.wake true true) s = .next ((fun (u : State) => { u with pwr := { u.pwr with wake := some 7 } }) (s.setFlag Reg.PWR_STAT_KEY true))) ∧
  (∀ (low : Bool) (s : State),
      s.power = pwStandstill → s.sys.core = false → (low ∨ s.keeperOn = false) →
      exec (.aonSupplyLoss low) s = .next ({ s with tim := { s.tim with aonOk := false }, pwr := { s.pwr with aonOff := true, wake := none } })) ∧
  (∀ (s : State),
      s.sys.core → s.flag Reg.PWR_STAT_PF = false → s.pwr.failWaits = false → s.flag Reg.PWR_STAT_WARM = false →
      exec .powerFail s = .next (s.powerFailBegin)) ∧
  (∀ (s : State),
      s.sys.core → s.flag Reg.PWR_STAT_PF = false → s.pwr.failWaits = false → s.flag Reg.PWR_STAT_WARM →
      exec .powerFail s = .next ({ s with pwr := { s.pwr with failWaits := true }, tdm := { s.tdm with failing := true } })) ∧
  (∀ (k : Nat) (s : State),
      (k = 1 ∨ k = 2 ∧ s.singleSupply = false) → 320 ≤ s.pwr.auxLow.get 0 k → s.flag Reg.PWR_STAT_PF = false →
      exec (.auxInputLow k) s = .next (s.raiseLevel 0x1102 1 (subjNum k) [])) ∧
  (∀ (tenths : Nat) (s : State),
      s.sys.core → s.clockSet → (s.pwr.huAt == 0 || s.elapsed s.pwr.huAt (86400 * secStrikes)) = true →
      exec (.holdupTest tenths) s = .next (
        let s1 := ({ s with pwr := { s.pwr with huAt := s.now + 1 } }).setFields
          [(Reg.PWR_SUPPLY_HOLDUP, sat 255 tenths), (Reg.PWR_STAT_HU_OK, bit (decide (20 ≤ tenths)))]
        s1.level (decide (tenths < 20)) 0x1108 1 subjNone [])) ∧
  (∀ (s : State),
      320 ≤ s.pwr.coilLow →
      exec .coilSupplyLow s = .next (s.raiseLevel 0x1109 3 subjNone [])) ∧
  (∀ (d : Nat) (bad : Bool) (s : State),
      d < 18 → s.bankOn d →
      exec (.domainSupplyFault d bad) s = .next ((s.level bad 0x020E 3 (subjBank d) []).updBank d fun b => { b with supplyBad := bad })) ∧
  (∀ (d : Nat) (bad : Bool) (s : State),
      18 ≤ d → d < 20 → s.domainOn d →
      exec (.domainSupplyFault d bad) s = .next (s.level bad 0x110A 3 (subjNum d) [])) ∧
  (∀ (d : Nat) (s : State),
      20 ≤ d → d < 26 → s.domainOn d →
      exec (.domainSupplyFault d true) s = .next ((s.domainOff d).raise 0x110A 1 (subjNum d) []))

/-- Firmware, lifecycle, debug port and lockstep pair: for every state and operands that meet the named conditions, each
of these commands answers the next state that its effect gives: STAGE_COMPLETE, LIVE_UPDATE_TIMEOUT, NEW_PART_RUNNING,
LC_COMMISSION, LC_FIELD, LC_SERVICE, LC_RETIRED, SERVICE_TIMEOUT, DEBUG_CHALLENGE, DEBUG_LOCKOUT_END, DEBUG_DROP,
DEBUG_PRESENCE_LOST, DEBUG_RUN_CONTROL, DEBUG_MEMORY_WRITE, LOCKSTEP_MISMATCH, LOCKSTEP_ECC_ERROR, FIREWALL_BLOCK. The
conditions are on the state and the operands alone. Where a clause follows a choice of the model, it is one of log
entries 18, 192, 196, 197, 198, 199, 200, 201, 202, 203, 204, 205, 206, 207, 208, 209, 210, 211, 212, 213, 214, 215,
216, 223, 226, 227, 266, 273. (21_security_debug.md, R556, R557, R580) -/
def Obligations.SecurityCommandsComplete : Prop :=
  (∀ (c : CmdRef) (i : FwImage) (s : State),
      s.sec.stage = some (c, i) → s.sys.core →
      exec (.stageComplete true) s = .next ((fun (u : State) => ((({ u with sec := { u.sec with slots := u.sec.slots.put u.fwOther i } } : State).note 0x1210 subjNone []).secRegs).complete c (.ok (i.version + i.svn * 2 ^ 32))) { s.quiet with sec := { s.sec with stage := none } })) ∧
  (∀ (l : LiveUpdate) (a : Nat) (s : State),
      s.sec.live = some l → l.resetAt = some a → secStrikes ≤ s.since a →
      exec .liveUpdateTimeout s = .next ((s.quiet.liveRevert.raise 0x121F 1 subjNone []).complete l.cmd (.refused 0x121F))) ∧
  (∀ (k : Nat) (l : LiveUpdate) (a n : Nat) (rest : List Nat) (s : State),
      s.sec.live = some l → l.resetAt = some a → l.cur = k → s.since a ≤ secStrikes → bitAt s.pwr.brstOff k = false → l.todo = n :: rest →
      exec (.newPartRunning k) s = .next (State.brstRequest n { s with sec := { s.sec with live := some { l with cur := n, todo := rest, resetAt := none } } })) ∧
  (∀ (w : Word) (s : State),
      bitsAt w.toNat 0 3 = lcCommission → bitsAt w.toNat 16 16 = 0x4C43 → s.deaf = false → s.sec.lc = lcBlank →
      exec (.lcCommission .pf0 w) s = .next ((s.lcLog clogNoSession lcCommission).setLifecycle lcCommission)) ∧
  (∀ (path : Path) (w : Word) (x : Session) (s : State),
      bitsAt w.toNat 0 3 = lcCommission → bitsAt w.toNat 16 16 = 0x4C43 → s.deaf = false → s.powerPath path → s.sec.lc ≠ lcBlank → lcInSession s.sec.lc lcCommission → s.sessionOf path = some x → s.clogRoom x →
      exec (.lcCommission path w) s = .next ((fun (u : State) => { u with sec := { u.sec with lcNext := some lcCommission, retire := none } }) ((s.lcLog (x.entry 0x02) lcCommission).sessionTouch))) ∧
  (∀ (path : Path) (w : Word) (x : Session) (s : State),
      bitsAt w.toNat 0 3 = lcField → bitsAt w.toNat 16 16 = 0x4C43 → s.deaf = false → s.powerPath path → s.sec.lc ≠ lcBlank → lcInSession s.sec.lc lcField → s.sessionOf path = some x → s.clogRoom x →
      exec (.lcField path w) s = .next ((fun (u : State) => { u with sec := { u.sec with lcNext := some lcField, retire := none } }) ((s.lcLog (x.entry 0x02) lcField).sessionTouch))) ∧
  (∀ (path : Path) (w : Word) (x : Session) (s : State),
      bitsAt w.toNat 0 3 = lcService → bitsAt w.toNat 16 16 = 0x4C43 → s.deaf = false → s.powerPath path → s.sec.lc ≠ lcBlank → lcInSession s.sec.lc lcService → s.sessionOf path = some x → s.clogRoom x →
      exec (.lcService path w) s = .next ((fun (u : State) => { u with sec := { u.sec with lcNext := some lcService, retire := none } }) ((s.lcLog (x.entry 0x02) lcService).sessionTouch))) ∧
  (∀ (path : Path) (w : Word) (x : Session) (s : State),
      bitsAt w.toNat 0 3 = lcRetired → bitsAt w.toNat 16 16 = 0x4C43 → s.deaf = false → s.powerPath path → s.sec.lc ≠ lcBlank → lcInSession s.sec.lc lcRetired → s.sessionOf path = some x → s.clogRoom x → s.retireAgain path →
      exec (.lcRetired path w) s = .next ((fun (u : State) => { u with sec := { u.sec with lcNext := some lcRetired, retire := none } }) ((s.lcLog (x.entry 0x02) lcRetired).sessionTouch))) ∧
  (∀ (s : State),
      s.sec.lc = lcService → s.clockSet → s.sec.svcAt + s.svcStrikes ≤ s.now →
      exec .serviceTimeout s = .next (s.setLifecycle lcField)) ∧
  (∀ (r : DebugIn) (s : State),
      s.sys.core → s.power ≠ pwStandstill → (r.level = dbgObserve ∨ r.level = dbgHalt) → s.sec.lockOn = false →
      let n := (Config.random s.free).take 32
      let u : State := { s.took with sec := { s.sec with nonce := n } }
      exec (.debugChallenge r) s = .next (match u.debugSigned r n with
        | none => u.debugFail
        | some g => if debugSigner s.sec.lc r.level s.power = some g then u.debugGrant r.level g else u)) ∧
  (∀ (s : State),
      s.sec.lockOn → s.sec.lock = 0 →
      exec .debugLockoutEnd s = .next (({ s with sec := { s.sec with lockOn := false } }).secRegs)) ∧
  (∀ (path : Path) (w : Word) (s : State),
      bitAt w.toNat 0 → s.deaf = false → s.powerPath path →
      exec (.debugDrop path w) s = .next (s.dbgEnd)) ∧
  (∀ (s : State),
      s.sys.core →
      exec .debugPresenceLost s = .next (s.dbgEnd)) ∧
  (∀ (proc taken : Nat) (s : State),
      s.reg Reg.SEC_DBG_LEVEL = dbgHalt → 1 ≤ proc → proc < 6 → s.sec.halted.contains proc = false →
      exec (.debugRunControl proc 0 taken) s = .next (({ s with sec := { s.sec with replay := s.sec.replay.drop taken, halted := proc :: s.sec.halted } } : State).secRegs)) ∧
  (∀ (owner addr : Nat) (bytes : List Nat) (s : State),
      addr + bytes.length ≤ 4194304 → s.sys.core → s.reg Reg.SEC_DBG_LEVEL = dbgHalt → (debugOwners 0 owner addr bytes.length).all (s.sec.halted.contains ·) →
      exec (.debugMemoryWrite 0 owner addr bytes) s = .next ({ s.writeMem 3 addr bytes with sec := { s.sec with refused := false } })) ∧
  (∀ (owner addr : Nat) (bytes : List Nat) (s : State),
      addr + bytes.length ≤ 20971520 → s.sys.core → s.reg Reg.SEC_DBG_LEVEL = dbgHalt → (debugOwners 1 owner addr bytes.length).all (s.sec.halted.contains ·) →
      exec (.debugMemoryWrite 1 owner addr bytes) s = .next ({ s.writeMem 3 (4194304 + addr) bytes with sec := { s.sec with refused := false } })) ∧
  (∀ (owner addr : Nat) (bytes : List Nat) (s : State),
      addr + bytes.length ≤ 34359738368 → s.sys.core → s.reg Reg.SEC_DBG_LEVEL = dbgHalt → (debugOwners 2 owner addr bytes.length).all (s.sec.halted.contains ·) →
      exec (.debugMemoryWrite 2 owner addr bytes) s = .next ({ s.millpondWrite addr bytes with sec := { s.sec with refused := false } })) ∧
  (∀ (owner addr : Nat) (bytes : List Nat) (s : State),
      addr + bytes.length ≤ 34359738368 → s.sys.core → s.reg Reg.SEC_DBG_LEVEL ≠ dbgShut → (s.reg Reg.SEC_DBG_LEVEL ≠ dbgHalt ∨ (debugOwners 2 owner addr bytes.length).all (s.sec.halted.contains ·) = false) →
      exec (.debugMemoryWrite 2 owner addr bytes) s = .next ({ s with sec := { s.sec with refused := true } })) ∧
  (∀ (group : Nat) (s : State),
      s.pairRuns → group < 64 → s.power = pwStart →
      exec (.lockstepMismatch group) s = .next ((fun (u : State) => { u with pwr := { u.pwr with stopped := true } }) ((({ s with sec := { s.sec with mismatches := s.now :: s.sec.mismatches.filter fun t => decide (s.since t < 86400 * secStrikes) } } : State).setReg Reg.SYS_LS_STAT_MM24 (sat 255 (s.now :: s.sec.mismatches.filter fun t => decide (s.since t < 86400 * secStrikes)).length)).addSat Reg.SYS_LS_STAT_TOTAL 1))) ∧
  (∀ (s : State),
      s.pairRuns →
      exec .lockstepEccError s = .next ((s.afterWarm 0x0153 1).warmBegin 3)) ∧
  (∀ (init reg ofs : Nat) (s : State),
      1 ≤ init → init ≤ 7 → reg < 3 → ofs < 2 ^ 29 → s.sys.core →
      exec (.firewallBlock init reg ofs) s = .next (
        let s1 := (s.setFields [(Reg.SYS_FWALL_INIT, init), (Reg.SYS_FWALL_VALID, 1), (Reg.SYS_FWALL_ADDR_OFS, ofs),
          (Reg.SYS_FWALL_ADDR_REG, reg)]).addSat Reg.SYS_FWALL_COUNT 1
        s1.raisePaced (0x0130 * 256 + init) 0x0130 1 subjNone []))

/-- Register accesses and the service connections: for every state and operands that meet the named conditions, each of
these commands answers the next state that its effect gives: LO_READ_LATCH, REGISTER_WRITE, TLS_CONNECT,
SERVICE_REG_READ, SERVICE_REG_WRITE, SERVICE_COMMAND, SERVICE_IDLE_CLOSE. The conditions are on the state and the
operands alone. Where a clause follows a choice of the model, it is one of log entries 162, 163, 164, 165, 166, 167,
168, 169, 170, 171, 172, 173, 174, 218, 222, 225, 251, 252, 267, 297. (23_setup_registers.md, R610, R612, R614,
19_tandem_service.md) -/
def Obligations.RegisterCommandsComplete : Prop :=
  (∀ (path : Path) (off : Nat) (s : State),
      s.pathThere path →
      exec (.loReadLatch path off) s = .next (s.regRead path off)) ∧
  (∀ (path : Path) (off : Nat) (w : BitVec 64) (s : State),
      s.pathThere path → s.deaf = false → off % 4 = 0 →
      exec (.registerWrite path off 4 w) s = .next (s.quiet.pathWrite path off (BitVec.ofNat 32 w.toNat))) ∧
  (∀ (path : Path) (off : Nat) (w : BitVec 64) (s : State),
      s.pathThere path → s.deaf = false → off % 4 = 0 →
      exec (.registerWrite path off 8 w) s = .next ((s.quiet.pathWrite path off (BitVec.ofNat 32 w.toNat)).pathWrite path (off + 4) (BitVec.ofNat 32 (w.toNat / 2 ^ 32)))) ∧
  (∀ (c : TlsIn) (role : Nat) (s : State),
      s.svcPort c.port → c.params → s.hif.conns.length < 4 → s.sec.identity → s.certRole c.cert = some role →
      exec (.tlsConnect c) s = .next (State.svcRegs { s with hif := { s.hif with conns := s.hif.conns ++ [(s.hif.connNext, { role := role, port := c.port, client := c.cert.fp.take 16, lastAt := s.now })], connNext := s.hif.connNext + 1 } })) ∧
  (∀ (conn : Nat) (msg : List Nat) (x : SvcConn) (s : State),
      s.svcConn? conn = some x → s.appsRun → msgOk msg 3 4 →
      let u : State := { s.quiet with hif := { s.quiet.hif with conns := s.hif.conns.put conn { x with lastAt := s.now } } }
      let v := u.regRead (.svc conn) (leAt (msgBody msg) 0 4)
      exec (.serviceRegRead conn msg) s = .next (v.regResult conn msg (leAt (msgBody msg) 0 4) (v.readData.get 0 (Path.svc conn).num) 0)) ∧
  (∀ (conn : Nat) (msg : List Nat) (x : SvcConn) (s : State),
      s.svcConn? conn = some x → s.appsRun → msgOk msg 4 8 → x.role = 2 → svcWritable (leAt (msgBody msg) 0 4) → leAt (msgBody msg) 0 4 % 4 = 0 →
      let u : State := { s.quiet with hif := { s.quiet.hif with conns := s.hif.conns.put conn { x with lastAt := s.now } } }
      let off := leAt (msgBody msg) 0 4
      exec (.serviceRegWrite conn msg) s = .next ((u.pathWrite (.svc conn) off (BitVec.ofNat 32 (leAt (msgBody msg) 4 4))).regResult conn msg off (leAt (msgBody msg) 4 4) 0)) ∧
  (∀ (conn : Nat) (msg : List Nat) (x : SvcConn) (s : State),
      s.svcConn? conn = some x → s.appsRun → msgOk msg 1 (64 + inlineLen (msgBody msg)) →
      exec (.serviceCommand conn msg) s = .next (({ s.quiet with hif := { s.quiet.hif with conns := s.hif.conns.put conn { x with lastAt := s.now } } } : State).svcCommand conn msg)) ∧
  (∀ (conn : Nat) (x : SvcConn) (s : State),
      s.svcConn? conn = some x → 900 * secStrikes ≤ s.since x.lastAt →
      exec (.serviceIdleClose conn) s = .next (s.svcClose conn))

/-- For every command and state, a step of the state with the command in front of its queue answers what the meaning of
the command answers on the state with the rest of the queue. (95_what_each_step_holds.md) -/
def Obligations.StepRunsFrontCommand : Prop :=
  ∀ (c : Instr) (rest : List Instr) (s : State),
    step { s with pending := c :: rest } = exec c { s with pending := rest }

/-- With an empty queue a step changes nothing. This is the choice of the model (DESIGN CHOICE, log entry 1), not a rule
of the spec. (95_what_each_step_holds.md) -/
def Obligations.EmptyQueueIdles : Prop :=
  ∀ s : State, s.pending = [] → step s = .next s

/-- Every command answers a next state in every state, and that state has the queue it was given.
(95_what_each_step_holds.md) -/
def Obligations.CommandsCompleteAndKeepTheQueue : Prop :=
  ∀ (c : Instr) (s : State), ∃ t, exec c s = .next t ∧ t.pending = s.pending

/-- From every state, k steps with at least k commands waiting end in a next state whose queue has lost its first k
commands: no command is lost, repeated, added or overtaken, and none stops the block. (95_what_each_step_holds.md) -/
def Obligations.QueueRunsInOrder : Prop :=
  ∀ (s : State) (k : Nat), k ≤ s.pending.length →
    ∃ t, Host.Core.run Sys2Proof.core k s = .next t ∧ t.pending = s.pending.drop k

/-- After reset every register field holds its reset value, the power state is START, the string is open with every coil
off and no drive token, no fault is in effect, the memories are canonical and no lifecycle change waits. (R15, R531,
R539) -/
def Obligations.ResetHoldsItsValues : Prop :=
  (∀ f : Field, State.reset.reg f = f.rst) ∧ State.reset.pending = [] ∧ State.reset.power = pwStart ∧
    State.reset.conn = connOpen ∧ State.reset.token = false ∧ State.reset.flt.active = [] ∧
    State.reset.slu.kPos = false ∧ State.reset.slu.kNeg = false ∧ State.reset.slu.kPre = false ∧
    State.reset.memoriesWf = true ∧ State.reset.sec.lcNext = none

/-- From every state whose memories list strictly rising addresses and no zero byte, a step gives a state whose memories
do. (R491, R580) -/
def Obligations.StepKeepsMemoriesCanonical : Prop :=
  ∀ s t : State, s.memoriesWf = true → step s = .next t → t.memoriesWf = true

/-- The invariant that the retired module has no lifecycle change waiting for a commit is kept by every step from every
state. (R556, R557) -/
def Obligations.StepKeepsRetirementSettled : Prop :=
  ∀ s t : State, (s.sec.lc = lcRetired → s.sec.lcNext = none) → step s = .next t →
    t.sec.lc = lcRetired → t.sec.lcNext = none

/-- From a retired state that meets the invariant of StepKeepsRetirementSettled, every step, resets and power-on included,
gives a retired state. (R556, R557) -/
def Obligations.RetiredIsFinal : Prop :=
  ∀ s t : State, (s.sec.lc = lcRetired → s.sec.lcNext = none) → step s = .next t →
    s.sec.lc = lcRetired → t.sec.lc = lcRetired

/-- A step that ends the weld lockout ran the weld lockout clear command, from a ring or as opcode 0x53 of the service
protocol, while a Safety Authority session was open. No reset, power cycle or other command ends it. (R224) -/
def Obligations.WeldLockoutIsKept : Prop :=
  ∀ s t : State, s.slu.weldLock = true → step s = .next t → t.slu.weldLock = false →
    s.auth.session.isSome = true ∧ ∃ (c : Instr) (r : List Instr), s.pending = c :: r ∧
      ((∃ x, c = .weldClear x) ∨ ∃ n m, c = .serviceCommand n m ∧ leAt ((msgBody m).take 64) 0 2 = 0x53)

/-- Every command but those named leaves the state of the sense banks as it was; likewise, with their own lists, the check
state, the current front end, the insulation monitor and the temperature state. (02_sense_banks.md,
03_measurement_checks.md, 04_current_bus_isolation.md, 05_temperature.md) -/
def Obligations.MeasurementStateFrame : Prop :=
  (∀ (c : Instr) (s t : State), exec c s = .next t →
    match c with
      | .strike .. | .bnkCtrlWrite .. | .bankConfigApply | .filterChangeApply | .bankDiscovery .. | .laneLock ..
      | .trayIdCheck .. | .surveyCheck .. | .normalRangeCheck .. | .bankRelease .. | .branchLost .. | .branchReturn ..
      | .bankShutdown .. | .powerOnReset .. | .coldReset .. | .startSequence .. | .startTimeout
      | .warmResetComplete .. | .standstillEntry .. | .powerFail | .serviceRegWrite .. | .registerWrite ..
      | .domainSupplyFault .. => True
      | _ => t.bnk = s.bnk) ∧
  (∀ (c : Instr) (s t : State), exec c s = .next t →
    match c with
      | .strike .. | .bankConfigApply | .filterChangeApply | .bankRelease .. | .checkDwellEnd .. | .powerOnReset ..
      | .coldReset .. => True
      | _ => t.chk = s.chk) ∧
  (∀ (c : Instr) (s t : State), exec c s = .next t →
    match c with
      | .strike .. | .sup .. | .filterChangeApply | .laneLock .. | .alignmentRegained .. | .hallSupplyFault
      | .powerOnReset .. | .coldReset .. | .startSequence .. => True
      | _ => t.cur = s.cur) ∧
  (∀ (c : Instr) (s t : State), exec c s = .next t →
    match c with
      | .strike .. | .sup .. | .heartbeatMissing | .keepaliveTimeout .. | .imdPeriodEnd .. | .imdSelfTest
      | .imdRelayFault .. | .dieShutdown | .contactFeedbackChange .. | .sessionCommitComplete .. | .imageReceive ..
      | .claimDrop .. | .powerOnReset .. | .coldReset .. | .startSequence .. | .runEntry | .startTimeout
      | .warmResetComplete .. | .standstillEntry .. | .powerFail | .lcCommission .. | .lcField .. | .lcService ..
      | .lcRetired .. | .serviceTimeout | .serviceRegWrite .. | .debugChallenge .. | .registerWrite .. => True
      | _ => t.imd = s.imd) ∧
  (∀ (c : Instr) (s t : State), exec c s = .next t →
    match c with
      | .strike .. | .dieSensorImplausible .. | .dieShutdown | .sessionCommitComplete .. | .powerOnReset ..
      | .coldReset .. | .startSequence .. => True
      | _ => t.thm = s.thm)

/-- Every command but those named leaves the certified estimates as they were; likewise the model and impedance state and
the balancing state. (06_certified_estimation.md, 07_model_impedance.md, 10_balancing.md) -/
def Obligations.EstimationStateFrame : Prop :=
  (∀ (c : Instr) (s t : State), exec c s = .next t →
    match c with
      | .strike .. | .sup .. | .chk .. | .trayIdCheck .. | .branchReturn .. | .tableBuildComplete ..
      | .generationSwitch | .snapshotPeriodic | .snapshotDeliver | .snapshotDiscard | .restoreWindowClose
      | .sessionCommitComplete .. | .heldEntryFlush .. | .entryWrite .. | .restoreCert .. | .imageReceive ..
      | .powerOnReset .. | .coldReset .. | .startSequence .. | .runEntry | .warmResetComplete .. | .serviceCommand .. => True
      | _ => t.est = s.est) ∧
  (∀ (c : Instr) (s t : State), exec c s = .next t →
    match c with
      | .strike .. | .sup .. | .mest | .fit | .deadlineMiss .. | .trayIdCheck .. | .bankRelease .. | .branchReturn ..
      | .dieWarning | .vecResume | .impedanceBlockEnd .. | .platingBumpEnd .. | .advisoryRequest ..
      | .advisoryPersist .. | .scrubPass .. | .flumeRecord .. | .restoreModel .. | .modelStart .. | .powerOnReset ..
      | .coldReset .. | .startSequence .. | .startTimeout | .warmReset | .warmResetComplete .. | .blockResetTimeout ..
      | .serviceCommand .. | .lockstepMismatch .. | .lockstepEccError | .domainSupplyFault .. | .blockIdle .. => True
      | _ => t.mdl = s.mdl) ∧
  (∀ (c : Instr) (s t : State), exec c s = .next t →
    match c with
      | .strike .. | .sup .. | .bal | .deadlineMiss .. | .bankRelease .. | .shuttleChange .. | .quietPeriodEnd
      | .dissipationExcess | .bleedNonconvergence .. | .shuttleFault .. | .powerOnReset .. | .coldReset ..
      | .pwrCmdRun .. | .pwrCmdTrim .. | .pwrCmdStandstill .. | .pwrCmdWarm .. | .pwrCmdCold .. | .pwrCmdRetry ..
      | .serviceRegWrite .. | .registerWrite .. => True
      | _ => t.bal = s.bal)

/-- Every command but those named leaves the Governor state as it was; likewise the dispatch envelope and the safety
inputs with the telegram connections. (11_governor.md, 12_envelope_thermal.md, 09_safety_io.md) -/
def Obligations.OutputStateFrame : Prop :=
  (∀ (c : Instr) (s t : State), exec c s = .next t →
    match c with
      | .strike .. | .govWrite .. | .slotFail .. | .analogRangeChange | .rangeChangeComplete | .hostInput ..
      | .powerOnReset .. | .coldReset .. | .warmReset | .serviceCommand .. | .serviceRegWrite ..
      | .lockstepMismatch .. | .lockstepEccError | .registerWrite .. => True
      | _ => t.gov = s.gov) ∧
  (∀ (c : Instr) (s t : State), exec c s = .next t →
    match c with
      | .strike .. | .env | .sessionCommitComplete .. | .setpointWrite .. | .envelopeStale | .setpoint ..
      | .powerOnReset .. | .coldReset .. | .startSequence .. | .warmReset | .serviceCommand .. | .serviceRegWrite ..
      | .lockstepMismatch .. | .lockstepEccError | .registerWrite .. => True
      | _ => t.env = s.env) ∧
  (∀ (c : Instr) (s t : State), exec c s = .next t →
    match c with
      | .strike .. | .sup .. | .sev | .deadlineMiss .. | .siLevelChange .. | .siDiscrepancy .. | .testPulse ..
      | .tpReadbackFault .. | .isoHoldEnd .. | .srstEdge | .srstHeld | .telegramSend .. | .telegramReceive ..
      | .telegramSkewExpiry .. | .telegramTimeout .. | .powerOnReset .. | .coldReset .. | .blockResetTimeout ..
      | .blockIdle .. => True
      | _ => t.sio = s.sio)

/-- Every command but those named leaves the Ethernet ports as they were; likewise the time base with the timed pulses,
and the CAN controllers. (17_ethernet_time.md, 18_can.md) -/
def Obligations.PortStateFrame : Prop :=
  (∀ (c : Instr) (s t : State), exec c s = .next t →
    match c with
      | .strike .. | .sup .. | .telegramSend .. | .sessionCommitComplete .. | .ringUnload .. | .nopCmd ..
      | .flumeOpen .. | .flumeClose .. | .flumeStat .. | .setpoint .. | .hostInput .. | .capture .. | .snapCert ..
      | .snapModel .. | .restoreCert .. | .restoreModel .. | .modelStart .. | .connectReq .. | .openReq ..
      | .resetReq .. | .weldClear .. | .sessionOpen .. | .sessionClose .. | .passwordSet .. | .keySet ..
      | .tableLoad .. | .clogRoll .. | .cellRefresh .. | .evlogMark .. | .evlogFreeze .. | .evlogRelease ..
      | .evlogClear .. | .hopEject .. | .hopAdmit .. | .fwStage .. | .fwActivate .. | .liveUpdateTimeout
      | .cartridgeRemoved .. | .ejectComplete .. | .ethFrameReceive .. | .powerOnReset .. | .coldReset ..
      | .blockResetTimeout .. | .serviceCommand .. | .serviceRegRead .. | .serviceRegWrite .. | .registerWrite ..
      | .stageComplete .. | .blockIdle .. | .newPartRunning .. => True
      | _ => t.net = s.net) ∧
  (∀ (c : Instr) (s t : State), exec c s = .next t →
    match c with
      | .strike .. | .ethLinkChange .. | .ptpAnnounce .. | .ptpSync .. | .acqWaitExpiry .. | .masterLost | .ttoArm ..
      | .ttoPulse .. | .tciEdge .. | .tciRead .. | .intervalTimeout .. | .powerOnReset .. | .coldReset ..
      | .blockResetTimeout .. | .serviceRegRead .. | .serviceRegWrite .. | .registerWrite .. | .domainSupplyFault ..
      | .aonSupplyLoss .. | .loReadLatch .. | .blockIdle .. => True
      | _ => t.tim = s.tim) ∧
  (∀ (c : Instr) (s t : State), exec c s = .next t →
    match c with
      | .strike .. | .sup .. | .eventRecordCommit | .canInitWrite .. | .canFrameReceive .. | .canRxAck ..
      | .canTxRequest .. | .canTxCancel .. | .canTxComplete .. | .canTefAck .. | .canFilterWrite ..
      | .canFilterSwap .. | .canReferenceMessage .. | .referenceWithdraw .. | .discoveryRequest .. | .canBusOff ..
      | .canBusOffRecovery .. | .powerOnReset .. | .coldReset .. | .warmResetComplete .. | .blockResetTimeout ..
      | .standstillEntry .. | .powerFail | .serviceRegWrite .. | .registerWrite .. | .canErrorFrame ..
      | .arbitrationLoss .. | .blockIdle .. => True
      | _ => t.can = s.can)

/-- Every command but those named leaves the session, the committed configuration and the change log as they were;
likewise the lifecycle, firmware and debug state. (R265, R556, 09_safety_io.md, 21_security_debug.md) -/
def Obligations.AuthorityStateFrame : Prop :=
  (∀ (c : Instr) (s t : State), exec c s = .next t →
    match c with
      | .strike .. | .sup .. | .bnkCtrlWrite .. | .curCtrlWrite .. | .thmConfigWrite .. | .thresholdSetApply
      | .sessionIdleTimeout | .sessionPathLost .. | .sessionCommitComplete .. | .passwordLockoutEnd | .govWrite ..
      | .setpointWrite .. | .linkDown | .perstAssert | .functionLevelReset .. | .ringUnload .. | .rctBaseWrite ..
      | .privWrite .. | .cellTableRead .. | .setpoint .. | .hostInput .. | .weldClear .. | .sessionOpen ..
      | .sessionClose .. | .passwordSet .. | .keySet .. | .tableLoad .. | .clogRoll .. | .evlogClear ..
      | .recordAreaCopy | .ttoArm .. | .canInitWrite .. | .canFilterWrite .. | .powerOnReset .. | .coldReset ..
      | .startSequence .. | .warmReset | .warmResetComplete .. | .pwrCmdRun .. | .pwrCmdTrim .. | .pwrCmdStandstill ..
      | .pwrCmdWarm .. | .pwrCmdCold .. | .pwrCmdRetry .. | .standstillEntry .. | .powerFail | .lcCommission ..
      | .lcField .. | .lcService .. | .lcRetired .. | .serviceTimeout | .serviceCommand .. | .serviceRegRead ..
      | .serviceRegWrite .. | .serviceIdleClose .. | .lockstepMismatch .. | .lockstepEccError | .registerWrite ..
      | .domainSupplyFault .. | .vfEnable .. => True
      | _ => t.auth = s.auth) ∧
  (∀ (c : Instr) (s t : State), exec c s = .next t →
    match c with
      | .strike .. | .sup .. | .chk .. | .sessionCommitComplete .. | .perstAssert | .functionLevelReset ..
      | .ringUnload .. | .fwStage .. | .fwActivate .. | .liveUpdateTimeout | .powerOnReset .. | .coldReset ..
      | .startSequence .. | .runEntry | .startTimeout | .warmReset | .warmResetComplete .. | .blockResetTimeout ..
      | .pwrCmdRun .. | .pwrCmdTrim .. | .pwrCmdStandstill .. | .pwrCmdWarm .. | .pwrCmdCold .. | .pwrCmdRetry ..
      | .powerFail | .lcCommission .. | .lcField .. | .lcService .. | .lcRetired .. | .serviceTimeout
      | .serviceCommand .. | .serviceRegWrite .. | .debugChallenge .. | .debugLockoutEnd | .debugDrop ..
      | .debugPresenceLost | .debugRunControl .. | .debugMemoryWrite .. | .lockstepMismatch .. | .lockstepEccError
      | .registerWrite .. | .vfEnable .. | .stageComplete .. | .blockIdle .. | .newPartRunning .. => True
      | _ => t.sec = s.sec)

/-- Every command but those named leaves the power and reset state as it was; likewise the strike number and the state of
the turn monitor. (01_architecture.md, 20_reset_power.md) -/
def Obligations.PowerStateFrame : Prop :=
  (∀ (c : Instr) (s t : State), exec c s = .next t →
    match c with
      | .strike .. | .sup .. | .dieHoldRelease .. | .sessionCommitComplete .. | .perstAssert | .functionLevelReset ..
      | .ringUnload .. | .fwActivate .. | .liveUpdateTimeout | .powerOnReset .. | .coldReset .. | .startSequence ..
      | .runEntry | .startTimeout | .warmReset | .warmResetComplete .. | .warmResetOverrun | .blockReset ..
      | .blockResetTimeout .. | .pwrCmdRun .. | .pwrCmdTrim .. | .pwrCmdStandstill .. | .pwrCmdWarm ..
      | .pwrCmdCold .. | .pwrCmdRetry .. | .wake .. | .powerFail | .holdupTest .. | .lcCommission .. | .lcField ..
      | .lcService .. | .lcRetired .. | .serviceTimeout | .serviceCommand .. | .serviceRegWrite ..
      | .debugChallenge .. | .debugDrop .. | .debugPresenceLost | .lockstepMismatch .. | .lockstepEccError
      | .registerWrite .. | .aonSupplyLoss .. | .vfEnable .. | .blockIdle .. | .newPartRunning .. => True
      | _ => t.pwr = s.pwr) ∧
  (∀ (c : Instr) (s t : State), exec c s = .next t →
    match c with
      | .strike .. | .sup .. | .mest | .sev | .env | .bal | .img | .chk .. | .fit | .deadlineMiss .. | .dieShutdown
      | .dieHoldRelease .. | .scrubPass .. | .flumeRecord .. | .ptpSync .. | .acqWaitExpiry .. | .powerOnReset ..
      | .coldReset .. | .runEntry | .warmReset | .warmResetComplete .. | .standstillEntry .. | .powerFail
      | .debugRunControl .. | .lockstepMismatch .. | .lockstepEccError => True
      | _ => t.sys = s.sys)

/-- Every command but those named leaves functions, rings, contexts and service connections as they were; likewise the
latched words, and the words that reads returned. (14_host_rings.md, R612) -/
def Obligations.HostStateFrame : Prop :=
  (∀ (c : Instr) (s t : State), exec c s = .next t →
    match c with
      | .strike .. | .sup .. | .fit | .impedanceBlockEnd .. | .sessionPathLost .. | .sessionCommitComplete ..
      | .readerOverrun .. | .linkUp .. | .linkDown | .perstAssert | .functionLevelReset .. | .functionPowerChange ..
      | .heldEntryFlush .. | .holdTimeout .. | .pmeTurnOff | .pmeResend .. | .ringLoad .. | .ringUnload ..
      | .doorbell .. | .entryWrite .. | .modtimeExpiry .. | .hostReadTimeout .. | .cellTableReadDone .. | .nopCmd ..
      | .flumeOpen .. | .flumeClose .. | .flumeStat .. | .flumeRecord .. | .flumeFlush .. | .flumeEnd ..
      | .setpoint .. | .hostInput .. | .capture .. | .snapCert .. | .snapModel .. | .restoreCert .. | .restoreModel ..
      | .modelStart .. | .connectReq .. | .openReq .. | .resetReq .. | .weldClear .. | .sessionOpen ..
      | .sessionClose .. | .passwordSet .. | .keySet .. | .tableLoad .. | .clogRoll .. | .cellRefresh ..
      | .evlogMark .. | .evlogFreeze .. | .evlogRelease .. | .evlogClear .. | .hopEject .. | .hopAdmit ..
      | .fwStage .. | .fwActivate .. | .liveUpdateTimeout | .cartridgeRemoved .. | .ejectComplete ..
      | .eventRecordCommit | .clientClockApply .. | .canFrameReceive .. | .canTxCancel .. | .canTxComplete ..
      | .canBusOff .. | .powerOnReset .. | .coldReset .. | .warmReset | .warmResetComplete .. | .blockResetTimeout ..
      | .standstillEntry .. | .powerFail | .tlsConnect .. | .serviceCommand .. | .serviceRegRead ..
      | .serviceRegWrite .. | .serviceIdleClose .. | .lockstepMismatch .. | .lockstepEccError | .registerWrite ..
      | .domainSupplyFault .. | .vfEnable .. | .vectorUnmask .. | .canErrorFrame .. | .arbitrationLoss ..
      | .stageComplete .. | .blockIdle .. | .newPartRunning .. => True
      | _ => t.hif = s.hif) ∧
  (∀ (c : Instr) (s t : State), exec c s = .next t →
    match c with
      | .sessionPathLost .. | .tciRead .. | .powerOnReset .. | .coldReset .. | .serviceCommand .. | .serviceRegRead ..
      | .serviceRegWrite .. | .serviceIdleClose .. | .loReadLatch .. => True
      | _ => t.latch = s.latch) ∧
  (∀ (c : Instr) (s t : State), exec c s = .next t →
    match c with
      | .sessionPathLost .. | .doorbell .. | .tciRead .. | .canMwinAccess .. | .powerOnReset .. | .coldReset ..
      | .serviceCommand .. | .serviceRegRead .. | .serviceRegWrite .. | .serviceIdleClose .. | .registerWrite ..
      | .loReadLatch .. => True
      | _ => t.readData = s.readData)

/-- The commands named first leave the faults in effect, the contactors and thresholds, the Millpond rings, the tandem
state and the Hopper state as they were. The commands named second leave every register field as it was. (R19,
08_sluice.md, 13_millpond.md, 16_hopper_eventlog.md, 19_tandem_service.md, 23_setup_registers.md) -/
def Obligations.QuietCommandsFrame : Prop :=
  (∀ (c : Instr) (s t : State), exec c s = .next t →
    match c with
      | .mest | .fit | .bankConfigApply | .filterChangeApply | .bankDiscovery .. | .imdSelfTest | .dieCooled
      | .dieHoldRelease .. | .tableBuildComplete .. | .snapshotPeriodic | .snapshotDeliver | .snapshotDiscard
      | .vecResume | .impedanceBlockEnd .. | .platingBumpEnd .. | .siLevelChange .. | .isoHoldEnd .. | .srstHeld
      | .telegramSend .. | .telegramSkewExpiry .. | .passwordLockoutEnd | .shuttleChange .. | .quietPeriodEnd
      | .analogRangeChange | .rangeChangeComplete | .linkUp .. | .perstDeassert | .heldEntryFlush .. | .pmeResend ..
      | .entryWrite .. | .modtimeExpiry .. | .foldClose | .freezeTimeout | .ptpAnnounce .. | .clientClockApply ..
      | .ttoPulse .. | .tciRead .. | .intervalTimeout .. | .canRxAck .. | .canTxRequest .. | .canTxCancel ..
      | .canTxComplete .. | .canTefAck .. | .canMwinAccess .. | .canFilterSwap .. | .canReferenceMessage ..
      | .referenceWithdraw .. | .runEntry | .blockReset .. | .wake .. | .debugLockoutEnd | .debugDrop ..
      | .debugPresenceLost | .debugRunControl .. | .aonSupplyLoss .. | .loReadLatch .. | .vectorUnmask ..
      | .canErrorFrame .. | .protocolException .. | .arbitrationLoss .. =>
        t.flt = s.flt ∧ t.slu = s.slu ∧ t.mpd = s.mpd ∧ t.tdm = s.tdm ∧ t.hop = s.hop
      | _ => True) ∧
  (∀ (c : Instr) (s t : State), exec c s = .next t →
    match c with
      | .bankDiscovery .. | .imdSelfTest | .dieHoldRelease .. | .snapshotPeriodic | .snapshotDiscard | .vecResume
      | .impedanceBlockEnd .. | .platingBumpEnd .. | .prechargeComplete | .overlapElapsed | .openCurrentLow
      | .kNegDelayEnd | .isoHoldEnd .. | .telegramSend .. | .telegramSkewExpiry .. | .quietPeriodEnd
      | .slotFailExit .. | .analogRangeChange | .pmeResend .. | .modtimeExpiry .. | .minuteRecord | .recordAreaCopy
      | .hourSeal | .clientClockApply .. | .canReferenceMessage .. | .roleDecide .. | .tokenClaim | .failoverTake
      | .debugMemoryWrite .. | .aonSupplyLoss .. | .vectorUnmask .. =>
        ∀ f : Field, t.reg f = s.reg f
      | _ => True)

/-- Every command but those named leaves every byte of every addressed memory reading as before. (R491, R580, 18_can.md) -/
def Obligations.MemoryBytesFrame : Prop :=
  ∀ (c : Instr) (s t : State), exec c s = .next t →
    match c with
      | .canFrameReceive .. | .canTxCancel .. | .canTxComplete .. | .canMwinAccess .. | .powerOnReset ..
      | .coldReset .. | .blockResetTimeout .. | .serviceRegRead .. | .serviceRegWrite .. | .debugMemoryWrite ..
      | .registerWrite .. | .loReadLatch .. | .canErrorFrame .. | .arbitrationLoss .. | .blockIdle .. => True
      | _ => s.memoryKept t fun _ _ => False

/-- A debug write changes no byte outside the bytes it names, and where every processor that owns a part of the region is
halted under HALT those bytes then read as written. (R580) -/
def Obligations.DebugWriteStoresItsBytes : Prop :=
  ∀ (mem owner addr : Nat) (bytes : List Nat) (s t : State), s.memoriesWf = true →
    exec (.debugMemoryWrite mem owner addr bytes) s = .next t →
    (s.memoryKept t fun k a => k = (if mem < 2 then 3 else 4) ∧
      (if mem = 1 then 4194304 + addr else addr) ≤ a ∧ a < (if mem = 1 then 4194304 + addr else addr) + bytes.length) ∧
    (mem < 3 → addr + bytes.length ≤ (if mem = 0 then 4194304 else if mem = 1 then 20971520 else 34359738368) →
      s.sys.core = true → s.reg Reg.SEC_DBG_LEVEL = dbgHalt →
      (debugOwners mem owner addr bytes.length).all (s.sec.halted.contains ·) = true →
      ∀ i, i < bytes.length →
        (t.memory (if mem < 2 then 3 else 4)).read ((if mem = 1 then 4194304 + addr else addr) + i)
          = BitVec.ofNat 8 (bytes.getD i 0))

/-- A write through the message window changes no byte of any memory outside the aligned word that CAN_MWIN_ADDR names in
the message RAM of its controller. (R491, 18_can.md) -/
def Obligations.CanWindowStoresOneWord : Prop :=
  ∀ (p : Path) (c : Nat) (w : Word) (s t : State), s.memoriesWf = true →
    exec (.canMwinAccess p c (some w)) s = .next t →
    s.memoryKept t fun k a => k = c ∧ s.reg (Reg.CAN_MWIN_ADDR_ADDR c) / 4 * 4 ≤ a ∧
      a < s.reg (Reg.CAN_MWIN_ADDR_ADDR c) / 4 * 4 + 4

/-- A stored register field reads its value modulo its width and every other field reads as before. Bytes stored in an
addressed memory read back, and every other byte of every memory reads as before. (R15, R491, 23_setup_registers.md) -/
def Obligations.StoredValuesReadBack : Prop :=
  (∀ (s : State) (f g : Field) (v : Nat),
    (s.setReg f v).reg g = if f.key = g.key then v % 2 ^ f.width else s.reg g) ∧
  (∀ (s : State) (k a j b : Nat) (l : List Nat), s.memoriesWf = true →
    ((s.writeMem k a l).memory j).read b
      = if k = j ∧ a ≤ b ∧ b < a + l.length then BitVec.ofNat 8 (l.getD (b - a) 0) else (s.memory j).read b)

/-- After a fault of class 1 to 4 is raised, a fault of its code and subject is in effect with at least its class, and
every fault in effect before is still in effect with a class no lower. No fault in effect has a class above the
governing class, and some fault in effect has it when any is in effect. (R19, R20) -/
def Obligations.RaiseAndGoverningClass : Prop :=
  (∀ (hw : Bool) (code cls subj : Nat) (ev : Bool) (data : List Nat) (s : State),
    (cls ≠ 0 → ∃ f ∈ (s.raiseAs hw code cls subj ev data).flt.active, f.code = code ∧ f.subj = subj ∧ cls ≤ f.cls) ∧
    ∀ f ∈ s.flt.active, ∃ g ∈ (s.raiseAs hw code cls subj ev data).flt.active,
      g.code = f.code ∧ g.subj = f.subj ∧ f.cls ≤ g.cls) ∧
  (∀ s : State, (∀ f ∈ s.flt.active, f.cls ≤ s.govClass) ∧
    (s.flt.active ≠ [] → ∃ f ∈ s.flt.active, f.cls = s.govClass) ∧ (s.flt.active = [] → s.govClass = 0))

/-- Raising a fault of any class leaves every register field but the lost-record fields of the event log, CONN, EMER and
BRK of SLU_STAT, the inhibit of the setpoint port and the handover fields of the tandem block. Raising a fault of any
class changes only registers, the faults in effect, the event log queue, captures, the contactor sequence, the
handover and the count of the minute record; measurements, estimates, configuration, host interface, power and
security state and the weld lockout stay. (R19, R20, R219, R223, R224, R448, R523) -/
def Obligations.RaiseFrame : Prop :=
  (∀ (hw : Bool) (code cls subj : Nat) (ev : Bool) (data : List Nat) (s : State) (f : Field),
    f.key ∉ [Reg.EVL_LOST_COUNT.key, Reg.EVL_LOST_CODE.key, Reg.EVL_LOST_STRK_LO_STRK.key, Reg.EVL_LOST_STRK_HI_STRK.key,
      Reg.SLU_STAT_CONN.key, Reg.SLU_STAT_EMER.key, Reg.SLU_STAT_BRK.key, Reg.GOV_SPT_STAT_INH.key,
      Reg.TDM_STAT_HO.key, Reg.TDM_LAST_ABAND.key] →
    (s.raiseAs hw code cls subj ev data).reg f = s.reg f) ∧
  (∀ (hw : Bool) (code cls subj : Nat) (ev : Bool) (data : List Nat) (s t : State),
    t = s.raiseAs hw code cls subj ev data →
    t.pending = s.pending ∧ t.sys = s.sys ∧ t.bnk = s.bnk ∧ t.chk = s.chk ∧ t.cur = s.cur ∧ t.imd = s.imd ∧ t.thm = s.thm ∧
    t.sio = s.sio ∧ t.auth = s.auth ∧ t.est = s.est ∧ t.mdl = s.mdl ∧ t.bal = s.bal ∧ t.gov = s.gov ∧ t.env = s.env ∧
    t.hif = s.hif ∧ t.net = s.net ∧ t.tim = s.tim ∧ t.can = s.can ∧ t.ram = s.ram ∧ t.pwr = s.pwr ∧ t.sec = s.sec ∧
    t.slu.weldLock = s.slu.weldLock)

/-- An event of class 0 changes the event log and, where its record is lost, the lost-record fields; every other part of
the state and every other register field stays. (R19, R446, R448) -/
def Obligations.NoteIsARecordOnly : Prop :=
  ∀ (code subj : Nat) (data : List Nat) (s t : State), t = s.note code subj data →
    { t with evl := s.evl, regs := s.regs } = s ∧
    ∀ f : Field, f.key ∉ [Reg.EVL_LOST_COUNT.key, Reg.EVL_LOST_CODE.key, Reg.EVL_LOST_STRK_LO_STRK.key,
      Reg.EVL_LOST_STRK_HI_STRK.key] → t.reg f = s.reg f

/-- A record that is not folded and finds 1 024 entries waiting is not written; the lost count grows by one and saturates,
and the first lost record leaves its code. (R446, R448) -/
def Obligations.FullQueueLosesTheRecord : Prop :=
  ∀ (r : EvRec) (s t : State), r.foldable = false → 1024 ≤ s.evl.queue.length → t = s.record r →
    t.evl.queue = s.evl.queue ∧ t.evl.slots = s.evl.slots ∧ t.evl.lostDue = true ∧
    t.reg Reg.EVL_LOST_COUNT = sat (2 ^ Reg.EVL_LOST_COUNT.width - 1) (s.reg Reg.EVL_LOST_COUNT + 1) ∧
    (s.reg Reg.EVL_LOST_COUNT = 0 → t.reg Reg.EVL_LOST_CODE = r.code % 2 ^ Reg.EVL_LOST_CODE.width)

/-- With class 4 governing MODE is BREAKER, with class 3 TRIPPED; otherwise ISOLATED exactly while one of the isolation
conditions holds, and else DERATED with class 2 governing, NORMAL without. (R232) -/
def Obligations.ModeTakesFirstCase : Prop :=
  ∀ s : State,
    (s.govClass = 4 → s.mode = modeBreaker) ∧ (s.govClass = 3 → s.mode = modeTripped) ∧
    (s.govClass ≠ 4 → s.govClass ≠ 3 →
      (s.slu.cfg = false ∨ s.power ≠ pwRun ∨ (∃ e ∈ s.bnk, e.2.en = true ∧ (e.2.step ≠ .released ∨ e.2.survey = true)) ∨
        s.flag Reg.CUR_STAT_REL = false ∨ s.slu.weldLock = true ∨ s.reg Reg.SEC_LC_STATE = 0 ∨ s.reg Reg.SEC_LC_STATE = 4 ∨
        (∃ e ∈ s.sio.inputs, e.2.iso = true) ∨ (∃ e ∈ s.sio.conns, e.2.isol = true ∨ e.2.toutIso = true)) →
      s.mode = modeIsolated) ∧
    (s.govClass ≠ 4 → s.govClass ≠ 3 →
      ¬ (s.slu.cfg = false ∨ s.power ≠ pwRun ∨ (∃ e ∈ s.bnk, e.2.en = true ∧ (e.2.step ≠ .released ∨ e.2.survey = true)) ∨
        s.flag Reg.CUR_STAT_REL = false ∨ s.slu.weldLock = true ∨ s.reg Reg.SEC_LC_STATE = 0 ∨ s.reg Reg.SEC_LC_STATE = 4 ∨
        (∃ e ∈ s.sio.inputs, e.2.iso = true) ∨ (∃ e ∈ s.sio.conns, e.2.isol = true ∨ e.2.toutIso = true)) →
      s.mode = if s.govClass = 2 then modeDerated else modeNormal)

/-- The turn number is the strike number shifted right by 5 bits and the strike within the turn is its low 5 bits; a
second is 32 000 strikes and 1 000 turns and begins with strike 0. (R22) -/
def Obligations.TurnAndStrikeNumbers : Prop :=
  (∀ s : State, s.turn = s.now >>> 5 ∧ s.phase = s.now &&& 31) ∧
    secStrikes = 32000 ∧ secStrikes = 1000 * 32 ∧
    ∀ (s : State) (k : Nat), s.now = k * secStrikes → s.phase = 0

/-- Within the linear reporting limit of the range VALUE is the filtered input, beyond it the nearer limit; O is set
exactly outside the measuring range, and so both between the two and for a clamped value. (R50) -/
def Obligations.FilteredInputReporting : Prop :=
  ∀ (survey : Bool) (v lo hi mlo mhi : Int),
    lo = (if survey then -8000000 else -600000) → hi = (if survey then 8000000 else 5400000) →
    mlo = (if survey then -8000000 else -500000) → mhi = (if survey then 8000000 else 5200000) →
    (lo ≤ v → v ≤ hi → linear survey v = v) ∧ (hi < v → linear survey v = hi) ∧ (v < lo → linear survey v = lo) ∧
    (overrange survey v = true ↔ v < mlo ∨ mhi < v) ∧
    ((mhi < v ∧ v ≤ hi) ∨ (lo ≤ v ∧ v < mlo) ∨ linear survey v ≠ v → overrange survey v = true)

/-- The sample word of a value from -8 388 608 to 8 388 607 is a 32-bit word whose VALUE, S, O, C and D read back and
whose low four bits are the strike number modulo 16. (R49) -/
def Obligations.SampleWordLayout : Prop :=
  ∀ (v : Int) (fs fo fc fd : Bool) (n : Nat), -8388608 ≤ v → v ≤ 8388607 →
    sampleWord v fs fo fc fd n < 2 ^ 32 ∧ wValue (sampleWord v fs fo fc fd n) = v ∧ wS (sampleWord v fs fo fc fd n) = fs ∧
    wO (sampleWord v fs fo fc fd n) = fo ∧ wC (sampleWord v fs fo fc fd n) = fc ∧ wD (sampleWord v fs fo fc fd n) = fd ∧
    sampleWord v fs fo fc fd n % 16 = n % 16

/-- At its evaluation in a turn a safety input is in demand when either channel shows its demand state, and leaves demand
only when both show the inactive state. (R240) -/
def Obligations.DemandNeedsOneChannel : Prop :=
  ∀ (n : Nat) (s : State) (a b : Bool), a = demandA (s.si n).a.lat → b = demandB (s.siWire n) (s.si n).b.lat →
    (a = true ∨ b = true → ((State.siChannels n s).si n).demand = true) ∧
    ((s.si n).demand = true → ((State.siChannels n s).si n).demand = false → a = false ∧ b = false) ∧
    (a = false ∧ b = false → ((State.siChannels n s).si n).demand = false)

/-- A register read on one path leaves every latched word of every other path as it was. A PF0 read of SYS_STRIKE_LO
returns the low word of the strike number and latches its high word for PF0. (R612, R21) -/
def Obligations.LatchesOfPathsAreSeparate : Prop :=
  (∀ (p q : Path) (off a : Nat) (s t : State), exec (.loReadLatch p off) s = .next t → p.num ≠ q.num → a < 0x500000 →
    t.latch.get 0 (latchKey q a) = s.latch.get 0 (latchKey q a)) ∧
  ∀ (s t : State), s.pathThere .pf0 = true → exec (.loReadLatch .pf0 0x10) s = .next t →
    t.latch.get 0 (latchKey .pf0 0x14) = s.now / 2 ^ 32 ∧ t.readData.get 0 Path.pf0.num = s.now % 2 ^ 32

/-- While a warm reset runs, the register write commands of every path leave the whole state as it was: no effect and no
event. (R614) -/
def Obligations.WarmResetDiscardsWrites : Prop :=
  ∀ s : State, s.flag Reg.PWR_STAT_WARM = true →
    (∀ p off size w, exec (.registerWrite p off size w) s = .next s) ∧ (∀ p nn w, exec (.bnkCtrlWrite p nn w) s = .next s) ∧
    (∀ p w, exec (.curCtrlWrite p w) s = .next s) ∧ (∀ p off w, exec (.thmConfigWrite p off w) s = .next s) ∧
    (∀ p off w, exec (.govWrite p off w) s = .next s) ∧ (∀ p w, exec (.setpointWrite p w) s = .next s) ∧
    (∀ p k w, exec (.ttoArm p k w) s = .next s)

/-- A fetched command that lacks its privilege completes with PRIV, and one that its power state does not admit completes
with STATE; both do nothing but complete. (R365, R393, R394) -/
def Obligations.CommandChecksAnswer : Prop :=
  ∀ (k : CmdSpec) (x : CmdCtx) (s : State),
    (s.admits k x = false → s.serve k x = s.complete x.ref (.no stPriv)) ∧
    (s.admits k x = true → (k.states x).contains s.power = false → s.serve k x = s.complete x.ref (.no stState))
end

