-- ==== Sys2Proof/Laws/Commands.lean ====
section
/-! SUPPORT. What a command entry does that the shared checks let through. -/
namespace Sys2Proof.Machine

@[simp] theorem quiet_flag (f : Field) (s : State) : s.quiet.flag f = s.flag f := rfl
@[simp] theorem quiet_suspended (f : Nat) (s : State) : s.quiet.suspended f = s.suspended f := rfl
@[simp] theorem quiet_ring (f r : Nat) (s : State) : s.quiet.ring? f r = s.ring? f r := rfl
@[simp] theorem quiet_ringsOf (f : Nat) (s : State) : s.quiet.ringsOf f = s.ringsOf f := rfl
@[simp] theorem quiet_fns (s : State) : s.quiet.hif.fns = s.hif.fns := rfl

/-- A command entry that is accepted does what its row of the catalogue says, and completes when that row answers. -/
theorem State.command_accepted {k : CmdSpec} {c : CmdIn} {s u : State} {x : CmdCtx} (h : s.accepts k c = true)
    (hf : s.fetched k c = (u, x)) :
    s.command k c = match k.run x u with
      | (t, some y) => t.complete x.ref y
      | (t, none) => t := by
  simp only [State.accepts, hf, Bool.and_eq_true, Bool.not_eq_true', beq_iff_eq] at h
  obtain ⟨⟨⟨⟨⟨⟨⟨h1, h2⟩, h3⟩, h4⟩, h5⟩, h6⟩, h7⟩, h8⟩ := h
  unfold State.fetched at hf
  simp only [State.command, h1, h2, h3, hf, Bool.true_and, beq_self_eq_true, if_true]
  simp only [State.serve, h4, h5, h6, h7, h8]
  rfl

end Sys2Proof.Machine
end

