-- ==== Sys2Proof/Laws/Memory.lean ====
section
/-! SUPPORT. Memories and tables: what a write leaves, and that it keeps the canonical form. -/
namespace Sys2Proof.Machine

theorem Memory.above_mono {m : Memory} {a b : Nat} (h : m.above b = true) (hab : a ≤ b) : m.above a = true := by
  cases m with
  | nil => rfl
  | cons e r => simp only [Memory.above, decide_eq_true_eq] at h ⊢; omega

theorem Memory.wf_tail {e : Host.Cell} {r : Memory} (h : Memory.wf (e :: r) = true) : Memory.wf r = true := by
  simp only [Memory.wf, Bool.and_eq_true] at h; exact h.2

theorem Memory.wf_above {e : Host.Cell} {r : Memory} (h : Memory.wf (e :: r) = true) : Memory.above r e.1 = true := by
  simp only [Memory.wf, Bool.and_eq_true] at h; exact h.1.2

/-- A write leaves every address above a bound that lay below the whole memory and the address written. -/
theorem Memory.write_above {m : Memory} {a b : Nat} {v : Byte} (hw : m.wf = true) (h : m.above b = true) (hb : b < a) :
    (m.write a v).above b = true := by
  cases m with
  | nil => unfold Memory.write; split <;> simp [Memory.above, hb]
  | cons e r =>
    have ht := Memory.wf_above hw
    simp only [Memory.above, decide_eq_true_eq] at h
    unfold Memory.write
    repeat' split
    all_goals simp only [Memory.above, decide_eq_true_eq]
    all_goals first | omega | exact Memory.above_mono ht (Nat.le_of_lt h)

/-- A write keeps the canonical form. -/
theorem Memory.write_wf {m : Memory} {a : Nat} {v : Byte} (hw : m.wf = true) : (m.write a v).wf = true := by
  induction m with
  | nil => unfold Memory.write; split <;> simp_all [Memory.wf, Memory.above]
  | cons e r ih =>
    have ht := Memory.wf_tail hw
    have hr := Memory.wf_above hw
    unfold Memory.write
    split
    · split
      · exact hw
      · simp_all [Memory.wf, Memory.above]
    · split
      · split
        · exact ht
        · simp_all [Memory.wf]
      · simp only [Memory.wf, Bool.and_eq_true] at hw ⊢
        exact ⟨⟨hw.1.1, Memory.write_above ht hr (by omega)⟩, ih ht⟩

/-- Writing bytes keeps the canonical form. -/
theorem Memory.writeBytes_wf {l : List Nat} {m : Memory} {a : Nat} (hw : m.wf = true) : (m.writeBytes a l).wf = true := by
  induction l generalizing m a with
  | nil => exact hw
  | cons b r ih => exact ih (Memory.write_wf hw)

theorem Memory.read_of_above {m : Memory} {a b : Nat} (hw : m.wf = true) (h : m.above b = true) (hab : a ≤ b) : m.read a = 0 := by
  induction m with
  | nil => rfl
  | cons e r ih =>
    have h1 := Memory.wf_above hw
    simp only [Memory.above, decide_eq_true_eq] at h
    rw [Memory.read, if_neg (by omega)]
    exact ih (Memory.wf_tail hw) (Memory.above_mono h1 (by omega))

/-- A read after a write gives the byte written at its address, and what was there before elsewhere. -/
theorem Memory.read_write {m : Memory} {a b : Nat} {v : Byte} (hw : m.wf = true) :
    (m.write a v).read b = if b = a then v else m.read b := by
  induction m with
  | nil =>
    unfold Memory.write
    by_cases hv : v = 0
    · rw [if_pos hv, hv]; split <;> rfl
    · rw [if_neg hv]
      show (if a = b then v else 0) = if b = a then v else 0
      by_cases hb : b = a
      · rw [if_pos hb.symm, if_pos hb]
      · rw [if_neg (Ne.symm hb), if_neg hb]
  | cons e r ih =>
    have ht := Memory.wf_tail hw
    have hr := Memory.wf_above hw
    have h0 : ∀ c, c ≤ e.1 → Memory.read r c = 0 := fun c hc => Memory.read_of_above ht hr hc
    unfold Memory.write
    split
    · rename_i hlt
      split
      · split
        · subst_vars; rw [Memory.read, if_neg (by omega), h0 _ (by omega)]
        · rfl
      · rw [Memory.read]
        by_cases hb : a = b
        · rw [if_pos hb, if_pos hb.symm]
        · rw [if_neg hb, if_neg (Ne.symm hb)]
    · split
      · rename_i _ heq
        by_cases hb : b = a
        · subst hb
          split
          · rw [if_pos rfl, h0 _ (by omega)]; simp_all
          · simp [Memory.read]
        · rw [if_neg hb]
          have hc : ¬ e.1 = b := by omega
          split
          · rw [Memory.read, if_neg hc]
          · rw [Memory.read, Memory.read, if_neg (Ne.symm hb), if_neg hc]
      · rw [Memory.read, Memory.read, ih ht]
        by_cases hc : e.1 = b
        · rw [if_pos hc, if_pos hc, if_neg (by omega)]
        · rw [if_neg hc, if_neg hc]

/-- Bytes written read back; every address outside them reads as before. -/
theorem Memory.read_writeBytes {l : List Nat} {m : Memory} {a b : Nat} (hw : m.wf = true) :
    (m.writeBytes a l).read b = if a ≤ b ∧ b < a + l.length then BitVec.ofNat 8 (l.getD (b - a) 0) else m.read b := by
  induction l generalizing m a with
  | nil => rw [Memory.writeBytes, if_neg (by simp)]
  | cons x r ih =>
    rw [Memory.writeBytes, ih (Memory.write_wf hw), Memory.read_write hw]
    by_cases h1 : b = a
    · subst h1; simp
    · by_cases h2 : a + 1 ≤ b ∧ b < a + 1 + r.length
      · have : b - a = (b - (a + 1)) + 1 := by omega
        rw [if_pos h2, if_pos (by simp; omega), this, List.getD_cons_succ]
      · rw [if_neg h2, if_neg h1, if_neg (by simp; omega)]

theorem Tab.get_put {α : Type} (d : α) (t : Tab α) (k j : Nat) (v : α) :
    Tab.get d (Tab.put t k v) j = if k = j then v else Tab.get d t j := by
  induction t with
  | nil => simp [Tab.put, Tab.get]
  | cons e r ih =>
    unfold Tab.put
    split
    · by_cases h : k = j
      · simp [Tab.get, h]
      · simp_all [Tab.get]
    · by_cases h : k = j
      · subst h; simp_all [Tab.get]
      · simp only [Tab.get, ih, if_neg h]

theorem Tab.all_put {α : Type} {p : α → Bool} {t : Tab α} {k : Nat} {v : α} (h : t.all (fun e => p e.2) = true) (hv : p v = true) :
    (Tab.put t k v).all (fun e => p e.2) = true := by
  induction t with
  | nil => simp [Tab.put, hv]
  | cons e r ih =>
    simp only [List.all_cons, Bool.and_eq_true] at h
    unfold Tab.put
    split
    · simp only [List.all_cons, Bool.and_eq_true]; exact ⟨hv, h.2⟩
    · simp only [List.all_cons, Bool.and_eq_true]; exact ⟨h.1, ih h.2⟩

theorem Tab.all_get {α : Type} {p : α → Bool} {t : Tab α} {d : α} (h : t.all (fun e => p e.2) = true) (hd : p d = true) (k : Nat) :
    p (Tab.get d t k) = true := by
  induction t with
  | nil => exact hd
  | cons e r ih =>
    simp only [List.all_cons, Bool.and_eq_true] at h
    unfold Tab.get; split
    · exact h.1
    · exact ih h.2

end Sys2Proof.Machine
end

