-- ==== Sys2Proof/Laws/Frame.lean ====
section
/-! SUPPORT. What a change of the state leaves, part by part: the frame of a change, and how frames combine. -/
namespace Sys2Proof.Machine

/-- What a change of the state leaves: the queue, every part of the state but those that the bits of `m` name (bit `i` for
field `i` of State, counted from 0), the canonical form of the memories, the weld lockout (but where bit 31 is named), and
the end of the lifecycle. -/
structure Frame (m : Nat) (s t : State) : Prop where
  pending : t.pending = s.pending
  free : m.testBit 1 = false → t.free = s.free
  regs : m.testBit 2 = false → t.regs = s.regs
  latch : m.testBit 3 = false → t.latch = s.latch
  readData : m.testBit 4 = false → t.readData = s.readData
  sys : m.testBit 5 = false → t.sys = s.sys
  flt : m.testBit 6 = false → t.flt = s.flt
  evl : m.testBit 7 = false → t.evl = s.evl
  bnk : m.testBit 8 = false → t.bnk = s.bnk
  chk : m.testBit 9 = false → t.chk = s.chk
  cur : m.testBit 10 = false → t.cur = s.cur
  imd : m.testBit 11 = false → t.imd = s.imd
  thm : m.testBit 12 = false → t.thm = s.thm
  slu : m.testBit 13 = false → t.slu = s.slu
  sio : m.testBit 14 = false → t.sio = s.sio
  auth : m.testBit 15 = false → t.auth = s.auth
  est : m.testBit 16 = false → t.est = s.est
  mdl : m.testBit 17 = false → t.mdl = s.mdl
  bal : m.testBit 18 = false → t.bal = s.bal
  gov : m.testBit 19 = false → t.gov = s.gov
  env : m.testBit 20 = false → t.env = s.env
  mpd : m.testBit 21 = false → t.mpd = s.mpd
  tdm : m.testBit 22 = false → t.tdm = s.tdm
  hif : m.testBit 23 = false → t.hif = s.hif
  hop : m.testBit 24 = false → t.hop = s.hop
  net : m.testBit 25 = false → t.net = s.net
  tim : m.testBit 26 = false → t.tim = s.tim
  can : m.testBit 27 = false → t.can = s.can
  ram : m.testBit 28 = false → t.ram = s.ram
  pwr : m.testBit 29 = false → t.pwr = s.pwr
  sec : m.testBit 30 = false → t.sec = s.sec
  ramWf : s.memoriesWf = true → t.memoriesWf = true
  weld : m.testBit 31 = false → s.slu.weldLock = true → t.slu.weldLock = true
  dead : s.sec.lc = 4 ∧ s.sec.lcNext = none → t.sec.lc = 4 ∧ t.sec.lcNext = none
  calm : (s.sec.lc = 4 → s.sec.lcNext = none) → t.sec.lc = 4 → t.sec.lcNext = none

/-- Every part that `a` names, `b` names. -/
def maskIn (a b : Nat) : Bool := a &&& b == a

theorem maskIn_bit {a b : Nat} (h : maskIn a b = true) (i : Nat) (hb : b.testBit i = false) : a.testBit i = false := by
  simp only [maskIn, beq_iff_eq] at h
  have := congrArg (Nat.testBit · i) h
  simp only [Nat.testBit_land, hb, Bool.and_false] at this
  exact this.symm

theorem maskIn_self (a : Nat) : maskIn a a = true := by simp [maskIn]

theorem maskIn_trans {a b c : Nat} (h : maskIn a b = true) (k : maskIn b c = true) : maskIn a c = true := by
  simp only [maskIn, beq_iff_eq] at *
  rw [← h, Nat.land_assoc, k]

theorem Frame.refl (m : Nat) (s : State) : Frame m s s := by
  constructor <;> first | rfl | exact fun _ => rfl | exact id | exact fun _ => id

/-- A change follows another. -/
theorem Frame.step {l m : Nat} {r s t : State} (h : Frame m s t) (hm : maskIn m l = true) (h0 : Frame l r s) : Frame l r t where
  pending := h.pending.trans h0.pending
  free hb := (h.free (maskIn_bit hm _ hb)).trans (h0.free hb)
  regs hb := (h.regs (maskIn_bit hm _ hb)).trans (h0.regs hb)
  latch hb := (h.latch (maskIn_bit hm _ hb)).trans (h0.latch hb)
  readData hb := (h.readData (maskIn_bit hm _ hb)).trans (h0.readData hb)
  sys hb := (h.sys (maskIn_bit hm _ hb)).trans (h0.sys hb)
  flt hb := (h.flt (maskIn_bit hm _ hb)).trans (h0.flt hb)
  evl hb := (h.evl (maskIn_bit hm _ hb)).trans (h0.evl hb)
  bnk hb := (h.bnk (maskIn_bit hm _ hb)).trans (h0.bnk hb)
  chk hb := (h.chk (maskIn_bit hm _ hb)).trans (h0.chk hb)
  cur hb := (h.cur (maskIn_bit hm _ hb)).trans (h0.cur hb)
  imd hb := (h.imd (maskIn_bit hm _ hb)).trans (h0.imd hb)
  thm hb := (h.thm (maskIn_bit hm _ hb)).trans (h0.thm hb)
  slu hb := (h.slu (maskIn_bit hm _ hb)).trans (h0.slu hb)
  sio hb := (h.sio (maskIn_bit hm _ hb)).trans (h0.sio hb)
  auth hb := (h.auth (maskIn_bit hm _ hb)).trans (h0.auth hb)
  est hb := (h.est (maskIn_bit hm _ hb)).trans (h0.est hb)
  mdl hb := (h.mdl (maskIn_bit hm _ hb)).trans (h0.mdl hb)
  bal hb := (h.bal (maskIn_bit hm _ hb)).trans (h0.bal hb)
  gov hb := (h.gov (maskIn_bit hm _ hb)).trans (h0.gov hb)
  env hb := (h.env (maskIn_bit hm _ hb)).trans (h0.env hb)
  mpd hb := (h.mpd (maskIn_bit hm _ hb)).trans (h0.mpd hb)
  tdm hb := (h.tdm (maskIn_bit hm _ hb)).trans (h0.tdm hb)
  hif hb := (h.hif (maskIn_bit hm _ hb)).trans (h0.hif hb)
  hop hb := (h.hop (maskIn_bit hm _ hb)).trans (h0.hop hb)
  net hb := (h.net (maskIn_bit hm _ hb)).trans (h0.net hb)
  tim hb := (h.tim (maskIn_bit hm _ hb)).trans (h0.tim hb)
  can hb := (h.can (maskIn_bit hm _ hb)).trans (h0.can hb)
  ram hb := (h.ram (maskIn_bit hm _ hb)).trans (h0.ram hb)
  pwr hb := (h.pwr (maskIn_bit hm _ hb)).trans (h0.pwr hb)
  sec hb := (h.sec (maskIn_bit hm _ hb)).trans (h0.sec hb)
  ramWf hb := h.ramWf (h0.ramWf hb)
  weld hb x := h.weld (maskIn_bit hm _ hb) (h0.weld hb x)
  dead x := h.dead (h0.dead x)
  calm x := h.calm (h0.calm x)

theorem Frame.set_free {l : Nat} {r s : State} {x1 : Nat} (h : Frame l r s) (hm : maskIn 0x00000002 l = true) :
    Frame l r { s with free := x1 } := by
  refine Frame.step (m := 0x00000002) ?_ hm h
  constructor
  case ramWf => exact id
  case weld => exact fun _ x => x
  case dead => exact id
  case calm => exact id
  all_goals first | rfl | exact fun _ => rfl | exact fun x => absurd x (by decide)

theorem Frame.set_regs {l : Nat} {r s : State} {x2 : RegFile} (h : Frame l r s) (hm : maskIn 0x00000004 l = true) :
    Frame l r { s with regs := x2 } := by
  refine Frame.step (m := 0x00000004) ?_ hm h
  constructor
  case ramWf => exact id
  case weld => exact fun _ x => x
  case dead => exact id
  case calm => exact id
  all_goals first | rfl | exact fun _ => rfl | exact fun x => absurd x (by decide)

theorem Frame.set_latch {l : Nat} {r s : State} {x3 : Tab Nat} (h : Frame l r s) (hm : maskIn 0x00000008 l = true) :
    Frame l r { s with latch := x3 } := by
  refine Frame.step (m := 0x00000008) ?_ hm h
  constructor
  case ramWf => exact id
  case weld => exact fun _ x => x
  case dead => exact id
  case calm => exact id
  all_goals first | rfl | exact fun _ => rfl | exact fun x => absurd x (by decide)

theorem Frame.set_readData {l : Nat} {r s : State} {x4 : Tab Nat} (h : Frame l r s) (hm : maskIn 0x00000010 l = true) :
    Frame l r { s with readData := x4 } := by
  refine Frame.step (m := 0x00000010) ?_ hm h
  constructor
  case ramWf => exact id
  case weld => exact fun _ x => x
  case dead => exact id
  case calm => exact id
  all_goals first | rfl | exact fun _ => rfl | exact fun x => absurd x (by decide)

theorem Frame.set_sys {l : Nat} {r s : State} {x5 : SysState} (h : Frame l r s) (hm : maskIn 0x00000020 l = true) :
    Frame l r { s with sys := x5 } := by
  refine Frame.step (m := 0x00000020) ?_ hm h
  constructor
  case ramWf => exact id
  case weld => exact fun _ x => x
  case dead => exact id
  case calm => exact id
  all_goals first | rfl | exact fun _ => rfl | exact fun x => absurd x (by decide)

theorem Frame.set_flt {l : Nat} {r s : State} {x6 : FaultState} (h : Frame l r s) (hm : maskIn 0x00000040 l = true) :
    Frame l r { s with flt := x6 } := by
  refine Frame.step (m := 0x00000040) ?_ hm h
  constructor
  case ramWf => exact id
  case weld => exact fun _ x => x
  case dead => exact id
  case calm => exact id
  all_goals first | rfl | exact fun _ => rfl | exact fun x => absurd x (by decide)

theorem Frame.set_evl {l : Nat} {r s : State} {x7 : EvlState} (h : Frame l r s) (hm : maskIn 0x00000080 l = true) :
    Frame l r { s with evl := x7 } := by
  refine Frame.step (m := 0x00000080) ?_ hm h
  constructor
  case ramWf => exact id
  case weld => exact fun _ x => x
  case dead => exact id
  case calm => exact id
  all_goals first | rfl | exact fun _ => rfl | exact fun x => absurd x (by decide)

theorem Frame.set_bnk {l : Nat} {r s : State} {x8 : Tab Bank} (h : Frame l r s) (hm : maskIn 0x00000100 l = true) :
    Frame l r { s with bnk := x8 } := by
  refine Frame.step (m := 0x00000100) ?_ hm h
  constructor
  case ramWf => exact id
  case weld => exact fun _ x => x
  case dead => exact id
  case calm => exact id
  all_goals first | rfl | exact fun _ => rfl | exact fun x => absurd x (by decide)

theorem Frame.set_chk {l : Nat} {r s : State} {x9 : Tab Check} (h : Frame l r s) (hm : maskIn 0x00000200 l = true) :
    Frame l r { s with chk := x9 } := by
  refine Frame.step (m := 0x00000200) ?_ hm h
  constructor
  case ramWf => exact id
  case weld => exact fun _ x => x
  case dead => exact id
  case calm => exact id
  all_goals first | rfl | exact fun _ => rfl | exact fun x => absurd x (by decide)

theorem Frame.set_cur {l : Nat} {r s : State} {x10 : CurState} (h : Frame l r s) (hm : maskIn 0x00000400 l = true) :
    Frame l r { s with cur := x10 } := by
  refine Frame.step (m := 0x00000400) ?_ hm h
  constructor
  case ramWf => exact id
  case weld => exact fun _ x => x
  case dead => exact id
  case calm => exact id
  all_goals first | rfl | exact fun _ => rfl | exact fun x => absurd x (by decide)

theorem Frame.set_imd {l : Nat} {r s : State} {x11 : ImdState} (h : Frame l r s) (hm : maskIn 0x00000800 l = true) :
    Frame l r { s with imd := x11 } := by
  refine Frame.step (m := 0x00000800) ?_ hm h
  constructor
  case ramWf => exact id
  case weld => exact fun _ x => x
  case dead => exact id
  case calm => exact id
  all_goals first | rfl | exact fun _ => rfl | exact fun x => absurd x (by decide)

theorem Frame.set_thm {l : Nat} {r s : State} {x12 : ThmState} (h : Frame l r s) (hm : maskIn 0x00001000 l = true) :
    Frame l r { s with thm := x12 } := by
  refine Frame.step (m := 0x00001000) ?_ hm h
  constructor
  case ramWf => exact id
  case weld => exact fun _ x => x
  case dead => exact id
  case calm => exact id
  all_goals first | rfl | exact fun _ => rfl | exact fun x => absurd x (by decide)

theorem Frame.set_slu {l : Nat} {r s : State} {x13 : SluState} (h : Frame l r s) (hm : maskIn 0x00002000 l = true) (hw : x13.weldLock = s.slu.weldLock ) :
    Frame l r { s with slu := x13 } := by
  refine Frame.step (m := 0x00002000) ?_ hm h
  constructor
  case ramWf => exact id
  case weld => exact fun _ x => hw.trans x
  case dead => exact id
  case calm => exact id
  all_goals first | rfl | exact fun _ => rfl | exact fun x => absurd x (by decide)

theorem Frame.set_sio {l : Nat} {r s : State} {x14 : SioState} (h : Frame l r s) (hm : maskIn 0x00004000 l = true) :
    Frame l r { s with sio := x14 } := by
  refine Frame.step (m := 0x00004000) ?_ hm h
  constructor
  case ramWf => exact id
  case weld => exact fun _ x => x
  case dead => exact id
  case calm => exact id
  all_goals first | rfl | exact fun _ => rfl | exact fun x => absurd x (by decide)

theorem Frame.set_auth {l : Nat} {r s : State} {x15 : AuthState} (h : Frame l r s) (hm : maskIn 0x00008000 l = true) :
    Frame l r { s with auth := x15 } := by
  refine Frame.step (m := 0x00008000) ?_ hm h
  constructor
  case ramWf => exact id
  case weld => exact fun _ x => x
  case dead => exact id
  case calm => exact id
  all_goals first | rfl | exact fun _ => rfl | exact fun x => absurd x (by decide)

theorem Frame.set_est {l : Nat} {r s : State} {x16 : EstState} (h : Frame l r s) (hm : maskIn 0x00010000 l = true) :
    Frame l r { s with est := x16 } := by
  refine Frame.step (m := 0x00010000) ?_ hm h
  constructor
  case ramWf => exact id
  case weld => exact fun _ x => x
  case dead => exact id
  case calm => exact id
  all_goals first | rfl | exact fun _ => rfl | exact fun x => absurd x (by decide)

theorem Frame.set_mdl {l : Nat} {r s : State} {x17 : ModelState} (h : Frame l r s) (hm : maskIn 0x00020000 l = true) :
    Frame l r { s with mdl := x17 } := by
  refine Frame.step (m := 0x00020000) ?_ hm h
  constructor
  case ramWf => exact id
  case weld => exact fun _ x => x
  case dead => exact id
  case calm => exact id
  all_goals first | rfl | exact fun _ => rfl | exact fun x => absurd x (by decide)

theorem Frame.set_bal {l : Nat} {r s : State} {x18 : BalState} (h : Frame l r s) (hm : maskIn 0x00040000 l = true) :
    Frame l r { s with bal := x18 } := by
  refine Frame.step (m := 0x00040000) ?_ hm h
  constructor
  case ramWf => exact id
  case weld => exact fun _ x => x
  case dead => exact id
  case calm => exact id
  all_goals first | rfl | exact fun _ => rfl | exact fun x => absurd x (by decide)

theorem Frame.set_gov {l : Nat} {r s : State} {x19 : GovState} (h : Frame l r s) (hm : maskIn 0x00080000 l = true) :
    Frame l r { s with gov := x19 } := by
  refine Frame.step (m := 0x00080000) ?_ hm h
  constructor
  case ramWf => exact id
  case weld => exact fun _ x => x
  case dead => exact id
  case calm => exact id
  all_goals first | rfl | exact fun _ => rfl | exact fun x => absurd x (by decide)

theorem Frame.set_env {l : Nat} {r s : State} {x20 : EnvState} (h : Frame l r s) (hm : maskIn 0x00100000 l = true) :
    Frame l r { s with env := x20 } := by
  refine Frame.step (m := 0x00100000) ?_ hm h
  constructor
  case ramWf => exact id
  case weld => exact fun _ x => x
  case dead => exact id
  case calm => exact id
  all_goals first | rfl | exact fun _ => rfl | exact fun x => absurd x (by decide)

theorem Frame.set_mpd {l : Nat} {r s : State} {x21 : MpdState} (h : Frame l r s) (hm : maskIn 0x00200000 l = true) :
    Frame l r { s with mpd := x21 } := by
  refine Frame.step (m := 0x00200000) ?_ hm h
  constructor
  case ramWf => exact id
  case weld => exact fun _ x => x
  case dead => exact id
  case calm => exact id
  all_goals first | rfl | exact fun _ => rfl | exact fun x => absurd x (by decide)

theorem Frame.set_tdm {l : Nat} {r s : State} {x22 : TdmState} (h : Frame l r s) (hm : maskIn 0x00400000 l = true) :
    Frame l r { s with tdm := x22 } := by
  refine Frame.step (m := 0x00400000) ?_ hm h
  constructor
  case ramWf => exact id
  case weld => exact fun _ x => x
  case dead => exact id
  case calm => exact id
  all_goals first | rfl | exact fun _ => rfl | exact fun x => absurd x (by decide)

theorem Frame.set_hif {l : Nat} {r s : State} {x23 : HostState} (h : Frame l r s) (hm : maskIn 0x00800000 l = true) :
    Frame l r { s with hif := x23 } := by
  refine Frame.step (m := 0x00800000) ?_ hm h
  constructor
  case ramWf => exact id
  case weld => exact fun _ x => x
  case dead => exact id
  case calm => exact id
  all_goals first | rfl | exact fun _ => rfl | exact fun x => absurd x (by decide)

theorem Frame.set_hop {l : Nat} {r s : State} {x24 : HopState} (h : Frame l r s) (hm : maskIn 0x01000000 l = true) :
    Frame l r { s with hop := x24 } := by
  refine Frame.step (m := 0x01000000) ?_ hm h
  constructor
  case ramWf => exact id
  case weld => exact fun _ x => x
  case dead => exact id
  case calm => exact id
  all_goals first | rfl | exact fun _ => rfl | exact fun x => absurd x (by decide)

theorem Frame.set_net {l : Nat} {r s : State} {x25 : NetState} (h : Frame l r s) (hm : maskIn 0x02000000 l = true) :
    Frame l r { s with net := x25 } := by
  refine Frame.step (m := 0x02000000) ?_ hm h
  constructor
  case ramWf => exact id
  case weld => exact fun _ x => x
  case dead => exact id
  case calm => exact id
  all_goals first | rfl | exact fun _ => rfl | exact fun x => absurd x (by decide)

theorem Frame.set_tim {l : Nat} {r s : State} {x26 : TimeState} (h : Frame l r s) (hm : maskIn 0x04000000 l = true) :
    Frame l r { s with tim := x26 } := by
  refine Frame.step (m := 0x04000000) ?_ hm h
  constructor
  case ramWf => exact id
  case weld => exact fun _ x => x
  case dead => exact id
  case calm => exact id
  all_goals first | rfl | exact fun _ => rfl | exact fun x => absurd x (by decide)

theorem Frame.set_can {l : Nat} {r s : State} {x27 : CanState} (h : Frame l r s) (hm : maskIn 0x08000000 l = true) :
    Frame l r { s with can := x27 } := by
  refine Frame.step (m := 0x08000000) ?_ hm h
  constructor
  case ramWf => exact id
  case weld => exact fun _ x => x
  case dead => exact id
  case calm => exact id
  all_goals first | rfl | exact fun _ => rfl | exact fun x => absurd x (by decide)

theorem Frame.set_pwr {l : Nat} {r s : State} {x29 : PwrState} (h : Frame l r s) (hm : maskIn 0x20000000 l = true) :
    Frame l r { s with pwr := x29 } := by
  refine Frame.step (m := 0x20000000) ?_ hm h
  constructor
  case ramWf => exact id
  case weld => exact fun _ x => x
  case dead => exact id
  case calm => exact id
  all_goals first | rfl | exact fun _ => rfl | exact fun x => absurd x (by decide)

theorem Frame.set_sec {l : Nat} {r s : State} {x30 : SecState} (h : Frame l r s) (hm : maskIn 0x40000000 l = true) (hd : s.sec.lc = 4 ∧ s.sec.lcNext = none → x30.lc = 4 ∧ x30.lcNext = none) (hc : (s.sec.lc = 4 → s.sec.lcNext = none) → x30.lc = 4 → x30.lcNext = none) :
    Frame l r { s with sec := x30 } := by
  refine Frame.step (m := 0x40000000) ?_ hm h
  constructor
  case ramWf => exact id
  case weld => exact fun _ x => x
  case dead => exact hd
  case calm => exact hc
  all_goals first | rfl | exact fun _ => rfl | exact fun x => absurd x (by decide)

theorem Frame.set_regs_imd {l : Nat} {r s : State} {x2 : RegFile} {x11 : ImdState} (h : Frame l r s) (hm : maskIn 0x00000804 l = true) :
    Frame l r { s with regs := x2, imd := x11 } := by
  refine Frame.step (m := 0x00000804) ?_ hm h
  constructor
  case ramWf => exact id
  case weld => exact fun _ x => x
  case dead => exact id
  case calm => exact id
  all_goals first | rfl | exact fun _ => rfl | exact fun x => absurd x (by decide)

theorem Frame.set_regs_hif {l : Nat} {r s : State} {x2 : RegFile} {x23 : HostState} (h : Frame l r s) (hm : maskIn 0x00800004 l = true) :
    Frame l r { s with regs := x2, hif := x23 } := by
  refine Frame.step (m := 0x00800004) ?_ hm h
  constructor
  case ramWf => exact id
  case weld => exact fun _ x => x
  case dead => exact id
  case calm => exact id
  all_goals first | rfl | exact fun _ => rfl | exact fun x => absurd x (by decide)

theorem Frame.set_sys_mdl {l : Nat} {r s : State} {x5 : SysState} {x17 : ModelState} (h : Frame l r s) (hm : maskIn 0x00020020 l = true) :
    Frame l r { s with sys := x5, mdl := x17 } := by
  refine Frame.step (m := 0x00020020) ?_ hm h
  constructor
  case ramWf => exact id
  case weld => exact fun _ x => x
  case dead => exact id
  case calm => exact id
  all_goals first | rfl | exact fun _ => rfl | exact fun x => absurd x (by decide)

theorem Frame.set_sys_tim {l : Nat} {r s : State} {x5 : SysState} {x26 : TimeState} (h : Frame l r s) (hm : maskIn 0x04000020 l = true) :
    Frame l r { s with sys := x5, tim := x26 } := by
  refine Frame.step (m := 0x04000020) ?_ hm h
  constructor
  case ramWf => exact id
  case weld => exact fun _ x => x
  case dead => exact id
  case calm => exact id
  all_goals first | rfl | exact fun _ => rfl | exact fun x => absurd x (by decide)

theorem Frame.set_sys_pwr {l : Nat} {r s : State} {x5 : SysState} {x29 : PwrState} (h : Frame l r s) (hm : maskIn 0x20000020 l = true) :
    Frame l r { s with sys := x5, pwr := x29 } := by
  refine Frame.step (m := 0x20000020) ?_ hm h
  constructor
  case ramWf => exact id
  case weld => exact fun _ x => x
  case dead => exact id
  case calm => exact id
  all_goals first | rfl | exact fun _ => rfl | exact fun x => absurd x (by decide)

theorem Frame.set_sys_sec {l : Nat} {r s : State} {x5 : SysState} {x30 : SecState} (h : Frame l r s) (hm : maskIn 0x40000020 l = true) (hd : s.sec.lc = 4 ∧ s.sec.lcNext = none → x30.lc = 4 ∧ x30.lcNext = none) (hc : (s.sec.lc = 4 → s.sec.lcNext = none) → x30.lc = 4 → x30.lcNext = none) :
    Frame l r { s with sys := x5, sec := x30 } := by
  refine Frame.step (m := 0x40000020) ?_ hm h
  constructor
  case ramWf => exact id
  case weld => exact fun _ x => x
  case dead => exact hd
  case calm => exact hc
  all_goals first | rfl | exact fun _ => rfl | exact fun x => absurd x (by decide)

theorem Frame.set_flt_hop {l : Nat} {r s : State} {x6 : FaultState} {x24 : HopState} (h : Frame l r s) (hm : maskIn 0x01000040 l = true) :
    Frame l r { s with flt := x6, hop := x24 } := by
  refine Frame.step (m := 0x01000040) ?_ hm h
  constructor
  case ramWf => exact id
  case weld => exact fun _ x => x
  case dead => exact id
  case calm => exact id
  all_goals first | rfl | exact fun _ => rfl | exact fun x => absurd x (by decide)

theorem Frame.set_imd_pwr {l : Nat} {r s : State} {x11 : ImdState} {x29 : PwrState} (h : Frame l r s) (hm : maskIn 0x20000800 l = true) :
    Frame l r { s with imd := x11, pwr := x29 } := by
  refine Frame.step (m := 0x20000800) ?_ hm h
  constructor
  case ramWf => exact id
  case weld => exact fun _ x => x
  case dead => exact id
  case calm => exact id
  all_goals first | rfl | exact fun _ => rfl | exact fun x => absurd x (by decide)

theorem Frame.set_slu_auth {l : Nat} {r s : State} {x13 : SluState} {x15 : AuthState} (h : Frame l r s) (hm : maskIn 0x0000a000 l = true) (hw : x13.weldLock = s.slu.weldLock ) :
    Frame l r { s with slu := x13, auth := x15 } := by
  refine Frame.step (m := 0x0000a000) ?_ hm h
  constructor
  case ramWf => exact id
  case weld => exact fun _ x => hw.trans x
  case dead => exact id
  case calm => exact id
  all_goals first | rfl | exact fun _ => rfl | exact fun x => absurd x (by decide)

theorem Frame.set_slu_tdm {l : Nat} {r s : State} {x13 : SluState} {x22 : TdmState} (h : Frame l r s) (hm : maskIn 0x00402000 l = true) (hw : x13.weldLock = s.slu.weldLock ) :
    Frame l r { s with slu := x13, tdm := x22 } := by
  refine Frame.step (m := 0x00402000) ?_ hm h
  constructor
  case ramWf => exact id
  case weld => exact fun _ x => hw.trans x
  case dead => exact id
  case calm => exact id
  all_goals first | rfl | exact fun _ => rfl | exact fun x => absurd x (by decide)

theorem Frame.set_auth_sec {l : Nat} {r s : State} {x15 : AuthState} {x30 : SecState} (h : Frame l r s) (hm : maskIn 0x40008000 l = true) (hd : s.sec.lc = 4 ∧ s.sec.lcNext = none → x30.lc = 4 ∧ x30.lcNext = none) (hc : (s.sec.lc = 4 → s.sec.lcNext = none) → x30.lc = 4 → x30.lcNext = none) :
    Frame l r { s with auth := x15, sec := x30 } := by
  refine Frame.step (m := 0x40008000) ?_ hm h
  constructor
  case ramWf => exact id
  case weld => exact fun _ x => x
  case dead => exact hd
  case calm => exact hc
  all_goals first | rfl | exact fun _ => rfl | exact fun x => absurd x (by decide)

theorem Frame.set_est_bal {l : Nat} {r s : State} {x16 : EstState} {x18 : BalState} (h : Frame l r s) (hm : maskIn 0x00050000 l = true) :
    Frame l r { s with est := x16, bal := x18 } := by
  refine Frame.step (m := 0x00050000) ?_ hm h
  constructor
  case ramWf => exact id
  case weld => exact fun _ x => x
  case dead => exact id
  case calm => exact id
  all_goals first | rfl | exact fun _ => rfl | exact fun x => absurd x (by decide)

theorem Frame.set_mdl_gov {l : Nat} {r s : State} {x17 : ModelState} {x19 : GovState} (h : Frame l r s) (hm : maskIn 0x000a0000 l = true) :
    Frame l r { s with mdl := x17, gov := x19 } := by
  refine Frame.step (m := 0x000a0000) ?_ hm h
  constructor
  case ramWf => exact id
  case weld => exact fun _ x => x
  case dead => exact id
  case calm => exact id
  all_goals first | rfl | exact fun _ => rfl | exact fun x => absurd x (by decide)

theorem Frame.set_mdl_hif {l : Nat} {r s : State} {x17 : ModelState} {x23 : HostState} (h : Frame l r s) (hm : maskIn 0x00820000 l = true) :
    Frame l r { s with mdl := x17, hif := x23 } := by
  refine Frame.step (m := 0x00820000) ?_ hm h
  constructor
  case ramWf => exact id
  case weld => exact fun _ x => x
  case dead => exact id
  case calm => exact id
  all_goals first | rfl | exact fun _ => rfl | exact fun x => absurd x (by decide)

theorem Frame.set_bal_pwr {l : Nat} {r s : State} {x18 : BalState} {x29 : PwrState} (h : Frame l r s) (hm : maskIn 0x20040000 l = true) :
    Frame l r { s with bal := x18, pwr := x29 } := by
  refine Frame.step (m := 0x20040000) ?_ hm h
  constructor
  case ramWf => exact id
  case weld => exact fun _ x => x
  case dead => exact id
  case calm => exact id
  all_goals first | rfl | exact fun _ => rfl | exact fun x => absurd x (by decide)

theorem Frame.set_tdm_pwr {l : Nat} {r s : State} {x22 : TdmState} {x29 : PwrState} (h : Frame l r s) (hm : maskIn 0x20400000 l = true) :
    Frame l r { s with tdm := x22, pwr := x29 } := by
  refine Frame.step (m := 0x20400000) ?_ hm h
  constructor
  case ramWf => exact id
  case weld => exact fun _ x => x
  case dead => exact id
  case calm => exact id
  all_goals first | rfl | exact fun _ => rfl | exact fun x => absurd x (by decide)

theorem Frame.set_tdm_sec {l : Nat} {r s : State} {x22 : TdmState} {x30 : SecState} (h : Frame l r s) (hm : maskIn 0x40400000 l = true) (hd : s.sec.lc = 4 ∧ s.sec.lcNext = none → x30.lc = 4 ∧ x30.lcNext = none) (hc : (s.sec.lc = 4 → s.sec.lcNext = none) → x30.lc = 4 → x30.lcNext = none) :
    Frame l r { s with tdm := x22, sec := x30 } := by
  refine Frame.step (m := 0x40400000) ?_ hm h
  constructor
  case ramWf => exact id
  case weld => exact fun _ x => x
  case dead => exact hd
  case calm => exact hc
  all_goals first | rfl | exact fun _ => rfl | exact fun x => absurd x (by decide)

theorem Frame.set_tim_pwr {l : Nat} {r s : State} {x26 : TimeState} {x29 : PwrState} (h : Frame l r s) (hm : maskIn 0x24000000 l = true) :
    Frame l r { s with tim := x26, pwr := x29 } := by
  refine Frame.step (m := 0x24000000) ?_ hm h
  constructor
  case ramWf => exact id
  case weld => exact fun _ x => x
  case dead => exact id
  case calm => exact id
  all_goals first | rfl | exact fun _ => rfl | exact fun x => absurd x (by decide)

theorem Frame.set_pwr_sec {l : Nat} {r s : State} {x29 : PwrState} {x30 : SecState} (h : Frame l r s) (hm : maskIn 0x60000000 l = true) (hd : s.sec.lc = 4 ∧ s.sec.lcNext = none → x30.lc = 4 ∧ x30.lcNext = none) (hc : (s.sec.lc = 4 → s.sec.lcNext = none) → x30.lc = 4 → x30.lcNext = none) :
    Frame l r { s with pwr := x29, sec := x30 } := by
  refine Frame.step (m := 0x60000000) ?_ hm h
  constructor
  case ramWf => exact id
  case weld => exact fun _ x => x
  case dead => exact hd
  case calm => exact hc
  all_goals first | rfl | exact fun _ => rfl | exact fun x => absurd x (by decide)

theorem Frame.set_regs_slu_auth {l : Nat} {r s : State} {x2 : RegFile} {x13 : SluState} {x15 : AuthState} (h : Frame l r s) (hm : maskIn 0x0000a004 l = true) (hw : x13.weldLock = s.slu.weldLock ) :
    Frame l r { s with regs := x2, slu := x13, auth := x15 } := by
  refine Frame.step (m := 0x0000a004) ?_ hm h
  constructor
  case ramWf => exact id
  case weld => exact fun _ x => hw.trans x
  case dead => exact id
  case calm => exact id
  all_goals first | rfl | exact fun _ => rfl | exact fun x => absurd x (by decide)

theorem Frame.set_regs_est_mdl {l : Nat} {r s : State} {x2 : RegFile} {x16 : EstState} {x17 : ModelState} (h : Frame l r s) (hm : maskIn 0x00030004 l = true) :
    Frame l r { s with regs := x2, est := x16, mdl := x17 } := by
  refine Frame.step (m := 0x00030004) ?_ hm h
  constructor
  case ramWf => exact id
  case weld => exact fun _ x => x
  case dead => exact id
  case calm => exact id
  all_goals first | rfl | exact fun _ => rfl | exact fun x => absurd x (by decide)

theorem Frame.set_sys_imd_est {l : Nat} {r s : State} {x5 : SysState} {x11 : ImdState} {x16 : EstState} (h : Frame l r s) (hm : maskIn 0x00010820 l = true) :
    Frame l r { s with sys := x5, imd := x11, est := x16 } := by
  refine Frame.step (m := 0x00010820) ?_ hm h
  constructor
  case ramWf => exact id
  case weld => exact fun _ x => x
  case dead => exact id
  case calm => exact id
  all_goals first | rfl | exact fun _ => rfl | exact fun x => absurd x (by decide)

theorem Frame.set_sys_pwr_sec {l : Nat} {r s : State} {x5 : SysState} {x29 : PwrState} {x30 : SecState} (h : Frame l r s) (hm : maskIn 0x60000020 l = true) (hd : s.sec.lc = 4 ∧ s.sec.lcNext = none → x30.lc = 4 ∧ x30.lcNext = none) (hc : (s.sec.lc = 4 → s.sec.lcNext = none) → x30.lc = 4 → x30.lcNext = none) :
    Frame l r { s with sys := x5, pwr := x29, sec := x30 } := by
  refine Frame.step (m := 0x60000020) ?_ hm h
  constructor
  case ramWf => exact id
  case weld => exact fun _ x => x
  case dead => exact hd
  case calm => exact hc
  all_goals first | rfl | exact fun _ => rfl | exact fun x => absurd x (by decide)

theorem Frame.set_evl_auth_hop {l : Nat} {r s : State} {x7 : EvlState} {x15 : AuthState} {x24 : HopState} (h : Frame l r s) (hm : maskIn 0x01008080 l = true) :
    Frame l r { s with evl := x7, auth := x15, hop := x24 } := by
  refine Frame.step (m := 0x01008080) ?_ hm h
  constructor
  case ramWf => exact id
  case weld => exact fun _ x => x
  case dead => exact id
  case calm => exact id
  all_goals first | rfl | exact fun _ => rfl | exact fun x => absurd x (by decide)

theorem Frame.set_evl_tdm_pwr {l : Nat} {r s : State} {x7 : EvlState} {x22 : TdmState} {x29 : PwrState} (h : Frame l r s) (hm : maskIn 0x20400080 l = true) :
    Frame l r { s with evl := x7, tdm := x22, pwr := x29 } := by
  refine Frame.step (m := 0x20400080) ?_ hm h
  constructor
  case ramWf => exact id
  case weld => exact fun _ x => x
  case dead => exact id
  case calm => exact id
  all_goals first | rfl | exact fun _ => rfl | exact fun x => absurd x (by decide)

theorem Frame.set_slu_auth_sec {l : Nat} {r s : State} {x13 : SluState} {x15 : AuthState} {x30 : SecState} (h : Frame l r s) (hm : maskIn 0x4000a000 l = true) (hw : x13.weldLock = s.slu.weldLock ) (hd : s.sec.lc = 4 ∧ s.sec.lcNext = none → x30.lc = 4 ∧ x30.lcNext = none) (hc : (s.sec.lc = 4 → s.sec.lcNext = none) → x30.lc = 4 → x30.lcNext = none) :
    Frame l r { s with slu := x13, auth := x15, sec := x30 } := by
  refine Frame.step (m := 0x4000a000) ?_ hm h
  constructor
  case ramWf => exact id
  case weld => exact fun _ x => hw.trans x
  case dead => exact hd
  case calm => exact hc
  all_goals first | rfl | exact fun _ => rfl | exact fun x => absurd x (by decide)

theorem Frame.set_latch_readData_evl_hif {l : Nat} {r s : State} {x3 : Tab Nat} {x4 : Tab Nat} {x7 : EvlState} {x23 : HostState} (h : Frame l r s) (hm : maskIn 0x00800098 l = true) :
    Frame l r { s with latch := x3, readData := x4, evl := x7, hif := x23 } := by
  refine Frame.step (m := 0x00800098) ?_ hm h
  constructor
  case ramWf => exact id
  case weld => exact fun _ x => x
  case dead => exact id
  case calm => exact id
  all_goals first | rfl | exact fun _ => rfl | exact fun x => absurd x (by decide)

theorem Frame.set_cur_est_mdl_bal {l : Nat} {r s : State} {x10 : CurState} {x16 : EstState} {x17 : ModelState} {x18 : BalState} (h : Frame l r s) (hm : maskIn 0x00070400 l = true) :
    Frame l r { s with cur := x10, est := x16, mdl := x17, bal := x18 } := by
  refine Frame.step (m := 0x00070400) ?_ hm h
  constructor
  case ramWf => exact id
  case weld => exact fun _ x => x
  case dead => exact id
  case calm => exact id
  all_goals first | rfl | exact fun _ => rfl | exact fun x => absurd x (by decide)

theorem Frame.set_slu_auth_hop_sec {l : Nat} {r s : State} {x13 : SluState} {x15 : AuthState} {x24 : HopState} {x30 : SecState} (h : Frame l r s) (hm : maskIn 0x4100a000 l = true) (hw : x13.weldLock = s.slu.weldLock ) (hd : s.sec.lc = 4 ∧ s.sec.lcNext = none → x30.lc = 4 ∧ x30.lcNext = none) (hc : (s.sec.lc = 4 → s.sec.lcNext = none) → x30.lc = 4 → x30.lcNext = none) :
    Frame l r { s with slu := x13, auth := x15, hop := x24, sec := x30 } := by
  refine Frame.step (m := 0x4100a000) ?_ hm h
  constructor
  case ramWf => exact id
  case weld => exact fun _ x => hw.trans x
  case dead => exact hd
  case calm => exact hc
  all_goals first | rfl | exact fun _ => rfl | exact fun x => absurd x (by decide)

theorem Frame.set_cur_thm_slu_env_pwr {l : Nat} {r s : State} {x10 : CurState} {x12 : ThmState} {x13 : SluState} {x20 : EnvState} {x29 : PwrState} (h : Frame l r s) (hm : maskIn 0x20103400 l = true) (hw : x13.weldLock = s.slu.weldLock ) :
    Frame l r { s with cur := x10, thm := x12, slu := x13, env := x20, pwr := x29 } := by
  refine Frame.step (m := 0x20103400) ?_ hm h
  constructor
  case ramWf => exact id
  case weld => exact fun _ x => hw.trans x
  case dead => exact id
  case calm => exact id
  all_goals first | rfl | exact fun _ => rfl | exact fun x => absurd x (by decide)

theorem Frame.set_sys_gov_env_hif_pwr_sec {l : Nat} {r s : State} {x5 : SysState} {x19 : GovState} {x20 : EnvState} {x23 : HostState} {x29 : PwrState} {x30 : SecState} (h : Frame l r s) (hm : maskIn 0x60980020 l = true) (hd : s.sec.lc = 4 ∧ s.sec.lcNext = none → x30.lc = 4 ∧ x30.lcNext = none) (hc : (s.sec.lc = 4 → s.sec.lcNext = none) → x30.lc = 4 → x30.lcNext = none) :
    Frame l r { s with sys := x5, gov := x19, env := x20, hif := x23, pwr := x29, sec := x30 } := by
  refine Frame.step (m := 0x60980020) ?_ hm h
  constructor
  case ramWf => exact id
  case weld => exact fun _ x => x
  case dead => exact hd
  case calm => exact hc
  all_goals first | rfl | exact fun _ => rfl | exact fun x => absurd x (by decide)

theorem memoriesWf_get {s : State} (h : s.memoriesWf = true) (k : Nat) : (s.memory k).wf = true :=
  Tab.all_get (p := Memory.wf) h rfl k

theorem Frame.ite {m : Nat} {s a b : State} {c : Prop} [Decidable c] (ha : Frame m s a) (hb : Frame m s b) :
    Frame m s (if c then a else b) := by split <;> assumption

theorem foldl_frames {α : Type} {m : Nat} {f : State → α → State} {l : List α} {r s : State}
    (h : ∀ s x, Frame m s (f s x)) (h0 : Frame m r s) : Frame m r (l.foldl f s) := by
  induction l generalizing s with
  | nil => exact h0
  | cons x t ih => exact ih (Frame.step (h _ _) (by simp [maskIn]) h0)

theorem forAll_frames {α : Type} {m : Nat} {f : α → State → State} {l : List α} {r s : State}
    (h : ∀ s x, Frame m s (f x s)) (h0 : Frame m r s) : Frame m r (forAll l f s) := foldl_frames (f := fun s x => f x s) h h0

theorem forEach_frames {m : Nat} {f : Nat → State → State} {l : List Nat} {r s : State}
    (h : ∀ s x, Frame m s (f x s)) (h0 : Frame m r s) : Frame m r (forEach l f s) := foldl_frames (f := fun s x => f x s) h h0

theorem foldl_fst_frames {α β : Type} {m : Nat} {f : State × β → α → State × β} {l : List α} {r : State} {p : State × β}
    (h : ∀ p x, Frame m p.1 (f p x).1) (h0 : Frame m r p.1) : Frame m r (l.foldl f p).1 := by
  induction l generalizing p with
  | nil => exact h0
  | cons x t ih => exact ih (Frame.step (h _ _) (by simp [maskIn]) h0)

theorem forEach_fst_frames {β : Type} {m : Nat} {f : Nat → State × β → State × β} {l : List Nat} {r : State} {p : State × β}
    (h : ∀ p x, Frame m p.1 (f x p).1) (h0 : Frame m r p.1) : Frame m r (forEach l f p).1 :=
  foldl_fst_frames (f := fun s x => f x s) h h0

theorem forAll_fst_frames {α β : Type} {m : Nat} {f : α → State × β → State × β} {l : List α} {r : State} {p : State × β}
    (h : ∀ p x, Frame m p.1 (f x p).1) (h0 : Frame m r p.1) : Frame m r (forAll l f p).1 :=
  foldl_fst_frames (f := fun s x => f x s) h h0

theorem doIf_frames {m : Nat} {f : State → State} {c : Bool} {r s : State} (h : ∀ s, Frame m s (f s)) (h0 : Frame m r s) :
    Frame m r (doIf c f s) := by
  unfold doIf; split
  · exact Frame.step (h s) (by simp [maskIn]) h0
  · exact h0

end Sys2Proof.Machine
end

