-- ==== Sys2Proof/Laws/FrameOps.lean ====
section
/-! SUPPORT. Frames of shared operations: the parts of the state that each definition may change. -/
namespace Sys2Proof.Machine

theorem State.writeMem_frames (k a : Nat) (l : List Nat) (s : State) : Frame 0x10000000 s (s.writeMem k a l) := by
  constructor
  case ramWf => exact fun h => Tab.all_put (p := Memory.wf) h (Memory.writeBytes_wf (memoriesWf_get h k))
  case weld => exact fun _ x => x
  case dead => exact id
  case calm => exact id
  all_goals first | rfl | exact fun _ => rfl | exact fun x => absurd x (by decide)

theorem State.setReg_frames (s : State) (f : Field) (v : Nat) :
    Frame 0x00000004 s (State.setReg s f v) := by
  unfold State.setReg
  refine Frame.set_regs ?_ rfl
  exact Frame.refl _ _

theorem State.addSat_frames (s : State) (f : Field) (n : Nat) :
    Frame 0x00000004 s (State.addSat s f n) := by
  unfold State.addSat
  refine Frame.step (State.setReg_frames _ _ _) rfl ?_
  exact Frame.refl _ _

theorem State.loseRecord_frames (s : State) (r : EvRec) :
    Frame 0x00000004 s (State.loseRecord s r) := by
  unfold State.loseRecord
  dsimp only
  refine Frame.step (State.addSat_frames _ _ _) rfl ?_
  split
  refine Frame.step (State.setReg_frames _ _ _) rfl ?_
  refine Frame.step (State.setReg_frames _ _ _) rfl ?_
  refine Frame.step (State.setReg_frames _ _ _) rfl ?_
  exact Frame.refl _ _
  exact Frame.refl _ _

theorem State.enqueue_frames (s : State) (r : EvRec) :
    Frame 0x00000084 s (State.enqueue s r) := by
  unfold State.enqueue
  split
  refine Frame.set_evl ?_ rfl
  exact Frame.refl _ _
  dsimp only
  refine Frame.set_evl ?_ rfl
  refine Frame.step (State.loseRecord_frames _ _) rfl ?_
  exact Frame.refl _ _

theorem State.record_frames (s : State) (r : EvRec) :
    Frame 0x00000084 s (State.record s r) := by
  unfold State.record
  split
  dsimp only
  split
  refine Frame.set_evl ?_ rfl
  exact Frame.refl _ _
  split
  refine Frame.set_evl ?_ rfl
  exact Frame.refl _ _
  refine Frame.step (State.enqueue_frames _ _) rfl ?_
  exact Frame.refl _ _
  refine Frame.step (State.enqueue_frames _ _) rfl ?_
  exact Frame.refl _ _

theorem State.note_frames (s : State) (code : Nat) (subj : Nat) (data : List Nat) :
    Frame 0x00000084 s (State.note s code subj data) := by
  unfold State.note
  refine Frame.step (State.record_frames _ _) rfl ?_
  exact Frame.refl _ _

theorem State.logDecision_frames (hw : Bool) (r : EvRec) (s : State) :
    Frame 0x000000c4 s (State.logDecision hw r s) := by
  unfold State.logDecision
  split
  refine Frame.set_flt ?_ rfl
  exact Frame.refl _ _
  refine Frame.step (State.record_frames _ _) rfl ?_
  exact Frame.refl _ _

theorem State.capture_frames (s : State) (code : Nat) (cls : Nat) :
    Frame 0x00200084 s (State.capture s code cls) := by
  unfold State.capture
  dsimp only
  split
  split
  refine Frame.set_mpd ?_ rfl
  exact Frame.refl _ _
  exact Frame.refl _ _
  refine Frame.step (State.note_frames _ _ _ _) rfl ?_
  refine Frame.set_mpd ?_ rfl
  exact Frame.refl _ _

theorem State.captureFault_frames (s : State) (code : Nat) (cls : Nat) :
    Frame 0x00200084 s (State.captureFault s code cls) := by
  unfold State.captureFault
  split
  refine Frame.step (State.capture_frames _ _ _) rfl ?_
  exact Frame.refl _ _
  exact Frame.refl _ _

theorem State.mapFault_frames (s : State) (code : Nat) (subj : Nat) (g : Active → Active) :
    Frame 0x00000040 s (State.mapFault s code subj g) := by
  unfold State.mapFault
  refine Frame.set_flt ?_ rfl
  exact Frame.refl _ _

theorem State.activate_frames (s : State) (code : Nat) (cls : Nat) (subj : Nat) (event : Bool) :
    Frame 0x00000040 s (State.activate s code cls subj event) := by
  unfold State.activate
  dsimp only
  split
  refine Frame.step (State.mapFault_frames _ _ _ _) rfl ?_
  exact Frame.refl _ _
  refine Frame.set_flt ?_ rfl
  exact Frame.refl _ _

theorem State.countLatch_frames (hw : Bool) (s : State) (code : Nat) (subj : Nat) :
    Frame 0x000000c4 s (State.countLatch hw s code subj) := by
  unfold State.countLatch
  dsimp only
  split
  refine Frame.step (State.activate_frames _ _ _ _ _) rfl ?_
  refine Frame.step (State.logDecision_frames _ _ _) rfl ?_
  refine Frame.step (State.mapFault_frames _ _ _ _) rfl ?_
  refine Frame.set_flt ?_ rfl
  exact Frame.refl _ _
  refine Frame.set_flt ?_ rfl
  exact Frame.refl _ _

theorem State.coilOff_frames (k : Nat) (s : State) :
    Frame 0x00002000 s (State.coilOff k s) := by
  unfold State.coilOff
  dsimp only
  split
  split
  refine Frame.set_slu ?_ rfl rfl
  exact Frame.refl _ _
  exact Frame.refl _ _
  split
  refine Frame.set_slu ?_ rfl rfl
  exact Frame.refl _ _
  exact Frame.refl _ _
  split
  refine Frame.set_slu ?_ rfl rfl
  exact Frame.refl _ _
  exact Frame.refl _ _

theorem State.coilsOff_frames (s : State) :
    Frame 0x00002000 s (State.coilsOff s) := by
  unfold State.coilsOff
  refine Frame.step (State.coilOff_frames _ _) rfl ?_
  refine Frame.step (State.coilOff_frames _ _) rfl ?_
  refine Frame.step (State.coilOff_frames _ _) rfl ?_
  exact Frame.refl _ _

theorem State.setFlag_frames (s : State) (f : Field) (b : Bool) :
    Frame 0x00000004 s (State.setFlag s f b) := by
  unfold State.setFlag
  refine Frame.step (State.setReg_frames _ _ _) rfl ?_
  exact Frame.refl _ _

theorem State.startBreaker_frames (s : State) :
    Frame 0x00002004 s (State.startBreaker s) := by
  unfold State.startBreaker
  split
  dsimp only
  refine Frame.set_slu ?_ rfl rfl
  refine Frame.step (State.coilsOff_frames _) rfl ?_
  refine Frame.step (State.setFlag_frames _ _ _) rfl ?_
  exact Frame.refl _ _
  exact Frame.refl _ _

theorem State.breakerIfNew_frames (before : Nat) (s : State) :
    Frame 0x00002004 s (State.breakerIfNew before s) := by
  unfold State.breakerIfNew
  split
  refine Frame.step (State.startBreaker_frames _) rfl ?_
  exact Frame.refl _ _
  exact Frame.refl _ _

theorem State.raiseBreaking_frames (hw : Bool) (s : State) :
    Frame 0x002020c4 s (State.raiseBreaking hw s) := by
  unfold State.raiseBreaking
  dsimp only
  refine Frame.step (State.breakerIfNew_frames _ _) rfl ?_
  refine Frame.step (State.captureFault_frames _ _ _) rfl ?_
  refine Frame.step (State.activate_frames _ _ _ _ _) rfl ?_
  refine Frame.step (State.logDecision_frames _ _ _) rfl ?_
  exact Frame.refl _ _

theorem State.inhibit_frames (b : Bool) (s : State) :
    Frame 0x00000004 s (State.inhibit b s) := by
  unfold State.inhibit
  refine Frame.step (State.setFlag_frames _ _ _) rfl ?_
  exact Frame.refl _ _

theorem State.toSeq_frames (q : Seq) (s : State) :
    Frame 0x00002000 s (State.toSeq q s) := by
  unfold State.toSeq
  refine Frame.set_slu ?_ rfl rfl
  exact Frame.refl _ _

theorem State.setConn_frames (s : State) (c : Nat) :
    Frame 0x00000004 s (State.setConn s c) := by
  unfold State.setConn
  refine Frame.step (State.setReg_frames _ _ _) rfl ?_
  exact Frame.refl _ _

theorem State.dropCoils_frames (s : State) :
    Frame 0x00002004 s (State.dropCoils s) := by
  unfold State.dropCoils
  dsimp only
  split
  refine Frame.step (State.inhibit_frames _ _) rfl ?_
  refine Frame.step (State.coilsOff_frames _) rfl ?_
  exact Frame.refl _ _
  refine Frame.step (State.toSeq_frames _ _) rfl ?_
  refine Frame.step (State.setFlag_frames _ _ _) rfl ?_
  refine Frame.step (State.setConn_frames _ _) rfl ?_
  refine Frame.step (State.inhibit_frames _ _) rfl ?_
  refine Frame.step (State.coilsOff_frames _) rfl ?_
  exact Frame.refl _ _

theorem State.emergencyOpen_frames (hw : Bool) (code : Nat) (s : State) :
    Frame 0x002020c4 s (State.emergencyOpen hw code s) := by
  unfold State.emergencyOpen
  split
  dsimp only
  refine Frame.step (State.dropCoils_frames _) rfl ?_
  split
  refine Frame.step (State.raiseBreaking_frames _ _) rfl ?_
  exact Frame.refl _ _
  exact Frame.refl _ _
  exact Frame.refl _ _

theorem State.orderlyOpen_frames (s : State) :
    Frame 0x00002004 s (State.orderlyOpen s) := by
  unfold State.orderlyOpen
  split
  dsimp only
  refine Frame.set_slu ?_ rfl rfl
  refine Frame.step (State.toSeq_frames _ _) rfl ?_
  refine Frame.step (State.setFlag_frames _ _ _) rfl ?_
  refine Frame.step (State.setConn_frames _ _) rfl ?_
  exact Frame.refl _ _
  split
  refine Frame.step (State.toSeq_frames _ _) rfl ?_
  exact Frame.refl _ _
  exact Frame.refl _ _

theorem State.openFor_frames (hw : Bool) (code : Nat) (cls : Nat) (before : Nat) (s : State) :
    Frame 0x002020c4 s (State.openFor hw code cls before s) := by
  unfold State.openFor
  split
  refine Frame.step (State.emergencyOpen_frames _ _ _) rfl ?_
  refine Frame.step (State.breakerIfNew_frames _ _) rfl ?_
  exact Frame.refl _ _
  split
  refine Frame.step (State.orderlyOpen_frames _) rfl ?_
  exact Frame.refl _ _
  split
  exact Frame.refl _ _
  refine Frame.step (State.emergencyOpen_frames _ _ _) rfl ?_
  exact Frame.refl _ _

theorem State.hoAbandon_frames (hw : Bool) (s : State) :
    Frame 0x006000c4 s (State.hoAbandon hw s) := by
  unfold State.hoAbandon
  dsimp only
  refine Frame.step (State.captureFault_frames _ _ _) rfl ?_
  refine Frame.step (State.activate_frames _ _ _ _ _) rfl ?_
  refine Frame.step (State.logDecision_frames _ _ _) rfl ?_
  refine Frame.set_tdm ?_ rfl
  refine Frame.step (State.setFlag_frames _ _ _) rfl ?_
  refine Frame.step (State.setFlag_frames _ _ _) rfl ?_
  exact Frame.refl _ _

theorem State.hoStop_frames (hw : Bool) (s : State) :
    Frame 0x006000c4 s (State.hoStop hw s) := by
  unfold State.hoStop
  split
  refine Frame.step (State.hoAbandon_frames _ _) rfl ?_
  exact Frame.refl _ _
  exact Frame.refl _ _

theorem State.raiseAs_frames (hw : Bool) (code : Nat) (cls : Nat) (subj : Nat) (event : Bool) (data : List Nat) (s : State) :
    Frame 0x016020c4 s (State.raiseAs hw code cls subj event data s) := by
  unfold State.raiseAs
  dsimp only
  split
  refine Frame.step (State.logDecision_frames _ _ _) rfl ?_
  refine Frame.set_hop ?_ rfl
  exact Frame.refl _ _
  split
  refine Frame.step (State.captureFault_frames _ _ _) rfl ?_
  refine Frame.step (State.activate_frames _ _ _ _ _) rfl ?_
  refine Frame.step (State.logDecision_frames _ _ _) rfl ?_
  refine Frame.set_hop ?_ rfl
  exact Frame.refl _ _
  split
  split
  refine Frame.set_tdm ?_ rfl
  refine Frame.step (State.countLatch_frames _ _ _ _) rfl ?_
  refine Frame.step (State.captureFault_frames _ _ _) rfl ?_
  refine Frame.step (State.activate_frames _ _ _ _ _) rfl ?_
  refine Frame.step (State.logDecision_frames _ _ _) rfl ?_
  refine Frame.set_hop ?_ rfl
  exact Frame.refl _ _
  refine Frame.step (State.openFor_frames _ _ _ _ _) rfl ?_
  refine Frame.step (State.hoStop_frames _ _) rfl ?_
  refine Frame.step (State.countLatch_frames _ _ _ _) rfl ?_
  refine Frame.step (State.captureFault_frames _ _ _) rfl ?_
  refine Frame.step (State.activate_frames _ _ _ _ _) rfl ?_
  refine Frame.step (State.logDecision_frames _ _ _) rfl ?_
  refine Frame.set_hop ?_ rfl
  exact Frame.refl _ _
  split
  refine Frame.set_tdm ?_ rfl
  refine Frame.step (State.captureFault_frames _ _ _) rfl ?_
  refine Frame.step (State.activate_frames _ _ _ _ _) rfl ?_
  refine Frame.step (State.logDecision_frames _ _ _) rfl ?_
  refine Frame.set_hop ?_ rfl
  exact Frame.refl _ _
  refine Frame.step (State.openFor_frames _ _ _ _ _) rfl ?_
  refine Frame.step (State.hoStop_frames _ _) rfl ?_
  refine Frame.step (State.captureFault_frames _ _ _) rfl ?_
  refine Frame.step (State.activate_frames _ _ _ _ _) rfl ?_
  refine Frame.step (State.logDecision_frames _ _ _) rfl ?_
  refine Frame.set_hop ?_ rfl
  exact Frame.refl _ _

theorem State.raise_frames (code : Nat) (cls : Nat) (subj : Nat) (data : List Nat) (s : State) :
    Frame 0x016020c4 s (State.raise code cls subj data s) := by
  unfold State.raise
  refine Frame.step (State.raiseAs_frames _ _ _ _ _ _ _) rfl ?_
  exact Frame.refl _ _

theorem State.raisePaced_frames (key : Nat) (code : Nat) (cls : Nat) (subj : Nat) (data : List Nat) (s : State) :
    Frame 0x016020c4 s (State.raisePaced key code cls subj data s) := by
  unfold State.raisePaced
  dsimp only
  split
  split
  refine Frame.step (State.note_frames _ _ _ _) rfl ?_
  refine Frame.set_flt ?_ rfl
  exact Frame.refl _ _
  refine Frame.step (State.raise_frames _ _ _ _ _) rfl ?_
  refine Frame.set_flt ?_ rfl
  exact Frame.refl _ _
  exact Frame.refl _ _

theorem State.setFields_frames (l : List (Field × Nat)) (s : State) :
    Frame 0x00000004 s (State.setFields l s) := by
  unfold State.setFields
  refine foldl_frames ?_ ?_
  intro _
  intro _
  refine Frame.step (State.setReg_frames _ _ _) rfl ?_
  exact Frame.refl _ _
  exact Frame.refl _ _

theorem State.hifFaultOn_frames (fn : Nat) (r : Nat) (code : Nat) (subj : Nat) (s : State) :
    Frame 0x016020c4 s (State.hifFaultOn fn r code subj s) := by
  unfold State.hifFaultOn
  refine Frame.step (State.raisePaced_frames _ _ _ _ _ _) rfl ?_
  refine Frame.step (State.setFields_frames _ _) rfl ?_
  exact Frame.refl _ _

theorem State.hifFault_frames (fn : Nat) (r : Nat) (code : Nat) (s : State) :
    Frame 0x016020c4 s (State.hifFault fn r code s) := by
  unfold State.hifFault
  refine Frame.step (State.hifFaultOn_frames _ _ _ _ _) rfl ?_
  exact Frame.refl _ _

theorem State.secRegs_frames (s : State) :
    Frame 0x00000004 s (State.secRegs s) := by
  unfold State.secRegs
  dsimp only
  refine Frame.step (State.setFields_frames _ _) rfl ?_
  exact Frame.refl _ _

theorem State.goneAt_frames (code : Nat) (subj : Nat) (s : State) :
    Frame 0x00000040 s (State.goneAt code subj s) := by
  unfold State.goneAt
  refine Frame.step (State.mapFault_frames _ _ _ _) rfl ?_
  exact Frame.refl _ _

theorem State.raiseLevel_frames (code : Nat) (cls : Nat) (subj : Nat) (data : List Nat) (s : State) :
    Frame 0x016020c4 s (State.raiseLevel code cls subj data s) := by
  unfold State.raiseLevel
  split
  refine Frame.step (State.mapFault_frames _ _ _ _) rfl ?_
  exact Frame.refl _ _
  refine Frame.step (State.raiseAs_frames _ _ _ _ _ _ _) rfl ?_
  exact Frame.refl _ _

theorem State.level_frames (holds : Bool) (code : Nat) (cls : Nat) (subj : Nat) (data : List Nat) (s : State) :
    Frame 0x016020c4 s (State.level holds code cls subj data s) := by
  unfold State.level
  split
  refine Frame.step (State.raiseLevel_frames _ _ _ _ _) rfl ?_
  exact Frame.refl _ _
  refine Frame.step (State.goneAt_frames _ _ _) rfl ?_
  exact Frame.refl _ _

theorem State.returns_frames (p : Path) (v : Nat) (s : State) :
    Frame 0x00000010 s (State.returns p v s) := by
  unfold State.returns
  refine Frame.set_readData ?_ rfl
  exact Frame.refl _ _

theorem State.dbgEnd_frames (s : State) :
    Frame 0x60000084 s (State.dbgEnd s) := by
  unfold State.dbgEnd
  dsimp only
  split
  exact Frame.refl _ _
  refine Frame.step (State.secRegs_frames _) rfl ?_
  refine Frame.step (State.note_frames _ _ _ _) rfl ?_
  refine Frame.step (State.setFields_frames _ _) rfl ?_
  refine Frame.set_pwr_sec ?_ rfl id id
  exact Frame.refl _ _

theorem State.dbgCheck_frames (s : State) :
    Frame 0x60000084 s (State.dbgCheck s) := by
  unfold State.dbgCheck
  dsimp only
  split
  refine Frame.step (State.dbgEnd_frames _) rfl ?_
  exact Frame.refl _ _
  exact Frame.refl _ _

theorem State.mdlStale_frames (s : State) :
    Frame 0x00020004 s (State.mdlStale s) := by
  unfold State.mdlStale
  refine Frame.step (State.setFields_frames _ _) rfl ?_
  refine Frame.set_mdl ?_ rfl
  exact Frame.refl _ _

theorem State.mdlSuspend_frames (s : State) :
    Frame 0x00020004 s (State.mdlSuspend s) := by
  unfold State.mdlSuspend
  dsimp only
  refine Frame.set_mdl ?_ rfl
  refine Frame.step (State.mdlStale_frames _) rfl ?_
  exact Frame.refl _ _

theorem State.setBank_frames (s : State) (nn : Nat) (b : Bank) :
    Frame 0x00000100 s (State.setBank s nn b) := by
  unfold State.setBank
  refine Frame.set_bnk ?_ rfl
  exact Frame.refl _ _

theorem State.updBank_frames (nn : Nat) (f : Bank → Bank) (s : State) :
    Frame 0x00000100 s (State.updBank nn f s) := by
  unfold State.updBank
  refine Frame.step (State.setBank_frames _ _ _) rfl ?_
  exact Frame.refl _ _

theorem State.setBit_frames (s : State) (f : Field) (k : Nat) (b : Bool) :
    Frame 0x00000004 s (State.setBit s f k b) := by
  unfold State.setBit
  refine Frame.step (State.setReg_frames _ _ _) rfl ?_
  exact Frame.refl _ _

theorem State.imdStop_frames (s : State) :
    Frame 0x00000804 s (State.imdStop s) := by
  unfold State.imdStop
  refine Frame.set_regs_imd ?_ rfl
  exact Frame.refl _ _

theorem State.mdlFresh_frames (theta : Bool) (g : Nat) (s : State) :
    Frame 0x00020000 s (State.mdlFresh theta g s) := by
  unfold State.mdlFresh
  refine Frame.set_mdl ?_ rfl
  exact Frame.refl _ _

theorem State.mdlReleased_frames (nn : Nat) (p : Nat) (s : State) :
    Frame 0x00020000 s (State.mdlReleased nn p s) := by
  unfold State.mdlReleased
  refine Frame.step (State.mdlFresh_frames _ _ _) rfl ?_
  exact Frame.refl _ _

theorem State.setCheck_frames (s : State) (nn : Nat) (c : Check) :
    Frame 0x00000200 s (State.setCheck s nn c) := by
  unfold State.setCheck
  refine Frame.set_chk ?_ rfl
  exact Frame.refl _ _

theorem State.updCheck_frames (nn : Nat) (f : Check → Check) (s : State) :
    Frame 0x00000200 s (State.updCheck nn f s) := by
  unfold State.updCheck
  refine Frame.step (State.setCheck_frames _ _ _) rfl ?_
  exact Frame.refl _ _

theorem State.dropClaim_frames (hw : Bool) (s : State) :
    Frame 0x00402804 s (State.dropClaim hw s) := by
  unfold State.dropClaim
  dsimp only
  refine Frame.set_tdm ?_ rfl
  refine Frame.step (State.setReg_frames _ _ _) rfl ?_
  refine Frame.step (State.setFlag_frames _ _ _) rfl ?_
  refine Frame.step (State.setFlag_frames _ _ _) rfl ?_
  refine Frame.step (State.coilsOff_frames _) rfl ?_
  split
  refine Frame.step (State.imdStop_frames _) rfl ?_
  exact Frame.refl _ _
  exact Frame.refl _ _

theorem State.retired_frames (s : State) :
    Frame 0x4040a804 s (State.retired s) := by
  unfold State.retired
  dsimp only
  refine Frame.step (State.dropClaim_frames _ _) rfl ?_
  refine Frame.step (State.setFields_frames _ _) rfl ?_
  refine Frame.set_auth_sec ?_ rfl id id
  exact Frame.refl _ _

theorem State.setLifecycle_frames (n : Nat) (s : State) (h : ¬ (s.sec.lc = 4 ∧ s.sec.lcNext = none)) :
    Frame 0x6040a884 s (s.setLifecycle n) := by
  have h0 : ∀ x : SecState, x.lcNext = none → Frame 0x6040a884 s { s with sec := x } := fun x hx =>
    Frame.set_sec (Frame.refl _ _) rfl (fun y => absurd y h) (fun _ _ => hx)
  unfold State.setLifecycle
  dsimp only
  refine Frame.step (State.secRegs_frames _) rfl ?_
  refine Frame.step (State.dbgEnd_frames _) rfl ?_
  refine Frame.step (State.note_frames _ _ _ _) rfl ?_
  split
  · refine Frame.step (State.retired_frames _) rfl ?_
    exact Frame.step (State.setReg_frames _ _ _) rfl (h0 _ rfl)
  · exact Frame.step (State.setReg_frames _ _ _) rfl (h0 _ rfl)

theorem State.noteBad_frames (p : Path) (n : Nat) (s : State) :
    Frame 0x016020c4 s (State.noteBad p n s) := by
  unfold State.noteBad
  refine foldl_frames ?_ ?_
  intro _
  intro _
  refine Frame.step (State.hifFault_frames _ _ _ _) rfl ?_
  exact Frame.refl _ _
  exact Frame.refl _ _

theorem State.clogRegs_frames (s : State) :
    Frame 0x00000004 s (State.clogRegs s) := by
  unfold State.clogRegs
  dsimp only
  refine Frame.step (State.setReg_frames _ _ _) rfl ?_
  refine Frame.step (State.setReg_frames _ _ _) rfl ?_
  refine Frame.step (State.setFlag_frames _ _ _) rfl ?_
  refine Frame.step (State.setFlag_frames _ _ _) rfl ?_
  refine Frame.step (State.setReg_frames _ _ _) rfl ?_
  exact Frame.refl _ _

theorem State.clogWrite_frames (e : ClogFields) (s : State) :
    Frame 0x0160a0c4 s (State.clogWrite e s) := by
  unfold State.clogWrite
  split
  dsimp only
  split
  split
  refine Frame.step (State.raise_frames _ _ _ _ _) rfl ?_
  split
  refine Frame.step (State.raise_frames _ _ _ _ _) rfl ?_
  refine Frame.step (State.clogRegs_frames _) rfl ?_
  refine Frame.set_auth ?_ rfl
  exact Frame.refl _ _
  refine Frame.step (State.clogRegs_frames _) rfl ?_
  refine Frame.set_auth ?_ rfl
  exact Frame.refl _ _
  split
  refine Frame.step (State.raise_frames _ _ _ _ _) rfl ?_
  refine Frame.step (State.clogRegs_frames _) rfl ?_
  refine Frame.set_auth ?_ rfl
  exact Frame.refl _ _
  refine Frame.step (State.clogRegs_frames _) rfl ?_
  refine Frame.set_auth ?_ rfl
  exact Frame.refl _ _
  split
  refine Frame.step (State.raise_frames _ _ _ _ _) rfl ?_
  split
  refine Frame.step (State.raise_frames _ _ _ _ _) rfl ?_
  refine Frame.step (State.clogRegs_frames _) rfl ?_
  refine Frame.set_auth ?_ rfl
  exact Frame.refl _ _
  refine Frame.step (State.clogRegs_frames _) rfl ?_
  refine Frame.set_auth ?_ rfl
  exact Frame.refl _ _
  split
  refine Frame.step (State.raise_frames _ _ _ _ _) rfl ?_
  refine Frame.step (State.clogRegs_frames _) rfl ?_
  refine Frame.set_auth ?_ rfl
  exact Frame.refl _ _
  refine Frame.step (State.clogRegs_frames _) rfl ?_
  refine Frame.set_auth ?_ rfl
  exact Frame.refl _ _
  exact Frame.refl _ _

theorem State.writeWord_frames (p : Path) (off : Nat) (w : Nat) (s : State) :
    Frame 0x0160a0c4 s (State.writeWord p off w s) := by
  unfold State.writeWord
  dsimp only
  split
  refine Frame.step (State.setFields_frames _ _) rfl ?_
  refine Frame.step (State.noteBad_frames _ _ _) rfl ?_
  exact Frame.refl _ _
  split
  refine Frame.step (State.setFields_frames _ _) rfl ?_
  refine Frame.step (State.note_frames _ _ _ _) rfl ?_
  refine Frame.step (State.noteBad_frames _ _ _) rfl ?_
  exact Frame.refl _ _
  split
  refine Frame.set_auth ?_ rfl
  refine Frame.step (State.clogWrite_frames _ _) rfl ?_
  refine Frame.step (State.setFields_frames _ _) rfl ?_
  refine Frame.step (State.setFields_frames _ _) rfl ?_
  refine Frame.step (State.noteBad_frames _ _ _) rfl ?_
  exact Frame.refl _ _
  refine Frame.step (State.setFields_frames _ _) rfl ?_
  refine Frame.step (State.raise_frames _ _ _ _ _) rfl ?_
  refine Frame.step (State.noteBad_frames _ _ _) rfl ?_
  exact Frame.refl _ _

theorem State.brstRequest_frames (k : Nat) (s : State) :
    Frame 0x20000004 s (State.brstRequest k s) := by
  unfold State.brstRequest
  split
  exact Frame.refl _ _
  dsimp only
  refine Frame.set_pwr ?_ rfl
  refine Frame.step (State.setBit_frames _ _ _ _) rfl ?_
  refine Frame.step (State.setBit_frames _ _ _ _) rfl ?_
  exact Frame.refl _ _

theorem State.liveRevert_frames (s : State) :
    Frame 0x60000004 s (State.liveRevert s) := by
  unfold State.liveRevert
  dsimp only
  split
  refine Frame.step (State.secRegs_frames _) rfl ?_
  refine forEach_frames ?_ ?_
  intro _
  intro _
  refine Frame.step (State.brstRequest_frames _ _) rfl ?_
  exact Frame.refl _ _
  refine Frame.set_sec ?_ rfl id id
  exact Frame.refl _ _
  exact Frame.refl _ _

theorem State.coreOff_frames (s : State) :
    Frame 0x00402824 s (State.coreOff s) := by
  unfold State.coreOff
  refine Frame.step (State.setFields_frames _ _) rfl ?_
  refine Frame.step (State.dropClaim_frames _ _) rfl ?_
  refine Frame.set_sys ?_ rfl
  exact Frame.refl _ _

theorem State.clearFault_frames (f : Active) (s : State) :
    Frame 0x000000c4 s (State.clearFault f s) := by
  unfold State.clearFault
  dsimp only
  refine Frame.step (State.record_frames _ _) rfl ?_
  refine Frame.set_flt ?_ rfl
  exact Frame.refl _ _

theorem State.coilOn_frames (k : Nat) (s : State) :
    Frame 0x00002000 s (State.coilOn k s) := by
  unfold State.coilOn
  refine Frame.set_slu ?_ rfl rfl
  exact Frame.refl _ _

theorem State.mdlNewTray_frames (nn : Nat) (k : Nat) (s : State) :
    Frame 0x00020000 s (State.mdlNewTray nn k s) := by
  unfold State.mdlNewTray
  refine forAll_frames ?_ ?_
  intro _
  intro _
  refine Frame.step (State.mdlFresh_frames _ _ _) rfl ?_
  exact Frame.refl _ _
  exact Frame.refl _ _

theorem State.estNewTray_frames (nn : Nat) (k : Nat) (s : State) :
    Frame 0x00010000 s (State.estNewTray nn k s) := by
  unfold State.estNewTray
  refine Frame.set_est ?_ rfl
  exact Frame.refl _ _

end Sys2Proof.Machine
end

