-- ==== Sys2Proof/Laws/FrameMeasure.lean ====
section
/-! SUPPORT. Frames of measurement commands: the parts of the state that each definition may change. -/
namespace Sys2Proof.Machine

theorem refuseIf_frames {m : Nat} {g : State → State} {c : Bool} {f : Field} {r : State} {a : State × Nat}
    (h : ∀ s, Frame m s (g s)) (h0 : Frame m r a.1) : Frame m r (refuseIf c f g a).1 := by
  unfold refuseIf; split
  · exact Frame.step (h _) (by simp [maskIn]) h0
  · exact h0

theorem State.bankStatusOff_frames (nn : Nat) (s : State) :
    Frame 0x00000004 s (State.bankStatusOff nn s) := by
  unfold State.bankStatusOff
  refine Frame.step (State.setFields_frames _ _) rfl ?_
  exact Frame.refl _ _

theorem State.bankPowerOff_frames (nn : Nat) (s : State) :
    Frame 0x00000104 s (State.bankPowerOff nn s) := by
  unfold State.bankPowerOff
  refine Frame.step (State.updBank_frames _ _ _) rfl ?_
  refine Frame.step (State.bankStatusOff_frames _ _) rfl ?_
  refine Frame.step (State.setBit_frames _ _ _ _) rfl ?_
  exact Frame.refl _ _

theorem State.toStep_frames (nn : Nat) (d : DiscStep) (s : State) :
    Frame 0x00000100 s (State.toStep nn d s) := by
  unfold State.toStep
  refine Frame.step (State.updBank_frames _ _ _) rfl ?_
  exact Frame.refl _ _

theorem State.branchProgress_frames (nn : Nat) (k : Nat) (s : State) :
    Frame 0x00020304 s (State.branchProgress nn k s) := by
  unfold State.branchProgress
  dsimp only
  split
  refine forAll_frames ?_ ?_
  intro _
  intro _
  refine Frame.step (State.mdlReleased_frames _ _ _) rfl ?_
  refine Frame.step (State.updCheck_frames _ _ _) rfl ?_
  exact Frame.refl _ _
  refine Frame.step (State.updBank_frames _ _ _) rfl ?_
  refine Frame.step (State.setBit_frames _ _ _ _) rfl ?_
  exact Frame.refl _ _
  exact Frame.refl _ _

theorem State.bankProgress_frames (nn : Nat) (s : State) :
    Frame 0x00020304 s (State.bankProgress nn s) := by
  unfold State.bankProgress
  dsimp only
  split
  split
  refine Frame.step (State.updBank_frames _ _ _) rfl ?_
  refine Frame.step (State.toStep_frames _ _ _) rfl ?_
  exact Frame.refl _ _
  exact Frame.refl _ _
  split
  refine Frame.step (State.updBank_frames _ _ _) rfl ?_
  refine Frame.step (State.toStep_frames _ _ _) rfl ?_
  exact Frame.refl _ _
  exact Frame.refl _ _
  split
  refine Frame.step (State.updBank_frames _ _ _) rfl ?_
  refine Frame.step (State.toStep_frames _ _ _) rfl ?_
  exact Frame.refl _ _
  exact Frame.refl _ _
  refine forEach_frames ?_ ?_
  intro _
  intro _
  refine Frame.step (State.branchProgress_frames _ _ _) rfl ?_
  exact Frame.refl _ _
  exact Frame.refl _ _
  exact Frame.refl _ _

theorem State.windowStrike_frames (b : BankIn) (words : List Nat) (s : State) :
    Frame 0x00000204 s (State.windowStrike b words s) := by
  unfold State.windowStrike
  dsimp only
  split
  refine Frame.step (State.updCheck_frames _ _ _) rfl ?_
  refine Frame.step (State.setFlag_frames _ _ _) rfl ?_
  exact Frame.refl _ _
  refine Frame.step (State.setFlag_frames _ _ _) rfl ?_
  exact Frame.refl _ _

theorem State.slotSpan_frames (nn : Nat) (s : State) :
    Frame 0x00000200 s (State.slotSpan nn s) := by
  unfold State.slotSpan
  refine Frame.step (State.updCheck_frames _ _ _) rfl ?_
  exact Frame.refl _ _

theorem State.writeRest_frames (p : Path) (off : Nat) (w : Nat) (s : State) :
    Frame 0x0160a0c4 s (State.writeRest p off w s) := by
  unfold State.writeRest
  refine Frame.step (State.writeWord_frames _ _ _ _) rfl ?_
  split
  refine Frame.step (State.note_frames _ _ _ _) rfl ?_
  exact Frame.refl _ _
  exact Frame.refl _ _

theorem State.hallTurn_frames (s : State) :
    Frame 0x00000440 s (State.hallTurn s) := by
  unfold State.hallTurn
  split
  refine Frame.set_cur ?_ rfl
  exact Frame.refl _ _
  refine Frame.step (State.goneAt_frames _ _ _) rfl ?_
  refine Frame.set_cur ?_ rfl
  exact Frame.refl _ _

theorem State.curTurnStart_frames (s : State) :
    Frame 0x00000440 s (State.curTurnStart s) := by
  unfold State.curTurnStart
  dsimp only
  refine Frame.set_cur ?_ rfl
  refine Frame.step (State.hallTurn_frames _) rfl ?_
  exact Frame.refl _ _

theorem State.taintSees_frames (c : CurIn) (s : State) :
    Frame 0x00000400 s (State.taintSees c s) := by
  unfold State.taintSees
  dsimp only
  refine Frame.set_cur ?_ rfl
  exact Frame.refl _ _

theorem State.curStrikeHead_frames (c : CurIn) (s : State) :
    Frame 0x00000440 s (State.curStrikeHead c s) := by
  unfold State.curStrikeHead
  dsimp only
  split
  split
  refine Frame.set_cur ?_ rfl
  refine Frame.step (State.taintSees_frames _ _) rfl ?_
  refine doIf_frames ?_ ?_
  intro _
  refine Frame.step (State.curTurnStart_frames _) rfl ?_
  exact Frame.refl _ _
  exact Frame.refl _ _
  refine Frame.step (State.taintSees_frames _ _) rfl ?_
  refine doIf_frames ?_ ?_
  intro _
  refine Frame.step (State.curTurnStart_frames _) rfl ?_
  exact Frame.refl _ _
  exact Frame.refl _ _
  split
  refine Frame.set_cur ?_ rfl
  refine doIf_frames ?_ ?_
  intro _
  refine Frame.step (State.curTurnStart_frames _) rfl ?_
  exact Frame.refl _ _
  exact Frame.refl _ _
  refine doIf_frames ?_ ?_
  intro _
  refine Frame.step (State.curTurnStart_frames _) rfl ?_
  exact Frame.refl _ _
  exact Frame.refl _ _

theorem State.pathSelect_frames (w : List Nat) (s : State) :
    Frame 0x016024c4 s (State.pathSelect w s) := by
  unfold State.pathSelect
  dsimp only
  split
  refine Frame.step (State.level_frames _ _ _ _ _ _) rfl ?_
  refine Frame.step (State.setReg_frames _ _ _) rfl ?_
  refine Frame.set_cur ?_ rfl
  exact Frame.refl _ _
  refine Frame.step (State.setReg_frames _ _ _) rfl ?_
  refine Frame.set_cur ?_ rfl
  exact Frame.refl _ _

theorem State.showCur_frames (s : State) :
    Frame 0x00000004 s (State.showCur s) := by
  unfold State.showCur
  refine Frame.step (State.setFields_frames _ _) rfl ?_
  exact Frame.refl _ _

theorem State.curStrikeTail_frames (c : CurIn) (w : List Nat) (s : State) :
    Frame 0x016024c4 s (State.curStrikeTail c w s) := by
  unfold State.curStrikeTail
  dsimp only
  split
  split
  split
  refine Frame.set_cur ?_ rfl
  refine Frame.step (State.showCur_frames _) rfl ?_
  refine Frame.set_cur ?_ rfl
  refine Frame.step (State.pathSelect_frames _ _) rfl ?_
  exact Frame.refl _ _
  refine Frame.set_cur ?_ rfl
  refine Frame.step (State.showCur_frames _) rfl ?_
  refine Frame.set_cur ?_ rfl
  refine Frame.step (State.pathSelect_frames _ _) rfl ?_
  exact Frame.refl _ _
  split
  refine Frame.set_cur ?_ rfl
  refine Frame.step (State.showCur_frames _) rfl ?_
  refine Frame.set_cur ?_ rfl
  refine Frame.step (State.pathSelect_frames _ _) rfl ?_
  exact Frame.refl _ _
  refine Frame.set_cur ?_ rfl
  refine Frame.step (State.showCur_frames _) rfl ?_
  refine Frame.set_cur ?_ rfl
  refine Frame.step (State.pathSelect_frames _ _) rfl ?_
  exact Frame.refl _ _
  split
  split
  refine Frame.set_cur ?_ rfl
  refine Frame.step (State.showCur_frames _) rfl ?_
  refine Frame.set_cur ?_ rfl
  refine doIf_frames ?_ ?_
  intro _
  refine Frame.step (State.addSat_frames _ _ _) rfl ?_
  exact Frame.refl _ _
  exact Frame.refl _ _
  refine Frame.set_cur ?_ rfl
  refine Frame.step (State.showCur_frames _) rfl ?_
  refine Frame.set_cur ?_ rfl
  refine doIf_frames ?_ ?_
  intro _
  refine Frame.step (State.addSat_frames _ _ _) rfl ?_
  exact Frame.refl _ _
  exact Frame.refl _ _
  split
  refine Frame.set_cur ?_ rfl
  refine Frame.step (State.showCur_frames _) rfl ?_
  refine Frame.set_cur ?_ rfl
  refine doIf_frames ?_ ?_
  intro _
  refine Frame.step (State.addSat_frames _ _ _) rfl ?_
  exact Frame.refl _ _
  exact Frame.refl _ _
  refine Frame.set_cur ?_ rfl
  refine Frame.step (State.showCur_frames _) rfl ?_
  refine Frame.set_cur ?_ rfl
  refine doIf_frames ?_ ?_
  intro _
  refine Frame.step (State.addSat_frames _ _ _) rfl ?_
  exact Frame.refl _ _
  exact Frame.refl _ _

theorem State.dacRead_frames (nn : Nat) (d : Nat) (err : ℤ) (s : State) :
    Frame 0x016022c4 s (State.dacRead nn d err s) := by
  unfold State.dacRead
  dsimp only
  split
  refine Frame.step (State.raiseLevel_frames _ _ _ _ _) rfl ?_
  refine Frame.step (State.updCheck_frames _ _ _) rfl ?_
  exact Frame.refl _ _
  split
  split
  split
  refine Frame.step (State.updCheck_frames _ _ _) rfl ?_
  exact Frame.refl _ _
  refine Frame.step (State.goneAt_frames _ _ _) rfl ?_
  refine Frame.step (State.updCheck_frames _ _ _) rfl ?_
  exact Frame.refl _ _
  split
  refine Frame.step (State.updCheck_frames _ _ _) rfl ?_
  exact Frame.refl _ _
  refine Frame.step (State.goneAt_frames _ _ _) rfl ?_
  refine Frame.step (State.updCheck_frames _ _ _) rfl ?_
  exact Frame.refl _ _
  split
  split
  refine Frame.step (State.updCheck_frames _ _ _) rfl ?_
  exact Frame.refl _ _
  refine Frame.step (State.goneAt_frames _ _ _) rfl ?_
  refine Frame.step (State.updCheck_frames _ _ _) rfl ?_
  exact Frame.refl _ _
  split
  refine Frame.step (State.updCheck_frames _ _ _) rfl ?_
  exact Frame.refl _ _
  refine Frame.step (State.goneAt_frames _ _ _) rfl ?_
  refine Frame.step (State.updCheck_frames _ _ _) rfl ?_
  exact Frame.refl _ _

theorem State.bankAdded_frames (nn : Nat) (s : State) :
    Frame 0x00000304 s (State.bankAdded nn s) := by
  unfold State.bankAdded
  dsimp only
  split
  refine Frame.step (State.setReg_frames _ _ _) rfl ?_
  refine Frame.step (State.setBank_frames _ _ _) rfl ?_
  exact Frame.refl _ _
  refine Frame.step (State.setCheck_frames _ _ _) rfl ?_
  refine Frame.step (State.setBit_frames _ _ _ _) rfl ?_
  refine Frame.step (State.setReg_frames _ _ _) rfl ?_
  refine Frame.step (State.setBank_frames _ _ _) rfl ?_
  exact Frame.refl _ _

theorem State.imdCheck_frames (s : State) :
    Frame 0x00000804 s (State.imdCheck s) := by
  unfold State.imdCheck
  split
  refine Frame.step (State.imdStop_frames _) rfl ?_
  exact Frame.refl _ _
  exact Frame.refl _ _

theorem State.imdTurn_frames (s : State) :
    Frame 0x00000804 s (State.imdTurn s) := by
  unfold State.imdTurn
  split
  refine Frame.step (State.setFields_frames _ _) rfl ?_
  refine Frame.set_imd ?_ rfl
  exact Frame.refl _ _
  refine Frame.step (State.imdCheck_frames _) rfl ?_
  exact Frame.refl _ _

theorem State.bankSensors_frames (b : BankIn) (s : State) :
    Frame 0x00001000 s (State.bankSensors b s) := by
  unfold State.bankSensors
  dsimp only
  split
  refine Frame.set_thm ?_ rfl
  exact Frame.refl _ _
  exact Frame.refl _ _

theorem State.dieStrike_frames (l : List ℤ) (s : State) :
    Frame 0x00001004 s (State.dieStrike l s) := by
  unfold State.dieStrike
  dsimp only
  split
  refine Frame.set_thm ?_ rfl
  exact Frame.refl _ _
  refine Frame.step (State.setFields_frames _ _) rfl ?_
  refine Frame.set_thm ?_ rfl
  exact Frame.refl _ _

theorem State.showFailed_frames (base : Nat) (n : Nat) (s : State) :
    Frame 0x00000004 s (State.showFailed base n s) := by
  unfold State.showFailed
  dsimp only
  split
  refine Frame.step (State.setReg_frames _ _ _) rfl ?_
  exact Frame.refl _ _
  refine Frame.step (State.setReg_frames _ _ _) rfl ?_
  exact Frame.refl _ _

theorem State.tempFailures_frames (base : Nat) (n : Nat) (s : State) :
    Frame 0x016020c4 s (State.tempFailures base n s) := by
  unfold State.tempFailures
  dsimp only
  split
  refine Frame.step (State.level_frames _ _ _ _ _ _) rfl ?_
  refine forAll_frames ?_ ?_
  intro _
  intro _
  refine Frame.step (State.level_frames _ _ _ _ _ _) rfl ?_
  exact Frame.refl _ _
  exact Frame.refl _ _
  refine Frame.step (State.level_frames _ _ _ _ _ _) rfl ?_
  refine forAll_frames ?_ ?_
  intro _
  intro _
  refine Frame.step (State.level_frames _ _ _ _ _ _) rfl ?_
  exact Frame.refl _ _
  exact Frame.refl _ _

theorem State.setTemp_frames (j : Nat) (t : TempState) (s : State) :
    Frame 0x00001000 s (State.setTemp j t s) := by
  unfold State.setTemp
  refine Frame.set_thm ?_ rfl
  exact Frame.refl _ _

theorem State.testInput_frames (j : Nat) (ti : TempIn) (s : State) :
    Frame 0x016030c4 s (State.testInput j ti s) := by
  unfold State.testInput
  dsimp only
  split
  refine Frame.step (State.setTemp_frames _ _ _) rfl ?_
  exact Frame.refl _ _
  split
  refine Frame.step (State.raiseLevel_frames _ _ _ _ _) rfl ?_
  refine Frame.step (State.setTemp_frames _ _ _) rfl ?_
  exact Frame.refl _ _
  refine Frame.step (State.setTemp_frames _ _ _) rfl ?_
  exact Frame.refl _ _

theorem State.convertInput_frames (j : Nat) (raw : TempRaw) (s : State) :
    Frame 0x016030c4 s (State.convertInput j raw s) := by
  unfold State.convertInput
  dsimp only
  refine Frame.step (State.level_frames _ _ _ _ _ _) rfl ?_
  refine Frame.step (State.setTemp_frames _ _ _) rfl ?_
  exact Frame.refl _ _

theorem State.tempInput_frames (base : Nat) (n : Nat) (ins : List TempIn) (j : Nat) (s : State) :
    Frame 0x016030c4 s (State.tempInput base n ins j s) := by
  unfold State.tempInput
  dsimp only
  split
  refine Frame.step (State.setTemp_frames _ _ _) rfl ?_
  exact Frame.refl _ _
  split
  refine Frame.step (State.setTemp_frames _ _ _) rfl ?_
  exact Frame.refl _ _
  split
  refine Frame.step (State.testInput_frames _ _ _) rfl ?_
  split
  refine Frame.set_thm ?_ rfl
  refine Frame.step (State.setTemp_frames _ _ _) rfl ?_
  exact Frame.refl _ _
  refine Frame.step (State.setTemp_frames _ _ _) rfl ?_
  exact Frame.refl _ _
  split
  refine Frame.step (State.convertInput_frames _ _ _) rfl ?_
  refine Frame.step (State.setTemp_frames _ _ _) rfl ?_
  exact Frame.refl _ _
  refine Frame.step (State.setTemp_frames _ _ _) rfl ?_
  exact Frame.refl _ _

theorem State.tempGroup_frames (base : Nat) (n : Nat) (ins : List TempIn) (s : State) :
    Frame 0x016030c4 s (State.tempGroup base n ins s) := by
  unfold State.tempGroup
  refine Frame.step (State.showFailed_frames _ _ _) rfl ?_
  refine Frame.step (State.tempFailures_frames _ _ _) rfl ?_
  refine forEach_frames ?_ ?_
  intro _
  intro _
  refine Frame.step (State.tempInput_frames _ _ _ _ _) rfl ?_
  exact Frame.refl _ _
  exact Frame.refl _ _

theorem State.tempsSeen_frames (nn : Nat) (s : State) :
    Frame 0x00000100 s (State.tempsSeen nn s) := by
  unfold State.tempsSeen
  refine Frame.step (State.updBank_frames _ _ _) rfl ?_
  exact Frame.refl _ _

theorem State.tempHeld_frames (base : Nat) (n : Nat) (s : State) :
    Frame 0x00001000 s (State.tempHeld base n s) := by
  unfold State.tempHeld
  refine forEach_frames ?_ ?_
  intro _
  intro _
  split
  refine Frame.step (State.setTemp_frames _ _ _) rfl ?_
  exact Frame.refl _ _
  exact Frame.refl _ _
  exact Frame.refl _ _

theorem State.bankTemps_frames (b : BankIn) (s : State) :
    Frame 0x016031c4 s (State.bankTemps b s) := by
  unfold State.bankTemps
  dsimp only
  split
  split
  refine Frame.step (State.tempsSeen_frames _ _) rfl ?_
  refine Frame.step (State.tempGroup_frames _ _ _ _) rfl ?_
  exact Frame.refl _ _
  refine Frame.step (State.tempHeld_frames _ _ _) rfl ?_
  exact Frame.refl _ _
  refine Frame.step (State.tempHeld_frames _ _ _) rfl ?_
  exact Frame.refl _ _

theorem State.moduleTemps_frames (ins : List TempIn) (s : State) :
    Frame 0x016030c4 s (State.moduleTemps ins s) := by
  unfold State.moduleTemps
  dsimp only
  split
  split
  refine Frame.step (State.goneAt_frames _ _ _) rfl ?_
  refine Frame.step (State.setFields_frames _ _) rfl ?_
  refine Frame.set_thm ?_ rfl
  refine Frame.step (State.tempGroup_frames _ _ _ _) rfl ?_
  exact Frame.refl _ _
  refine Frame.step (State.setFields_frames _ _) rfl ?_
  refine Frame.set_thm ?_ rfl
  refine Frame.step (State.tempGroup_frames _ _ _ _) rfl ?_
  exact Frame.refl _ _
  split
  refine Frame.step (State.goneAt_frames _ _ _) rfl ?_
  refine Frame.step (State.setFields_frames _ _) rfl ?_
  refine Frame.set_thm ?_ rfl
  refine Frame.step (State.tempGroup_frames _ _ _ _) rfl ?_
  exact Frame.refl _ _
  refine Frame.step (State.setFields_frames _ _) rfl ?_
  refine Frame.set_thm ?_ rfl
  refine Frame.step (State.tempGroup_frames _ _ _ _) rfl ?_
  exact Frame.refl _ _

theorem State.bankSensorTurn_frames (nn : Nat) (s : State) :
    Frame 0x00001040 s (State.bankSensorTurn nn s) := by
  unfold State.bankSensorTurn
  dsimp only
  split
  split
  split
  refine Frame.step (State.goneAt_frames _ _ _) rfl ?_
  refine Frame.set_thm ?_ rfl
  exact Frame.refl _ _
  refine Frame.set_thm ?_ rfl
  exact Frame.refl _ _
  split
  refine Frame.step (State.goneAt_frames _ _ _) rfl ?_
  refine Frame.set_thm ?_ rfl
  exact Frame.refl _ _
  refine Frame.set_thm ?_ rfl
  exact Frame.refl _ _
  split
  split
  split
  refine Frame.step (State.goneAt_frames _ _ _) rfl ?_
  refine Frame.set_thm ?_ rfl
  exact Frame.refl _ _
  refine Frame.set_thm ?_ rfl
  exact Frame.refl _ _
  split
  refine Frame.step (State.goneAt_frames _ _ _) rfl ?_
  refine Frame.set_thm ?_ rfl
  exact Frame.refl _ _
  refine Frame.set_thm ?_ rfl
  exact Frame.refl _ _
  split
  split
  refine Frame.step (State.goneAt_frames _ _ _) rfl ?_
  refine Frame.set_thm ?_ rfl
  exact Frame.refl _ _
  refine Frame.set_thm ?_ rfl
  exact Frame.refl _ _
  split
  refine Frame.step (State.goneAt_frames _ _ _) rfl ?_
  refine Frame.set_thm ?_ rfl
  exact Frame.refl _ _
  refine Frame.set_thm ?_ rfl
  exact Frame.refl _ _

theorem State.dieTurn_frames (s : State) :
    Frame 0x00001044 s (State.dieTurn s) := by
  unfold State.dieTurn
  dsimp only
  split
  split
  refine Frame.step (State.setFlag_frames _ _ _) rfl ?_
  refine Frame.set_thm ?_ rfl
  exact Frame.refl _ _
  refine Frame.step (State.goneAt_frames _ _ _) rfl ?_
  refine Frame.step (State.setFlag_frames _ _ _) rfl ?_
  refine Frame.set_thm ?_ rfl
  exact Frame.refl _ _
  split
  refine Frame.step (State.setFlag_frames _ _ _) rfl ?_
  refine Frame.set_thm ?_ rfl
  exact Frame.refl _ _
  refine Frame.step (State.goneAt_frames _ _ _) rfl ?_
  refine Frame.step (State.setFlag_frames _ _ _) rfl ?_
  refine Frame.set_thm ?_ rfl
  exact Frame.refl _ _

theorem State.thermalStrike_frames (i : StrikeIn) (s : State) :
    Frame 0x016031c4 s (State.thermalStrike i s) := by
  unfold State.thermalStrike
  dsimp only
  split
  refine forEach_frames ?_ ?_
  intro _
  intro _
  refine Frame.step (State.bankSensorTurn_frames _ _) rfl ?_
  exact Frame.refl _ _
  refine Frame.step (State.dieTurn_frames _) rfl ?_
  refine forAll_frames ?_ ?_
  intro _
  intro _
  refine Frame.step (State.bankTemps_frames _ _) rfl ?_
  exact Frame.refl _ _
  refine Frame.step (State.moduleTemps_frames _ _) rfl ?_
  refine forAll_frames ?_ ?_
  intro _
  intro _
  refine Frame.step (State.bankSensors_frames _ _) rfl ?_
  exact Frame.refl _ _
  refine Frame.step (State.dieStrike_frames _ _) rfl ?_
  exact Frame.refl _ _
  refine forAll_frames ?_ ?_
  intro _
  intro _
  refine Frame.step (State.bankSensors_frames _ _) rfl ?_
  exact Frame.refl _ _
  refine Frame.step (State.dieStrike_frames _ _) rfl ?_
  exact Frame.refl _ _

theorem State.wireLast_frames (nn : Nat) (loc : Nat) (kind : Nat) (meas : Nat) (s : State) :
    Frame 0x00000004 s (State.wireLast nn loc kind meas s) := by
  unfold State.wireLast
  refine Frame.step (State.setFields_frames _ _) rfl ?_
  exact Frame.refl _ _

theorem State.showTray_frames (nn : Nat) (k : Nat) (t : Tray) (s : State) :
    Frame 0x00000004 s (State.showTray nn k t s) := by
  unfold State.showTray
  dsimp only
  split
  refine Frame.step (State.setFields_frames _ _) rfl ?_
  refine Frame.step (State.setFlag_frames _ _ _) rfl ?_
  exact Frame.refl _ _
  refine Frame.step (State.setFlag_frames _ _ _) rfl ?_
  exact Frame.refl _ _

theorem State.showPend_frames (nn : Nat) (s : State) :
    Frame 0x00000004 s (State.showPend nn s) := by
  unfold State.showPend
  refine Frame.step (State.setFlag_frames _ _ _) rfl ?_
  exact Frame.refl _ _

theorem State.noteChange_frames (nn : Nat) (oldRange : Nat) (s : State) :
    Frame 0x00000104 s (State.noteChange nn oldRange s) := by
  unfold State.noteChange
  dsimp only
  refine Frame.step (State.showPend_frames _ _) rfl ?_
  refine Frame.step (State.updBank_frames _ _ _) rfl ?_
  exact Frame.refl _ _

theorem State.bnkCtrlWrite_frames (p : Path) (nn : Nat) (w : Nat) (s : State) :
    Frame 0x0160a1c4 s (State.bnkCtrlWrite p nn w s) := by
  unfold State.bnkCtrlWrite
  dsimp only
  refine Frame.step (State.noteChange_frames _ _ _) rfl ?_
  split
  refine Frame.step (State.writeRest_frames _ _ _ _) rfl ?_
  refine refuseIf_frames ?_ ?_
  intro _
  refine Frame.step (State.note_frames _ _ _ _) rfl ?_
  exact Frame.refl _ _
  refine refuseIf_frames ?_ ?_
  intro _
  split
  dsimp only [id]
  exact Frame.refl _ _
  dsimp only
  refine Frame.step (State.note_frames _ _ _ _) rfl ?_
  exact Frame.refl _ _
  refine refuseIf_frames ?_ ?_
  intro _
  refine Frame.step (State.note_frames _ _ _ _) rfl ?_
  exact Frame.refl _ _
  refine refuseIf_frames ?_ ?_
  intro _
  refine Frame.step (State.raise_frames _ _ _ _ _) rfl ?_
  exact Frame.refl _ _
  refine refuseIf_frames ?_ ?_
  intro _
  refine Frame.step (State.raise_frames _ _ _ _ _) rfl ?_
  exact Frame.refl _ _
  dsimp only
  exact Frame.refl _ _
  refine Frame.step (State.writeWord_frames _ _ _ _) rfl ?_
  refine refuseIf_frames ?_ ?_
  intro _
  refine Frame.step (State.note_frames _ _ _ _) rfl ?_
  exact Frame.refl _ _
  refine refuseIf_frames ?_ ?_
  intro _
  split
  dsimp only [id]
  exact Frame.refl _ _
  dsimp only
  refine Frame.step (State.note_frames _ _ _ _) rfl ?_
  exact Frame.refl _ _
  refine refuseIf_frames ?_ ?_
  intro _
  refine Frame.step (State.note_frames _ _ _ _) rfl ?_
  exact Frame.refl _ _
  refine refuseIf_frames ?_ ?_
  intro _
  refine Frame.step (State.raise_frames _ _ _ _ _) rfl ?_
  exact Frame.refl _ _
  refine refuseIf_frames ?_ ?_
  intro _
  refine Frame.step (State.raise_frames _ _ _ _ _) rfl ?_
  exact Frame.refl _ _
  dsimp only
  exact Frame.refl _ _

theorem State.curCtrlWrite_frames (p : Path) (w : Nat) (s : State) :
    Frame 0x0160a0c4 s (State.curCtrlWrite p w s) := by
  unfold State.curCtrlWrite
  dsimp only
  split
  refine Frame.step (State.writeRest_frames _ _ _ _) rfl ?_
  refine Frame.step (State.note_frames _ _ _ _) rfl ?_
  exact Frame.refl _ _
  refine Frame.step (State.writeWord_frames _ _ _ _) rfl ?_
  exact Frame.refl _ _

theorem State.imdCtrlWrite_frames (p : Path) (w : Nat) (s : State) :
    Frame 0x0160a8c4 s (State.imdCtrlWrite p w s) := by
  unfold State.imdCtrlWrite
  refine Frame.step (State.imdCheck_frames _) rfl ?_
  refine Frame.step (State.writeWord_frames _ _ _ _) rfl ?_
  exact Frame.refl _ _

theorem State.thmConfigWrite_frames (p : Path) (off : Nat) (w : Nat) (s : State) :
    Frame 0x0160a0c4 s (State.thmConfigWrite p off w s) := by
  unfold State.thmConfigWrite
  split
  refine Frame.step (State.writeRest_frames _ _ _ _) rfl ?_
  refine Frame.step (State.note_frames _ _ _ _) rfl ?_
  exact Frame.refl _ _
  refine Frame.step (State.writeWord_frames _ _ _ _) rfl ?_
  exact Frame.refl _ _

theorem execDieShutdown_frames (s : State) :
    Frame 0x006038e4 s (andThen execDieShutdown s) := by
  dsimp only [andThen, execDieShutdown]
  split
  refine Frame.step (State.coreOff_frames _) rfl ?_
  refine Frame.step (State.emergencyOpen_frames _ _ _) rfl ?_
  refine Frame.set_thm ?_ rfl
  exact Frame.refl _ _
  exact Frame.refl _ _

theorem State.selectRange_frames (nn : Nat) (survey : Bool) (s : State) :
    Frame 0x00000100 s (State.selectRange nn survey s) := by
  unfold State.selectRange
  refine Frame.step (State.updBank_frames _ _ _) rfl ?_
  exact Frame.refl _ _

theorem State.bankRelay_frames (nn : Nat) (fb : Bool) (s : State) :
    Frame 0x00000144 s (State.bankRelay nn fb s) := by
  unfold State.bankRelay
  dsimp only
  split
  refine Frame.step (State.goneAt_frames _ _ _) rfl ?_
  refine Frame.step (State.updBank_frames _ _ _) rfl ?_
  refine Frame.step (State.setFlag_frames _ _ _) rfl ?_
  exact Frame.refl _ _
  refine Frame.step (State.updBank_frames _ _ _) rfl ?_
  refine Frame.step (State.setFlag_frames _ _ _) rfl ?_
  exact Frame.refl _ _

theorem State.showCFlags_frames (nn : Nat) (s : State) :
    Frame 0x00000004 s (State.showCFlags nn s) := by
  unfold State.showCFlags
  dsimp only
  refine Frame.step (State.setReg_frames _ _ _) rfl ?_
  refine Frame.step (State.setReg_frames _ _ _) rfl ?_
  exact Frame.refl _ _

theorem State.restartDwell_frames (nn : Nat) (count : Nat) (s : State) :
    Frame 0x00000204 s (State.restartDwell nn count s) := by
  unfold State.restartDwell
  dsimp only
  refine Frame.step (State.setReg_frames _ _ _) rfl ?_
  refine Frame.step (State.updCheck_frames _ _ _) rfl ?_
  exact Frame.refl _ _

theorem State.imdJudge_frames (low : Nat) (riso : Nat) (lim : Nat) (code : Nat) (cls : Nat) (s : State) :
    Frame 0x016020c4 s (State.imdJudge low riso lim code cls s) := by
  unfold State.imdJudge
  split
  refine Frame.step (State.raiseLevel_frames _ _ _ _ _) rfl ?_
  exact Frame.refl _ _
  split
  refine Frame.step (State.goneAt_frames _ _ _) rfl ?_
  exact Frame.refl _ _
  exact Frame.refl _ _

theorem State.imdLimits_frames (riso : Nat) (lb : Bool) (s : State) :
    Frame 0x016028c4 s (State.imdLimits riso lb s) := by
  unfold State.imdLimits
  dsimp only
  split
  exact Frame.refl _ _
  refine Frame.step (State.imdJudge_frames _ _ _ _ _ _) rfl ?_
  refine Frame.step (State.imdJudge_frames _ _ _ _ _ _) rfl ?_
  refine Frame.set_imd ?_ rfl
  exact Frame.refl _ _

theorem State.applyChange_frames (nn : Nat) (s : State) :
    Frame 0x00000304 s (State.applyChange nn s) := by
  unfold State.applyChange
  dsimp only
  split
  exact Frame.refl _ _
  split
  refine Frame.step (State.restartDwell_frames _ _ _) rfl ?_
  refine Frame.step (State.setFlag_frames _ _ _) rfl ?_
  refine Frame.step (State.setReg_frames _ _ _) rfl ?_
  refine Frame.step (State.setFlag_frames _ _ _) rfl ?_
  refine Frame.step (State.updBank_frames _ _ _) rfl ?_
  exact Frame.refl _ _
  refine Frame.step (State.setFlag_frames _ _ _) rfl ?_
  refine Frame.step (State.updBank_frames _ _ _) rfl ?_
  exact Frame.refl _ _

theorem State.applyChanges_frames (s : State) :
    Frame 0x00000304 s (State.applyChanges s) := by
  unfold State.applyChanges
  split
  refine forEach_frames ?_ ?_
  intro _
  intro _
  refine Frame.step (State.showPend_frames _ _) rfl ?_
  exact Frame.refl _ _
  split
  refine Frame.step (State.applyChange_frames _ _) rfl ?_
  exact Frame.refl _ _
  exact Frame.refl _ _
  refine forEach_frames ?_ ?_
  intro _
  intro _
  refine Frame.step (State.applyChange_frames _ _) rfl ?_
  exact Frame.refl _ _
  exact Frame.refl _ _

theorem State.plausSees_frames (b : BankIn) (p : Nat) (w : Nat) (s : State) :
    Frame 0x00000240 s (State.plausSees b p w s) := by
  unfold State.plausSees
  dsimp only
  split
  split
  refine Frame.step (State.updCheck_frames _ _ _) rfl ?_
  exact Frame.refl _ _
  refine Frame.step (State.goneAt_frames _ _ _) rfl ?_
  refine Frame.step (State.updCheck_frames _ _ _) rfl ?_
  exact Frame.refl _ _
  exact Frame.refl _ _

theorem execAlignmentRegained_frames (nn : Nat) (s : State) :
    Frame 0x00000444 s (andThen (execAlignmentRegained nn) s) := by
  dsimp only [andThen, execAlignmentRegained]
  split
  split
  refine Frame.step (State.goneAt_frames _ _ _) rfl ?_
  refine Frame.step (State.setFlag_frames _ _ _) rfl ?_
  refine Frame.set_cur ?_ rfl
  exact Frame.refl _ _
  exact Frame.refl _ _
  split
  refine Frame.step (State.goneAt_frames _ _ _) rfl ?_
  refine Frame.step (State.setFlag_frames _ _ _) rfl ?_
  refine Frame.step (State.setReg_frames _ _ _) rfl ?_
  exact Frame.refl _ _
  exact Frame.refl _ _

theorem State.surveyJudged_frames (nn : Nat) (s : State) :
    Frame 0x016021c4 s (State.surveyJudged nn s) := by
  unfold State.surveyJudged
  dsimp only
  split
  refine Frame.step (State.selectRange_frames _ _ _) rfl ?_
  refine Frame.step (State.toStep_frames _ _ _) rfl ?_
  refine Frame.step (State.raiseLevel_frames _ _ _ _ _) rfl ?_
  exact Frame.refl _ _
  refine Frame.step (State.selectRange_frames _ _ _) rfl ?_
  refine Frame.step (State.toStep_frames _ _ _) rfl ?_
  exact Frame.refl _ _

theorem execSurveyCheck_frames (nn : Nat) (s : State) :
    Frame 0x016021c4 s (andThen (execSurveyCheck nn) s) := by
  dsimp only [andThen, execSurveyCheck]
  split
  refine Frame.step (State.surveyJudged_frames _ _) rfl ?_
  exact Frame.refl _ _
  exact Frame.refl _ _

theorem State.imdResult_frames (r : ImdIn) (lb : Bool) (s : State) :
    Frame 0x016028c4 s (State.imdResult r lb s) := by
  unfold State.imdResult
  dsimp only
  refine Frame.step (State.imdLimits_frames _ _ _) rfl ?_
  refine Frame.step (State.setFields_frames _ _) rfl ?_
  refine Frame.set_imd ?_ rfl
  exact Frame.refl _ _

theorem State.compareString_frames (s : State) :
    Frame 0x016024c4 s (State.compareString s) := by
  unfold State.compareString
  dsimp only
  split
  split
  refine Frame.step (State.raiseLevel_frames _ _ _ _ _) rfl ?_
  refine Frame.set_cur ?_ rfl
  exact Frame.refl _ _
  split
  refine Frame.set_cur ?_ rfl
  exact Frame.refl _ _
  refine Frame.step (State.goneAt_frames _ _ _) rfl ?_
  refine Frame.set_cur ?_ rfl
  exact Frame.refl _ _
  exact Frame.refl _ _

theorem execHallSupplyFault_frames (s : State) :
    Frame 0x016024c4 s (andThen execHallSupplyFault s) := by
  dsimp only [andThen, execHallSupplyFault]
  split
  refine Frame.step (State.raiseLevel_frames _ _ _ _ _) rfl ?_
  refine Frame.set_cur ?_ rfl
  exact Frame.refl _ _
  exact Frame.refl _ _

theorem State.releaseBank_frames (nn : Nat) (s : State) :
    Frame 0x00060344 s (State.releaseBank nn s) := by
  unfold State.releaseBank
  dsimp only
  refine forAll_frames ?_ ?_
  intro _
  intro _
  refine Frame.step (State.mdlReleased_frames _ _ _) rfl ?_
  refine Frame.step (State.goneAt_frames _ _ _) rfl ?_
  refine Frame.step (State.updCheck_frames _ _ _) rfl ?_
  exact Frame.refl _ _
  refine Frame.set_bal ?_ rfl
  refine Frame.step (State.updBank_frames _ _ _) rfl ?_
  refine Frame.step (State.toStep_frames _ _ _) rfl ?_
  refine Frame.step (State.setFields_frames _ _) rfl ?_
  exact Frame.refl _ _

theorem State.frozenSees_frames (nn : Nat) (p : Nat) (w : Nat) (s : State) :
    Frame 0x00000240 s (State.frozenSees nn p w s) := by
  unfold State.frozenSees
  split
  dsimp only
  split
  refine Frame.step (State.updCheck_frames _ _ _) rfl ?_
  exact Frame.refl _ _
  refine Frame.step (State.goneAt_frames _ _ _) rfl ?_
  refine Frame.step (State.updCheck_frames _ _ _) rfl ?_
  exact Frame.refl _ _
  refine Frame.step (State.updCheck_frames _ _ _) rfl ?_
  exact Frame.refl _ _

theorem State.tapFaults_frames (nn : Nat) (t : Nat) (cls : Nat) (prev : Nat) (meas : Nat) (s : State) :
    Frame 0x016022c4 s (State.tapFaults nn t cls prev meas s) := by
  unfold State.tapFaults
  split
  refine Frame.step (State.goneAt_frames _ _ _) rfl ?_
  refine Frame.step (State.goneAt_frames _ _ _) rfl ?_
  refine Frame.step (State.goneAt_frames _ _ _) rfl ?_
  refine Frame.step (State.updCheck_frames _ _ _) rfl ?_
  exact Frame.refl _ _
  split
  dsimp only
  split
  refine Frame.step (State.raiseLevel_frames _ _ _ _ _) rfl ?_
  refine doIf_frames ?_ ?_
  intro _
  refine Frame.step (State.wireLast_frames _ _ _ _ _) rfl ?_
  exact Frame.refl _ _
  refine Frame.step (State.updCheck_frames _ _ _) rfl ?_
  exact Frame.refl _ _
  refine Frame.step (State.raiseLevel_frames _ _ _ _ _) rfl ?_
  refine doIf_frames ?_ ?_
  intro _
  refine Frame.step (State.wireLast_frames _ _ _ _ _) rfl ?_
  exact Frame.refl _ _
  refine Frame.step (State.updCheck_frames _ _ _) rfl ?_
  exact Frame.refl _ _
  split
  refine Frame.step (State.raiseLevel_frames _ _ _ _ _) rfl ?_
  refine doIf_frames ?_ ?_
  intro _
  refine Frame.step (State.wireLast_frames _ _ _ _ _) rfl ?_
  exact Frame.refl _ _
  refine Frame.step (State.updCheck_frames _ _ _) rfl ?_
  exact Frame.refl _ _
  exact Frame.refl _ _

theorem State.judgeTap_frames (nn : Nat) (t : Nat) (s : State) :
    Frame 0x016022c4 s (State.judgeTap nn t s) := by
  unfold State.judgeTap
  dsimp only
  refine Frame.step (State.tapFaults_frames _ _ _ _ _ _) rfl ?_
  refine Frame.step (State.updCheck_frames _ _ _) rfl ?_
  exact Frame.refl _ _

theorem State.showWire_frames (nn : Nat) (s : State) :
    Frame 0x00000004 s (State.showWire nn s) := by
  unfold State.showWire
  dsimp only
  refine Frame.step (State.setFields_frames _ _) rfl ?_
  exact Frame.refl _ _

theorem State.openWirePass_frames (nn : Nat) (p : Nat) (s : State) :
    Frame 0x00000100 s (State.openWirePass nn p s) := by
  unfold State.openWirePass
  dsimp only
  split
  refine Frame.step (State.updBank_frames _ _ _) rfl ?_
  exact Frame.refl _ _
  exact Frame.refl _ _

theorem State.openWireSlot_frames (b : BankIn) (sl : Nat) (s : State) :
    Frame 0x016023c4 s (State.openWireSlot b sl s) := by
  unfold State.openWireSlot
  dsimp only
  split
  refine Frame.step (State.showWire_frames _ _) rfl ?_
  refine forAll_frames ?_ ?_
  intro _
  intro _
  refine Frame.step (State.openWirePass_frames _ _ _) rfl ?_
  exact Frame.refl _ _
  refine forAll_frames ?_ ?_
  intro _
  intro _
  refine Frame.step (State.judgeTap_frames _ _ _) rfl ?_
  exact Frame.refl _ _
  refine Frame.step (State.updCheck_frames _ _ _) rfl ?_
  exact Frame.refl _ _
  exact Frame.refl _ _

theorem State.keepRatio_frames (nn : Nat) (diff : ℚ) (mean : ℚ) (s : State) :
    Frame 0x016022c4 s (State.keepRatio nn diff mean s) := by
  unfold State.keepRatio
  split
  dsimp only
  refine Frame.step (State.level_frames _ _ _ _ _ _) rfl ?_
  refine Frame.step (State.updCheck_frames _ _ _) rfl ?_
  exact Frame.refl _ _
  exact Frame.refl _ _

theorem State.settleTick_frames (nn : Nat) (s : State) :
    Frame 0x00000004 s (State.settleTick nn s) := by
  unfold State.settleTick
  dsimp only
  refine Frame.step (State.setFlag_frames _ _ _) rfl ?_
  refine Frame.step (State.setReg_frames _ _ _) rfl ?_
  exact Frame.refl _ _

theorem State.bankSurvey_frames (nn : Nat) (words : List Nat) (s : State) :
    Frame 0x00000100 s (State.bankSurvey nn words s) := by
  unfold State.bankSurvey
  dsimp only
  split
  refine Frame.step (State.setBank_frames _ _ _) rfl ?_
  exact Frame.refl _ _
  exact Frame.refl _ _

theorem State.compareFineCoarse_frames (s : State) :
    Frame 0x016024c4 s (State.compareFineCoarse s) := by
  unfold State.compareFineCoarse
  dsimp only
  split
  split
  refine Frame.step (State.raiseLevel_frames _ _ _ _ _) rfl ?_
  refine Frame.set_cur ?_ rfl
  exact Frame.refl _ _
  split
  refine Frame.set_cur ?_ rfl
  exact Frame.refl _ _
  refine Frame.step (State.goneAt_frames _ _ _) rfl ?_
  refine Frame.set_cur ?_ rfl
  exact Frame.refl _ _
  exact Frame.refl _ _

theorem State.compareHall_frames (s : State) :
    Frame 0x016024c4 s (State.compareHall s) := by
  unfold State.compareHall
  dsimp only
  split
  split
  refine Frame.step (State.raiseLevel_frames _ _ _ _ _) rfl ?_
  refine Frame.set_cur ?_ rfl
  exact Frame.refl _ _
  split
  refine Frame.set_cur ?_ rfl
  exact Frame.refl _ _
  refine Frame.step (State.goneAt_frames _ _ _) rfl ?_
  refine Frame.set_cur ?_ rfl
  exact Frame.refl _ _
  exact Frame.refl _ _

theorem State.pathCompare_frames (s : State) :
    Frame 0x016024c4 s (State.pathCompare s) := by
  unfold State.pathCompare
  refine Frame.step (State.compareString_frames _) rfl ?_
  refine Frame.step (State.compareHall_frames _) rfl ?_
  refine Frame.step (State.compareFineCoarse_frames _) rfl ?_
  exact Frame.refl _ _

theorem execComparatorImplausible_frames (nn : Nat) (p : Nat) (s : State) :
    Frame 0x016020c4 s (andThen (execComparatorImplausible nn p) s) := by
  dsimp only [andThen, execComparatorImplausible]
  split
  refine Frame.step (State.raiseLevel_frames _ _ _ _ _) rfl ?_
  exact Frame.refl _ _
  exact Frame.refl _ _

theorem execBankShutdown_frames (nn : Nat) (k : Nat) (s : State) :
    Frame 0x016021c4 s (andThen (execBankShutdown nn k) s) := by
  dsimp only [andThen, execBankShutdown]
  split
  refine Frame.step (State.updBank_frames _ _ _) rfl ?_
  refine Frame.step (State.bankPowerOff_frames _ _) rfl ?_
  refine Frame.step (State.raise_frames _ _ _ _ _) rfl ?_
  exact Frame.refl _ _
  exact Frame.refl _ _

theorem execBnkCtrlWrite_frames (path : Path) (nn : Nat) (w : Word) (s : State) :
    Frame 0x0160a1c4 s (andThen (execBnkCtrlWrite path nn w) s) := by
  dsimp only [andThen, execBnkCtrlWrite]
  split
  refine Frame.step (State.bnkCtrlWrite_frames _ _ _ _) rfl ?_
  exact Frame.refl _ _
  exact Frame.refl _ _

theorem State.checkTray_frames (nn : Nat) (k : Nat) (t : Tray) (s : State) :
    Frame 0x016321c4 s (State.checkTray nn k t s) := by
  unfold State.checkTray
  dsimp only
  split
  split
  refine Frame.step (State.goneAt_frames _ _ _) rfl ?_
  refine Frame.step (State.updBank_frames _ _ _) rfl ?_
  refine Frame.step (State.showTray_frames _ _ _ _) rfl ?_
  exact Frame.refl _ _
  refine Frame.step (State.mdlNewTray_frames _ _ _) rfl ?_
  refine Frame.step (State.estNewTray_frames _ _ _) rfl ?_
  refine Frame.step (State.note_frames _ _ _ _) rfl ?_
  refine Frame.step (State.goneAt_frames _ _ _) rfl ?_
  refine Frame.step (State.updBank_frames _ _ _) rfl ?_
  refine Frame.step (State.showTray_frames _ _ _ _) rfl ?_
  exact Frame.refl _ _
  refine Frame.step (State.raiseLevel_frames _ _ _ _ _) rfl ?_
  refine Frame.step (State.updBank_frames _ _ _) rfl ?_
  refine Frame.step (State.showTray_frames _ _ _ _) rfl ?_
  exact Frame.refl _ _

theorem State.returnBranch_frames (nn : Nat) (k : Nat) (t : Tray) (s : State) :
    Frame 0x016321c4 s (State.returnBranch nn k t s) := by
  unfold State.returnBranch
  dsimp only
  split
  refine Frame.step (State.updBank_frames _ _ _) rfl ?_
  refine Frame.step (State.goneAt_frames _ _ _) rfl ?_
  refine Frame.step (State.goneAt_frames _ _ _) rfl ?_
  exact Frame.refl _ _
  split
  refine Frame.step (State.updBank_frames _ _ _) rfl ?_
  refine Frame.step (State.checkTray_frames _ _ _ _) rfl ?_
  refine Frame.step (State.updBank_frames _ _ _) rfl ?_
  refine Frame.step (State.goneAt_frames _ _ _) rfl ?_
  refine Frame.step (State.goneAt_frames _ _ _) rfl ?_
  exact Frame.refl _ _
  refine Frame.step (State.checkTray_frames _ _ _ _) rfl ?_
  refine Frame.step (State.updBank_frames _ _ _) rfl ?_
  refine Frame.step (State.goneAt_frames _ _ _) rfl ?_
  refine Frame.step (State.goneAt_frames _ _ _) rfl ?_
  exact Frame.refl _ _

theorem execBranchReturn_frames (nn : Nat) (k : Nat) (bytes : List Nat) (s : State) :
    Frame 0x016321c4 s (andThen (execBranchReturn nn k bytes) s) := by
  dsimp only [andThen, execBranchReturn]
  split
  refine Frame.step (State.returnBranch_frames _ _ _ _) rfl ?_
  exact Frame.refl _ _
  exact Frame.refl _ _

theorem State.nextDwell_frames (nn : Nat) (p : Nat) (retest : Bool) (s : State) :
    Frame 0x00000204 s (State.nextDwell nn p retest s) := by
  unfold State.nextDwell
  dsimp only
  refine Frame.step (State.setReg_frames _ _ _) rfl ?_
  refine Frame.step (State.setReg_frames _ _ _) rfl ?_
  refine Frame.step (State.updCheck_frames _ _ _) rfl ?_
  exact Frame.refl _ _

theorem State.dwellResult_frames (nn : Nat) (s : State) :
    Frame 0x016022c4 s (State.dwellResult nn s) := by
  unfold State.dwellResult
  dsimp only
  split
  split
  refine Frame.step (State.nextDwell_frames _ _ _ _) rfl ?_
  refine Frame.step (State.raiseAs_frames _ _ _ _ _ _ _) rfl ?_
  refine Frame.step (State.keepRatio_frames _ _ _ _) rfl ?_
  refine Frame.step (State.goneAt_frames _ _ _) rfl ?_
  refine Frame.step (State.updCheck_frames _ _ _) rfl ?_
  refine Frame.step (State.setFields_frames _ _) rfl ?_
  exact Frame.refl _ _
  refine Frame.step (State.nextDwell_frames _ _ _ _) rfl ?_
  refine Frame.step (State.addSat_frames _ _ _) rfl ?_
  refine Frame.step (State.raiseAs_frames _ _ _ _ _ _ _) rfl ?_
  refine Frame.step (State.keepRatio_frames _ _ _ _) rfl ?_
  refine Frame.step (State.goneAt_frames _ _ _) rfl ?_
  refine Frame.step (State.updCheck_frames _ _ _) rfl ?_
  refine Frame.step (State.setFields_frames _ _) rfl ?_
  exact Frame.refl _ _
  refine Frame.step (State.nextDwell_frames _ _ _ _) rfl ?_
  refine Frame.step (State.goneAt_frames _ _ _) rfl ?_
  refine Frame.step (State.goneAt_frames _ _ _) rfl ?_
  refine Frame.step (State.keepRatio_frames _ _ _ _) rfl ?_
  refine Frame.step (State.goneAt_frames _ _ _) rfl ?_
  refine Frame.step (State.updCheck_frames _ _ _) rfl ?_
  refine Frame.step (State.setFields_frames _ _) rfl ?_
  exact Frame.refl _ _

theorem execOutletRiseAlarm_frames (s : State) :
    Frame 0x016020c4 s (andThen execOutletRiseAlarm s) := by
  dsimp only [andThen, execOutletRiseAlarm]
  split
  refine Frame.step (State.raiseLevel_frames _ _ _ _ _) rfl ?_
  exact Frame.refl _ _
  exact Frame.refl _ _

theorem State.imdUnsettled_frames (r : ImdIn) (s : State) :
    Frame 0x016028c4 s (State.imdUnsettled r s) := by
  unfold State.imdUnsettled
  dsimp only
  split
  refine Frame.step (State.setReg_frames _ _ _) rfl ?_
  refine Frame.set_imd ?_ rfl
  exact Frame.refl _ _
  split
  refine Frame.set_imd ?_ rfl
  exact Frame.refl _ _
  refine Frame.step (State.imdResult_frames _ _ _) rfl ?_
  refine Frame.step (State.note_frames _ _ _ _) rfl ?_
  refine Frame.set_imd ?_ rfl
  exact Frame.refl _ _

theorem State.imdSettled_frames (r : ImdIn) (s : State) :
    Frame 0x016028c4 s (State.imdSettled r s) := by
  unfold State.imdSettled
  dsimp only
  split
  split
  split
  refine Frame.step (State.level_frames _ _ _ _ _ _) rfl ?_
  refine Frame.set_imd ?_ rfl
  refine Frame.step (State.setReg_frames _ _ _) rfl ?_
  refine Frame.set_imd ?_ rfl
  exact Frame.refl _ _
  refine Frame.step (State.imdResult_frames _ _ _) rfl ?_
  refine Frame.step (State.setReg_frames _ _ _) rfl ?_
  refine Frame.set_imd ?_ rfl
  exact Frame.refl _ _
  split
  refine Frame.step (State.level_frames _ _ _ _ _ _) rfl ?_
  refine Frame.set_imd ?_ rfl
  refine Frame.step (State.setReg_frames _ _ _) rfl ?_
  refine Frame.set_imd ?_ rfl
  exact Frame.refl _ _
  refine Frame.step (State.imdResult_frames _ _ _) rfl ?_
  refine Frame.step (State.setReg_frames _ _ _) rfl ?_
  refine Frame.set_imd ?_ rfl
  exact Frame.refl _ _
  split
  split
  refine Frame.step (State.level_frames _ _ _ _ _ _) rfl ?_
  refine Frame.set_imd ?_ rfl
  refine Frame.step (State.setReg_frames _ _ _) rfl ?_
  refine Frame.set_imd ?_ rfl
  exact Frame.refl _ _
  refine Frame.step (State.imdResult_frames _ _ _) rfl ?_
  refine Frame.step (State.setReg_frames _ _ _) rfl ?_
  refine Frame.set_imd ?_ rfl
  exact Frame.refl _ _
  split
  refine Frame.step (State.level_frames _ _ _ _ _ _) rfl ?_
  refine Frame.set_imd ?_ rfl
  refine Frame.step (State.setReg_frames _ _ _) rfl ?_
  refine Frame.set_imd ?_ rfl
  exact Frame.refl _ _
  refine Frame.step (State.imdResult_frames _ _ _) rfl ?_
  refine Frame.step (State.setReg_frames _ _ _) rfl ?_
  refine Frame.set_imd ?_ rfl
  exact Frame.refl _ _

theorem execImdPeriodEnd_frames (r : ImdIn) (s : State) :
    Frame 0x016028c4 s (andThen (execImdPeriodEnd r) s) := by
  dsimp only [andThen, execImdPeriodEnd]
  split
  split
  refine Frame.step (State.imdUnsettled_frames _ _) rfl ?_
  exact Frame.refl _ _
  refine Frame.step (State.imdSettled_frames _ _) rfl ?_
  exact Frame.refl _ _
  exact Frame.refl _ _

theorem State.bleedRead_frames (nn : Nat) (p : Nat) (i : Nat) (s : State) :
    Frame 0x016422c4 s (State.bleedRead nn p i s) := by
  unfold State.bleedRead
  split
  exact Frame.refl _ _
  dsimp only
  split
  split
  refine Frame.step (State.raiseLevel_frames _ _ _ _ _) rfl ?_
  refine Frame.step (State.updCheck_frames _ _ _) rfl ?_
  refine Frame.step (State.updCheck_frames _ _ _) rfl ?_
  refine Frame.set_bal ?_ rfl
  exact Frame.refl _ _
  split
  refine Frame.step (State.updCheck_frames _ _ _) rfl ?_
  refine Frame.set_bal ?_ rfl
  exact Frame.refl _ _
  refine Frame.step (State.goneAt_frames _ _ _) rfl ?_
  refine Frame.step (State.updCheck_frames _ _ _) rfl ?_
  refine Frame.step (State.updCheck_frames _ _ _) rfl ?_
  refine Frame.set_bal ?_ rfl
  exact Frame.refl _ _
  split
  refine Frame.step (State.raiseLevel_frames _ _ _ _ _) rfl ?_
  refine Frame.step (State.updCheck_frames _ _ _) rfl ?_
  refine Frame.step (State.updCheck_frames _ _ _) rfl ?_
  refine Frame.set_bal ?_ rfl
  exact Frame.refl _ _
  split
  refine Frame.step (State.updCheck_frames _ _ _) rfl ?_
  refine Frame.set_bal ?_ rfl
  exact Frame.refl _ _
  refine Frame.step (State.goneAt_frames _ _ _) rfl ?_
  refine Frame.step (State.updCheck_frames _ _ _) rfl ?_
  refine Frame.step (State.updCheck_frames _ _ _) rfl ?_
  refine Frame.set_bal ?_ rfl
  exact Frame.refl _ _

theorem execFrozenWord_frames (nn : Nat) (p : Nat) (s : State) :
    Frame 0x016020c4 s (andThen (execFrozenWord nn p) s) := by
  dsimp only [andThen, execFrozenWord]
  split
  refine Frame.step (State.raiseLevel_frames _ _ _ _ _) rfl ?_
  exact Frame.refl _ _
  exact Frame.refl _ _

theorem execImdRelayFault_frames (feedback : Bool) (ms : Nat) (s : State) :
    Frame 0x016028c4 s (andThen (execImdRelayFault feedback ms) s) := by
  dsimp only [andThen, execImdRelayFault]
  split
  refine Frame.step (State.goneAt_frames _ _ _) rfl ?_
  refine Frame.set_imd ?_ rfl
  exact Frame.refl _ _
  split
  refine Frame.step (State.raiseLevel_frames _ _ _ _ _) rfl ?_
  refine Frame.set_imd ?_ rfl
  exact Frame.refl _ _
  refine Frame.set_imd ?_ rfl
  exact Frame.refl _ _

theorem State.bankTurnStart_frames (nn : Nat) (s : State) :
    Frame 0x00000304 s (State.bankTurnStart nn s) := by
  unfold State.bankTurnStart
  dsimp only
  refine Frame.step (State.showCFlags_frames _ _) rfl ?_
  refine Frame.step (State.updCheck_frames _ _ _) rfl ?_
  split
  refine Frame.step (State.updBank_frames _ _ _) rfl ?_
  refine Frame.step (State.setReg_frames _ _ _) rfl ?_
  exact Frame.refl _ _
  exact Frame.refl _ _

theorem State.checksCut_frames (nn : Nat) (npos : Nat) (s : State) :
    Frame 0x00000204 s (State.checksCut nn npos s) := by
  unfold State.checksCut
  dsimp only
  split
  refine Frame.step (State.setReg_frames _ _ _) rfl ?_
  refine Frame.step (State.setReg_frames _ _ _) rfl ?_
  refine Frame.step (State.updCheck_frames _ _ _) rfl ?_
  refine Frame.step (State.setCheck_frames _ _ _) rfl ?_
  exact Frame.refl _ _
  refine Frame.step (State.setCheck_frames _ _ _) rfl ?_
  exact Frame.refl _ _

theorem State.rediscover_frames (nn : Nat) (s : State) :
    Frame 0x00000304 s (State.rediscover nn s) := by
  unfold State.rediscover
  refine Frame.step (State.toStep_frames _ _ _) rfl ?_
  refine Frame.step (State.updBank_frames _ _ _) rfl ?_
  refine Frame.step (State.setFields_frames _ _) rfl ?_
  refine Frame.step (State.checksCut_frames _ _ _) rfl ?_
  exact Frame.refl _ _

theorem State.applyConfig_frames (nn : Nat) (s : State) :
    Frame 0x00000304 s (State.applyConfig nn s) := by
  unfold State.applyConfig
  dsimp only
  split
  refine Frame.step (State.bankAdded_frames _ _) rfl ?_
  exact Frame.refl _ _
  split
  refine Frame.step (State.updBank_frames _ _ _) rfl ?_
  refine Frame.step (State.bankPowerOff_frames _ _) rfl ?_
  exact Frame.refl _ _
  split
  split
  refine Frame.step (State.rediscover_frames _ _) rfl ?_
  exact Frame.refl _ _
  refine Frame.step (State.updBank_frames _ _ _) rfl ?_
  exact Frame.refl _ _
  exact Frame.refl _ _

theorem State.signature_frames (b : BankIn) (s : State) :
    Frame 0x016022c4 s (State.signature b s) := by
  unfold State.signature
  dsimp only
  split
  split
  split
  exact Frame.refl _ _
  refine Frame.step (State.raiseLevel_frames _ _ _ _ _) rfl ?_
  refine Frame.step (State.updCheck_frames _ _ _) rfl ?_
  exact Frame.refl _ _
  split
  exact Frame.refl _ _
  refine Frame.step (State.raiseLevel_frames _ _ _ _ _) rfl ?_
  refine Frame.step (State.updCheck_frames _ _ _) rfl ?_
  exact Frame.refl _ _
  exact Frame.refl _ _

theorem State.dacReadback_frames (b : BankIn) (s : State) :
    Frame 0x016022c4 s (State.dacReadback b s) := by
  unfold State.dacReadback
  split
  refine forEach_frames ?_ ?_
  intro _
  intro _
  refine Frame.step (State.dacRead_frames _ _ _ _) rfl ?_
  exact Frame.refl _ _
  exact Frame.refl _ _
  exact Frame.refl _ _

theorem State.loseBranch_frames (nn : Nat) (k : Nat) (s : State) :
    Frame 0x016021c4 s (State.loseBranch nn k s) := by
  unfold State.loseBranch
  dsimp only
  split
  refine Frame.step (State.raiseLevel_frames _ _ _ _ _) rfl ?_
  refine Frame.step (State.updBank_frames _ _ _) rfl ?_
  refine Frame.step (State.setBit_frames _ _ _ _) rfl ?_
  exact Frame.refl _ _
  refine Frame.step (State.raiseLevel_frames _ _ _ _ _) rfl ?_
  refine Frame.step (State.updBank_frames _ _ _) rfl ?_
  refine Frame.step (State.setBit_frames _ _ _ _) rfl ?_
  exact Frame.refl _ _

theorem execCheckDwellEnd_frames (nn : Nat) (s : State) :
    Frame 0x016022c4 s (andThen (execCheckDwellEnd nn) s) := by
  dsimp only [andThen, execCheckDwellEnd]
  split
  split
  refine Frame.step (State.nextDwell_frames _ _ _ _) rfl ?_
  refine doIf_frames ?_ ?_
  intro _
  refine Frame.step (State.goneAt_frames _ _ _) rfl ?_
  exact Frame.refl _ _
  exact Frame.refl _ _
  refine Frame.step (State.dwellResult_frames _ _) rfl ?_
  refine doIf_frames ?_ ?_
  intro _
  refine Frame.step (State.goneAt_frames _ _ _) rfl ?_
  exact Frame.refl _ _
  exact Frame.refl _ _
  exact Frame.refl _ _

theorem execBankRelease_frames (nn : Nat) (s : State) :
    Frame 0x00060344 s (andThen (execBankRelease nn) s) := by
  dsimp only [andThen, execBankRelease]
  split
  refine Frame.step (State.releaseBank_frames _ _) rfl ?_
  exact Frame.refl _ _
  exact Frame.refl _ _

theorem State.normFailed_frames (nn : Nat) (p : Nat) (s : State) :
    Frame 0x016021c4 s (State.normFailed nn p s) := by
  unfold State.normFailed
  dsimp only
  split
  split
  refine Frame.step (State.updBank_frames _ _ _) rfl ?_
  refine Frame.step (State.raiseLevel_frames _ _ _ _ _) rfl ?_
  exact Frame.refl _ _
  refine Frame.step (State.raiseLevel_frames _ _ _ _ _) rfl ?_
  exact Frame.refl _ _
  refine Frame.step (State.updBank_frames _ _ _) rfl ?_
  refine Frame.step (State.toStep_frames _ _ _) rfl ?_
  refine Frame.step (State.raiseLevel_frames _ _ _ _ _) rfl ?_
  exact Frame.refl _ _

theorem State.normPassed_frames (nn : Nat) (p : Nat) (s : State) :
    Frame 0x00000100 s (State.normPassed nn p s) := by
  unfold State.normPassed
  dsimp only
  split
  split
  refine Frame.step (State.updBank_frames _ _ _) rfl ?_
  refine Frame.step (State.updBank_frames _ _ _) rfl ?_
  exact Frame.refl _ _
  refine Frame.step (State.updBank_frames _ _ _) rfl ?_
  exact Frame.refl _ _
  refine Frame.step (State.updBank_frames _ _ _) rfl ?_
  exact Frame.refl _ _

theorem execNormalRangeCheck_frames (nn : Nat) (p : Nat) (s : State) :
    Frame 0x016021c4 s (andThen (execNormalRangeCheck nn p) s) := by
  dsimp only [andThen, execNormalRangeCheck]
  split
  split
  refine Frame.step (State.normFailed_frames _ _ _) rfl ?_
  exact Frame.refl _ _
  refine Frame.step (State.normPassed_frames _ _ _) rfl ?_
  exact Frame.refl _ _
  exact Frame.refl _ _

theorem execBankWarning_frames (nn : Nat) (k : Nat) (s : State) :
    Frame 0x016020c4 s (andThen (execBankWarning nn k) s) := by
  dsimp only [andThen, execBankWarning]
  split
  refine Frame.step (State.raiseLevel_frames _ _ _ _ _) rfl ?_
  exact Frame.refl _ _
  exact Frame.refl _ _

theorem State.curLocked_frames (r : LaneIn) (s : State) :
    Frame 0x016024c4 s (State.curLocked r s) := by
  unfold State.curLocked
  dsimp only
  refine Frame.step (State.level_frames _ _ _ _ _ _) rfl ?_
  refine Frame.step (State.goneAt_frames _ _ _) rfl ?_
  refine Frame.step (State.setFields_frames _ _) rfl ?_
  refine Frame.set_cur ?_ rfl
  exact Frame.refl _ _

theorem State.laneLocked_frames (nn : Nat) (r : LaneIn) (s : State) :
    Frame 0x016021c4 s (State.laneLocked nn r s) := by
  unfold State.laneLocked
  dsimp only
  refine Frame.step (State.toStep_frames _ _ _) rfl ?_
  refine Frame.step (State.goneAt_frames _ _ _) rfl ?_
  split
  refine Frame.step (State.setReg_frames _ _ _) rfl ?_
  refine Frame.step (State.setFields_frames _ _) rfl ?_
  refine Frame.step (State.setBank_frames _ _ _) rfl ?_
  exact Frame.refl _ _
  refine Frame.step (State.raiseLevel_frames _ _ _ _ _) rfl ?_
  refine Frame.step (State.setFields_frames _ _) rfl ?_
  refine Frame.step (State.setBank_frames _ _ _) rfl ?_
  exact Frame.refl _ _

theorem State.laneFailed_frames (nn : Nat) (s : State) :
    Frame 0x016021c4 s (State.laneFailed nn s) := by
  unfold State.laneFailed
  refine Frame.step (State.toStep_frames _ _ _) rfl ?_
  refine Frame.step (State.raiseLevel_frames _ _ _ _ _) rfl ?_
  exact Frame.refl _ _

theorem execLaneLock_frames (nn : Nat) (r : LaneIn) (s : State) :
    Frame 0x016025c4 s (andThen (execLaneLock nn r) s) := by
  dsimp only [andThen, execLaneLock]
  split
  split
  split
  refine Frame.step (State.curLocked_frames _ _) rfl ?_
  exact Frame.refl _ _
  refine Frame.step (State.raiseLevel_frames _ _ _ _ _) rfl ?_
  refine Frame.set_cur ?_ rfl
  exact Frame.refl _ _
  exact Frame.refl _ _
  split
  split
  refine Frame.step (State.laneLocked_frames _ _ _) rfl ?_
  exact Frame.refl _ _
  refine Frame.step (State.laneFailed_frames _ _) rfl ?_
  exact Frame.refl _ _
  exact Frame.refl _ _

theorem State.afterTrays_frames (nn : Nat) (s : State) :
    Frame 0x00000100 s (State.afterTrays nn s) := by
  unfold State.afterTrays
  split
  dsimp only
  refine Frame.step (State.updBank_frames _ _ _) rfl ?_
  refine Frame.step (State.toStep_frames _ _ _) rfl ?_
  exact Frame.refl _ _
  refine Frame.step (State.updBank_frames _ _ _) rfl ?_
  refine Frame.step (State.selectRange_frames _ _ _) rfl ?_
  refine Frame.step (State.toStep_frames _ _ _) rfl ?_
  exact Frame.refl _ _

theorem execTrayIdCheck_frames (nn : Nat) (k : Nat) (bytes : List Nat) (s : State) :
    Frame 0x016321c4 s (andThen (execTrayIdCheck nn k bytes) s) := by
  dsimp only [andThen, execTrayIdCheck]
  split
  split
  refine Frame.step (State.checkTray_frames _ _ _ _) rfl ?_
  exact Frame.refl _ _
  refine Frame.step (State.afterTrays_frames _ _) rfl ?_
  refine Frame.step (State.checkTray_frames _ _ _ _) rfl ?_
  exact Frame.refl _ _
  exact Frame.refl _ _

theorem State.bankNorm_frames (nn : Nat) (words : List Nat) (s : State) :
    Frame 0x00000100 s (State.bankNorm nn words s) := by
  unfold State.bankNorm
  refine Frame.step (State.updBank_frames _ _ _) rfl ?_
  exact Frame.refl _ _

theorem State.bankRoundTrip_frames (nn : Nat) (rt : Option ℤ) (s : State) :
    Frame 0x00000144 s (State.bankRoundTrip nn rt s) := by
  unfold State.bankRoundTrip
  dsimp only
  split
  refine Frame.step (State.goneAt_frames _ _ _) rfl ?_
  refine Frame.step (State.setReg_frames _ _ _) rfl ?_
  refine Frame.step (State.setBank_frames _ _ _) rfl ?_
  exact Frame.refl _ _
  refine Frame.step (State.setReg_frames _ _ _) rfl ?_
  refine Frame.step (State.setBank_frames _ _ _) rfl ?_
  exact Frame.refl _ _

theorem State.bankStrikeTail_frames (b : BankIn) (words : List Nat) (s : State) :
    Frame 0x00020344 s (State.bankStrikeTail b words s) := by
  unfold State.bankStrikeTail
  dsimp only
  refine Frame.step (State.bankProgress_frames _ _) rfl ?_
  refine Frame.step (State.settleTick_frames _ _) rfl ?_
  refine doIf_frames ?_ ?_
  intro _
  refine Frame.step (State.bankRoundTrip_frames _ _ _) rfl ?_
  exact Frame.refl _ _
  split
  split
  refine Frame.step (State.bankSurvey_frames _ _ _) rfl ?_
  refine Frame.step (State.bankNorm_frames _ _ _) rfl ?_
  exact Frame.refl _ _
  refine Frame.step (State.bankNorm_frames _ _ _) rfl ?_
  exact Frame.refl _ _
  split
  refine Frame.step (State.bankSurvey_frames _ _ _) rfl ?_
  exact Frame.refl _ _
  exact Frame.refl _ _

theorem execDieWarning_frames (s : State) :
    Frame 0x016220c4 s (andThen execDieWarning s) := by
  dsimp only [andThen, execDieWarning]
  split
  refine Frame.step (State.mdlSuspend_frames _) rfl ?_
  refine Frame.step (State.setFields_frames _ _) rfl ?_
  refine Frame.step (State.raiseLevel_frames _ _ _ _ _) rfl ?_
  exact Frame.refl _ _
  exact Frame.refl _ _

theorem execImdSelfTest_frames (s : State) :
    Frame 0x00000800 s (andThen execImdSelfTest s) := by
  dsimp only [andThen, execImdSelfTest]
  split
  refine Frame.set_imd ?_ rfl
  exact Frame.refl _ _
  exact Frame.refl _ _

theorem execBankDiscovery_frames (nn : Nat) (s : State) :
    Frame 0x00000100 s (andThen (execBankDiscovery nn) s) := by
  dsimp only [andThen, execBankDiscovery]
  split
  refine Frame.step (State.updBank_frames _ _ _) rfl ?_
  refine Frame.step (State.toStep_frames _ _ _) rfl ?_
  exact Frame.refl _ _
  exact Frame.refl _ _

theorem State.applyCurCorners_frames (s : State) :
    Frame 0x00000404 s (State.applyCurCorners s) := by
  unfold State.applyCurCorners
  dsimp only
  refine Frame.step (State.showCur_frames _) rfl ?_
  refine Frame.set_cur ?_ rfl
  exact Frame.refl _ _

theorem execFilterChangeApply_frames (s : State) :
    Frame 0x00000704 s (andThen execFilterChangeApply s) := by
  dsimp only [andThen, execFilterChangeApply]
  split
  refine Frame.step (State.applyCurCorners_frames _) rfl ?_
  refine Frame.step (State.applyChanges_frames _) rfl ?_
  exact Frame.refl _ _
  exact Frame.refl _ _

theorem State.branchPresence_frames (nn : Nat) (pres : Nat) (k : Nat) (s : State) :
    Frame 0x00000104 s (State.branchPresence nn pres k s) := by
  unfold State.branchPresence
  dsimp only
  refine Frame.step (State.updBank_frames _ _ _) rfl ?_
  refine Frame.step (State.setFlag_frames _ _ _) rfl ?_
  refine Frame.step (State.setBit_frames _ _ _ _) rfl ?_
  exact Frame.refl _ _

theorem State.comparatorTest_frames (b : BankIn) (s : State) :
    Frame 0x016022c4 s (State.comparatorTest b s) := by
  unfold State.comparatorTest
  dsimp only
  split
  split
  refine Frame.step (State.goneAt_frames _ _ _) rfl ?_
  refine Frame.step (State.updCheck_frames _ _ _) rfl ?_
  exact Frame.refl _ _
  split
  refine Frame.step (State.updCheck_frames _ _ _) rfl ?_
  exact Frame.refl _ _
  refine Frame.step (State.raiseLevel_frames _ _ _ _ _) rfl ?_
  refine Frame.step (State.updCheck_frames _ _ _) rfl ?_
  exact Frame.refl _ _
  exact Frame.refl _ _

theorem execThmConfigWrite_frames (path : Path) (off : Nat) (w : Word) (s : State) :
    Frame 0x0160a0c4 s (andThen (execThmConfigWrite path off w) s) := by
  dsimp only [andThen, execThmConfigWrite]
  split
  refine Frame.step (State.thmConfigWrite_frames _ _ _ _) rfl ?_
  exact Frame.refl _ _
  exact Frame.refl _ _

theorem State.bankStrikeHead_frames (b : BankIn) (s : State) :
    Frame 0x00000344 s (State.bankStrikeHead b s) := by
  unfold State.bankStrikeHead
  dsimp only
  split
  refine forEach_frames ?_ ?_
  intro _
  intro _
  refine Frame.step (State.branchPresence_frames _ _ _ _) rfl ?_
  exact Frame.refl _ _
  refine Frame.step (State.bankRelay_frames _ _ _) rfl ?_
  refine doIf_frames ?_ ?_
  intro _
  refine Frame.step (State.bankTurnStart_frames _ _) rfl ?_
  exact Frame.refl _ _
  exact Frame.refl _ _
  refine doIf_frames ?_ ?_
  intro _
  refine Frame.step (State.bankTurnStart_frames _ _) rfl ?_
  exact Frame.refl _ _
  exact Frame.refl _ _

theorem execCheckCoverageLapse_frames (nn : Nat) (p : Nat) (s : State) :
    Frame 0x016020c4 s (andThen (execCheckCoverageLapse nn p) s) := by
  dsimp only [andThen, execCheckCoverageLapse]
  split
  refine Frame.step (State.raiseLevel_frames _ _ _ _ _) rfl ?_
  exact Frame.refl _ _
  exact Frame.refl _ _

theorem State.pulseRead_frames (nn : Nat) (p : Nat) (i : Nat) (x : Nat) (s : State) :
    Frame 0x016023c4 s (State.pulseRead nn p i x s) := by
  unfold State.pulseRead
  dsimp only
  split
  refine Frame.step (State.updBank_frames _ _ _) rfl ?_
  refine Frame.step (State.goneAt_frames _ _ _) rfl ?_
  refine Frame.step (State.goneAt_frames _ _ _) rfl ?_
  refine Frame.step (State.updCheck_frames _ _ _) rfl ?_
  refine Frame.step (State.updCheck_frames _ _ _) rfl ?_
  exact Frame.refl _ _
  split
  refine Frame.step (State.raiseLevel_frames _ _ _ _ _) rfl ?_
  refine doIf_frames ?_ ?_
  intro _
  refine Frame.step (State.wireLast_frames _ _ _ _ _) rfl ?_
  exact Frame.refl _ _
  refine Frame.step (State.updCheck_frames _ _ _) rfl ?_
  split
  refine Frame.step (State.raiseLevel_frames _ _ _ _ _) rfl ?_
  refine doIf_frames ?_ ?_
  intro _
  refine Frame.step (State.wireLast_frames _ _ _ _ _) rfl ?_
  exact Frame.refl _ _
  refine Frame.step (State.updCheck_frames _ _ _) rfl ?_
  refine Frame.step (State.updCheck_frames _ _ _) rfl ?_
  refine Frame.step (State.updCheck_frames _ _ _) rfl ?_
  exact Frame.refl _ _
  refine Frame.step (State.updCheck_frames _ _ _) rfl ?_
  refine Frame.step (State.updCheck_frames _ _ _) rfl ?_
  exact Frame.refl _ _
  split
  refine Frame.step (State.raiseLevel_frames _ _ _ _ _) rfl ?_
  refine doIf_frames ?_ ?_
  intro _
  refine Frame.step (State.wireLast_frames _ _ _ _ _) rfl ?_
  exact Frame.refl _ _
  refine Frame.step (State.updCheck_frames _ _ _) rfl ?_
  refine Frame.step (State.updCheck_frames _ _ _) rfl ?_
  refine Frame.step (State.updCheck_frames _ _ _) rfl ?_
  exact Frame.refl _ _
  refine Frame.step (State.updCheck_frames _ _ _) rfl ?_
  refine Frame.step (State.updCheck_frames _ _ _) rfl ?_
  exact Frame.refl _ _

theorem execCurCtrlWrite_frames (path : Path) (w : Word) (s : State) :
    Frame 0x0160a0c4 s (andThen (execCurCtrlWrite path w) s) := by
  dsimp only [andThen, execCurCtrlWrite]
  split
  exact Frame.refl _ _
  refine Frame.step (State.curCtrlWrite_frames _ _ _) rfl ?_
  exact Frame.refl _ _

theorem execRelayFeedbackFault_frames (nn : Nat) (s : State) :
    Frame 0x016020c4 s (andThen (execRelayFeedbackFault nn) s) := by
  dsimp only [andThen, execRelayFeedbackFault]
  split
  refine Frame.step (State.raiseLevel_frames _ _ _ _ _) rfl ?_
  exact Frame.refl _ _
  exact Frame.refl _ _

theorem execAlignmentLost_frames (nn : Nat) (s : State) :
    Frame 0x016020c4 s (andThen (execAlignmentLost nn) s) := by
  dsimp only [andThen, execAlignmentLost]
  split
  split
  refine Frame.step (State.raiseLevel_frames _ _ _ _ _) rfl ?_
  refine Frame.step (State.setFlag_frames _ _ _) rfl ?_
  exact Frame.refl _ _
  exact Frame.refl _ _
  split
  split
  refine Frame.step (State.raiseLevel_frames _ _ _ _ _) rfl ?_
  refine Frame.step (State.setFlag_frames _ _ _) rfl ?_
  exact Frame.refl _ _
  split
  refine Frame.step (State.raiseLevel_frames _ _ _ _ _) rfl ?_
  exact Frame.refl _ _
  exact Frame.refl _ _
  exact Frame.refl _ _

theorem execDieCooled_frames (s : State) :
    Frame 0x00000004 s (andThen execDieCooled s) := by
  dsimp only [andThen, execDieCooled]
  split
  refine Frame.step (State.setFields_frames _ _) rfl ?_
  exact Frame.refl _ _
  exact Frame.refl _ _

theorem State.pulseOne_frames (ok : Bool) (nn : Nat) (p : Nat) (i : Nat) (x : Nat) (s : State) :
    Frame 0x016423c4 s (State.pulseOne ok nn p i x s) := by
  unfold State.pulseOne
  split
  exact Frame.refl _ _
  split
  dsimp only
  split
  refine Frame.set_bal ?_ rfl
  refine Frame.step (State.updCheck_frames _ _ _) rfl ?_
  exact Frame.refl _ _
  refine Frame.step (State.updCheck_frames _ _ _) rfl ?_
  exact Frame.refl _ _
  split
  refine Frame.step (State.pulseRead_frames _ _ _ _ _) rfl ?_
  exact Frame.refl _ _
  refine Frame.step (State.updCheck_frames _ _ _) rfl ?_
  exact Frame.refl _ _

theorem State.pulseSlot_frames (ok : Bool) (b : BankIn) (sl : Nat) (s : State) :
    Frame 0x016423c4 s (State.pulseSlot ok b sl s) := by
  unfold State.pulseSlot
  refine Frame.step (State.showWire_frames _ _) rfl ?_
  refine Frame.step (State.pulseOne_frames _ _ _ _ _ _) rfl ?_
  refine Frame.step (State.pulseOne_frames _ _ _ _ _ _) rfl ?_
  exact Frame.refl _ _

theorem execBranchLost_frames (nn : Nat) (k : Nat) (s : State) :
    Frame 0x016021c4 s (andThen (execBranchLost nn k) s) := by
  dsimp only [andThen, execBranchLost]
  split
  refine Frame.step (State.loseBranch_frames _ _ _) rfl ?_
  exact Frame.refl _ _
  exact Frame.refl _ _

theorem State.dwellBegin_frames (nn : Nat) (s : State) :
    Frame 0x00000204 s (State.dwellBegin nn s) := by
  unfold State.dwellBegin
  split
  split
  exact Frame.refl _ _
  dsimp only
  refine Frame.step (State.setReg_frames _ _ _) rfl ?_
  refine Frame.step (State.setReg_frames _ _ _) rfl ?_
  refine Frame.step (State.updCheck_frames _ _ _) rfl ?_
  exact Frame.refl _ _
  refine Frame.step (State.updCheck_frames _ _ _) rfl ?_
  exact Frame.refl _ _

theorem execBankConfigApply_frames (s : State) :
    Frame 0x00000304 s (andThen execBankConfigApply s) := by
  dsimp only [andThen, execBankConfigApply]
  split
  refine forEach_frames ?_ ?_
  intro _
  intro _
  refine Frame.step (State.applyConfig_frames _ _) rfl ?_
  exact Frame.refl _ _
  exact Frame.refl _ _
  exact Frame.refl _ _

theorem execDieSensorImplausible_frames (k : Nat) (s : State) :
    Frame 0x016030c4 s (andThen (execDieSensorImplausible k) s) := by
  dsimp only [andThen, execDieSensorImplausible]
  split
  split
  split
  refine Frame.step (State.raiseLevel_frames _ _ _ _ _) rfl ?_
  refine Frame.step (State.raiseLevel_frames _ _ _ _ _) rfl ?_
  refine Frame.step (State.setBit_frames _ _ _ _) rfl ?_
  exact Frame.refl _ _
  refine Frame.step (State.raiseLevel_frames _ _ _ _ _) rfl ?_
  refine Frame.step (State.setBit_frames _ _ _ _) rfl ?_
  exact Frame.refl _ _
  exact Frame.refl _ _
  split
  refine Frame.step (State.raiseLevel_frames _ _ _ _ _) rfl ?_
  refine Frame.set_thm ?_ rfl
  exact Frame.refl _ _
  exact Frame.refl _ _

theorem State.wiringSlot_frames (b : BankIn) (s : State) :
    Frame 0x016423c4 s (State.wiringSlot b s) := by
  unfold State.wiringSlot
  dsimp only
  split
  split
  refine Frame.step (State.pulseSlot_frames _ _ _ _) rfl ?_
  split
  refine Frame.step (State.bleedRead_frames _ _ _ _) rfl ?_
  refine Frame.step (State.bleedRead_frames _ _ _ _) rfl ?_
  refine Frame.step (State.slotSpan_frames _ _) rfl ?_
  exact Frame.refl _ _
  refine Frame.step (State.slotSpan_frames _ _) rfl ?_
  exact Frame.refl _ _
  split
  refine Frame.step (State.openWireSlot_frames _ _ _) rfl ?_
  refine Frame.step (State.bleedRead_frames _ _ _ _) rfl ?_
  refine Frame.step (State.bleedRead_frames _ _ _ _) rfl ?_
  refine Frame.step (State.slotSpan_frames _ _) rfl ?_
  exact Frame.refl _ _
  refine Frame.step (State.slotSpan_frames _ _) rfl ?_
  exact Frame.refl _ _
  refine Frame.step (State.slotSpan_frames _ _) rfl ?_
  exact Frame.refl _ _

theorem State.checksStrike_frames (b : BankIn) (words : List Nat) (s : State) :
    Frame 0x016423c4 s (State.checksStrike b words s) := by
  unfold State.checksStrike
  dsimp only
  refine Frame.step (State.wiringSlot_frames _ _) rfl ?_
  refine Frame.step (State.dacReadback_frames _ _) rfl ?_
  refine Frame.step (State.comparatorTest_frames _ _) rfl ?_
  refine Frame.step (State.signature_frames _ _) rfl ?_
  split
  refine forAll_frames ?_ ?_
  intro _
  intro _
  refine Frame.step (State.plausSees_frames _ _ _ _) rfl ?_
  refine Frame.step (State.frozenSees_frames _ _ _ _) rfl ?_
  exact Frame.refl _ _
  refine Frame.step (State.windowStrike_frames _ _ _) rfl ?_
  refine Frame.step (State.dwellBegin_frames _ _) rfl ?_
  exact Frame.refl _ _
  refine Frame.step (State.windowStrike_frames _ _ _) rfl ?_
  refine Frame.step (State.dwellBegin_frames _ _) rfl ?_
  exact Frame.refl _ _

end Sys2Proof.Machine
end

