-- ==== Sys2Proof/Laws/FrameSafety.lean ====
section
/-! SUPPORT. Frames of Sluice, the safety inputs, the telegrams and the configuration authority: the parts of the state that each definition may change. -/
namespace Sys2Proof.Machine

theorem State.setWeldLock_frames (s : State) : Frame 0x00002000 s s.setWeldLock := by
  constructor
  case ramWf => exact id
  case weld => exact fun _ x => rfl
  case dead => exact id
  case calm => exact id
  all_goals first | rfl | exact fun _ => rfl | exact fun x => absurd x (by decide)

theorem State.txPut_frames (n : Nat) (f : TxFrame) (s : State) :
    Frame 0x02000000 s (State.txPut n f s) := by
  unfold State.txPut
  split
  refine Frame.set_net ?_ rfl
  exact Frame.refl _ _
  exact Frame.refl _ _

theorem State.updTg_frames (k : Nat) (f : TgConn → TgConn) (s : State) :
    Frame 0x00004000 s (State.updTg k f s) := by
  unfold State.updTg
  refine Frame.set_sio ?_ rfl
  exact Frame.refl _ _

theorem State.abandonNow_frames (s : State) :
    Frame 0x00002004 s (State.abandonNow s) := by
  unfold State.abandonNow
  refine Frame.step (State.toSeq_frames _ _) rfl ?_
  refine Frame.step (State.setFlag_frames _ _ _) rfl ?_
  refine Frame.step (State.setConn_frames _ _) rfl ?_
  refine Frame.step (State.inhibit_frames _ _) rfl ?_
  refine Frame.step (State.coilsOff_frames _) rfl ?_
  exact Frame.refl _ _

theorem State.saRegs_frames (s : State) :
    Frame 0x00000004 s (State.saRegs s) := by
  unfold State.saRegs
  refine Frame.step (State.setFields_frames _ _) rfl ?_
  exact Frame.refl _ _

theorem State.sessionAbort_frames (s : State) :
    Frame 0x4000a004 s (State.sessionAbort s) := by
  unfold State.sessionAbort
  dsimp only
  split
  exact Frame.refl _ _
  refine Frame.step (State.saRegs_frames _) rfl ?_
  refine Frame.set_slu_auth_sec ?_ rfl rfl (fun x => ⟨x.1, rfl⟩) (fun _ _ => rfl)
  exact Frame.refl _ _

theorem State.countFrame_frames (src : Nat) (ok : Bool) (s : State) :
    Frame 0x00002000 s (State.countFrame src ok s) := by
  unfold State.countFrame
  split
  refine Frame.set_slu ?_ rfl rfl
  exact Frame.refl _ _
  refine Frame.set_slu ?_ rfl rfl
  exact Frame.refl _ _

theorem State.hwCurrent_frames (c : CurIn) (s : State) :
    Frame 0x00002000 s (State.hwCurrent c s) := by
  unfold State.hwCurrent
  split
  dsimp only
  split
  split
  refine Frame.set_slu ?_ rfl rfl
  refine Frame.step (State.countFrame_frames _ _ _) rfl ?_
  exact Frame.refl _ _
  refine Frame.set_slu ?_ rfl rfl
  refine Frame.step (State.countFrame_frames _ _ _) rfl ?_
  exact Frame.refl _ _
  refine Frame.step (State.countFrame_frames _ _ _) rfl ?_
  exact Frame.refl _ _
  exact Frame.refl _ _

theorem State.sessionClose_frames (s : State) :
    Frame 0x0000a004 s (State.sessionClose s) := by
  unfold State.sessionClose
  dsimp only
  split
  exact Frame.refl _ _
  refine Frame.step (State.saRegs_frames _) rfl ?_
  refine Frame.set_slu_auth ?_ rfl rfl
  exact Frame.refl _ _

theorem State.sessionCloseOf_frames (p : Path) (s : State) :
    Frame 0x0000a004 s (State.sessionCloseOf p s) := by
  unfold State.sessionCloseOf
  split
  refine Frame.step (State.sessionClose_frames _) rfl ?_
  exact Frame.refl _ _
  exact Frame.refl _ _

theorem execPasswordLockoutEnd_frames (s : State) :
    Frame 0x00008004 s (andThen execPasswordLockoutEnd s) := by
  dsimp only [andThen, execPasswordLockoutEnd]
  split
  refine Frame.step (State.saRegs_frames _) rfl ?_
  refine Frame.set_auth ?_ rfl
  exact Frame.refl _ _
  exact Frame.refl _ _

theorem State.sessionTouch_frames (s : State) :
    Frame 0x00008000 s (State.sessionTouch s) := by
  unfold State.sessionTouch
  refine Frame.set_auth ?_ rfl
  exact Frame.refl _ _

theorem State.tgTurnStart_frames (s : State) :
    Frame 0x00004004 s (State.tgTurnStart s) := by
  unfold State.tgTurnStart
  dsimp only
  refine forEach_frames ?_ ?_
  intro _
  intro _
  split
  exact Frame.refl _ _
  split
  refine Frame.step (State.updTg_frames _ _ _) rfl ?_
  exact Frame.refl _ _
  refine Frame.step (State.setFlag_frames _ _ _) rfl ?_
  refine Frame.step (State.updTg_frames _ _ _) rfl ?_
  exact Frame.refl _ _
  refine Frame.set_sio ?_ rfl
  exact Frame.refl _ _

theorem State.sluTurnStart_frames (s : State) :
    Frame 0x00002000 s (State.sluTurnStart s) := by
  unfold State.sluTurnStart
  refine Frame.set_slu ?_ rfl rfl
  exact Frame.refl _ _

theorem State.watchOpen_frames (s : State) :
    Frame 0x00002000 s (State.watchOpen s) := by
  unfold State.watchOpen
  refine forEach_frames ?_ ?_
  intro _
  intro _
  split
  refine Frame.set_slu ?_ rfl rfl
  exact Frame.refl _ _
  exact Frame.refl _ _
  exact Frame.refl _ _

theorem State.updSi_frames (n : Nat) (f : SafetyIn → SafetyIn) (s : State) :
    Frame 0x00004000 s (State.updSi n f s) := by
  unfold State.updSi
  refine Frame.set_sio ?_ rfl
  exact Frame.refl _ _

theorem State.siStrike_frames (n : Nat) (xa : Bool) (xb : Bool) (s : State) :
    Frame 0x00004000 s (State.siStrike n xa xb s) := by
  unfold State.siStrike
  dsimp only
  refine Frame.step (State.updSi_frames _ _ _) rfl ?_
  exact Frame.refl _ _

theorem State.srstStrike_frames (x : Bool) (s : State) :
    Frame 0x00004004 s (State.srstStrike x s) := by
  unfold State.srstStrike
  dsimp only
  split
  split
  refine Frame.step (State.setFields_frames _ _) rfl ?_
  refine Frame.set_sio ?_ rfl
  exact Frame.refl _ _
  refine Frame.set_sio ?_ rfl
  exact Frame.refl _ _
  split
  refine Frame.step (State.setFields_frames _ _) rfl ?_
  refine Frame.set_sio ?_ rfl
  exact Frame.refl _ _
  refine Frame.set_sio ?_ rfl
  exact Frame.refl _ _

theorem State.auxStrike_frames (s : State) :
    Frame 0x00002000 s (State.auxStrike s) := by
  unfold State.auxStrike
  split
  refine Frame.set_slu ?_ rfl rfl
  exact Frame.refl _ _
  exact Frame.refl _ _

theorem State.sioStrike_frames (i : StrikeIn) (s : State) :
    Frame 0x00006044 s (State.sioStrike i s) := by
  unfold State.sioStrike
  dsimp only
  split
  split
  refine Frame.step (State.goneAt_frames _ _ _) rfl ?_
  refine Frame.step (State.goneAt_frames _ _ _) rfl ?_
  refine Frame.step (State.srstStrike_frames _ _) rfl ?_
  refine Frame.step (State.setFields_frames _ _) rfl ?_
  refine Frame.step (State.auxStrike_frames _) rfl ?_
  refine Frame.set_sio ?_ rfl
  refine forEach_frames ?_ ?_
  intro _
  intro _
  refine Frame.step (State.siStrike_frames _ _ _ _) rfl ?_
  exact Frame.refl _ _
  exact Frame.refl _ _
  refine Frame.step (State.goneAt_frames _ _ _) rfl ?_
  refine Frame.step (State.srstStrike_frames _ _) rfl ?_
  refine Frame.step (State.setFields_frames _ _) rfl ?_
  refine Frame.step (State.auxStrike_frames _) rfl ?_
  refine Frame.set_sio ?_ rfl
  refine forEach_frames ?_ ?_
  intro _
  intro _
  refine Frame.step (State.siStrike_frames _ _ _ _) rfl ?_
  exact Frame.refl _ _
  exact Frame.refl _ _
  split
  refine Frame.step (State.goneAt_frames _ _ _) rfl ?_
  refine Frame.step (State.srstStrike_frames _ _) rfl ?_
  refine Frame.step (State.setFields_frames _ _) rfl ?_
  refine Frame.step (State.auxStrike_frames _) rfl ?_
  refine Frame.set_sio ?_ rfl
  refine forEach_frames ?_ ?_
  intro _
  intro _
  refine Frame.step (State.siStrike_frames _ _ _ _) rfl ?_
  exact Frame.refl _ _
  exact Frame.refl _ _
  refine Frame.step (State.srstStrike_frames _ _) rfl ?_
  refine Frame.step (State.setFields_frames _ _) rfl ?_
  refine Frame.step (State.auxStrike_frames _) rfl ?_
  refine Frame.set_sio ?_ rfl
  refine forEach_frames ?_ ?_
  intro _
  intro _
  refine Frame.step (State.siStrike_frames _ _ _ _) rfl ?_
  exact Frame.refl _ _
  exact Frame.refl _ _

theorem State.currentAfterOpen_frames (s : State) :
    Frame 0x016020c4 s (State.currentAfterOpen s) := by
  unfold State.currentAfterOpen
  split
  split
  exact Frame.refl _ _
  refine Frame.step (State.raise_frames _ _ _ _ _) rfl ?_
  refine Frame.step (State.setWeldLock_frames _) rfl ?_
  refine Frame.set_slu ?_ rfl rfl
  exact Frame.refl _ _
  exact Frame.refl _ _

theorem State.openCheck_frames (s : State) :
    Frame 0x00002004 s (State.openCheck s) := by
  unfold State.openCheck
  split
  refine Frame.step (State.toSeq_frames _ _) rfl ?_
  refine Frame.step (State.setConn_frames _ _) rfl ?_
  exact Frame.refl _ _
  exact Frame.refl _ _

theorem State.coilStrike_frames (bad : Nat) (s : State) :
    Frame 0x00002040 s (State.coilStrike bad s) := by
  unfold State.coilStrike
  dsimp only
  split
  split
  refine Frame.step (State.goneAt_frames _ _ _) rfl ?_
  refine Frame.set_slu ?_ rfl rfl
  exact Frame.refl _ _
  refine Frame.set_slu ?_ rfl rfl
  exact Frame.refl _ _
  refine Frame.set_slu ?_ rfl rfl
  exact Frame.refl _ _

theorem State.orderlyStrike_frames (s : State) :
    Frame 0x00002000 s (State.orderlyStrike s) := by
  unfold State.orderlyStrike
  split
  refine Frame.set_slu ?_ rfl rfl
  exact Frame.refl _ _
  exact Frame.refl _ _

theorem State.prechargeStrike_frames (s : State) :
    Frame 0x00002000 s (State.prechargeStrike s) := by
  unfold State.prechargeStrike
  split
  dsimp only
  refine Frame.set_slu ?_ rfl rfl
  exact Frame.refl _ _
  exact Frame.refl _ _

theorem State.weldStrike_frames (s : State) :
    Frame 0x00002000 s (State.weldStrike s) := by
  unfold State.weldStrike
  split
  dsimp only
  refine Frame.set_slu ?_ rfl rfl
  exact Frame.refl _ _
  exact Frame.refl _ _

theorem State.gapStrike_frames (s : State) :
    Frame 0x00002000 s (State.gapStrike s) := by
  unfold State.gapStrike
  split
  refine Frame.set_slu ?_ rfl rfl
  exact Frame.refl _ _
  exact Frame.refl _ _

theorem State.sluStrike_frames (coilBad : Nat) (s : State) :
    Frame 0x016020c4 s (State.sluStrike coilBad s) := by
  unfold State.sluStrike
  refine Frame.step (State.currentAfterOpen_frames _) rfl ?_
  refine Frame.step (State.openCheck_frames _) rfl ?_
  refine Frame.step (State.coilStrike_frames _ _) rfl ?_
  refine Frame.step (State.orderlyStrike_frames _) rfl ?_
  refine Frame.step (State.prechargeStrike_frames _) rfl ?_
  refine Frame.step (State.weldStrike_frames _) rfl ?_
  refine Frame.step (State.gapStrike_frames _) rfl ?_
  exact Frame.refl _ _

theorem State.txStrike_frames (s : State) :
    Frame 0x02000000 s (State.txStrike s) := by
  unfold State.txStrike
  refine forEach_frames ?_ ?_
  intro _
  intro _
  dsimp only
  refine Frame.set_net ?_ rfl
  exact Frame.refl _ _
  exact Frame.refl _ _

theorem State.lockStrike_frames (s : State) :
    Frame 0x00008004 s (State.lockStrike s) := by
  unfold State.lockStrike
  split
  dsimp only
  refine Frame.step (State.setReg_frames _ _ _) rfl ?_
  refine Frame.set_auth ?_ rfl
  exact Frame.refl _ _
  exact Frame.refl _ _

theorem execKeepaliveTimeout_frames (nn : Nat) (s : State) :
    Frame 0x00402804 s (andThen (execKeepaliveTimeout nn) s) := by
  dsimp only [andThen, execKeepaliveTimeout]
  split
  refine Frame.step (State.dropClaim_frames _ _) rfl ?_
  split
  exact Frame.refl _ _
  refine Frame.step (State.dropCoils_frames _) rfl ?_
  exact Frame.refl _ _
  exact Frame.refl _ _

theorem State.sessionAct_frames {m : Nat} {act : State → State} {r s : State} {x : Session} {e : ClogFields} {v : Nat}
    (h : ∀ s, Frame m s (act s)) (h0 : Frame m r s) (hm : maskIn 0x0160a0c4 m = true) : Frame m r (s.sessionAct x e act v).1 := by
  unfold State.sessionAct
  split
  · exact Frame.step (State.sessionTouch_frames _) (maskIn_trans rfl hm) (Frame.step (State.clogWrite_frames _ _) (maskIn_trans rfl hm)
      (Frame.step (h s) (maskIn_self m) h0))
  · exact Frame.step (State.sessionTouch_frames _) (maskIn_trans rfl hm) (Frame.step (State.raise_frames _ _ _ _ _) (maskIn_trans rfl hm) h0)

theorem execPrechargeOvercurrent_frames (s : State) :
    Frame 0x016020c4 s (andThen execPrechargeOvercurrent s) := by
  dsimp only [andThen, execPrechargeOvercurrent]
  split
  refine Frame.step (State.raise_frames _ _ _ _ _) rfl ?_
  exact Frame.refl _ _
  exact Frame.refl _ _

theorem State.loadCommitted_frames (s : State) :
    Frame 0x00000004 s (State.loadCommitted s) := by
  unfold State.loadCommitted
  refine Frame.set_regs ?_ rfl
  exact Frame.refl _ _

theorem State.abortDone_frames (s : State) :
    Frame 0x0160a0c4 s (State.abortDone s) := by
  unfold State.abortDone
  dsimp only
  split
  exact Frame.refl _ _
  refine Frame.step (State.raise_frames _ _ _ _ _) rfl ?_
  refine Frame.step (State.clogWrite_frames _ _) rfl ?_
  refine Frame.set_auth ?_ rfl
  exact Frame.refl _ _

theorem execClass2Clear_frames (code : Nat) (subj : Nat) (s : State) :
    Frame 0x000000c4 s (andThen (execClass2Clear code subj) s) := by
  dsimp only [andThen, execClass2Clear]
  split
  split
  split
  refine Frame.step (State.clearFault_frames _ _) rfl ?_
  exact Frame.refl _ _
  exact Frame.refl _ _
  exact Frame.refl _ _
  exact Frame.refl _ _

theorem State.request_frames (kind : ReqKind) (privileged : Bool) (cmd : Option CmdRef) (s : State) :
    Frame 0x00002000 s (State.request kind privileged cmd s) := by
  unfold State.request
  refine Frame.set_slu ?_ rfl rfl
  exact Frame.refl _ _

theorem State.hwComparator_frames (b : BankIn) (p : Nat) (s : State) :
    Frame 0x00002000 s (State.hwComparator b p s) := by
  unfold State.hwComparator
  dsimp only
  split
  split
  refine Frame.set_slu ?_ rfl rfl
  exact Frame.refl _ _
  refine Frame.set_slu ?_ rfl rfl
  exact Frame.refl _ _
  exact Frame.refl _ _

theorem State.hwWord_frames (nn : Nat) (p : Nat) (w : Nat) (s : State) :
    Frame 0x00002000 s (State.hwWord nn p w s) := by
  unfold State.hwWord
  dsimp only
  split
  refine Frame.set_slu ?_ rfl rfl
  exact Frame.refl _ _
  refine Frame.set_slu ?_ rfl rfl
  exact Frame.refl _ _

theorem State.hwBank_frames (b : BankIn) (words : List Nat) (s : State) :
    Frame 0x00002000 s (State.hwBank b words s) := by
  unfold State.hwBank
  dsimp only
  split
  split
  refine forAll_frames ?_ ?_
  intro _
  intro _
  refine Frame.step (State.hwComparator_frames _ _ _) rfl ?_
  refine Frame.step (State.hwWord_frames _ _ _ _) rfl ?_
  exact Frame.refl _ _
  refine Frame.step (State.countFrame_frames _ _ _) rfl ?_
  exact Frame.refl _ _
  refine Frame.step (State.countFrame_frames _ _ _) rfl ?_
  exact Frame.refl _ _
  exact Frame.refl _ _

theorem State.mapSession_frames (f : Session → Session) (s : State) :
    Frame 0x00008000 s (State.mapSession f s) := by
  unfold State.mapSession
  refine Frame.set_auth ?_ rfl
  exact Frame.refl _ _

theorem State.passwordStage_frames (x : Session) (len : Nat) (pw : List Nat) (s : State) :
    Frame 0x0160a0c4 s (State.passwordStage x len pw s).1 := by
  unfold State.passwordStage
  split
  dsimp only
  exact Frame.refl _ _
  refine State.sessionAct_frames ?_ ?_ rfl
  intro _
  refine Frame.step (State.mapSession_frames _ _) rfl ?_
  exact Frame.refl _ _
  exact Frame.refl _ _

theorem execTelegramTimeout_frames (k : Nat) (s : State) :
    Frame 0x016060c4 s (andThen (execTelegramTimeout k) s) := by
  dsimp only [andThen, execTelegramTimeout]
  split
  refine Frame.step (State.raiseLevel_frames _ _ _ _ _) rfl ?_
  refine Frame.step (State.setFlag_frames _ _ _) rfl ?_
  refine Frame.step (State.updTg_frames _ _ _) rfl ?_
  exact Frame.refl _ _
  exact Frame.refl _ _

theorem State.sevDone_frames (s : State) :
    Frame 0x00000024 s (State.sevDone s) := by
  unfold State.sevDone
  refine Frame.step (State.setBit_frames _ _ _ _) rfl ?_
  refine Frame.set_sys ?_ rfl
  exact Frame.refl _ _

theorem State.toSeqAt_frames (q : Seq) (k : Nat) (s : State) :
    Frame 0x00002000 s (State.toSeqAt q k s) := by
  unfold State.toSeqAt
  refine Frame.set_slu ?_ rfl rfl
  exact Frame.refl _ _

theorem State.weldFailed_frames (w1 : Bool) (s : State) :
    Frame 0x016020c4 s (State.weldFailed w1 s) := by
  unfold State.weldFailed
  dsimp only
  refine Frame.step (State.raise_frames _ _ _ _ _) rfl ?_
  refine Frame.step (State.setWeldLock_frames _) rfl ?_
  refine Frame.step (State.setFields_frames _ _) rfl ?_
  exact Frame.refl _ _

theorem State.weldPassed_frames (w1 : Bool) (s : State) :
    Frame 0x00002004 s (State.weldPassed w1 s) := by
  unfold State.weldPassed
  dsimp only
  split
  refine Frame.step (State.toSeq_frames _ _) rfl ?_
  refine Frame.step (State.coilOff_frames _ _) rfl ?_
  refine Frame.step (State.setReg_frames _ _ _) rfl ?_
  exact Frame.refl _ _
  refine Frame.set_slu ?_ rfl rfl
  refine Frame.step (State.toSeq_frames _ _) rfl ?_
  refine Frame.step (State.coilOn_frames _ _) rfl ?_
  refine Frame.step (State.setReg_frames _ _ _) rfl ?_
  exact Frame.refl _ _

theorem execWeldTestJudge_frames (s : State) :
    Frame 0x016020c4 s (andThen execWeldTestJudge s) := by
  dsimp only [andThen, execWeldTestJudge]
  split
  split
  refine Frame.step (State.weldFailed_frames _ _) rfl ?_
  exact Frame.refl _ _
  refine Frame.step (State.weldPassed_frames _ _) rfl ?_
  exact Frame.refl _ _
  exact Frame.refl _ _

theorem execIsoHoldEnd_frames (n : Nat) (s : State) :
    Frame 0x00004000 s (andThen (execIsoHoldEnd n) s) := by
  dsimp only [andThen, execIsoHoldEnd]
  split
  refine Frame.step (State.updSi_frames _ _ _) rfl ?_
  exact Frame.refl _ _
  exact Frame.refl _ _

theorem execContactFeedbackChange_frames (k : Nat) (closed : Bool) (s : State) :
    Frame 0x00002804 s (andThen (execContactFeedbackChange k closed) s) := by
  dsimp only [andThen, execContactFeedbackChange]
  split
  refine Frame.step (State.imdCheck_frames _) rfl ?_
  refine Frame.set_slu ?_ rfl rfl
  refine Frame.step (State.setBit_frames _ _ _ _) rfl ?_
  exact Frame.refl _ _
  exact Frame.refl _ _

theorem execPrechargeTimeout_frames (s : State) :
    Frame 0x016020c4 s (andThen execPrechargeTimeout s) := by
  dsimp only [andThen, execPrechargeTimeout]
  split
  refine Frame.step (State.toSeq_frames _ _) rfl ?_
  refine Frame.step (State.raise_frames _ _ _ _ _) rfl ?_
  exact Frame.refl _ _
  exact Frame.refl _ _

theorem State.srstCount_frames (s : State) :
    Frame 0x016060c4 s (State.srstCount s) := by
  unfold State.srstCount
  dsimp only
  split
  refine Frame.step (State.raiseLevel_frames _ _ _ _ _) rfl ?_
  refine Frame.step (State.setFlag_frames _ _ _) rfl ?_
  refine Frame.set_sio ?_ rfl
  exact Frame.refl _ _
  refine Frame.set_sio ?_ rfl
  exact Frame.refl _ _

theorem State.siChannels_frames (n : Nat) (s : State) :
    Frame 0x00004040 s (State.siChannels n s) := by
  unfold State.siChannels
  dsimp only
  split
  refine Frame.step (State.goneAt_frames _ _ _) rfl ?_
  refine Frame.step (State.updSi_frames _ _ _) rfl ?_
  exact Frame.refl _ _
  refine Frame.step (State.updSi_frames _ _ _) rfl ?_
  exact Frame.refl _ _

theorem State.siFunction_frames (n : Nat) (was : Bool) (now : Bool) (s : State) :
    Frame 0x016060c4 s (State.siFunction n was now s) := by
  unfold State.siFunction
  dsimp only
  split
  refine Frame.step (State.level_frames _ _ _ _ _ _) rfl ?_
  split
  refine Frame.step (State.request_frames _ _ _ _) rfl ?_
  refine Frame.step (State.updSi_frames _ _ _) rfl ?_
  exact Frame.refl _ _
  refine Frame.step (State.updSi_frames _ _ _) rfl ?_
  exact Frame.refl _ _
  split
  refine Frame.step (State.level_frames _ _ _ _ _ _) rfl ?_
  split
  refine Frame.step (State.request_frames _ _ _ _) rfl ?_
  refine Frame.step (State.updSi_frames _ _ _) rfl ?_
  exact Frame.refl _ _
  refine Frame.step (State.updSi_frames _ _ _) rfl ?_
  exact Frame.refl _ _
  refine Frame.step (State.goneAt_frames _ _ _) rfl ?_
  split
  refine Frame.step (State.request_frames _ _ _ _) rfl ?_
  refine Frame.step (State.updSi_frames _ _ _) rfl ?_
  exact Frame.refl _ _
  refine Frame.step (State.updSi_frames _ _ _) rfl ?_
  exact Frame.refl _ _

theorem State.siEvaluate_frames (n : Nat) (s : State) :
    Frame 0x016060c4 s (State.siEvaluate n s) := by
  unfold State.siEvaluate
  dsimp only
  refine Frame.step (State.siFunction_frames _ _ _ _) rfl ?_
  refine Frame.step (State.setBit_frames _ _ _ _) rfl ?_
  refine Frame.step (State.setBit_frames _ _ _ _) rfl ?_
  refine Frame.step (State.siChannels_frames _ _) rfl ?_
  exact Frame.refl _ _

theorem execTelegramSend_frames (k : Nat) (s : State) :
    Frame 0x02004000 s (andThen (execTelegramSend k) s) := by
  dsimp only [andThen, execTelegramSend]
  split
  refine forEach_frames ?_ ?_
  intro _
  intro _
  refine Frame.step (State.txPut_frames _ _ _) rfl ?_
  exact Frame.refl _ _
  refine Frame.set_sio ?_ rfl
  refine Frame.step (State.updTg_frames _ _ _) rfl ?_
  exact Frame.refl _ _
  exact Frame.refl _ _

theorem execKNegDelayEnd_frames (s : State) :
    Frame 0x00002000 s (andThen execKNegDelayEnd s) := by
  dsimp only [andThen, execKNegDelayEnd]
  split
  refine Frame.step (State.toSeq_frames _ _) rfl ?_
  refine Frame.step (State.coilOff_frames _ _) rfl ?_
  exact Frame.refl _ _
  exact Frame.refl _ _

theorem State.pulseInput_frames (tp : Nat) (n : Nat) (s : State) :
    Frame 0x016060c4 s (State.pulseInput tp n s) := by
  unfold State.pulseInput
  dsimp only
  split
  split
  refine Frame.step (State.level_frames _ _ _ _ _ _) rfl ?_
  refine Frame.step (State.updSi_frames _ _ _) rfl ?_
  exact Frame.refl _ _
  exact Frame.refl _ _
  split
  refine Frame.step (State.level_frames _ _ _ _ _ _) rfl ?_
  refine Frame.step (State.updSi_frames _ _ _) rfl ?_
  exact Frame.refl _ _
  exact Frame.refl _ _

theorem State.weldClear_frames (x : Session) (s : State) : Frame 0x8160a0c4 s (s.weldClear x).1 := by
  unfold State.weldClear
  refine State.sessionAct_frames (fun s => ?_) (Frame.refl _ _) rfl
  constructor
  case ramWf => exact id
  case dead => exact id
  case calm => exact id
  all_goals first | rfl | exact fun _ => rfl | exact fun x => absurd x (by decide)

theorem execSrstEdge_frames (s : State) :
    Frame 0x016060c4 s (andThen execSrstEdge s) := by
  dsimp only [andThen, execSrstEdge]
  split
  split
  refine Frame.set_sio ?_ rfl
  refine Frame.step (State.setFlag_frames _ _ _) rfl ?_
  refine Frame.step (State.srstCount_frames _) rfl ?_
  exact Frame.refl _ _
  split
  refine Frame.step (State.request_frames _ _ _ _) rfl ?_
  refine Frame.step (State.setReg_frames _ _ _) rfl ?_
  refine Frame.set_sio ?_ rfl
  refine Frame.step (State.setFlag_frames _ _ _) rfl ?_
  refine Frame.step (State.srstCount_frames _) rfl ?_
  exact Frame.refl _ _
  refine Frame.step (State.note_frames _ _ _ _) rfl ?_
  refine Frame.step (State.addSat_frames _ _ _) rfl ?_
  refine Frame.set_sio ?_ rfl
  refine Frame.step (State.setFlag_frames _ _ _) rfl ?_
  refine Frame.step (State.srstCount_frames _) rfl ?_
  exact Frame.refl _ _
  exact Frame.refl _ _

theorem State.tgPorts_frames (k : Nat) (ports : Nat) (s : State) :
    Frame 0x016060c4 s (State.tgPorts k ports s) := by
  unfold State.tgPorts
  dsimp only
  split
  split
  split
  split
  refine Frame.step (State.goneAt_frames _ _ _) rfl ?_
  refine Frame.step (State.setFields_frames _ _) rfl ?_
  split
  refine Frame.step (State.raiseLevel_frames _ _ _ _ _) rfl ?_
  refine Frame.step (State.setFlag_frames _ _ _) rfl ?_
  split
  refine Frame.step (State.raiseLevel_frames _ _ _ _ _) rfl ?_
  refine Frame.step (State.setFlag_frames _ _ _) rfl ?_
  refine Frame.step (State.updTg_frames _ _ _) rfl ?_
  exact Frame.refl _ _
  refine Frame.step (State.updTg_frames _ _ _) rfl ?_
  exact Frame.refl _ _
  split
  refine Frame.step (State.raiseLevel_frames _ _ _ _ _) rfl ?_
  refine Frame.step (State.setFlag_frames _ _ _) rfl ?_
  refine Frame.step (State.updTg_frames _ _ _) rfl ?_
  exact Frame.refl _ _
  refine Frame.step (State.updTg_frames _ _ _) rfl ?_
  exact Frame.refl _ _
  split
  refine Frame.step (State.raiseLevel_frames _ _ _ _ _) rfl ?_
  refine Frame.step (State.setFlag_frames _ _ _) rfl ?_
  split
  refine Frame.step (State.raiseLevel_frames _ _ _ _ _) rfl ?_
  refine Frame.step (State.setFlag_frames _ _ _) rfl ?_
  refine Frame.step (State.updTg_frames _ _ _) rfl ?_
  exact Frame.refl _ _
  refine Frame.step (State.updTg_frames _ _ _) rfl ?_
  exact Frame.refl _ _
  split
  refine Frame.step (State.raiseLevel_frames _ _ _ _ _) rfl ?_
  refine Frame.step (State.setFlag_frames _ _ _) rfl ?_
  refine Frame.step (State.updTg_frames _ _ _) rfl ?_
  exact Frame.refl _ _
  refine Frame.step (State.updTg_frames _ _ _) rfl ?_
  exact Frame.refl _ _
  split
  refine Frame.step (State.goneAt_frames _ _ _) rfl ?_
  refine Frame.step (State.setFields_frames _ _) rfl ?_
  split
  refine Frame.step (State.raiseLevel_frames _ _ _ _ _) rfl ?_
  refine Frame.step (State.setFlag_frames _ _ _) rfl ?_
  split
  refine Frame.step (State.raiseLevel_frames _ _ _ _ _) rfl ?_
  refine Frame.step (State.setFlag_frames _ _ _) rfl ?_
  refine Frame.step (State.updTg_frames _ _ _) rfl ?_
  exact Frame.refl _ _
  refine Frame.step (State.updTg_frames _ _ _) rfl ?_
  exact Frame.refl _ _
  split
  refine Frame.step (State.raiseLevel_frames _ _ _ _ _) rfl ?_
  refine Frame.step (State.setFlag_frames _ _ _) rfl ?_
  refine Frame.step (State.updTg_frames _ _ _) rfl ?_
  exact Frame.refl _ _
  refine Frame.step (State.updTg_frames _ _ _) rfl ?_
  exact Frame.refl _ _
  split
  refine Frame.step (State.raiseLevel_frames _ _ _ _ _) rfl ?_
  refine Frame.step (State.setFlag_frames _ _ _) rfl ?_
  split
  refine Frame.step (State.raiseLevel_frames _ _ _ _ _) rfl ?_
  refine Frame.step (State.setFlag_frames _ _ _) rfl ?_
  refine Frame.step (State.updTg_frames _ _ _) rfl ?_
  exact Frame.refl _ _
  refine Frame.step (State.updTg_frames _ _ _) rfl ?_
  exact Frame.refl _ _
  split
  refine Frame.step (State.raiseLevel_frames _ _ _ _ _) rfl ?_
  refine Frame.step (State.setFlag_frames _ _ _) rfl ?_
  refine Frame.step (State.updTg_frames _ _ _) rfl ?_
  exact Frame.refl _ _
  refine Frame.step (State.updTg_frames _ _ _) rfl ?_
  exact Frame.refl _ _
  split
  split
  refine Frame.step (State.goneAt_frames _ _ _) rfl ?_
  refine Frame.step (State.setFields_frames _ _) rfl ?_
  split
  refine Frame.step (State.raiseLevel_frames _ _ _ _ _) rfl ?_
  refine Frame.step (State.setFlag_frames _ _ _) rfl ?_
  split
  refine Frame.step (State.raiseLevel_frames _ _ _ _ _) rfl ?_
  refine Frame.step (State.setFlag_frames _ _ _) rfl ?_
  refine Frame.step (State.updTg_frames _ _ _) rfl ?_
  exact Frame.refl _ _
  refine Frame.step (State.updTg_frames _ _ _) rfl ?_
  exact Frame.refl _ _
  split
  refine Frame.step (State.raiseLevel_frames _ _ _ _ _) rfl ?_
  refine Frame.step (State.setFlag_frames _ _ _) rfl ?_
  refine Frame.step (State.updTg_frames _ _ _) rfl ?_
  exact Frame.refl _ _
  refine Frame.step (State.updTg_frames _ _ _) rfl ?_
  exact Frame.refl _ _
  split
  refine Frame.step (State.raiseLevel_frames _ _ _ _ _) rfl ?_
  refine Frame.step (State.setFlag_frames _ _ _) rfl ?_
  split
  refine Frame.step (State.raiseLevel_frames _ _ _ _ _) rfl ?_
  refine Frame.step (State.setFlag_frames _ _ _) rfl ?_
  refine Frame.step (State.updTg_frames _ _ _) rfl ?_
  exact Frame.refl _ _
  refine Frame.step (State.updTg_frames _ _ _) rfl ?_
  exact Frame.refl _ _
  split
  refine Frame.step (State.raiseLevel_frames _ _ _ _ _) rfl ?_
  refine Frame.step (State.setFlag_frames _ _ _) rfl ?_
  refine Frame.step (State.updTg_frames _ _ _) rfl ?_
  exact Frame.refl _ _
  refine Frame.step (State.updTg_frames _ _ _) rfl ?_
  exact Frame.refl _ _
  split
  refine Frame.step (State.goneAt_frames _ _ _) rfl ?_
  refine Frame.step (State.setFields_frames _ _) rfl ?_
  split
  refine Frame.step (State.raiseLevel_frames _ _ _ _ _) rfl ?_
  refine Frame.step (State.setFlag_frames _ _ _) rfl ?_
  split
  refine Frame.step (State.raiseLevel_frames _ _ _ _ _) rfl ?_
  refine Frame.step (State.setFlag_frames _ _ _) rfl ?_
  refine Frame.step (State.updTg_frames _ _ _) rfl ?_
  exact Frame.refl _ _
  refine Frame.step (State.updTg_frames _ _ _) rfl ?_
  exact Frame.refl _ _
  split
  refine Frame.step (State.raiseLevel_frames _ _ _ _ _) rfl ?_
  refine Frame.step (State.setFlag_frames _ _ _) rfl ?_
  refine Frame.step (State.updTg_frames _ _ _) rfl ?_
  exact Frame.refl _ _
  refine Frame.step (State.updTg_frames _ _ _) rfl ?_
  exact Frame.refl _ _
  split
  refine Frame.step (State.raiseLevel_frames _ _ _ _ _) rfl ?_
  refine Frame.step (State.setFlag_frames _ _ _) rfl ?_
  split
  refine Frame.step (State.raiseLevel_frames _ _ _ _ _) rfl ?_
  refine Frame.step (State.setFlag_frames _ _ _) rfl ?_
  refine Frame.step (State.updTg_frames _ _ _) rfl ?_
  exact Frame.refl _ _
  refine Frame.step (State.updTg_frames _ _ _) rfl ?_
  exact Frame.refl _ _
  split
  refine Frame.step (State.raiseLevel_frames _ _ _ _ _) rfl ?_
  refine Frame.step (State.setFlag_frames _ _ _) rfl ?_
  refine Frame.step (State.updTg_frames _ _ _) rfl ?_
  exact Frame.refl _ _
  refine Frame.step (State.updTg_frames _ _ _) rfl ?_
  exact Frame.refl _ _
  split
  split
  split
  refine Frame.step (State.goneAt_frames _ _ _) rfl ?_
  refine Frame.step (State.setFields_frames _ _) rfl ?_
  split
  refine Frame.step (State.raiseLevel_frames _ _ _ _ _) rfl ?_
  refine Frame.step (State.setFlag_frames _ _ _) rfl ?_
  split
  refine Frame.step (State.raiseLevel_frames _ _ _ _ _) rfl ?_
  refine Frame.step (State.setFlag_frames _ _ _) rfl ?_
  refine Frame.step (State.updTg_frames _ _ _) rfl ?_
  exact Frame.refl _ _
  refine Frame.step (State.updTg_frames _ _ _) rfl ?_
  exact Frame.refl _ _
  split
  refine Frame.step (State.raiseLevel_frames _ _ _ _ _) rfl ?_
  refine Frame.step (State.setFlag_frames _ _ _) rfl ?_
  refine Frame.step (State.updTg_frames _ _ _) rfl ?_
  exact Frame.refl _ _
  refine Frame.step (State.updTg_frames _ _ _) rfl ?_
  exact Frame.refl _ _
  split
  refine Frame.step (State.raiseLevel_frames _ _ _ _ _) rfl ?_
  refine Frame.step (State.setFlag_frames _ _ _) rfl ?_
  split
  refine Frame.step (State.raiseLevel_frames _ _ _ _ _) rfl ?_
  refine Frame.step (State.setFlag_frames _ _ _) rfl ?_
  refine Frame.step (State.updTg_frames _ _ _) rfl ?_
  exact Frame.refl _ _
  refine Frame.step (State.updTg_frames _ _ _) rfl ?_
  exact Frame.refl _ _
  split
  refine Frame.step (State.raiseLevel_frames _ _ _ _ _) rfl ?_
  refine Frame.step (State.setFlag_frames _ _ _) rfl ?_
  refine Frame.step (State.updTg_frames _ _ _) rfl ?_
  exact Frame.refl _ _
  refine Frame.step (State.updTg_frames _ _ _) rfl ?_
  exact Frame.refl _ _
  split
  refine Frame.step (State.goneAt_frames _ _ _) rfl ?_
  refine Frame.step (State.setFields_frames _ _) rfl ?_
  split
  refine Frame.step (State.raiseLevel_frames _ _ _ _ _) rfl ?_
  refine Frame.step (State.setFlag_frames _ _ _) rfl ?_
  split
  refine Frame.step (State.raiseLevel_frames _ _ _ _ _) rfl ?_
  refine Frame.step (State.setFlag_frames _ _ _) rfl ?_
  refine Frame.step (State.updTg_frames _ _ _) rfl ?_
  exact Frame.refl _ _
  refine Frame.step (State.updTg_frames _ _ _) rfl ?_
  exact Frame.refl _ _
  split
  refine Frame.step (State.raiseLevel_frames _ _ _ _ _) rfl ?_
  refine Frame.step (State.setFlag_frames _ _ _) rfl ?_
  refine Frame.step (State.updTg_frames _ _ _) rfl ?_
  exact Frame.refl _ _
  refine Frame.step (State.updTg_frames _ _ _) rfl ?_
  exact Frame.refl _ _
  split
  refine Frame.step (State.raiseLevel_frames _ _ _ _ _) rfl ?_
  refine Frame.step (State.setFlag_frames _ _ _) rfl ?_
  split
  refine Frame.step (State.raiseLevel_frames _ _ _ _ _) rfl ?_
  refine Frame.step (State.setFlag_frames _ _ _) rfl ?_
  refine Frame.step (State.updTg_frames _ _ _) rfl ?_
  exact Frame.refl _ _
  refine Frame.step (State.updTg_frames _ _ _) rfl ?_
  exact Frame.refl _ _
  split
  refine Frame.step (State.raiseLevel_frames _ _ _ _ _) rfl ?_
  refine Frame.step (State.setFlag_frames _ _ _) rfl ?_
  refine Frame.step (State.updTg_frames _ _ _) rfl ?_
  exact Frame.refl _ _
  refine Frame.step (State.updTg_frames _ _ _) rfl ?_
  exact Frame.refl _ _
  split
  split
  refine Frame.step (State.goneAt_frames _ _ _) rfl ?_
  refine Frame.step (State.setFields_frames _ _) rfl ?_
  split
  refine Frame.step (State.raiseLevel_frames _ _ _ _ _) rfl ?_
  refine Frame.step (State.setFlag_frames _ _ _) rfl ?_
  split
  refine Frame.step (State.raiseLevel_frames _ _ _ _ _) rfl ?_
  refine Frame.step (State.setFlag_frames _ _ _) rfl ?_
  refine Frame.step (State.updTg_frames _ _ _) rfl ?_
  exact Frame.refl _ _
  refine Frame.step (State.updTg_frames _ _ _) rfl ?_
  exact Frame.refl _ _
  split
  refine Frame.step (State.raiseLevel_frames _ _ _ _ _) rfl ?_
  refine Frame.step (State.setFlag_frames _ _ _) rfl ?_
  refine Frame.step (State.updTg_frames _ _ _) rfl ?_
  exact Frame.refl _ _
  refine Frame.step (State.updTg_frames _ _ _) rfl ?_
  exact Frame.refl _ _
  split
  refine Frame.step (State.raiseLevel_frames _ _ _ _ _) rfl ?_
  refine Frame.step (State.setFlag_frames _ _ _) rfl ?_
  split
  refine Frame.step (State.raiseLevel_frames _ _ _ _ _) rfl ?_
  refine Frame.step (State.setFlag_frames _ _ _) rfl ?_
  refine Frame.step (State.updTg_frames _ _ _) rfl ?_
  exact Frame.refl _ _
  refine Frame.step (State.updTg_frames _ _ _) rfl ?_
  exact Frame.refl _ _
  split
  refine Frame.step (State.raiseLevel_frames _ _ _ _ _) rfl ?_
  refine Frame.step (State.setFlag_frames _ _ _) rfl ?_
  refine Frame.step (State.updTg_frames _ _ _) rfl ?_
  exact Frame.refl _ _
  refine Frame.step (State.updTg_frames _ _ _) rfl ?_
  exact Frame.refl _ _
  split
  refine Frame.step (State.goneAt_frames _ _ _) rfl ?_
  refine Frame.step (State.setFields_frames _ _) rfl ?_
  split
  refine Frame.step (State.raiseLevel_frames _ _ _ _ _) rfl ?_
  refine Frame.step (State.setFlag_frames _ _ _) rfl ?_
  split
  refine Frame.step (State.raiseLevel_frames _ _ _ _ _) rfl ?_
  refine Frame.step (State.setFlag_frames _ _ _) rfl ?_
  refine Frame.step (State.updTg_frames _ _ _) rfl ?_
  exact Frame.refl _ _
  refine Frame.step (State.updTg_frames _ _ _) rfl ?_
  exact Frame.refl _ _
  split
  refine Frame.step (State.raiseLevel_frames _ _ _ _ _) rfl ?_
  refine Frame.step (State.setFlag_frames _ _ _) rfl ?_
  refine Frame.step (State.updTg_frames _ _ _) rfl ?_
  exact Frame.refl _ _
  refine Frame.step (State.updTg_frames _ _ _) rfl ?_
  exact Frame.refl _ _
  split
  refine Frame.step (State.raiseLevel_frames _ _ _ _ _) rfl ?_
  refine Frame.step (State.setFlag_frames _ _ _) rfl ?_
  split
  refine Frame.step (State.raiseLevel_frames _ _ _ _ _) rfl ?_
  refine Frame.step (State.setFlag_frames _ _ _) rfl ?_
  refine Frame.step (State.updTg_frames _ _ _) rfl ?_
  exact Frame.refl _ _
  refine Frame.step (State.updTg_frames _ _ _) rfl ?_
  exact Frame.refl _ _
  split
  refine Frame.step (State.raiseLevel_frames _ _ _ _ _) rfl ?_
  refine Frame.step (State.setFlag_frames _ _ _) rfl ?_
  refine Frame.step (State.updTg_frames _ _ _) rfl ?_
  exact Frame.refl _ _
  refine Frame.step (State.updTg_frames _ _ _) rfl ?_
  exact Frame.refl _ _

theorem State.tgCommand_frames (k : Nat) (cmd : Nat) (s : State) :
    Frame 0x00002084 s (State.tgCommand k cmd s) := by
  unfold State.tgCommand
  split
  refine Frame.step (State.request_frames _ _ _ _) rfl ?_
  exact Frame.refl _ _
  split
  split
  refine Frame.step (State.note_frames _ _ _ _) rfl ?_
  exact Frame.refl _ _
  refine Frame.step (State.request_frames _ _ _ _) rfl ?_
  exact Frame.refl _ _
  exact Frame.refl _ _

theorem State.tgAct_frames (k : Nat) (ports : Nat) (l : List Nat) (s : State) :
    Frame 0x016060c4 s (State.tgAct k ports l s) := by
  unfold State.tgAct
  dsimp only
  split
  split
  split
  refine Frame.step (State.tgPorts_frames _ _ _) rfl ?_
  refine Frame.step (State.goneAt_frames _ _ _) rfl ?_
  refine Frame.step (State.setFields_frames _ _) rfl ?_
  refine Frame.step (State.updTg_frames _ _ _) rfl ?_
  exact Frame.refl _ _
  refine Frame.step (State.tgCommand_frames _ _ _) rfl ?_
  refine Frame.step (State.tgPorts_frames _ _ _) rfl ?_
  refine Frame.step (State.goneAt_frames _ _ _) rfl ?_
  refine Frame.step (State.setFields_frames _ _) rfl ?_
  refine Frame.step (State.updTg_frames _ _ _) rfl ?_
  exact Frame.refl _ _
  refine Frame.step (State.tgPorts_frames _ _ _) rfl ?_
  refine Frame.step (State.goneAt_frames _ _ _) rfl ?_
  refine Frame.step (State.setFields_frames _ _) rfl ?_
  refine Frame.step (State.updTg_frames _ _ _) rfl ?_
  exact Frame.refl _ _
  exact Frame.refl _ _

theorem State.tgSev_frames (k : Nat) (s : State) :
    Frame 0x016060c4 s (State.tgSev k s) := by
  unfold State.tgSev
  refine forAll_frames ?_ ?_
  intro _
  intro _
  refine Frame.step (State.tgAct_frames _ _ _ _) rfl ?_
  exact Frame.refl _ _
  refine Frame.step (State.updTg_frames _ _ _) rfl ?_
  exact Frame.refl _ _

theorem State.weldBegin_frames (s : State) :
    Frame 0x00002000 s (State.weldBegin s) := by
  unfold State.weldBegin
  refine Frame.set_slu ?_ rfl rfl
  exact Frame.refl _ _

theorem State.sevStep_frames (s : State) :
    Frame 0x00002004 s (State.sevStep s) := by
  unfold State.sevStep
  dsimp only
  split
  split
  split
  refine Frame.step (State.toSeqAt_frames _ _ _) rfl ?_
  exact Frame.refl _ _
  exact Frame.refl _ _
  refine Frame.step (State.weldBegin_frames _) rfl ?_
  refine Frame.step (State.coilOn_frames _ _) rfl ?_
  exact Frame.refl _ _
  split
  exact Frame.refl _ _
  refine Frame.step (State.toSeq_frames _ _) rfl ?_
  refine Frame.step (State.weldBegin_frames _) rfl ?_
  refine Frame.step (State.coilOn_frames _ _) rfl ?_
  exact Frame.refl _ _
  split
  refine Frame.step (State.toSeqAt_frames _ _ _) rfl ?_
  exact Frame.refl _ _
  exact Frame.refl _ _
  split
  refine Frame.set_slu ?_ rfl rfl
  refine Frame.step (State.toSeqAt_frames _ _ _) rfl ?_
  exact Frame.refl _ _
  exact Frame.refl _ _
  split
  refine Frame.step (State.toSeqAt_frames _ _ _) rfl ?_
  exact Frame.refl _ _
  exact Frame.refl _ _
  split
  exact Frame.refl _ _
  refine Frame.step (State.toSeq_frames _ _) rfl ?_
  refine Frame.step (State.setConn_frames _ _) rfl ?_
  exact Frame.refl _ _
  refine Frame.step (State.toSeq_frames _ _) rfl ?_
  refine Frame.step (State.inhibit_frames _ _) rfl ?_
  refine Frame.step (State.coilOff_frames _ _) rfl ?_
  exact Frame.refl _ _
  split
  exact Frame.refl _ _
  refine Frame.step (State.toSeqAt_frames _ _ _) rfl ?_
  exact Frame.refl _ _
  refine Frame.step (State.abandonNow_frames _) rfl ?_
  exact Frame.refl _ _
  exact Frame.refl _ _

theorem execSev_frames (s : State) :
    Frame 0x016060e4 s (andThen execSev s) := by
  dsimp only [andThen, execSev]
  split
  refine Frame.step (State.sevDone_frames _) rfl ?_
  refine forEach_frames ?_ ?_
  intro _
  intro _
  refine Frame.step (State.tgSev_frames _ _) rfl ?_
  exact Frame.refl _ _
  refine doIf_frames ?_ ?_
  intro _
  refine Frame.step (State.sevStep_frames _) rfl ?_
  exact Frame.refl _ _
  exact Frame.refl _ _
  exact Frame.refl _ _

theorem State.tgExpire_frames (k : Nat) (s : State) :
    Frame 0x00004000 s (State.tgExpire k s) := by
  unfold State.tgExpire
  refine Frame.step (State.updTg_frames _ _ _) rfl ?_
  exact Frame.refl _ _

theorem execTelegramSkewExpiry_frames (k : Nat) (s : State) :
    Frame 0x00004000 s (andThen (execTelegramSkewExpiry k) s) := by
  dsimp only [andThen, execTelegramSkewExpiry]
  split
  refine Frame.step (State.tgExpire_frames _ _) rfl ?_
  exact Frame.refl _ _
  exact Frame.refl _ _

theorem State.clogRoll_frames (x : Session) (seq : Nat) (hash : List Nat) (s : State) :
    Frame 0x0160a0c4 s (State.clogRoll x seq hash s).1 := by
  unfold State.clogRoll
  dsimp only
  split
  dsimp only
  exact Frame.refl _ _
  split
  dsimp only
  refine Frame.step (State.sessionTouch_frames _) rfl ?_
  split
  refine Frame.step (State.note_frames _ _ _ _) rfl ?_
  refine Frame.step (State.clogRegs_frames _) rfl ?_
  refine Frame.set_auth ?_ rfl
  exact Frame.refl _ _
  refine Frame.step (State.mapSession_frames _ _) rfl ?_
  refine Frame.step (State.clogWrite_frames _ _) rfl ?_
  refine Frame.step (State.note_frames _ _ _ _) rfl ?_
  refine Frame.step (State.clogRegs_frames _) rfl ?_
  refine Frame.set_auth ?_ rfl
  exact Frame.refl _ _
  dsimp only
  exact Frame.refl _ _

theorem State.tgCopy_frames (k : Nat) (port : Nat) (l : List Nat) (s : State) :
    Frame 0x016060c4 s (State.tgCopy k port l s) := by
  unfold State.tgCopy
  dsimp only
  split
  refine Frame.step (State.updTg_frames _ _ _) rfl ?_
  exact Frame.refl _ _
  split
  exact Frame.refl _ _
  split
  refine Frame.step (State.updTg_frames _ _ _) rfl ?_
  exact Frame.refl _ _
  refine Frame.step (State.raise_frames _ _ _ _ _) rfl ?_
  refine Frame.step (State.updTg_frames _ _ _) rfl ?_
  exact Frame.refl _ _

theorem execTelegramReceive_frames (k : Nat) (port : Nat) (bytes : List Nat) (s : State) :
    Frame 0x016060c4 s (andThen (execTelegramReceive k port bytes) s) := by
  dsimp only [andThen, execTelegramReceive]
  split
  split
  split
  refine Frame.step (State.tgCopy_frames _ _ _ _) rfl ?_
  exact Frame.refl _ _
  refine Frame.step (State.raisePaced_frames _ _ _ _ _ _) rfl ?_
  refine Frame.step (State.addSat_frames _ _ _) rfl ?_
  exact Frame.refl _ _
  exact Frame.refl _ _
  exact Frame.refl _ _

theorem execTpReadbackFault_frames (tp : Nat) (s : State) :
    Frame 0x016060c4 s (andThen (execTpReadbackFault tp) s) := by
  dsimp only [andThen, execTpReadbackFault]
  split
  split
  refine Frame.step (State.raiseLevel_frames _ _ _ _ _) rfl ?_
  refine Frame.set_sio ?_ rfl
  exact Frame.refl _ _
  exact Frame.refl _ _
  split
  split
  refine Frame.step (State.raiseLevel_frames _ _ _ _ _) rfl ?_
  refine Frame.set_sio ?_ rfl
  exact Frame.refl _ _
  exact Frame.refl _ _
  exact Frame.refl _ _

theorem execHwTestMet_frames (code : Nat) (subj : Nat) (s : State) :
    Frame 0x016020c4 s (andThen (execHwTestMet code subj) s) := by
  dsimp only [andThen, execHwTestMet]
  split
  refine Frame.step (State.raiseAs_frames _ _ _ _ _ _ _) rfl ?_
  exact Frame.refl _ _
  exact Frame.refl _ _

theorem execCoilCircuitFault_frames (k : Nat) (s : State) :
    Frame 0x016020c4 s (andThen (execCoilCircuitFault k) s) := by
  dsimp only [andThen, execCoilCircuitFault]
  split
  refine Frame.step (State.raiseLevel_frames _ _ _ _ _) rfl ?_
  exact Frame.refl _ _
  exact Frame.refl _ _

theorem execSrstChatterEnd_frames (s : State) :
    Frame 0x00000044 s (andThen execSrstChatterEnd s) := by
  dsimp only [andThen, execSrstChatterEnd]
  split
  refine Frame.step (State.goneAt_frames _ _ _) rfl ?_
  refine Frame.step (State.setFlag_frames _ _ _) rfl ?_
  exact Frame.refl _ _
  exact Frame.refl _ _

theorem execFeedbackCloseTimeout_frames (k : Nat) (s : State) :
    Frame 0x016020c4 s (andThen (execFeedbackCloseTimeout k) s) := by
  dsimp only [andThen, execFeedbackCloseTimeout]
  split
  refine Frame.step (State.raise_frames _ _ _ _ _) rfl ?_
  exact Frame.refl _ _
  exact Frame.refl _ _

theorem execOverlapElapsed_frames (s : State) :
    Frame 0x00002000 s (andThen execOverlapElapsed s) := by
  dsimp only [andThen, execOverlapElapsed]
  split
  refine Frame.step (State.toSeq_frames _ _) rfl ?_
  refine Frame.step (State.coilOff_frames _ _) rfl ?_
  exact Frame.refl _ _
  exact Frame.refl _ _

theorem execSessionIdleTimeout_frames (s : State) :
    Frame 0x0000a004 s (andThen execSessionIdleTimeout s) := by
  dsimp only [andThen, execSessionIdleTimeout]
  split
  split
  refine Frame.step (State.sessionClose_frames _) rfl ?_
  exact Frame.refl _ _
  exact Frame.refl _ _
  exact Frame.refl _ _

theorem execFeedbackOpenTimeout_frames (k : Nat) (s : State) :
    Frame 0x016020c4 s (andThen (execFeedbackOpenTimeout k) s) := by
  dsimp only [andThen, execFeedbackOpenTimeout]
  split
  refine Frame.step (State.raise_frames _ _ _ _ _) rfl ?_
  refine Frame.step (State.setWeldLock_frames _) rfl ?_
  exact Frame.refl _ _
  exact Frame.refl _ _

theorem execOpenCurrentLow_frames (s : State) :
    Frame 0x00002000 s (andThen execOpenCurrentLow s) := by
  dsimp only [andThen, execOpenCurrentLow]
  split
  refine Frame.step (State.toSeq_frames _ _) rfl ?_
  exact Frame.refl _ _
  exact Frame.refl _ _

theorem execBreakerPulseEnd_frames (s : State) :
    Frame 0x016020c4 s (andThen execBreakerPulseEnd s) := by
  dsimp only [andThen, execBreakerPulseEnd]
  split
  split
  refine Frame.step (State.raise_frames _ _ _ _ _) rfl ?_
  refine Frame.set_slu ?_ rfl rfl
  refine Frame.step (State.setFlag_frames _ _ _) rfl ?_
  exact Frame.refl _ _
  refine Frame.set_slu ?_ rfl rfl
  refine Frame.step (State.setFlag_frames _ _ _) rfl ?_
  exact Frame.refl _ _
  exact Frame.refl _ _

theorem execSrstHeld_frames (s : State) :
    Frame 0x00004084 s (andThen execSrstHeld s) := by
  dsimp only [andThen, execSrstHeld]
  split
  refine Frame.step (State.note_frames _ _ _ _) rfl ?_
  refine Frame.step (State.setFlag_frames _ _ _) rfl ?_
  refine Frame.set_sio ?_ rfl
  exact Frame.refl _ _
  exact Frame.refl _ _

theorem State.passwordWrong_frames (s : State) :
    Frame 0x0160a0c4 s (State.passwordWrong s) := by
  unfold State.passwordWrong
  dsimp only
  split
  refine Frame.step (State.raise_frames _ _ _ _ _) rfl ?_
  refine Frame.step (State.saRegs_frames _) rfl ?_
  refine Frame.set_auth ?_ rfl
  refine Frame.step (State.note_frames _ _ _ _) rfl ?_
  refine Frame.set_auth ?_ rfl
  exact Frame.refl _ _
  refine Frame.step (State.saRegs_frames _) rfl ?_
  refine Frame.step (State.note_frames _ _ _ _) rfl ?_
  refine Frame.set_auth ?_ rfl
  exact Frame.refl _ _

theorem execThresholdSetApply_frames (s : State) :
    Frame 0x0160a0c4 s (andThen execThresholdSetApply s) := by
  dsimp only [andThen, execThresholdSetApply]
  split
  exact Frame.refl _ _
  split
  split
  refine Frame.step (State.setFlag_frames _ _ _) rfl ?_
  refine Frame.set_slu ?_ rfl rfl
  exact Frame.refl _ _
  refine Frame.step (State.raise_frames _ _ _ _ _) rfl ?_
  refine Frame.set_regs_slu_auth ?_ rfl rfl
  exact Frame.refl _ _
  exact Frame.refl _ _

theorem execTestPulse_frames (tp : Nat) (turn : Nat) (s : State) :
    Frame 0x016060c4 s (andThen (execTestPulse tp turn) s) := by
  dsimp only [andThen, execTestPulse]
  split
  split
  refine Frame.set_sio ?_ rfl
  refine forEach_frames ?_ ?_
  intro _
  intro _
  refine Frame.step (State.pulseInput_frames _ _ _) rfl ?_
  exact Frame.refl _ _
  exact Frame.refl _ _
  refine Frame.set_sio ?_ rfl
  refine forEach_frames ?_ ?_
  intro _
  intro _
  refine Frame.step (State.pulseInput_frames _ _ _) rfl ?_
  exact Frame.refl _ _
  exact Frame.refl _ _
  exact Frame.refl _ _

theorem State.tableStage_frames (x : Session) (kind : Nat) (slot : Nat) (l : List Nat) (s : State) :
    Frame 0x0160a0c4 s (State.tableStage x kind slot l s).1 := by
  unfold State.tableStage
  dsimp only
  refine State.sessionAct_frames ?_ ?_ rfl
  intro _
  refine Frame.step (State.mapSession_frames _ _) rfl ?_
  exact Frame.refl _ _
  exact Frame.refl _ _

theorem execSiLevelChange_frames (n : Nat) (ch : Nat) (s : State) :
    Frame 0x00004004 s (andThen (execSiLevelChange n ch) s) := by
  dsimp only [andThen, execSiLevelChange]
  split
  split
  refine Frame.step (State.setBit_frames _ _ _ _) rfl ?_
  refine Frame.step (State.updSi_frames _ _ _) rfl ?_
  exact Frame.refl _ _
  exact Frame.refl _ _
  split
  refine Frame.step (State.setBit_frames _ _ _ _) rfl ?_
  refine Frame.step (State.updSi_frames _ _ _) rfl ?_
  exact Frame.refl _ _
  exact Frame.refl _ _

theorem State.startSession_frames (p : Path) (code : Nat) (client : List Nat) (s : State) :
    Frame 0x0160a0c4 s (State.startSession p code client s) := by
  unfold State.startSession
  dsimp only
  split
  refine Frame.step (State.clogWrite_frames _ _) rfl ?_
  refine Frame.step (State.note_frames _ _ _ _) rfl ?_
  refine Frame.step (State.saRegs_frames _) rfl ?_
  refine Frame.set_auth ?_ rfl
  exact Frame.refl _ _
  refine Frame.step (State.note_frames _ _ _ _) rfl ?_
  refine Frame.step (State.saRegs_frames _) rfl ?_
  refine Frame.set_auth ?_ rfl
  exact Frame.refl _ _

theorem State.sessionOpen_frames (p : Path) (code : Nat) (client : List Nat) (len : Nat) (pw : List Nat) (s : State) :
    Frame 0x0160a0c4 s (State.sessionOpen p code client len pw s).1 := by
  unfold State.sessionOpen
  split
  dsimp only
  exact Frame.refl _ _
  split
  dsimp only
  exact Frame.refl _ _
  split
  dsimp only
  refine Frame.step (State.startSession_frames _ _ _ _) rfl ?_
  exact Frame.refl _ _
  dsimp only
  refine Frame.step (State.passwordWrong_frames _) rfl ?_
  exact Frame.refl _ _

theorem State.keyStage_frames (x : Session) (key : List Nat) (s : State) :
    Frame 0x0160a0c4 s (State.keyStage x key s).1 := by
  unfold State.keyStage
  refine State.sessionAct_frames ?_ ?_ rfl
  intro _
  refine Frame.step (State.mapSession_frames _ _) rfl ?_
  exact Frame.refl _ _
  exact Frame.refl _ _

theorem execOrderlyTimeout_frames (s : State) :
    Frame 0x016020c4 s (andThen execOrderlyTimeout s) := by
  dsimp only [andThen, execOrderlyTimeout]
  split
  refine Frame.step (State.raise_frames _ _ _ _ _) rfl ?_
  exact Frame.refl _ _
  exact Frame.refl _ _

theorem execPrechargeComplete_frames (s : State) :
    Frame 0x00002000 s (andThen execPrechargeComplete s) := by
  dsimp only [andThen, execPrechargeComplete]
  split
  refine Frame.step (State.toSeq_frames _ _) rfl ?_
  refine Frame.step (State.coilOn_frames _ _) rfl ?_
  exact Frame.refl _ _
  exact Frame.refl _ _

theorem execSiDiscrepancy_frames (n : Nat) (s : State) :
    Frame 0x016060c4 s (andThen (execSiDiscrepancy n) s) := by
  dsimp only [andThen, execSiDiscrepancy]
  split
  refine Frame.step (State.raiseLevel_frames _ _ _ _ _) rfl ?_
  refine Frame.step (State.updSi_frames _ _ _) rfl ?_
  exact Frame.refl _ _
  exact Frame.refl _ _

end Sys2Proof.Machine
end

