-- ==== Sys2Proof/Laws/FrameEstimate.lean ====
section
/-! SUPPORT. Frames of estimates, the model, spectra and balancing: the parts of the state that each definition may change. -/
namespace Sys2Proof.Machine

theorem State.balCommands_frames (cmds : Tab BalCmd) (s : State) :
    Frame 0x00040004 s (State.balCommands cmds s) := by
  unfold State.balCommands
  dsimp only
  refine Frame.set_bal ?_ rfl
  refine Frame.step (State.setReg_frames _ _ _) rfl ?_
  refine forEach_frames ?_ ?_
  intro _
  intro _
  refine Frame.step (State.setFields_frames _ _) rfl ?_
  exact Frame.refl _ _
  exact Frame.refl _ _

theorem State.estBoot_frames (s : State) :
    Frame 0x00010084 s (State.estBoot s) := by
  unfold State.estBoot
  refine forEach_frames ?_ ?_
  intro _
  intro _
  dsimp only
  split
  exact Frame.refl _ _
  split
  refine Frame.step (State.setFields_frames _ _) rfl ?_
  refine Frame.set_est ?_ rfl
  exact Frame.refl _ _
  refine Frame.step (State.note_frames _ _ _ _) rfl ?_
  exact Frame.refl _ _
  exact Frame.refl _ _

theorem State.buildRegs_frames (s : State) :
    Frame 0x00000004 s (State.buildRegs s) := by
  unfold State.buildRegs
  refine foldl_frames ?_ ?_
  intro _
  intro _
  refine Frame.step (State.setFlag_frames _ _ _) rfl ?_
  exact Frame.refl _ _
  refine Frame.step (State.setFields_frames _ _) rfl ?_
  exact Frame.refl _ _

theorem State.beginBuild_frames (k : Nat) (l : List Nat) (s : State) :
    Frame 0x00010004 s (State.beginBuild k l s) := by
  unfold State.beginBuild
  refine Frame.step (State.buildRegs_frames _) rfl ?_
  refine Frame.set_est ?_ rfl
  exact Frame.refl _ _

theorem State.setMdl_frames (g : Nat) (m : ModelPos) (s : State) :
    Frame 0x00020000 s (State.setMdl g m s) := by
  unfold State.setMdl
  refine Frame.set_mdl ?_ rfl
  exact Frame.refl _ _

theorem State.suspendSlots_frames (s : State) :
    Frame 0x00010004 s (State.suspendSlots s) := by
  unfold State.suspendSlots
  dsimp only
  refine Frame.set_est ?_ rfl
  refine forAll_frames ?_ ?_
  intro _
  intro _
  refine Frame.step (State.setFlag_frames _ _ _) rfl ?_
  exact Frame.refl _ _
  exact Frame.refl _ _

theorem State.setEst_frames (g : Nat) (p : EstPos) (s : State) :
    Frame 0x00010000 s (State.setEst g p s) := by
  unfold State.setEst
  refine Frame.set_est ?_ rfl
  exact Frame.refl _ _

theorem restoreEntry_frames {l : List Nat} {q : Int} {eq strike down g : Nat} {s t : State}
    (h : s.restoreEntry l q eq strike down g = some t) : Frame 0x00010000 s t := by
  unfold State.restoreEntry at h
  dsimp only at h
  (repeat' split at h) <;> first | (cases h; exact Frame.step (State.setEst_frames _ _ _) rfl (Frame.refl _ _)) | cases h

theorem State.restoreCert_frames (l : List Nat) (s : State) :
    Frame 0x000100c4 s (State.restoreCert l s).1 := by
  unfold State.restoreCert
  dsimp only
  split
  dsimp only
  refine Frame.step (State.note_frames _ _ _ _) rfl ?_
  exact Frame.refl _ _
  split
  dsimp only
  split
  refine Frame.step (State.goneAt_frames _ _ _) rfl ?_
  refine Frame.step (State.setFlag_frames _ _ _) rfl ?_
  refine foldl_fst_frames ?_ ?_
  intro _
  intro _
  split
  dsimp only
  refine Frame.step (restoreEntry_frames ‹_›) rfl ?_
  exact Frame.refl _ _
  dsimp only
  exact Frame.refl _ _
  dsimp only
  exact Frame.refl _ _
  refine Frame.step (State.note_frames _ _ _ _) rfl ?_
  refine Frame.step (State.goneAt_frames _ _ _) rfl ?_
  refine Frame.step (State.setFlag_frames _ _ _) rfl ?_
  refine foldl_fst_frames ?_ ?_
  intro _
  intro _
  split
  dsimp only
  refine Frame.step (restoreEntry_frames ‹_›) rfl ?_
  exact Frame.refl _ _
  dsimp only
  exact Frame.refl _ _
  dsimp only
  exact Frame.refl _ _
  dsimp only
  refine Frame.step (State.note_frames _ _ _ _) rfl ?_
  exact Frame.refl _ _

theorem State.estTurnPos_frames (g : Nat) (s : State) :
    Frame 0x00010000 s (State.estTurnPos g s) := by
  unfold State.estTurnPos
  dsimp only
  refine Frame.step (State.setEst_frames _ _ _) rfl ?_
  exact Frame.refl _ _

theorem State.estTurnStart_frames (s : State) :
    Frame 0x00050004 s (State.estTurnStart s) := by
  unfold State.estTurnStart
  dsimp only
  refine Frame.set_est_bal ?_ rfl
  refine Frame.step (State.suspendSlots_frames _) rfl ?_
  refine forAll_frames ?_ ?_
  intro _
  intro _
  refine Frame.step (State.estTurnPos_frames _ _) rfl ?_
  exact Frame.refl _ _
  exact Frame.refl _ _

theorem State.bankCommand_frames (nn : Nat) (s : State) :
    Frame 0x00040004 s (State.bankCommand nn s) := by
  unfold State.bankCommand
  dsimp only
  refine Frame.set_bal ?_ rfl
  split
  exact Frame.refl _ _
  refine Frame.step (State.setFields_frames _ _) rfl ?_
  exact Frame.refl _ _

theorem State.bankCommands_frames (s : State) :
    Frame 0x00040004 s (State.bankCommands s) := by
  unfold State.bankCommands
  dsimp only
  refine Frame.set_bal ?_ rfl
  split
  split
  refine Frame.step (State.setReg_frames _ _ _) rfl ?_
  refine forEach_frames ?_ ?_
  intro _
  intro _
  refine Frame.step (State.bankCommand_frames _ _) rfl ?_
  exact Frame.refl _ _
  exact Frame.refl _ _
  refine Frame.step (State.setReg_frames _ _ _) rfl ?_
  refine Frame.step (State.setReg_frames _ _ _) rfl ?_
  refine forEach_frames ?_ ?_
  intro _
  intro _
  refine Frame.step (State.bankCommand_frames _ _) rfl ?_
  exact Frame.refl _ _
  exact Frame.refl _ _
  split
  refine forEach_frames ?_ ?_
  intro _
  intro _
  refine Frame.step (State.bankCommand_frames _ _) rfl ?_
  exact Frame.refl _ _
  exact Frame.refl _ _
  refine Frame.step (State.setReg_frames _ _ _) rfl ?_
  refine forEach_frames ?_ ?_
  intro _
  intro _
  refine Frame.step (State.bankCommand_frames _ _) rfl ?_
  exact Frame.refl _ _
  exact Frame.refl _ _

theorem State.blocksBegin_frames (s0 : State) :
    Frame 0x00020004 s0 (State.blocksBegin s0) := by
  unfold State.blocksBegin
  dsimp only
  split
  refine forEach_frames ?_ ?_
  intro _
  intro _
  split
  exact Frame.refl _ _
  refine Frame.set_mdl ?_ rfl
  exact Frame.refl _ _
  refine Frame.step (State.setFlag_frames _ _ _) rfl ?_
  exact Frame.refl _ _
  refine Frame.set_mdl ?_ rfl
  refine Frame.step (State.setFlag_frames _ _ _) rfl ?_
  exact Frame.refl _ _

theorem State.estStrike_frames (ok : Bool) (s : State) :
    Frame 0x00070400 s (State.estStrike ok s) := by
  unfold State.estStrike
  dsimp only
  refine Frame.set_cur_est_mdl_bal ?_ rfl
  exact Frame.refl _ _

theorem State.inTime_frames (task : Nat) (s : State) :
    Frame 0x00000024 s (State.inTime task s) := by
  unfold State.inTime
  refine Frame.step (State.setBit_frames _ _ _ _) rfl ?_
  refine Frame.set_sys ?_ rfl
  exact Frame.refl _ _

theorem State.runNoted_frames (task : Nat) (s : State) :
    Frame 0x00000020 s (State.runNoted task s) := by
  unfold State.runNoted
  refine Frame.set_sys ?_ rfl
  exact Frame.refl _ _

theorem State.taskDone_frames (task : Nat) (s : State) :
    Frame 0x00000024 s (State.taskDone task s) := by
  unfold State.taskDone
  dsimp only
  refine Frame.set_sys ?_ rfl
  refine Frame.step (State.inTime_frames _ _) rfl ?_
  refine Frame.step (State.runNoted_frames _ _) rfl ?_
  exact Frame.refl _ _

theorem State.snapDelivered_frames (f : SnapFig) (s : State) :
    Frame 0x00010004 s (State.snapDelivered f s) := by
  unfold State.snapDelivered
  split
  exact Frame.refl _ _
  refine Frame.step (State.setFields_frames _ _) rfl ?_
  refine Frame.set_est ?_ rfl
  exact Frame.refl _ _

theorem State.mestMissed_frames (s : State) :
    Frame 0x00020004 s (State.mestMissed s) := by
  unfold State.mestMissed
  dsimp only
  refine Frame.set_mdl ?_ rfl
  refine Frame.step (State.mdlStale_frames _) rfl ?_
  exact Frame.refl _ _

theorem State.powerDown_frames (s : State) :
    Frame 0x00000084 s (State.powerDown s) := by
  unfold State.powerDown
  refine Frame.step (State.note_frames _ _ _ _) rfl ?_
  exact Frame.refl _ _

theorem State.endOfLife_frames (g : Nat) (s : State) :
    Frame 0x016020c4 s (State.endOfLife g s) := by
  unfold State.endOfLife
  refine Frame.step (State.level_frames _ _ _ _ _ _) rfl ?_
  exact Frame.refl _ _

theorem State.initModel_frames (theta : Bool) (g : Nat) (s : State) :
    Frame 0x00020000 s (State.initModel theta g s) := by
  unfold State.initModel
  dsimp only
  refine Frame.step (State.setMdl_frames _ _ _) rfl ?_
  exact Frame.refl _ _

theorem execQuietPeriodEnd_frames (s : State) :
    Frame 0x00040000 s (andThen execQuietPeriodEnd s) := by
  dsimp only [andThen, execQuietPeriodEnd]
  split
  exact Frame.refl _ _
  split
  refine Frame.set_bal ?_ rfl
  exact Frame.refl _ _
  split
  refine Frame.set_bal ?_ rfl
  exact Frame.refl _ _
  exact Frame.refl _ _

theorem State.pushImpedance_frames (num : Nat) (part : Nat) (mk : Flume → Option (List Nat)) (s : State) :
    Frame 0x00800000 s (State.pushImpedance num part mk s) := by
  unfold State.pushImpedance
  refine Frame.set_hif ?_ rfl
  exact Frame.refl _ _

theorem State.pushFit_frames (g : Nat) (spec : Nat) (c : Option Fit) (s : State) :
    Frame 0x00800000 s (State.pushFit g spec c s) := by
  unfold State.pushFit
  dsimp only
  split
  exact Frame.refl _ _
  refine Frame.step (State.pushImpedance_frames _ _ _ _) rfl ?_
  exact Frame.refl _ _

theorem State.mailRequest_frames (kind : Nat) (g : Nat) (value : Nat) (s : State) :
    Frame 0x00020000 s (State.mailRequest kind g value s) := by
  unfold State.mailRequest
  refine Frame.set_mdl ?_ rfl
  exact Frame.refl _ _

theorem State.pushBlock_frames (g : Nat) (k : Nat) (b : ZBlock) (s : State) :
    Frame 0x00020000 s (State.pushBlock g k b s) := by
  unfold State.pushBlock
  dsimp only
  refine Frame.set_mdl ?_ rfl
  exact Frame.refl _ _

theorem State.formPoint_frames (g : Nat) (k : Nat) (strike : Nat) (spec : Nat) (s : State) :
    Frame 0x00020000 s (State.formPoint g k strike spec s) := by
  unfold State.formPoint
  dsimp only
  split
  split
  refine Frame.set_mdl ?_ rfl
  exact Frame.refl _ _
  exact Frame.refl _ _
  exact Frame.refl _ _

theorem State.blockPos_frames (k : Nat) (c0 : Nat) (ok : Bool) (i : ℚ × ℚ) (mean : ℚ) (g : Nat) (s : State) :
    Frame 0x00020000 s (State.blockPos k c0 ok i mean g s) := by
  unfold State.blockPos
  dsimp only
  split
  refine Frame.step (State.formPoint_frames _ _ _ _ _) rfl ?_
  refine Frame.step (State.formPoint_frames _ _ _ _ _) rfl ?_
  split
  refine Frame.step (State.setMdl_frames _ _ _) rfl ?_
  refine Frame.step (State.pushBlock_frames _ _ _ _) rfl ?_
  exact Frame.refl _ _
  refine Frame.step (State.pushBlock_frames _ _ _ _) rfl ?_
  exact Frame.refl _ _
  refine Frame.step (State.pushBlock_frames _ _ _ _) rfl ?_
  exact Frame.refl _ _

theorem State.pushPoints_frames (k : Nat) (strike : Nat) (s : State) :
    Frame 0x00800000 s (State.pushPoints k strike s) := by
  unfold State.pushPoints
  dsimp only
  refine Frame.step (State.pushImpedance_frames _ _ _ _) rfl ?_
  refine Frame.step (State.pushImpedance_frames _ _ _ _) rfl ?_
  exact Frame.refl _ _

theorem execImpedanceBlockEnd_frames (k : Nat) (s : State) :
    Frame 0x00820000 s (andThen (execImpedanceBlockEnd k) s) := by
  dsimp only [andThen, execImpedanceBlockEnd]
  split
  refine Frame.set_mdl ?_ rfl
  refine Frame.step (State.pushPoints_frames _ _ _) rfl ?_
  refine Frame.set_mdl ?_ rfl
  refine forAll_frames ?_ ?_
  intro _
  intro _
  refine Frame.step (State.blockPos_frames _ _ _ _ _ _ _) rfl ?_
  exact Frame.refl _ _
  exact Frame.refl _ _
  exact Frame.refl _ _

theorem State.serveCopy_frames (k : Nat) (l : List Nat) (s : State) :
    Frame 0x00010044 s (State.serveCopy k l s) := by
  unfold State.serveCopy
  dsimp only
  refine forAll_frames ?_ ?_
  intro _
  intro _
  refine Frame.step (State.setEst_frames _ _ _) rfl ?_
  exact Frame.refl _ _
  refine Frame.step (State.goneAt_frames _ _ _) rfl ?_
  refine Frame.step (State.setFields_frames _ _) rfl ?_
  refine Frame.set_est ?_ rfl
  exact Frame.refl _ _

theorem execSnapshotDeliver_frames (s : State) :
    Frame 0x00010004 s (andThen execSnapshotDeliver s) := by
  dsimp only [andThen, execSnapshotDeliver]
  split
  exact Frame.refl _ _
  refine Frame.step (State.snapDelivered_frames _ _) rfl ?_
  refine Frame.set_est ?_ rfl
  exact Frame.refl _ _

theorem execDissipationExcess_frames (s : State) :
    Frame 0x016420c4 s (andThen execDissipationExcess s) := by
  dsimp only [andThen, execDissipationExcess]
  split
  refine Frame.set_bal ?_ rfl
  refine Frame.step (State.raiseLevel_frames _ _ _ _ _) rfl ?_
  exact Frame.refl _ _
  exact Frame.refl _ _

theorem execPlatingBumpEnd_frames (g : Nat) (s : State) :
    Frame 0x00020000 s (andThen (execPlatingBumpEnd g) s) := by
  dsimp only [andThen, execPlatingBumpEnd]
  split
  split
  refine Frame.step (State.setMdl_frames _ _ _) rfl ?_
  exact Frame.refl _ _
  exact Frame.refl _ _
  exact Frame.refl _ _

theorem execRestoreWindowClose_frames (s : State) :
    Frame 0x016120c4 s (andThen execRestoreWindowClose s) := by
  dsimp only [andThen, execRestoreWindowClose]
  split
  split
  split
  refine Frame.step (State.setFlag_frames _ _ _) rfl ?_
  refine Frame.set_est ?_ rfl
  exact Frame.refl _ _
  refine Frame.step (State.raiseLevel_frames _ _ _ _ _) rfl ?_
  refine Frame.step (State.setFlag_frames _ _ _) rfl ?_
  refine Frame.set_est ?_ rfl
  exact Frame.refl _ _
  exact Frame.refl _ _
  exact Frame.refl _ _

theorem State.shuttleOpens_frames (nn : Nat) (s : State) :
    Frame 0x00040004 s (State.shuttleOpens nn s) := by
  unfold State.shuttleOpens
  dsimp only
  split
  split
  refine Frame.set_bal ?_ rfl
  refine Frame.step (State.setReg_frames _ _ _) rfl ?_
  exact Frame.refl _ _
  split
  exact Frame.refl _ _
  refine Frame.set_bal ?_ rfl
  refine Frame.step (State.setReg_frames _ _ _) rfl ?_
  exact Frame.refl _ _
  exact Frame.refl _ _

theorem State.slotBad_frames (k : Nat) (s : State) :
    Frame 0x016120c4 s (State.slotBad k s) := by
  unfold State.slotBad
  split
  dsimp only
  refine Frame.step (State.beginBuild_frames _ _ _) rfl ?_
  refine Frame.step (State.raiseAs_frames _ _ _ _ _ _ _) rfl ?_
  refine Frame.set_est ?_ rfl
  exact Frame.refl _ _
  exact Frame.refl _ _

theorem State.dissipation_frames (limit : ℚ) (used : ℚ) (s : State) :
    Frame 0x00040040 s (State.dissipation limit used s) := by
  unfold State.dissipation
  dsimp only
  split
  refine Frame.step (State.goneAt_frames _ _ _) rfl ?_
  refine Frame.set_bal ?_ rfl
  exact Frame.refl _ _
  refine Frame.set_bal ?_ rfl
  exact Frame.refl _ _

theorem State.countPos_frames (dq : ℚ) (eq : ℚ) (g : Nat) (s : State) :
    Frame 0x00010084 s (State.countPos dq eq g s) := by
  unfold State.countPos
  dsimp only
  split
  split
  refine Frame.step (State.setEst_frames _ _ _) rfl ?_
  exact Frame.refl _ _
  refine Frame.step (State.note_frames _ _ _ _) rfl ?_
  refine Frame.step (State.setEst_frames _ _ _) rfl ?_
  exact Frame.refl _ _
  refine Frame.step (State.setEst_frames _ _ _) rfl ?_
  exact Frame.refl _ _

theorem State.countAll_frames (s : State) :
    Frame 0x00010084 s (State.countAll s) := by
  unfold State.countAll
  dsimp only
  refine Frame.set_est ?_ rfl
  split
  exact Frame.refl _ _
  refine forAll_frames ?_ ?_
  intro _
  intro _
  refine Frame.step (State.countPos_frames _ _ _ _) rfl ?_
  exact Frame.refl _ _
  exact Frame.refl _ _

theorem State.learn_frames (g : Nat) (a : Anchor) (p : EstPos) (s : State) :
    Frame 0x00010084 s (State.learn g a p s) := by
  unfold State.learn
  split
  dsimp only
  refine Frame.step (State.note_frames _ _ _ _) rfl ?_
  refine Frame.step (State.setEst_frames _ _ _) rfl ?_
  exact Frame.refl _ _
  refine Frame.step (State.note_frames _ _ _ _) rfl ?_
  refine Frame.step (State.setEst_frames _ _ _) rfl ?_
  exact Frame.refl _ _

theorem State.anchors_frames (g : Nat) (s : State) :
    Frame 0x00010084 s (State.anchors g s) := by
  unfold State.anchors
  dsimp only
  split
  split
  refine Frame.step (State.setEst_frames _ _ _) rfl ?_
  exact Frame.refl _ _
  split
  split
  refine Frame.step (State.learn_frames _ _ _ _) rfl ?_
  exact Frame.refl _ _
  exact Frame.refl _ _
  exact Frame.refl _ _
  exact Frame.refl _ _

theorem State.correct_frames (kind : Nat) (g : Nat) (l : List Nat) (t : ℤ) (v : ℚ) (margin : ℚ) (s : State) :
    Frame 0x016120c4 s (State.correct kind g l t v margin s) := by
  unfold State.correct
  dsimp only
  refine Frame.step (State.anchors_frames _ _) rfl ?_
  split
  refine Frame.step (State.setEst_frames _ _ _) rfl ?_
  exact Frame.refl _ _
  refine Frame.step (State.raise_frames _ _ _ _ _) rfl ?_
  refine Frame.step (State.setEst_frames _ _ _) rfl ?_
  exact Frame.refl _ _

theorem State.startCorrection_frames (g : Nat) (s : State) :
    Frame 0x016120c4 s (State.startCorrection g s) := by
  unfold State.startCorrection
  dsimp only
  split
  exact Frame.refl _ _
  split
  exact Frame.refl _ _
  split
  split
  refine Frame.step (State.correct_frames _ _ _ _ _ _ _) rfl ?_
  refine Frame.step (State.setEst_frames _ _ _) rfl ?_
  exact Frame.refl _ _
  refine Frame.step (State.setEst_frames _ _ _) rfl ?_
  exact Frame.refl _ _
  refine Frame.step (State.setEst_frames _ _ _) rfl ?_
  exact Frame.refl _ _

theorem State.restCorrection_frames (g : Nat) (s : State) :
    Frame 0x016120c4 s (State.restCorrection g s) := by
  unfold State.restCorrection
  dsimp only
  split
  split
  exact Frame.refl _ _
  split
  refine Frame.step (State.correct_frames _ _ _ _ _ _ _) rfl ?_
  refine Frame.step (State.setEst_frames _ _ _) rfl ?_
  exact Frame.refl _ _
  split
  refine Frame.step (State.setEst_frames _ _ _) rfl ?_
  exact Frame.refl _ _
  exact Frame.refl _ _
  exact Frame.refl _ _

theorem State.estPublish_frames (s : State) :
    Frame 0x016120c4 s (State.estPublish s) := by
  unfold State.estPublish
  dsimp only
  refine Frame.set_est ?_ rfl
  refine Frame.step (State.level_frames _ _ _ _ _ _) rfl ?_
  refine Frame.step (State.level_frames _ _ _ _ _ _) rfl ?_
  refine Frame.step (State.level_frames _ _ _ _ _ _) rfl ?_
  refine Frame.step (State.setFields_frames _ _) rfl ?_
  exact Frame.refl _ _

theorem State.estSup_frames (s : State) :
    Frame 0x016120c4 s (State.estSup s) := by
  unfold State.estSup
  dsimp only
  refine Frame.step (State.estPublish_frames _) rfl ?_
  refine forAll_frames ?_ ?_
  intro _
  intro _
  split
  refine Frame.step (State.endOfLife_frames _ _) rfl ?_
  exact Frame.refl _ _
  refine Frame.step (State.endOfLife_frames _ _) rfl ?_
  refine Frame.step (State.startCorrection_frames _ _) rfl ?_
  refine Frame.step (State.restCorrection_frames _ _) rfl ?_
  exact Frame.refl _ _
  refine Frame.step (State.countAll_frames _) rfl ?_
  exact Frame.refl _ _

theorem State.quietStart_frames (s : State) :
    Frame 0x00040000 s (State.quietStart s) := by
  unfold State.quietStart
  dsimp only
  split
  split
  refine Frame.set_bal ?_ rfl
  exact Frame.refl _ _
  exact Frame.refl _ _
  exact Frame.refl _ _

theorem State.candidates_frames (s : State) (cands : List (Nat × ℚ)) :
    Frame 0x00040000 s (State.candidates s cands) := by
  unfold State.candidates
  refine Frame.set_bal ?_ rfl
  exact Frame.refl _ _

theorem State.zeroLimit_frames (limit : ℚ) (some_ : Bool) (s : State) :
    Frame 0x00040084 s (State.zeroLimit limit some_ s) := by
  unfold State.zeroLimit
  dsimp only
  refine Frame.set_bal ?_ rfl
  split
  refine Frame.step (State.note_frames _ _ _ _) rfl ?_
  exact Frame.refl _ _
  exact Frame.refl _ _

theorem State.balShow_frames (limited : Bool) (limit : ℚ) (used : ℚ) (s : State) :
    Frame 0x00000004 s (State.balShow limited limit used s) := by
  unfold State.balShow
  refine Frame.step (State.setFields_frames _ _) rfl ?_
  exact Frame.refl _ _

theorem State.balRun_frames (s : State) :
    Frame 0x000400c4 s (State.balRun s) := by
  unfold State.balRun
  dsimp only
  refine Frame.step (State.zeroLimit_frames _ _ _) rfl ?_
  refine Frame.step (State.balShow_frames _ _ _ _) rfl ?_
  refine Frame.step (State.balCommands_frames _ _) rfl ?_
  refine Frame.step (State.candidates_frames _ _) rfl ?_
  refine Frame.step (State.quietStart_frames _) rfl ?_
  refine Frame.step (State.dissipation_frames _ _ _) rfl ?_
  exact Frame.refl _ _

theorem State.startIfFresh_frames (g : Nat) (s : State) :
    Frame 0x00020000 s (State.startIfFresh g s) := by
  unfold State.startIfFresh
  split
  refine Frame.step (State.initModel_frames _ _ _) rfl ?_
  exact Frame.refl _ _
  split
  refine Frame.step (State.initModel_frames _ _ _) rfl ?_
  exact Frame.refl _ _
  exact Frame.refl _ _

theorem execBal_frames (s : State) :
    Frame 0x000400e4 s (andThen execBal s) := by
  dsimp only [andThen, execBal]
  split
  refine Frame.step (State.taskDone_frames _ _) rfl ?_
  refine Frame.step (State.balRun_frames _) rfl ?_
  exact Frame.refl _ _
  exact Frame.refl _ _

theorem execBleedNonconvergence_frames (g : Nat) (s : State) :
    Frame 0x016420c4 s (andThen (execBleedNonconvergence g) s) := by
  dsimp only [andThen, execBleedNonconvergence]
  split
  split
  refine Frame.set_bal ?_ rfl
  refine Frame.step (State.raise_frames _ _ _ _ _) rfl ?_
  exact Frame.refl _ _
  exact Frame.refl _ _
  exact Frame.refl _ _

theorem State.indexWarn_frames (kind : Nat) (g : Nat) (value : Nat) (warn : Nat) (warned : Bool) (unmark : ModelPos → ModelPos) (s : State) :
    Frame 0x00020000 s (State.indexWarn kind g value warn warned unmark s) := by
  unfold State.indexWarn
  split
  split
  exact Frame.refl _ _
  refine Frame.step (State.mailRequest_frames _ _ _ _) rfl ?_
  exact Frame.refl _ _
  split
  refine Frame.step (State.setMdl_frames _ _ _) rfl ?_
  exact Frame.refl _ _
  exact Frame.refl _ _

theorem State.indices_frames (g : Nat) (s : State) :
    Frame 0x00020000 s (State.indices g s) := by
  unfold State.indices
  dsimp only
  split
  refine Frame.step (State.mailRequest_frames _ _ _ _) rfl ?_
  split
  refine Frame.step (State.mailRequest_frames _ _ _ _) rfl ?_
  refine Frame.step (State.indexWarn_frames _ _ _ _ _ _ _) rfl ?_
  refine Frame.step (State.indexWarn_frames _ _ _ _ _ _ _) rfl ?_
  exact Frame.refl _ _
  refine Frame.step (State.indexWarn_frames _ _ _ _ _ _ _) rfl ?_
  refine Frame.step (State.indexWarn_frames _ _ _ _ _ _ _) rfl ?_
  exact Frame.refl _ _
  split
  refine Frame.step (State.mailRequest_frames _ _ _ _) rfl ?_
  refine Frame.step (State.indexWarn_frames _ _ _ _ _ _ _) rfl ?_
  refine Frame.step (State.indexWarn_frames _ _ _ _ _ _ _) rfl ?_
  exact Frame.refl _ _
  refine Frame.step (State.indexWarn_frames _ _ _ _ _ _ _) rfl ?_
  refine Frame.step (State.indexWarn_frames _ _ _ _ _ _ _) rfl ?_
  exact Frame.refl _ _

theorem State.fitVisit_frames (g : Nat) (s : State) :
    Frame 0x00820024 s (State.fitVisit g s) := by
  unfold State.fitVisit
  dsimp only
  split
  split
  refine Frame.step (State.setBit_frames _ _ _ _) rfl ?_
  refine Frame.set_sys_mdl ?_ rfl
  refine Frame.step (State.pushFit_frames _ _ _ _) rfl ?_
  refine Frame.step (State.pushFit_frames _ _ _ _) rfl ?_
  refine Frame.step (State.indices_frames _ _) rfl ?_
  refine Frame.step (State.setMdl_frames _ _ _) rfl ?_
  exact Frame.refl _ _
  refine Frame.set_sys_mdl ?_ rfl
  refine Frame.step (State.pushFit_frames _ _ _ _) rfl ?_
  refine Frame.step (State.pushFit_frames _ _ _ _) rfl ?_
  refine Frame.step (State.indices_frames _ _) rfl ?_
  refine Frame.step (State.setMdl_frames _ _ _) rfl ?_
  exact Frame.refl _ _
  split
  refine Frame.step (State.setBit_frames _ _ _ _) rfl ?_
  refine Frame.set_sys_mdl ?_ rfl
  refine Frame.step (State.pushFit_frames _ _ _ _) rfl ?_
  refine Frame.step (State.pushFit_frames _ _ _ _) rfl ?_
  refine Frame.step (State.indices_frames _ _) rfl ?_
  refine Frame.step (State.setMdl_frames _ _ _) rfl ?_
  exact Frame.refl _ _
  refine Frame.set_sys_mdl ?_ rfl
  refine Frame.step (State.pushFit_frames _ _ _ _) rfl ?_
  refine Frame.step (State.pushFit_frames _ _ _ _) rfl ?_
  refine Frame.step (State.indices_frames _ _) rfl ?_
  refine Frame.step (State.setMdl_frames _ _ _) rfl ?_
  exact Frame.refl _ _

theorem execFit_frames (s : State) :
    Frame 0x00820024 s (andThen execFit s) := by
  dsimp only [andThen, execFit]
  split
  split
  refine Frame.step (State.setReg_frames _ _ _) rfl ?_
  refine Frame.step (State.fitVisit_frames _ _) rfl ?_
  exact Frame.refl _ _
  exact Frame.refl _ _
  exact Frame.refl _ _

theorem State.warnTaken_frames (crcOk : Bool) (r : AdvReq) (s : State) :
    Frame 0x016220c4 s (State.warnTaken crcOk r s) := by
  unfold State.warnTaken
  dsimp only
  split
  exact Frame.refl _ _
  split
  split
  refine Frame.step (State.raise_frames _ _ _ _ _) rfl ?_
  refine Frame.step (State.setMdl_frames _ _ _) rfl ?_
  exact Frame.refl _ _
  exact Frame.refl _ _
  split
  refine Frame.step (State.raise_frames _ _ _ _ _) rfl ?_
  refine Frame.step (State.setMdl_frames _ _ _) rfl ?_
  exact Frame.refl _ _
  exact Frame.refl _ _

theorem execAdvisoryRequest_frames (crcOk : Bool) (s : State) :
    Frame 0x016220c4 s (andThen (execAdvisoryRequest crcOk) s) := by
  dsimp only [andThen, execAdvisoryRequest]
  split
  split
  exact Frame.refl _ _
  split
  refine Frame.step (State.warnTaken_frames _ _ _) rfl ?_
  refine Frame.set_mdl ?_ rfl
  exact Frame.refl _ _
  split
  refine Frame.set_mdl ?_ rfl
  refine Frame.step (State.setFields_frames _ _) rfl ?_
  refine Frame.set_mdl ?_ rfl
  exact Frame.refl _ _
  refine Frame.step (State.raise_frames _ _ _ _ _) rfl ?_
  refine Frame.step (State.setFields_frames _ _) rfl ?_
  refine Frame.set_mdl ?_ rfl
  exact Frame.refl _ _
  exact Frame.refl _ _

theorem State.balErrAdd_frames (g : Nat) (e : ℚ) (s : State) :
    Frame 0x00040000 s (State.balErrAdd g e s) := by
  unfold State.balErrAdd
  refine Frame.set_bal ?_ rfl
  exact Frame.refl _ _

theorem State.shuttleStrike_frames (b : BankIn) (s : State) :
    Frame 0x00040044 s (State.shuttleStrike b s) := by
  unfold State.shuttleStrike
  dsimp only
  refine Frame.set_bal ?_ rfl
  split
  split
  refine Frame.step (State.balErrAdd_frames _ _ _) rfl ?_
  refine Frame.step (State.setReg_frames _ _ _) rfl ?_
  exact Frame.refl _ _
  refine Frame.step (State.setReg_frames _ _ _) rfl ?_
  exact Frame.refl _ _
  refine Frame.step (State.goneAt_frames _ _ _) rfl ?_
  split
  refine Frame.step (State.balErrAdd_frames _ _ _) rfl ?_
  refine Frame.step (State.setReg_frames _ _ _) rfl ?_
  exact Frame.refl _ _
  refine Frame.step (State.setReg_frames _ _ _) rfl ?_
  exact Frame.refl _ _

theorem execGenerationSwitch_frames (s : State) :
    Frame 0x00010044 s (andThen execGenerationSwitch s) := by
  dsimp only [andThen, execGenerationSwitch]
  split
  refine Frame.step (State.buildRegs_frames _) rfl ?_
  refine Frame.set_est ?_ rfl
  refine forAll_frames ?_ ?_
  intro _
  intro _
  refine Frame.step (State.serveCopy_frames _ _ _) rfl ?_
  exact Frame.refl _ _
  refine Frame.step (State.suspendSlots_frames _) rfl ?_
  exact Frame.refl _ _
  exact Frame.refl _ _

theorem execVecResume_frames (s : State) :
    Frame 0x00020000 s (andThen execVecResume s) := by
  dsimp only [andThen, execVecResume]
  split
  split
  split
  refine Frame.set_mdl ?_ rfl
  exact Frame.refl _ _
  refine Frame.set_mdl ?_ rfl
  exact Frame.refl _ _
  exact Frame.refl _ _
  exact Frame.refl _ _

theorem modelRestoreEntry_frames {l : List Nat} {g : Nat} {s t : State}
    (h : s.modelRestoreEntry l g = some t) : Frame 0x00020000 s t := by
  unfold State.modelRestoreEntry at h
  dsimp only at h
  (repeat' split at h) <;> first | (cases h; exact Frame.set_mdl (Frame.step (State.setMdl_frames _ _ _) rfl (Frame.refl _ _)) rfl) | cases h

theorem State.restoreModel_frames (l : List Nat) (s : State) :
    Frame 0x00020084 s (State.restoreModel l s).1 := by
  unfold State.restoreModel
  split
  dsimp only
  refine foldl_fst_frames ?_ ?_
  intro _
  intro _
  split
  dsimp only
  refine Frame.step (modelRestoreEntry_frames ‹_›) rfl ?_
  exact Frame.refl _ _
  exact Frame.refl _ _
  dsimp only
  exact Frame.refl _ _
  dsimp only
  refine Frame.step (State.note_frames _ _ _ _) rfl ?_
  exact Frame.refl _ _

theorem execAdvisoryPersist_frames (kind : Nat) (g : Nat) (s : State) :
    Frame 0x016220c4 s (andThen (execAdvisoryPersist kind g) s) := by
  dsimp only [andThen, execAdvisoryPersist]
  split
  split
  refine Frame.step (State.raise_frames _ _ _ _ _) rfl ?_
  refine Frame.set_mdl ?_ rfl
  exact Frame.refl _ _
  refine Frame.step (State.raise_frames _ _ _ _ _) rfl ?_
  refine Frame.set_mdl ?_ rfl
  exact Frame.refl _ _
  exact Frame.refl _ _

theorem State.balNoted_frames (nn : Nat) (s : State) :
    Frame 0x00040000 s (State.balNoted nn s) := by
  unfold State.balNoted
  dsimp only
  refine Frame.set_bal ?_ rfl
  exact Frame.refl _ _

theorem State.stepPos_frames (g : Nat) (s : State) :
    Frame 0x00020084 s (State.stepPos g s) := by
  unfold State.stepPos
  dsimp only
  split
  split
  refine Frame.step (State.setMdl_frames _ _ _) rfl ?_
  refine Frame.step (State.note_frames _ _ _ _) rfl ?_
  refine Frame.step (State.initModel_frames _ _ _) rfl ?_
  refine Frame.step (State.setMdl_frames _ _ _) rfl ?_
  refine Frame.step (State.startIfFresh_frames _ _) rfl ?_
  exact Frame.refl _ _
  refine Frame.step (State.setMdl_frames _ _ _) rfl ?_
  refine Frame.step (State.startIfFresh_frames _ _) rfl ?_
  exact Frame.refl _ _
  split
  refine Frame.step (State.setMdl_frames _ _ _) rfl ?_
  refine Frame.step (State.note_frames _ _ _ _) rfl ?_
  refine Frame.step (State.initModel_frames _ _ _) rfl ?_
  refine Frame.step (State.setMdl_frames _ _ _) rfl ?_
  refine Frame.step (State.startIfFresh_frames _ _) rfl ?_
  exact Frame.refl _ _
  refine Frame.step (State.setMdl_frames _ _ _) rfl ?_
  refine Frame.step (State.startIfFresh_frames _ _) rfl ?_
  exact Frame.refl _ _

theorem State.bleedCount_frames (nn : Nat) (p : Nat) (s : State) :
    Frame 0x00040000 s (State.bleedCount nn p s) := by
  unfold State.bleedCount
  dsimp only
  split
  exact Frame.refl _ _
  refine Frame.step (State.balErrAdd_frames _ _ _) rfl ?_
  refine Frame.set_bal ?_ rfl
  exact Frame.refl _ _

theorem State.balStrike_frames (b : BankIn) (s : State) :
    Frame 0x00040044 s (State.balStrike b s) := by
  unfold State.balStrike
  dsimp only
  refine forAll_frames ?_ ?_
  intro _
  intro _
  refine Frame.step (State.bleedCount_frames _ _ _) rfl ?_
  exact Frame.refl _ _
  refine Frame.step (State.shuttleStrike_frames _ _) rfl ?_
  refine Frame.step (State.shuttleOpens_frames _ _) rfl ?_
  refine Frame.step (State.balNoted_frames _ _) rfl ?_
  exact Frame.refl _ _

theorem execMest_frames (s : State) :
    Frame 0x000200a4 s (andThen execMest s) := by
  dsimp only [andThen, execMest]
  split
  refine Frame.step (State.setReg_frames _ _ _) rfl ?_
  refine Frame.step (State.taskDone_frames _ _) rfl ?_
  refine Frame.set_mdl ?_ rfl
  split
  refine Frame.set_mdl ?_ rfl
  refine Frame.step (State.setFields_frames _ _) rfl ?_
  refine forAll_frames ?_ ?_
  intro _
  intro _
  refine Frame.step (State.stepPos_frames _ _) rfl ?_
  exact Frame.refl _ _
  exact Frame.refl _ _
  exact Frame.refl _ _
  exact Frame.refl _ _

theorem execShuttleFault_frames (nn : Nat) (code : Nat) (s : State) :
    Frame 0x016420c4 s (andThen (execShuttleFault nn code) s) := by
  dsimp only [andThen, execShuttleFault]
  split
  refine Frame.set_bal ?_ rfl
  refine Frame.step (State.setFlag_frames _ _ _) rfl ?_
  refine Frame.step (State.raise_frames _ _ _ _ _) rfl ?_
  exact Frame.refl _ _
  split
  refine Frame.step (State.setFlag_frames _ _ _) rfl ?_
  refine Frame.step (State.raiseLevel_frames _ _ _ _ _) rfl ?_
  exact Frame.refl _ _
  exact Frame.refl _ _

theorem execSnapshotPeriodic_frames (s : State) :
    Frame 0x00010000 s (andThen execSnapshotPeriodic s) := by
  dsimp only [andThen, execSnapshotPeriodic]
  split
  split
  refine Frame.set_est ?_ rfl
  exact Frame.refl _ _
  exact Frame.refl _ _
  exact Frame.refl _ _

theorem execShuttleChange_frames (nn : Nat) (s : State) :
    Frame 0x00040004 s (andThen (execShuttleChange nn) s) := by
  dsimp only [andThen, execShuttleChange]
  split
  refine Frame.set_bal ?_ rfl
  refine Frame.step (State.setFields_frames _ _) rfl ?_
  exact Frame.refl _ _
  exact Frame.refl _ _

theorem execSnapshotDiscard_frames (s : State) :
    Frame 0x00010000 s (andThen execSnapshotDiscard s) := by
  dsimp only [andThen, execSnapshotDiscard]
  split
  split
  refine Frame.set_est ?_ rfl
  exact Frame.refl _ _
  exact Frame.refl _ _
  exact Frame.refl _ _

theorem execTableBuildComplete_frames (k : Nat) (s : State) :
    Frame 0x00010084 s (andThen (execTableBuildComplete k) s) := by
  dsimp only [andThen, execTableBuildComplete]
  split
  exact Frame.refl _ _
  split
  split
  refine Frame.step (State.buildRegs_frames _) rfl ?_
  refine Frame.set_est ?_ rfl
  exact Frame.refl _ _
  refine Frame.step (State.note_frames _ _ _ _) rfl ?_
  refine Frame.step (State.buildRegs_frames _) rfl ?_
  refine Frame.set_est ?_ rfl
  exact Frame.refl _ _
  exact Frame.refl _ _

end Sys2Proof.Machine
end

