-- ==== Sys2Proof/Laws/FrameControl.lean ====
section
/-! SUPPORT. Frames of the envelope, the Governor and the Millpond: the parts of the state that each definition may change. -/
namespace Sys2Proof.Machine

theorem State.destSat_frames (d : Nat) (sat_ : Bool) (s : State) :
    Frame 0x00000004 s (State.destSat d sat_ s) := by
  unfold State.destSat
  split
  refine forEach_frames ?_ ?_
  intro _
  intro _
  refine Frame.step (State.setBit_frames _ _ _ _) rfl ?_
  refine Frame.step (State.setFlag_frames _ _ _) rfl ?_
  exact Frame.refl _ _
  exact Frame.refl _ _
  exact Frame.refl _ _

theorem State.mapsShown_frames (s : State) :
    Frame 0x00000004 s (State.mapsShown s) := by
  unfold State.mapsShown
  refine Frame.step (State.setReg_frames _ _ _) rfl ?_
  exact Frame.refl _ _

theorem State.mapsApply_frames (s : State) :
    Frame 0x00100004 s (State.mapsApply s) := by
  unfold State.mapsApply
  split
  exact Frame.refl _ _
  dsimp only
  refine Frame.step (State.mapsShown_frames _) rfl ?_
  refine Frame.set_env ?_ rfl
  exact Frame.refl _ _

theorem State.envTurnStart_frames (s : State) :
    Frame 0x00100004 s (State.envTurnStart s) := by
  unfold State.envTurnStart
  dsimp only
  split
  refine Frame.step (State.mapsApply_frames _) rfl ?_
  exact Frame.refl _ _
  split
  refine Frame.set_env ?_ rfl
  refine Frame.step (State.setFields_frames _ _) rfl ?_
  refine Frame.step (State.mapsApply_frames _) rfl ?_
  exact Frame.refl _ _
  split
  refine Frame.set_env ?_ rfl
  refine Frame.step (State.setFlag_frames _ _ _) rfl ?_
  refine Frame.step (State.mapsApply_frames _) rfl ?_
  exact Frame.refl _ _
  refine Frame.step (State.mapsApply_frames _) rfl ?_
  exact Frame.refl _ _

theorem State.setSlot_frames (n : Nat) (x : GovSlot) (s : State) :
    Frame 0x00080000 s (State.setSlot n x s) := by
  unfold State.setSlot
  refine Frame.set_gov ?_ rfl
  exact Frame.refl _ _

theorem State.envFall_frames (s : State) :
    Frame 0x00100000 s (State.envFall s) := by
  unfold State.envFall
  split
  dsimp only
  refine Frame.set_env ?_ rfl
  exact Frame.refl _ _
  exact Frame.refl _ _

theorem State.setpLatch_frames (s : State) :
    Frame 0x00100000 s (State.setpLatch s) := by
  unfold State.setpLatch
  split
  refine Frame.set_env ?_ rfl
  exact Frame.refl _ _
  exact Frame.refl _ _

theorem State.commitRec_frames (e : StrikeRec × Option TurnRec) (s : State) :
    Frame 0x00200004 s (State.commitRec e s) := by
  unfold State.commitRec
  dsimp only
  refine Frame.set_mpd ?_ rfl
  refine Frame.step (State.setFields_frames _ _) rfl ?_
  exact Frame.refl _ _

theorem State.intake_frames (late : Bool) (r : StrikeRec) (t : Option TurnRec) (s : State) :
    Frame 0x00200004 s (State.intake late r t s) := by
  unfold State.intake
  split
  refine Frame.set_mpd ?_ rfl
  exact Frame.refl _ _
  refine Frame.step (State.commitRec_frames _ _) rfl ?_
  exact Frame.refl _ _

theorem slotWord_frames (n : Nat) (o : Nat) (s : State) (w : Nat) :
    Frame 0x016020c4 s (slotWord n o s w).1 := by
  unfold slotWord
  split
  dsimp only
  split
  dsimp only
  refine Frame.step (State.note_frames _ _ _ _) rfl ?_
  exact Frame.refl _ _
  dsimp only
  exact Frame.refl _ _
  split
  dsimp only [refusePair]
  refine refuseIf_frames ?_ ?_
  intro _
  refine Frame.step (State.noteBad_frames _ _ _) rfl ?_
  exact Frame.refl _ _
  refine refuseIf_frames ?_ ?_
  intro _
  refine Frame.step (State.noteBad_frames _ _ _) rfl ?_
  exact Frame.refl _ _
  dsimp only
  exact Frame.refl _ _
  split
  dsimp only [refusePair]
  refine refuseIf_frames ?_ ?_
  intro _
  refine Frame.step (State.noteBad_frames _ _ _) rfl ?_
  exact Frame.refl _ _
  refine refuseIf_frames ?_ ?_
  intro _
  refine Frame.step (State.noteBad_frames _ _ _) rfl ?_
  exact Frame.refl _ _
  dsimp only
  exact Frame.refl _ _
  split
  dsimp only [refusePair]
  refine refuseIf_frames ?_ ?_
  intro _
  refine Frame.step (State.noteBad_frames _ _ _) rfl ?_
  exact Frame.refl _ _
  dsimp only
  exact Frame.refl _ _
  dsimp only
  exact Frame.refl _ _

theorem repCleared_frames (n : Nat) (o : Nat) (w : Nat) (before : State) (s : State) :
    Frame 0x00080084 s (repCleared n o w before s) := by
  unfold repCleared
  split
  refine Frame.step (State.note_frames _ _ _ _) rfl ?_
  refine Frame.step (State.setSlot_frames _ _ _) rfl ?_
  exact Frame.refl _ _
  exact Frame.refl _ _

theorem State.govStore_frames (off : Nat) (w : Nat) (rwl : Option Session) (s : State) :
    Frame 0x0160a0c4 s (State.govStore off w rwl s) := by
  unfold State.govStore
  dsimp only
  split
  split
  refine Frame.step (State.setFields_frames _ _) rfl ?_
  refine Frame.step (State.noteBad_frames _ _ _) rfl ?_
  exact Frame.refl _ _
  refine Frame.step (State.clogWrite_frames _ _) rfl ?_
  refine Frame.step (State.setFields_frames _ _) rfl ?_
  refine Frame.step (State.setFields_frames _ _) rfl ?_
  refine Frame.step (State.noteBad_frames _ _ _) rfl ?_
  exact Frame.refl _ _
  refine Frame.step (State.setFields_frames _ _) rfl ?_
  refine Frame.step (State.noteBad_frames _ _ _) rfl ?_
  exact Frame.refl _ _

theorem rangeWord_frames (s : State) (w : Nat) :
    Frame 0x00080084 s (rangeWord s w).1 := by
  unfold rangeWord
  dsimp only
  split
  dsimp only
  exact Frame.refl _ _
  split
  dsimp only
  refine Frame.step (State.note_frames _ _ _ _) rfl ?_
  exact Frame.refl _ _
  dsimp only
  refine Frame.set_gov ?_ rfl
  refine Frame.step (State.setFlag_frames _ _ _) rfl ?_
  exact Frame.refl _ _

theorem enableSlot_frames (was : Nat) (n : Nat) (s : State) :
    Frame 0x00080040 s (enableSlot was n s) := by
  unfold enableSlot
  dsimp only
  split
  refine Frame.step (State.setSlot_frames _ _ _) rfl ?_
  exact Frame.refl _ _
  split
  refine Frame.step (State.goneAt_frames _ _ _) rfl ?_
  refine Frame.step (State.setSlot_frames _ _ _) rfl ?_
  exact Frame.refl _ _
  exact Frame.refl _ _

theorem State.govEffect_frames (e : GovEntry) (s : State) :
    Frame 0x0168a0c4 s (State.govEffect e s) := by
  unfold State.govEffect
  dsimp only
  split
  refine Frame.step (repCleared_frames _ _ _ _ _) rfl ?_
  refine Frame.step (State.govStore_frames _ _ _ _) rfl ?_
  refine Frame.step (slotWord_frames _ _ _ _) rfl ?_
  exact Frame.refl _ _
  split
  refine Frame.step (State.govStore_frames _ _ _ _) rfl ?_
  refine Frame.step (rangeWord_frames _ _) rfl ?_
  exact Frame.refl _ _
  split
  refine forEach_frames ?_ ?_
  intro _
  intro _
  refine Frame.step (enableSlot_frames _ _ _) rfl ?_
  exact Frame.refl _ _
  refine Frame.step (State.govStore_frames _ _ _ _) rfl ?_
  exact Frame.refl _ _
  refine Frame.step (State.govStore_frames _ _ _ _) rfl ?_
  exact Frame.refl _ _

theorem State.govLatch_frames (s : State) :
    Frame 0x0168a0c4 s (State.govLatch s) := by
  unfold State.govLatch
  dsimp only
  split
  exact Frame.refl _ _
  refine Frame.step (State.govEffect_frames _ _) rfl ?_
  refine Frame.step (State.setReg_frames _ _ _) rfl ?_
  refine Frame.set_gov ?_ rfl
  exact Frame.refl _ _

theorem State.govRef_frames (inh : Bool) (s : State) :
    Frame 0x000a0004 s (State.govRef inh s) := by
  unfold State.govRef
  dsimp only
  refine Frame.set_mdl_gov ?_ rfl
  refine Frame.step (State.setFields_frames _ _) rfl ?_
  refine Frame.step (State.destSat_frames _ _ _) rfl ?_
  exact Frame.refl _ _

theorem State.latchClamp_frames (s : State) :
    Frame 0x00080000 s (State.latchClamp s) := by
  unfold State.latchClamp
  split
  refine Frame.set_gov ?_ rfl
  exact Frame.refl _ _
  exact Frame.refl _ _

theorem State.slotShow_frames (n : Nat) (sat_ : Bool) (on : Bool) (s : State) :
    Frame 0x00000004 s (State.slotShow n sat_ on s) := by
  unfold State.slotShow
  dsimp only
  split
  refine Frame.step (State.setBit_frames _ _ _ _) rfl ?_
  refine Frame.step (State.setFlag_frames _ _ _) rfl ?_
  refine Frame.step (State.setBit_frames _ _ _ _) rfl ?_
  refine Frame.step (State.setBit_frames _ _ _ _) rfl ?_
  refine Frame.step (State.setFields_frames _ _) rfl ?_
  exact Frame.refl _ _
  refine Frame.step (State.setBit_frames _ _ _ _) rfl ?_
  refine Frame.step (State.setBit_frames _ _ _ _) rfl ?_
  refine Frame.step (State.setFields_frames _ _) rfl ?_
  exact Frame.refl _ _

theorem govTrack_frames (outs : Tab ℤ) (ins : Tab (Option (ℤ × ℤ))) (n : Nat) (s : State) :
    Frame 0x00080004 s (govTrack outs ins n s) := by
  unfold govTrack
  split
  exact Frame.refl _ _
  dsimp only
  refine Frame.step (State.slotShow_frames _ _ _ _) rfl ?_
  refine Frame.step (State.setSlot_frames _ _ _) rfl ?_
  exact Frame.refl _ _

theorem State.govSlots_frames (r : StrikeRec) (inh : Bool) (release : Bool) (s : State) :
    Frame 0x00080004 s (State.govSlots r inh release s) := by
  unfold State.govSlots
  dsimp only
  refine forEach_frames ?_ ?_
  intro _
  intro _
  refine Frame.step (govTrack_frames _ _ _ _) rfl ?_
  exact Frame.refl _ _
  refine forEach_fst_frames ?_ ?_
  intro _
  intro _
  dsimp only [govSlot]
  split
  dsimp only
  refine Frame.step (State.slotShow_frames _ _ _ _) rfl ?_
  refine Frame.step (State.setSlot_frames _ _ _) rfl ?_
  exact Frame.refl _ _
  dsimp only
  exact Frame.refl _ _
  dsimp only
  exact Frame.refl _ _

theorem State.govReadback_frames (aout : Bool) (act : Nat) (s : State) :
    Frame 0x00080040 s (State.govReadback aout act s) := by
  unfold State.govReadback
  split
  dsimp only
  refine forEach_frames ?_ ?_
  intro _
  intro _
  split
  exact Frame.refl _ _
  refine Frame.step (State.goneAt_frames _ _ _) rfl ?_
  exact Frame.refl _ _
  split
  refine Frame.set_gov ?_ rfl
  exact Frame.refl _ _
  refine Frame.step (State.goneAt_frames _ _ _) rfl ?_
  refine Frame.set_gov ?_ rfl
  exact Frame.refl _ _
  exact Frame.refl _ _

theorem State.actOut_frames (force : Bool) (k : Nat) (s : State) :
    Frame 0x00000004 s (State.actOut force k s) := by
  unfold State.actOut
  dsimp only
  refine Frame.step (State.setFields_frames _ _) rfl ?_
  refine Frame.step (State.destSat_frames _ _ _) rfl ?_
  exact Frame.refl _ _

theorem State.govActs_frames (s : State) :
    Frame 0x00080084 s (State.govActs s) := by
  unfold State.govActs
  dsimp only
  refine Frame.set_gov ?_ rfl
  split
  refine Frame.step (State.note_frames _ _ _ _) rfl ?_
  refine forEach_frames ?_ ?_
  intro _
  intro _
  refine Frame.step (State.actOut_frames _ _ _) rfl ?_
  exact Frame.refl _ _
  exact Frame.refl _ _
  refine forEach_frames ?_ ?_
  intro _
  intro _
  refine Frame.step (State.actOut_frames _ _ _) rfl ?_
  exact Frame.refl _ _
  exact Frame.refl _ _

theorem State.govPort_frames (read : Bool) (s : State) :
    Frame 0x00080044 s (State.govPort read s) := by
  unfold State.govPort
  dsimp only
  split
  split
  refine Frame.step (State.goneAt_frames _ _ _) rfl ?_
  refine Frame.set_gov ?_ rfl
  refine Frame.step (State.setFields_frames _ _) rfl ?_
  exact Frame.refl _ _
  refine Frame.set_gov ?_ rfl
  refine Frame.step (State.setFields_frames _ _) rfl ?_
  exact Frame.refl _ _
  split
  refine Frame.step (State.goneAt_frames _ _ _) rfl ?_
  refine Frame.set_gov ?_ rfl
  refine Frame.step (State.setFields_frames _ _) rfl ?_
  exact Frame.refl _ _
  refine Frame.set_gov ?_ rfl
  refine Frame.step (State.setFields_frames _ _) rfl ?_
  exact Frame.refl _ _

theorem State.governor_frames (i : StrikeIn) (r : StrikeRec) (s : State) :
    Frame 0x017aa0c4 s (State.governor i r s) := by
  unfold State.governor
  dsimp only
  refine Frame.step (State.govReadback_frames _ _ _) rfl ?_
  refine Frame.step (State.govActs_frames _) rfl ?_
  refine Frame.step (State.govPort_frames _ _) rfl ?_
  refine Frame.step (State.govRef_frames _ _) rfl ?_
  refine Frame.step (State.latchClamp_frames _) rfl ?_
  refine Frame.step (State.govSlots_frames _ _ _ _) rfl ?_
  refine Frame.set_env ?_ rfl
  refine Frame.set_env ?_ rfl
  refine doIf_frames ?_ ?_
  intro _
  refine Frame.step (State.govLatch_frames _) rfl ?_
  exact Frame.refl _ _
  exact Frame.refl _ _

theorem State.govWrite_frames (p : Path) (off : Nat) (w : Nat) (s : State) :
    Frame 0x0168a0c4 s (State.govWrite p off w s) := by
  unfold State.govWrite
  dsimp only
  split
  split
  refine Frame.set_gov ?_ rfl
  refine Frame.step (State.setReg_frames _ _ _) rfl ?_
  exact Frame.refl _ _
  refine Frame.step (State.note_frames _ _ _ _) rfl ?_
  refine Frame.step (State.setFlag_frames _ _ _) rfl ?_
  exact Frame.refl _ _
  split
  refine Frame.step (State.note_frames _ _ _ _) rfl ?_
  exact Frame.refl _ _
  split
  refine Frame.set_auth ?_ rfl
  split
  refine Frame.set_gov ?_ rfl
  refine Frame.step (State.setReg_frames _ _ _) rfl ?_
  exact Frame.refl _ _
  refine Frame.step (State.note_frames _ _ _ _) rfl ?_
  refine Frame.step (State.setFlag_frames _ _ _) rfl ?_
  exact Frame.refl _ _
  refine Frame.step (State.raise_frames _ _ _ _ _) rfl ?_
  exact Frame.refl _ _

theorem State.setpointWritten_frames (s : State) :
    Frame 0x00100044 s (State.setpointWritten s) := by
  unfold State.setpointWritten
  dsimp only
  refine Frame.set_env ?_ rfl
  refine Frame.step (State.goneAt_frames _ _ _) rfl ?_
  refine Frame.step (State.setFlag_frames _ _ _) rfl ?_
  exact Frame.refl _ _

theorem State.setpointWrite_frames (p : Path) (w : Nat) (s : State) :
    Frame 0x0170a0c4 s (State.setpointWrite p w s) := by
  unfold State.setpointWrite
  refine Frame.step (State.setpointWritten_frames _) rfl ?_
  refine Frame.step (State.writeWord_frames _ _ _ _) rfl ?_
  exact Frame.refl _ _

theorem execGovWrite_frames (path : Path) (off : Nat) (w : Word) (s : State) :
    Frame 0x0168a0c4 s (andThen (execGovWrite path off w) s) := by
  dsimp only [andThen, execGovWrite]
  split
  refine Frame.step (State.govWrite_frames _ _ _ _) rfl ?_
  exact Frame.refl _ _
  exact Frame.refl _ _

theorem State.millpondWrite_frames (a : Nat) (bytes : List Nat) (s : State) :
    Frame 0x10200000 s (State.millpondWrite a bytes s) := by
  unfold State.millpondWrite
  dsimp only
  refine Frame.set_mpd ?_ rfl
  refine Frame.step (State.writeMem_frames _ _ _ _) rfl ?_
  exact Frame.refl _ _

theorem State.modelLost_frames (g : Nat) (s : State) :
    Frame 0x00020000 s (State.modelLost g s) := by
  unfold State.modelLost
  dsimp only
  refine Frame.step (State.mdlFresh_frames _ _ _) rfl ?_
  refine Frame.step (State.setMdl_frames _ _ _) rfl ?_
  exact Frame.refl _ _

theorem State.poisonRegion_frames (a : Nat) (units : List Nat) (s : State) :
    Frame 0x016220e4 s (State.poisonRegion a units s) := by
  unfold State.poisonRegion
  dsimp only
  split
  refine Frame.step (State.raise_frames _ _ _ _ _) rfl ?_
  refine Frame.set_mpd ?_ rfl
  exact Frame.refl _ _
  refine Frame.step (State.raise_frames _ _ _ _ _) rfl ?_
  refine Frame.set_mpd ?_ rfl
  exact Frame.refl _ _
  refine Frame.step (State.raise_frames _ _ _ _ _) rfl ?_
  exact Frame.refl _ _
  refine Frame.step (State.raise_frames _ _ _ _ _) rfl ?_
  refine Frame.set_sys ?_ rfl
  exact Frame.refl _ _
  refine forAll_frames ?_ ?_
  intro _
  intro _
  refine Frame.step (State.modelLost_frames _ _) rfl ?_
  exact Frame.refl _ _
  refine Frame.step (State.note_frames _ _ _ _) rfl ?_
  exact Frame.refl _ _
  refine Frame.step (State.raise_frames _ _ _ _ _) rfl ?_
  refine Frame.set_hop ?_ rfl
  exact Frame.refl _ _

theorem State.eccBad_frames (w : Nat) (pos : List Nat) (s : State) :
    Frame 0x016220e4 s (State.eccBad w pos s) := by
  unfold State.eccBad
  dsimp only
  split
  refine Frame.step (State.raise_frames _ _ _ _ _) rfl ?_
  refine Frame.set_mpd ?_ rfl
  refine Frame.step (State.poisonRegion_frames _ _ _) rfl ?_
  refine Frame.step (State.setFields_frames _ _) rfl ?_
  refine Frame.step (State.addSat_frames _ _ _) rfl ?_
  refine Frame.set_mpd ?_ rfl
  exact Frame.refl _ _
  refine Frame.step (State.poisonRegion_frames _ _ _) rfl ?_
  refine Frame.step (State.setFields_frames _ _) rfl ?_
  refine Frame.step (State.addSat_frames _ _ _) rfl ?_
  refine Frame.set_mpd ?_ rfl
  exact Frame.refl _ _

theorem State.eccCorrected_frames (s : State) :
    Frame 0x016020c4 s (State.eccCorrected s) := by
  unfold State.eccCorrected
  dsimp only
  split
  refine Frame.step (State.raise_frames _ _ _ _ _) rfl ?_
  refine Frame.set_mpd ?_ rfl
  refine Frame.step (State.addSat_frames _ _ _) rfl ?_
  refine Frame.set_mpd ?_ rfl
  exact Frame.refl _ _
  refine Frame.step (State.addSat_frames _ _ _) rfl ?_
  refine Frame.set_mpd ?_ rfl
  exact Frame.refl _ _

theorem State.ecc_frames (e : EccIn) (s : State) :
    Frame 0x016220e4 s (State.ecc e s) := by
  unfold State.ecc
  dsimp only
  refine forAll_frames ?_ ?_
  intro _
  intro _
  refine Frame.step (State.eccBad_frames _ _ _) rfl ?_
  exact Frame.refl _ _
  refine forAll_frames ?_ ?_
  intro _
  intro _
  refine Frame.step (State.eccCorrected_frames _) rfl ?_
  exact Frame.refl _ _
  exact Frame.refl _ _

theorem execScrubPass_frames (e : EccIn) (s : State) :
    Frame 0x016220e4 s (andThen (execScrubPass e) s) := by
  dsimp only [andThen, execScrubPass]
  split
  refine Frame.set_mpd ?_ rfl
  refine Frame.step (State.ecc_frames _ _) rfl ?_
  exact Frame.refl _ _
  exact Frame.refl _ _

theorem execIntakeCommitLate_frames (s : State) :
    Frame 0x016020c4 s (andThen execIntakeCommitLate s) := by
  dsimp only [andThen, execIntakeCommitLate]
  split
  exact Frame.refl _ _
  refine Frame.step (State.commitRec_frames _ _) rfl ?_
  refine Frame.step (State.raise_frames _ _ _ _ _) rfl ?_
  refine Frame.set_mpd ?_ rfl
  exact Frame.refl _ _

theorem execSetpointReadbackFault_frames (s : State) :
    Frame 0x016020c4 s (andThen execSetpointReadbackFault s) := by
  dsimp only [andThen, execSetpointReadbackFault]
  split
  refine Frame.step (State.raiseLevel_frames _ _ _ _ _) rfl ?_
  exact Frame.refl _ _
  exact Frame.refl _ _

theorem State.mapLevels_frames (s : State) :
    Frame 0x016020c4 s (State.mapLevels s) := by
  unfold State.mapLevels
  dsimp only
  refine forEach_frames ?_ ?_
  intro _
  intro _
  refine Frame.step (State.level_frames _ _ _ _ _ _) rfl ?_
  exact Frame.refl _ _
  exact Frame.refl _ _

theorem State.envReference_frames (s : State) :
    Frame 0x017020c4 s (State.envReference s) := by
  unfold State.envReference
  dsimp only
  refine Frame.set_env ?_ rfl
  refine Frame.step (State.level_frames _ _ _ _ _ _) rfl ?_
  exact Frame.refl _ _

theorem State.envAccounts_frames (l : List ℚ × List ℚ) (s : State) :
    Frame 0x00100084 s (State.envAccounts l s) := by
  unfold State.envAccounts
  dsimp only
  refine Frame.set_env ?_ rfl
  split
  refine Frame.step (State.note_frames _ _ _ _) rfl ?_
  split
  refine Frame.step (State.note_frames _ _ _ _) rfl ?_
  exact Frame.refl _ _
  exact Frame.refl _ _
  split
  refine Frame.step (State.note_frames _ _ _ _) rfl ?_
  exact Frame.refl _ _
  exact Frame.refl _ _

theorem State.envShow_frames (s : State) :
    Frame 0x00000004 s (State.envShow s) := by
  unfold State.envShow
  dsimp only
  refine Frame.step (State.setFields_frames _ _) rfl ?_
  exact Frame.refl _ _

theorem State.envRun_frames (s : State) :
    Frame 0x017020c4 s (State.envRun s) := by
  unfold State.envRun
  dsimp only
  refine Frame.set_env ?_ rfl
  refine Frame.step (State.goneAt_frames _ _ _) rfl ?_
  refine Frame.step (State.envShow_frames _) rfl ?_
  refine Frame.step (State.envReference_frames _) rfl ?_
  refine Frame.step (State.envAccounts_frames _ _) rfl ?_
  refine Frame.step (State.mapLevels_frames _) rfl ?_
  exact Frame.refl _ _

theorem execEnv_frames (s : State) :
    Frame 0x017020e4 s (andThen execEnv s) := by
  dsimp only [andThen, execEnv]
  split
  refine Frame.step (State.taskDone_frames _ _) rfl ?_
  refine Frame.step (State.envRun_frames _) rfl ?_
  exact Frame.refl _ _
  exact Frame.refl _ _

theorem execSlotFailExit_frames (n : Nat) (s : State) :
    Frame 0x00000040 s (andThen (execSlotFailExit n) s) := by
  dsimp only [andThen, execSlotFailExit]
  split
  refine Frame.step (State.goneAt_frames _ _ _) rfl ?_
  exact Frame.refl _ _
  exact Frame.refl _ _

theorem execSetpointWrite_frames (path : Path) (w : Word) (s : State) :
    Frame 0x0170a0c4 s (andThen (execSetpointWrite path w) s) := by
  dsimp only [andThen, execSetpointWrite]
  split
  exact Frame.refl _ _
  refine Frame.step (State.setpointWrite_frames _ _ _) rfl ?_
  exact Frame.refl _ _

theorem execSlotFail_frames (n : Nat) (s : State) :
    Frame 0x016820c4 s (andThen (execSlotFail n) s) := by
  dsimp only [andThen, execSlotFail]
  split
  refine Frame.step (State.slotShow_frames _ _ _ _) rfl ?_
  refine Frame.step (State.raiseLevel_frames _ _ _ _ _) rfl ?_
  split
  exact Frame.refl _ _
  refine Frame.step (State.setSlot_frames _ _ _) rfl ?_
  exact Frame.refl _ _
  exact Frame.refl _ _

theorem execRangeChangeComplete_frames (s : State) :
    Frame 0x00080004 s (andThen execRangeChangeComplete s) := by
  dsimp only [andThen, execRangeChangeComplete]
  split
  split
  refine Frame.set_gov ?_ rfl
  refine Frame.step (State.setFlag_frames _ _ _) rfl ?_
  exact Frame.refl _ _
  exact Frame.refl _ _
  exact Frame.refl _ _

theorem execEnvelopeStale_frames (s : State) :
    Frame 0x017020c4 s (andThen execEnvelopeStale s) := by
  dsimp only [andThen, execEnvelopeStale]
  split
  refine Frame.set_env ?_ rfl
  refine Frame.step (State.setFlag_frames _ _ _) rfl ?_
  refine Frame.step (State.raiseLevel_frames _ _ _ _ _) rfl ?_
  exact Frame.refl _ _
  exact Frame.refl _ _

theorem execSetpointTimeout_frames (s : State) :
    Frame 0x016020c4 s (andThen execSetpointTimeout s) := by
  dsimp only [andThen, execSetpointTimeout]
  split
  split
  refine Frame.step (State.setFlag_frames _ _ _) rfl ?_
  refine Frame.step (State.raiseLevel_frames _ _ _ _ _) rfl ?_
  exact Frame.refl _ _
  exact Frame.refl _ _
  exact Frame.refl _ _

theorem execAnalogRangeChange_frames (s : State) :
    Frame 0x00080000 s (andThen execAnalogRangeChange s) := by
  dsimp only [andThen, execAnalogRangeChange]
  split
  split
  refine Frame.set_gov ?_ rfl
  exact Frame.refl _ _
  exact Frame.refl _ _
  exact Frame.refl _ _

theorem execActReadbackFault_frames (k : Nat) (s : State) :
    Frame 0x016020c4 s (andThen (execActReadbackFault k) s) := by
  dsimp only [andThen, execActReadbackFault]
  split
  refine Frame.step (State.raiseLevel_frames _ _ _ _ _) rfl ?_
  exact Frame.refl _ _
  exact Frame.refl _ _

theorem execAoutReadbackFault_frames (s : State) :
    Frame 0x016020c4 s (andThen execAoutReadbackFault s) := by
  dsimp only [andThen, execAoutReadbackFault]
  split
  refine Frame.step (State.raiseLevel_frames _ _ _ _ _) rfl ?_
  exact Frame.refl _ _
  exact Frame.refl _ _

end Sys2Proof.Machine
end

