-- ==== Sys2Proof/Laws/FrameHost.lean ====
section
/-! SUPPORT. Frames of rings, commands, the event log, the Hopper and flumes: the parts of the state that each definition may change. -/
namespace Sys2Proof.Machine

theorem State.svcSend_frames (conn : Nat) (l : List Nat) (s : State) :
    Frame 0x02800000 s (State.svcSend conn l s) := by
  unfold State.svcSend
  dsimp only
  refine Frame.step (State.txPut_frames _ _ _) rfl ?_
  refine Frame.set_hif ?_ rfl
  exact Frame.refl _ _

theorem State.took_frames (s : State) :
    Frame 0x00000002 s (State.took s) := by
  unfold State.took
  refine Frame.set_free ?_ rfl
  exact Frame.refl _ _

theorem State.svcComplete_frames (conn : Nat) (c : CmdRef) (y : Reply) (s : State) :
    Frame 0x02800002 s (State.svcComplete conn c y s) := by
  unfold State.svcComplete
  split
  exact Frame.refl _ _
  dsimp only
  refine Frame.step (State.svcSend_frames _ _ _) rfl ?_
  refine Frame.step (State.took_frames _) rfl ?_
  exact Frame.refl _ _

theorem State.setFn_frames (n : Nat) (f : HostFn) (s : State) :
    Frame 0x00800000 s (State.setFn n f s) := by
  unfold State.setFn
  refine Frame.set_hif ?_ rfl
  exact Frame.refl _ _

theorem State.updFn_frames (n : Nat) (f : HostFn → HostFn) (s : State) :
    Frame 0x00800000 s (State.updFn n f s) := by
  unfold State.updFn
  refine Frame.step (State.setFn_frames _ _ _) rfl ?_
  exact Frame.refl _ _

theorem State.heldFull_frames (fn : Nat) (s : State) :
    Frame 0x016020c4 s (State.heldFull fn s) := by
  unfold State.heldFull
  refine Frame.step (State.hifFault_frames _ _ _ _) rfl ?_
  exact Frame.refl _ _

theorem State.hold_frames (fn : Nat) (e : HostEntry) (s : State) :
    Frame 0x01e020c4 s (State.hold fn e s) := by
  unfold State.hold
  split
  refine Frame.step (State.updFn_frames _ _ _) rfl ?_
  exact Frame.refl _ _
  refine Frame.step (State.heldFull_frames _ _) rfl ?_
  exact Frame.refl _ _

theorem State.sendPme_frames (fn : Nat) (s : State) :
    Frame 0x00800000 s (State.sendPme fn s) := by
  unfold State.sendPme
  dsimp only
  refine Frame.set_hif ?_ rfl
  refine Frame.step (State.updFn_frames _ _ _) rfl ?_
  exact Frame.refl _ _

theorem State.wakeSource_frames (fn : Nat) (s : State) :
    Frame 0x00800004 s (State.wakeSource fn s) := by
  unfold State.wakeSource
  dsimp only
  split
  split
  refine Frame.step (State.setFlag_frames _ _ _) rfl ?_
  refine Frame.step (State.setFn_frames _ _ _) rfl ?_
  exact Frame.refl _ _
  split
  refine Frame.step (State.sendPme_frames _ _) rfl ?_
  refine Frame.step (State.setFn_frames _ _ _) rfl ?_
  exact Frame.refl _ _
  refine Frame.step (State.setFn_frames _ _ _) rfl ?_
  exact Frame.refl _ _
  exact Frame.refl _ _

theorem State.setRing_frames (fn : Nat) (r : Nat) (x : Ring) (s : State) :
    Frame 0x00800000 s (State.setRing fn r x s) := by
  unfold State.setRing
  refine Frame.set_hif ?_ rfl
  exact Frame.refl _ _

theorem State.eventTo_frames (fn : Nat) (seq : Nat) (e : EvRec) (r : Nat) (s : State) :
    Frame 0x01e020c4 s (State.eventTo fn seq e r s) := by
  unfold State.eventTo
  dsimp only
  split
  split
  refine Frame.step (State.wakeSource_frames _ _) rfl ?_
  refine Frame.step (State.hold_frames _ _ _) rfl ?_
  exact Frame.refl _ _
  refine Frame.step (State.hold_frames _ _ _) rfl ?_
  exact Frame.refl _ _
  split
  refine Frame.step (State.hold_frames _ _ _) rfl ?_
  exact Frame.refl _ _
  split
  exact Frame.refl _ _
  split
  refine Frame.set_hif ?_ rfl
  exact Frame.refl _ _
  refine Frame.step (State.hifFault_frames _ _ _ _) rfl ?_
  refine Frame.step (State.setRing_frames _ _ _ _) rfl ?_
  exact Frame.refl _ _

theorem State.post_frames (fn : Nat) (e : HostEntry) (s : State) :
    Frame 0x01e020c4 s (State.post fn e s) := by
  unfold State.post
  split
  refine Frame.step (State.hold_frames _ _ _) rfl ?_
  exact Frame.refl _ _
  refine Frame.set_hif ?_ rfl
  exact Frame.refl _ _

theorem State.cacheOut_frames (fn : Nat) (r : Nat) (s : State) :
    Frame 0x00800000 s (State.cacheOut fn r s) := by
  unfold State.cacheOut
  refine Frame.set_hif ?_ rfl
  exact Frame.refl _ _

theorem State.dropRing_frames (fn : Nat) (r : Nat) (s : State) :
    Frame 0x00800000 s (State.dropRing fn r s) := by
  unfold State.dropRing
  refine Frame.set_hif ?_ rfl
  exact Frame.refl _ _

theorem State.updRing_frames (fn : Nat) (r : Nat) (f : Ring → Ring) (s : State) :
    Frame 0x00800000 s (State.updRing fn r f s) := by
  unfold State.updRing
  split
  refine Frame.step (State.setRing_frames _ _ _ _) rfl ?_
  exact Frame.refl _ _
  exact Frame.refl _ _

theorem State.hostWrite_frames (fn : Nat) (addr : Nat) (l : List Nat) (s : State) :
    Frame 0x00800000 s (State.hostWrite fn addr l s) := by
  unfold State.hostWrite
  refine Frame.set_hif ?_ rfl
  exact Frame.refl _ _

theorem State.writeBack_frames (fn : Nat) (r : Nat) (s : State) :
    Frame 0x00800000 s (State.writeBack fn r s) := by
  unfold State.writeBack
  split
  refine Frame.step (State.hostWrite_frames _ _ _ _) rfl ?_
  exact Frame.refl _ _
  exact Frame.refl _ _

theorem State.unloaded_frames (fn : Nat) (r : Nat) (s : State) :
    Frame 0x00800004 s (State.unloaded fn r s) := by
  unfold State.unloaded
  refine Frame.step (State.updFn_frames _ _ _) rfl ?_
  refine Frame.step (State.setFlag_frames _ _ _) rfl ?_
  refine Frame.step (State.cacheOut_frames _ _ _) rfl ?_
  refine Frame.step (State.dropRing_frames _ _ _) rfl ?_
  refine Frame.step (State.writeBack_frames _ _ _) rfl ?_
  exact Frame.refl _ _

theorem State.completeWith_frames (c : CmdRef) (y : Reply) (snap : Option SnapFig) (s : State) :
    Frame 0x03e020c6 s (State.completeWith c y snap s) := by
  unfold State.completeWith
  dsimp only
  split
  refine Frame.step (State.svcComplete_frames _ _ _ _) rfl ?_
  exact Frame.refl _ _
  split
  exact Frame.refl _ _
  split
  refine Frame.step (State.unloaded_frames _ _ _) rfl ?_
  refine Frame.step (State.post_frames _ _ _) rfl ?_
  refine Frame.step (State.setRing_frames _ _ _ _) rfl ?_
  exact Frame.refl _ _
  refine Frame.step (State.post_frames _ _ _) rfl ?_
  refine Frame.step (State.setRing_frames _ _ _ _) rfl ?_
  exact Frame.refl _ _

theorem State.complete_frames (c : CmdRef) (y : Reply) (s : State) :
    Frame 0x03e020c6 s (State.complete c y s) := by
  unfold State.complete
  refine Frame.step (State.completeWith_frames _ _ _ _) rfl ?_
  exact Frame.refl _ _

theorem State.setHopSlot_frames (k : Nat) (x : HopSlot) (s : State) :
    Frame 0x01000000 s (State.setHopSlot k x s) := by
  unfold State.setHopSlot
  refine Frame.set_hop ?_ rfl
  exact Frame.refl _ _

theorem State.setHopState_frames (k : Nat) (v : Nat) (s : State) :
    Frame 0x00000004 s (State.setHopState k v s) := by
  unfold State.setHopState
  refine Frame.step (State.setReg_frames _ _ _) rfl ?_
  exact Frame.refl _ _

theorem State.frameRegs_frames (s : State) :
    Frame 0x00000004 s (State.frameRegs s) := by
  unfold State.frameRegs
  dsimp only
  split
  refine Frame.step (State.setFields_frames _ _) rfl ?_
  refine Frame.step (State.setFields_frames _ _) rfl ?_
  exact Frame.refl _ _
  refine Frame.step (State.setFields_frames _ _) rfl ?_
  exact Frame.refl _ _

theorem State.hopLevels_frames (s : State) :
    Frame 0x016020c4 s (State.hopLevels s) := by
  unfold State.hopLevels
  refine Frame.step (State.level_frames _ _ _ _ _ _) rfl ?_
  refine Frame.step (State.level_frames _ _ _ _ _ _) rfl ?_
  exact Frame.refl _ _

theorem State.hopAdmit_frames (k : Nat) (erase : Bool) (s : State) :
    Frame 0x016020c4 s (State.hopAdmit k erase s).1 := by
  unfold State.hopAdmit
  dsimp only
  split
  dsimp only
  exact Frame.refl _ _
  dsimp only
  refine Frame.step (State.frameRegs_frames _) rfl ?_
  refine Frame.step (State.hopLevels_frames _) rfl ?_
  refine Frame.step (State.note_frames _ _ _ _) rfl ?_
  refine Frame.step (State.note_frames _ _ _ _) rfl ?_
  refine Frame.step (State.goneAt_frames _ _ _) rfl ?_
  refine Frame.step (State.setFields_frames _ _) rfl ?_
  refine Frame.step (State.setHopState_frames _ _ _) rfl ?_
  refine Frame.step (State.setHopSlot_frames _ _ _) rfl ?_
  exact Frame.refl _ _

theorem State.cartFound_frames (k : Nat) (c : Cartridge) (readable : Bool) (s : State) :
    Frame 0x016020c4 s (State.cartFound k c readable s) := by
  unfold State.cartFound
  dsimp only
  split
  split
  refine Frame.step (State.hopAdmit_frames _ _ _) rfl ?_
  refine Frame.step (State.setFields_frames _ _) rfl ?_
  refine Frame.step (State.setHopSlot_frames _ _ _) rfl ?_
  exact Frame.refl _ _
  refine Frame.step (State.setFields_frames _ _) rfl ?_
  refine Frame.step (State.setHopSlot_frames _ _ _) rfl ?_
  exact Frame.refl _ _
  refine Frame.step (State.raiseLevel_frames _ _ _ _ _) rfl ?_
  refine Frame.step (State.setFlag_frames _ _ _) rfl ?_
  refine Frame.step (State.setFields_frames _ _) rfl ?_
  refine Frame.step (State.setHopSlot_frames _ _ _) rfl ?_
  exact Frame.refl _ _

theorem State.abortCmd_frames (c : CmdRef) (s0 : State) :
    Frame 0x6100a004 s0 (State.abortCmd c s0) := by
  unfold State.abortCmd
  dsimp only
  refine Frame.set_slu_auth_hop_sec ?_ rfl rfl id id
  split
  split
  refine Frame.step (State.liveRevert_frames _) rfl ?_
  exact Frame.refl _ _
  exact Frame.refl _ _
  exact Frame.refl _ _

theorem State.fnReset_frames (perst : Bool) (fn : Nat) (s : State) :
    Frame 0x61e0a0c4 s (State.fnReset perst fn s) := by
  unfold State.fnReset
  dsimp only
  refine Frame.step (State.hifFault_frames _ _ _ _) rfl ?_
  split
  refine Frame.step (State.setFields_frames _ _) rfl ?_
  refine Frame.step (State.setFn_frames _ _ _) rfl ?_
  refine Frame.set_regs_hif ?_ rfl
  refine forAll_frames ?_ ?_
  intro _
  intro _
  refine Frame.step (State.abortCmd_frames _ _) rfl ?_
  exact Frame.refl _ _
  exact Frame.refl _ _
  refine Frame.step (State.setFn_frames _ _ _) rfl ?_
  refine Frame.set_regs_hif ?_ rfl
  refine forAll_frames ?_ ?_
  intro _
  intro _
  refine Frame.step (State.abortCmd_frames _ _) rfl ?_
  exact Frame.refl _ _
  exact Frame.refl _ _

theorem State.sendVector_frames (fn : Nat) (v : Nat) (s : State) :
    Frame 0x00800000 s (State.sendVector fn v s) := by
  unfold State.sendVector
  dsimp only
  split
  refine Frame.set_hif ?_ rfl
  exact Frame.refl _ _
  refine Frame.step (State.setFn_frames _ _ _) rfl ?_
  exact Frame.refl _ _

theorem State.quiet_frames (s : State) :
    Frame 0x00800000 s (State.quiet s) := by
  unfold State.quiet
  refine Frame.set_hif ?_ rfl
  exact Frame.refl _ _

theorem State.fetch_frames (c : CmdIn) (secret : Bool) (s : State) :
    Frame 0x00800000 s (State.fetch c secret s).1 := by
  unfold State.fetch
  dsimp only
  split
  refine Frame.step (State.hostWrite_frames _ _ _ _) rfl ?_
  refine Frame.step (State.setRing_frames _ _ _ _) rfl ?_
  exact Frame.refl _ _
  refine Frame.step (State.setRing_frames _ _ _ _) rfl ?_
  exact Frame.refl _ _

theorem execCellTableRead_frames (path : Path) (w : Word) (s : State) :
    Frame 0x0160a0c4 s (andThen (execCellTableRead path w) s) := by
  dsimp only [andThen, execCellTableRead]
  split
  exact Frame.refl _ _
  refine Frame.step (State.setFlag_frames _ _ _) rfl ?_
  refine Frame.step (State.writeWord_frames _ _ _ _) rfl ?_
  exact Frame.refl _ _

theorem State.holdWaiting_frames (fn : Nat) (s : State) :
    Frame 0x01e020c4 s (State.holdWaiting fn s) := by
  unfold State.holdWaiting
  dsimp only
  refine forAll_frames ?_ ?_
  intro _
  intro _
  refine Frame.step (State.hold_frames _ _ _) rfl ?_
  exact Frame.refl _ _
  refine Frame.set_hif ?_ rfl
  exact Frame.refl _ _

theorem State.linkLost_frames (s : State) :
    Frame 0x01e0a0c4 s (State.linkLost s) := by
  unfold State.linkLost
  dsimp only
  refine Frame.step (State.sessionCloseOf_frames _ _) rfl ?_
  refine forEach_frames ?_ ?_
  intro _
  intro _
  refine Frame.step (State.holdWaiting_frames _ _) rfl ?_
  exact Frame.refl _ _
  split
  refine Frame.step (State.setFields_frames _ _) rfl ?_
  exact Frame.refl _ _
  refine Frame.step (State.raise_frames _ _ _ _ _) rfl ?_
  refine forEach_frames ?_ ?_
  intro _
  intro _
  refine Frame.step (State.setFields_frames _ _) rfl ?_
  exact Frame.refl _ _
  refine forEach_frames ?_ ?_
  intro _
  intro _
  refine Frame.step (State.updFn_frames _ _ _) rfl ?_
  exact Frame.refl _ _
  refine Frame.step (State.setFields_frames _ _) rfl ?_
  exact Frame.refl _ _

theorem execLinkDown_frames (s : State) :
    Frame 0x01e0a0c4 s (andThen execLinkDown s) := by
  dsimp only [andThen, execLinkDown]
  split
  refine Frame.step (State.linkLost_frames _) rfl ?_
  refine Frame.step (State.quiet_frames _) rfl ?_
  exact Frame.refl _ _
  exact Frame.refl _ _

theorem State.dropFlume_frames (fn : Nat) (r : Nat) (s : State) :
    Frame 0x00800000 s (State.dropFlume fn r s) := by
  unfold State.dropFlume
  refine Frame.set_hif ?_ rfl
  exact Frame.refl _ _

theorem State.completeBuf_frames (fn : Nat) (r : Nat) (did : Nat) (status : Nat) (info : Nat) (result : Nat) (snap : Option SnapFig) (s : State) :
    Frame 0x01e020c4 s (State.completeBuf fn r did status info result snap s) := by
  unfold State.completeBuf
  split
  refine Frame.step (State.post_frames _ _ _) rfl ?_
  exact Frame.refl _ _
  exact Frame.refl _ _

theorem State.closeBuf_frames (fn : Nat) (r : Nat) (status : Nat) (f : Flume) (s : State) :
    Frame 0x01e020c4 s (State.closeBuf fn r status f s).1 := by
  unfold State.closeBuf
  dsimp only
  split
  dsimp only
  exact Frame.refl _ _
  dsimp only
  refine Frame.step (State.completeBuf_frames _ _ _ _ _ _ _ _) rfl ?_
  exact Frame.refl _ _

theorem State.setFlume_frames (fn : Nat) (r : Nat) (f : Flume) (s : State) :
    Frame 0x00800000 s (State.setFlume fn r f s) := by
  unfold State.setFlume
  refine Frame.set_hif ?_ rfl
  exact Frame.refl _ _

theorem execReaderOverrun_frames (reader : Option (Nat × Nat)) (s : State) :
    Frame 0x01e020c4 s (andThen (execReaderOverrun reader) s) := by
  dsimp only [andThen, execReaderOverrun]
  split
  split
  split
  refine Frame.step (State.raise_frames _ _ _ _ _) rfl ?_
  refine Frame.step (State.addSat_frames _ _ _) rfl ?_
  refine Frame.set_hop ?_ rfl
  exact Frame.refl _ _
  exact Frame.refl _ _
  exact Frame.refl _ _
  split
  split
  split
  split
  refine Frame.step (State.dropFlume_frames _ _ _) rfl ?_
  refine Frame.step (State.closeBuf_frames _ _ _ _ _) rfl ?_
  refine Frame.step (State.note_frames _ _ _ _) rfl ?_
  refine Frame.step (State.addSat_frames _ _ _) rfl ?_
  refine Frame.step (State.quiet_frames _) rfl ?_
  exact Frame.refl _ _
  refine Frame.step (State.setFlume_frames _ _ _ _) rfl ?_
  refine Frame.step (State.note_frames _ _ _ _) rfl ?_
  refine Frame.step (State.addSat_frames _ _ _) rfl ?_
  refine Frame.step (State.quiet_frames _) rfl ?_
  exact Frame.refl _ _
  refine Frame.step (State.setFlume_frames _ _ _ _) rfl ?_
  refine Frame.step (State.note_frames _ _ _ _) rfl ?_
  refine Frame.step (State.addSat_frames _ _ _) rfl ?_
  refine Frame.step (State.quiet_frames _) rfl ?_
  exact Frame.refl _ _
  exact Frame.refl _ _
  exact Frame.refl _ _

theorem State.ejectAnswer_frames (k : Nat) (y : Reply) (s : State) :
    Frame 0x03e020c6 s (State.ejectAnswer k y s) := by
  unfold State.ejectAnswer
  dsimp only
  split
  refine Frame.step (State.complete_frames _ _ _) rfl ?_
  refine Frame.step (State.setHopSlot_frames _ _ _) rfl ?_
  exact Frame.refl _ _
  exact Frame.refl _ _

theorem State.backlogRegs_frames (s : State) :
    Frame 0x016020c4 s (State.backlogRegs s) := by
  unfold State.backlogRegs
  dsimp only
  refine Frame.step (State.level_frames _ _ _ _ _ _) rfl ?_
  refine Frame.step (State.setReg_frames _ _ _) rfl ?_
  exact Frame.refl _ _

theorem State.stage_frames (c : Chunk) (s : State) :
    Frame 0x016020c4 s (State.stage c s) := by
  unfold State.stage
  dsimp only
  refine Frame.step (State.backlogRegs_frames _) rfl ?_
  refine Frame.set_hop ?_ rfl
  exact Frame.refl _ _

theorem State.rateRegs_frames (s : State) :
    Frame 0x00000004 s (State.rateRegs s) := by
  unfold State.rateRegs
  dsimp only
  split
  exact Frame.refl _ _
  refine Frame.step (State.setFields_frames _ _) rfl ?_
  exact Frame.refl _ _

theorem State.closeChunk_frames (first : Nat) (stop : Nat) (short : Bool) (s : State) :
    Frame 0x016020c4 s (State.closeChunk first stop short s) := by
  unfold State.closeChunk
  dsimp only
  refine Frame.step (State.rateRegs_frames _) rfl ?_
  refine Frame.set_hop ?_ rfl
  refine Frame.step (State.stage_frames _ _) rfl ?_
  exact Frame.refl _ _

theorem State.closeShort_frames (s : State) :
    Frame 0x016020c4 s (State.closeShort s) := by
  unfold State.closeShort
  split
  split
  refine Frame.step (State.closeChunk_frames _ _ _ _) rfl ?_
  exact Frame.refl _ _
  exact Frame.refl _ _
  exact Frame.refl _ _

theorem State.mapCart_frames (k : Nat) (f : Cartridge → Cartridge) (s : State) :
    Frame 0x01000000 s (State.mapCart k f s) := by
  unfold State.mapCart
  refine Frame.step (State.setHopSlot_frames _ _ _) rfl ?_
  exact Frame.refl _ _

theorem State.pruneStaging_frames (s : State) :
    Frame 0x016020c4 s (State.pruneStaging s) := by
  unfold State.pruneStaging
  dsimp only
  split
  exact Frame.refl _ _
  refine Frame.step (State.backlogRegs_frames _) rfl ?_
  refine Frame.set_hop ?_ rfl
  exact Frame.refl _ _

theorem State.commitChunk_frames (k : Nat) (c : Chunk) (s : State) :
    Frame 0x016020c4 s (State.commitChunk k c s) := by
  unfold State.commitChunk
  dsimp only
  refine Frame.step (State.frameRegs_frames _) rfl ?_
  refine Frame.step (State.pruneStaging_frames _) rfl ?_
  refine Frame.set_hop ?_ rfl
  refine Frame.step (State.setHopSlot_frames _ _ _) rfl ?_
  refine Frame.step (State.mapCart_frames _ _ _) rfl ?_
  exact Frame.refl _ _

theorem State.minuteEnd_frames (s : State) :
    Frame 0x01000000 s (State.minuteEnd s) := by
  unfold State.minuteEnd
  dsimp only
  refine Frame.set_hop ?_ rfl
  exact Frame.refl _ _

theorem State.copyRecords_frames (s : State) :
    Frame 0x01008080 s (State.copyRecords s) := by
  unfold State.copyRecords
  dsimp only
  split
  exact Frame.refl _ _
  refine Frame.set_evl_auth_hop ?_ rfl
  refine forAll_frames ?_ ?_
  intro _
  intro _
  refine Frame.step (State.mapCart_frames _ _ _) rfl ?_
  exact Frame.refl _ _
  exact Frame.refl _ _

theorem State.hopFlush_frames (held : Bool) (s : State) :
    Frame 0x0160a0c4 s (State.hopFlush held s) := by
  unfold State.hopFlush
  dsimp only
  refine Frame.step (State.copyRecords_frames _) rfl ?_
  refine Frame.set_hop ?_ rfl
  refine forAll_frames ?_ ?_
  intro _
  intro _
  refine Frame.step (State.mapCart_frames _ _ _) rfl ?_
  exact Frame.refl _ _
  refine Frame.step (State.minuteEnd_frames _) rfl ?_
  refine forAll_frames ?_ ?_
  intro _
  intro _
  refine forAll_frames ?_ ?_
  intro _
  intro _
  refine Frame.step (State.commitChunk_frames _ _ _) rfl ?_
  exact Frame.refl _ _
  exact Frame.refl _ _
  refine Frame.step (State.closeShort_frames _) rfl ?_
  exact Frame.refl _ _

theorem cacheIn_frames {fn r : Nat} {s t : State} (h : s.cacheIn fn r = some t) : Frame 0x00800004 s t := by
  unfold State.cacheIn at h
  dsimp only at h
  split at h
  · cases h
    exact Frame.set_hif (Frame.refl _ _) rfl
  · split at h
    · cases h
      refine Frame.set_hif ?_ rfl
      refine Frame.set_hif ?_ rfl
      exact Frame.step (State.writeBack_frames _ _ _) rfl (Frame.refl _ _)
    · cases h

theorem State.needCtx_frames (fn r : Nat) (s : State) : Frame 0x00800004 s (s.needCtx fn r).1 := by
  unfold State.needCtx
  dsimp only
  have h : Frame 0x00800004 s (if s.hif.cache.contains (ringKey fn r) then s else s.addSat (Reg.HIF_FN_CACHE_MISS fn) 1) := by
    split
    · exact Frame.refl _ _
    · exact Frame.step (State.addSat_frames _ _ _) rfl (Frame.refl _ _)
  split
  · exact Frame.step (cacheIn_frames ‹_›) rfl h
  · exact h

theorem State.minuteStart_frames (s : State) :
    Frame 0x01000000 s (State.minuteStart s) := by
  unfold State.minuteStart
  split
  refine Frame.step (State.minuteEnd_frames _) rfl ?_
  exact Frame.refl _ _
  exact Frame.refl _ _

theorem State.hopTurnStart_frames (s : State) :
    Frame 0x016020c4 s (State.hopTurnStart s) := by
  unfold State.hopTurnStart
  dsimp only
  split
  split
  refine Frame.set_hop ?_ rfl
  refine Frame.step (State.hopLevels_frames _) rfl ?_
  exact Frame.refl _ _
  refine Frame.step (State.hopLevels_frames _) rfl ?_
  exact Frame.refl _ _
  refine Frame.set_hop ?_ rfl
  refine Frame.step (State.hopLevels_frames _) rfl ?_
  exact Frame.refl _ _
  split
  refine Frame.step (State.hopLevels_frames _) rfl ?_
  exact Frame.refl _ _
  refine Frame.set_hop ?_ rfl
  refine Frame.step (State.closeShort_frames _) rfl ?_
  refine Frame.step (State.hopLevels_frames _) rfl ?_
  exact Frame.refl _ _

theorem State.minuteStrike_frames (r : StrikeRec) (s : State) :
    Frame 0x01000000 s (State.minuteStrike r s) := by
  unfold State.minuteStrike
  dsimp only
  refine Frame.set_hop ?_ rfl
  exact Frame.refl _ _

theorem State.minuteTurn_frames (s : State) :
    Frame 0x01000000 s (State.minuteTurn s) := by
  unfold State.minuteTurn
  dsimp only
  refine Frame.set_hop ?_ rfl
  exact Frame.refl _ _

theorem execGapChunk_frames (s : State) :
    Frame 0x016020c4 s (andThen execGapChunk s) := by
  dsimp only [andThen, execGapChunk]
  split
  exact Frame.refl _ _
  split
  refine Frame.step (State.note_frames _ _ _ _) rfl ?_
  refine Frame.step (State.addSat_frames _ _ _) rfl ?_
  refine Frame.step (State.stage_frames _ _) rfl ?_
  refine Frame.set_hop ?_ rfl
  exact Frame.refl _ _
  exact Frame.refl _ _

theorem State.ringSignal_frames (fn : Nat) (r : Nat) (s : State) :
    Frame 0x00800000 s (State.ringSignal fn r s) := by
  unfold State.ringSignal
  split
  split
  refine Frame.step (State.sendVector_frames _ _ _) rfl ?_
  refine Frame.step (State.setRing_frames _ _ _ _) rfl ?_
  exact Frame.refl _ _
  exact Frame.refl _ _
  exact Frame.refl _ _

theorem State.doorbell_frames (fn : Nat) (r : Nat) (idx : Nat) (arm : Bool) (x : Ring) (s : State) :
    Frame 0x00800000 s (State.doorbell fn r idx arm x s) := by
  unfold State.doorbell
  split
  refine Frame.step (State.setRing_frames _ _ _ _) rfl ?_
  exact Frame.refl _ _
  split
  dsimp only
  split
  refine Frame.step (State.setRing_frames _ _ _ _) rfl ?_
  exact Frame.refl _ _
  refine Frame.step (State.ringSignal_frames _ _ _) rfl ?_
  refine Frame.step (State.setRing_frames _ _ _ _) rfl ?_
  exact Frame.refl _ _
  refine Frame.step (State.setRing_frames _ _ _ _) rfl ?_
  exact Frame.refl _ _

theorem execDoorbell_frames (fn : Nat) (r : Nat) (lo : Option Word) (hi : Option Word) (s : State) :
    Frame 0x01e020d4 s (andThen (execDoorbell fn r lo hi) s) := by
  dsimp only [andThen, execDoorbell]
  split
  split
  refine Frame.step (State.returns_frames _ _ _) rfl ?_
  exact Frame.refl _ _
  exact Frame.refl _ _
  split
  split
  refine Frame.step (State.hifFault_frames _ _ _ _) rfl ?_
  refine Frame.step (State.quiet_frames _) rfl ?_
  exact Frame.refl _ _
  split
  split
  refine Frame.step (State.hifFault_frames _ _ _ _) rfl ?_
  refine Frame.step (State.quiet_frames _) rfl ?_
  exact Frame.refl _ _
  refine Frame.step (State.doorbell_frames _ _ _ _ _ _) rfl ?_
  refine Frame.step (State.needCtx_frames _ _ _) rfl ?_
  refine Frame.step (State.quiet_frames _) rfl ?_
  exact Frame.refl _ _
  split
  refine Frame.step (State.hifFault_frames _ _ _ _) rfl ?_
  refine Frame.step (State.quiet_frames _) rfl ?_
  exact Frame.refl _ _
  refine Frame.step (State.doorbell_frames _ _ _ _ _ _) rfl ?_
  refine Frame.step (State.needCtx_frames _ _ _) rfl ?_
  refine Frame.step (State.quiet_frames _) rfl ?_
  exact Frame.refl _ _
  exact Frame.refl _ _

theorem execPrivWrite_frames (path : Path) (n : Nat) (w : Word) (s : State) :
    Frame 0x0160a0c4 s (andThen (execPrivWrite path n w) s) := by
  dsimp only [andThen, execPrivWrite]
  split
  split
  refine Frame.step (State.hifFault_frames _ _ _ _) rfl ?_
  refine Frame.step (State.writeWord_frames _ _ _ _) rfl ?_
  exact Frame.refl _ _
  refine Frame.step (State.writeWord_frames _ _ _ _) rfl ?_
  exact Frame.refl _ _
  exact Frame.refl _ _

theorem execRctBaseWrite_frames (fn : Nat) (hi : Bool) (w : Word) (s : State) :
    Frame 0x0160a0c4 s (andThen (execRctBaseWrite fn hi w) s) := by
  dsimp only [andThen, execRctBaseWrite]
  split
  split
  refine Frame.step (State.writeWord_frames _ _ _ _) rfl ?_
  exact Frame.refl _ _
  refine Frame.step (State.hifFault_frames _ _ _ _) rfl ?_
  exact Frame.refl _ _
  exact Frame.refl _ _

theorem State.flumeUnload_frames (fn : Nat) (r : Nat) (s : State) :
    Frame 0x01e020c4 s (State.flumeUnload fn r s) := by
  unfold State.flumeUnload
  dsimp only
  split
  split
  refine Frame.step (State.post_frames _ _ _) rfl ?_
  refine Frame.set_hif ?_ rfl
  exact Frame.refl _ _
  refine Frame.set_hif ?_ rfl
  exact Frame.refl _ _
  exact Frame.refl _ _

theorem State.fillBuf_frames (fn : Nat) (l : List Nat) (begins : Bool) (f : Flume) (s : State) :
    Frame 0x00800000 s (State.fillBuf fn l begins f s).1 := by
  unfold State.fillBuf
  split
  dsimp only
  exact Frame.refl _ _
  dsimp only
  refine Frame.step (State.hostWrite_frames _ _ _ _) rfl ?_
  exact Frame.refl _ _

theorem State.putBytes_frames (fn : Nat) (r : Nat) (l : List Nat) (begins : Bool) (f : Flume) (s : State) :
    Frame 0x01e020c4 s (State.putBytes fn r l begins f s) := by
  unfold State.putBytes
  dsimp only
  split
  split
  refine Frame.step (State.setFlume_frames _ _ _ _) rfl ?_
  refine Frame.step (State.fillBuf_frames _ _ _ _ _) rfl ?_
  exact Frame.refl _ _
  refine Frame.step (State.setFlume_frames _ _ _ _) rfl ?_
  refine Frame.step (State.closeBuf_frames _ _ _ _ _) rfl ?_
  refine Frame.step (State.fillBuf_frames _ _ _ _ _) rfl ?_
  exact Frame.refl _ _
  split
  refine Frame.step (State.setFlume_frames _ _ _ _) rfl ?_
  refine Frame.step (State.fillBuf_frames _ _ _ _ _) rfl ?_
  exact Frame.refl _ _
  refine Frame.step (State.setFlume_frames _ _ _ _) rfl ?_
  refine Frame.step (State.closeBuf_frames _ _ _ _ _) rfl ?_
  refine Frame.step (State.fillBuf_frames _ _ _ _ _) rfl ?_
  exact Frame.refl _ _

theorem State.putRecord_frames (fn : Nat) (r : Nat) (bad : List Nat) (f : Flume) (s : State) :
    Frame 0x01e020c4 s (State.putRecord fn r bad f s) := by
  unfold State.putRecord
  split
  refine Frame.step (State.putBytes_frames _ _ _ _ _ _) rfl ?_
  exact Frame.refl _ _
  dsimp only
  split
  refine Frame.step (State.setFlume_frames _ _ _ _) rfl ?_
  exact Frame.refl _ _
  split
  split
  refine Frame.step (State.setFlume_frames _ _ _ _) rfl ?_
  refine Frame.step (State.closeBuf_frames _ _ _ _ _) rfl ?_
  exact Frame.refl _ _
  refine Frame.step (State.putBytes_frames _ _ _ _ _ _) rfl ?_
  split
  refine Frame.step (State.note_frames _ _ _ _) rfl ?_
  exact Frame.refl _ _
  exact Frame.refl _ _
  split
  refine Frame.step (State.setFlume_frames _ _ _ _) rfl ?_
  refine Frame.step (State.closeBuf_frames _ _ _ _ _) rfl ?_
  exact Frame.refl _ _
  refine Frame.step (State.putBytes_frames _ _ _ _ _ _) rfl ?_
  split
  refine Frame.step (State.note_frames _ _ _ _) rfl ?_
  exact Frame.refl _ _
  exact Frame.refl _ _

theorem State.closeFold_frames (f : Fold) (s : State) :
    Frame 0x00000084 s (State.closeFold f s) := by
  unfold State.closeFold
  refine Frame.step (State.enqueue_frames _ _) rfl ?_
  refine Frame.set_evl ?_ rfl
  exact Frame.refl _ _

theorem execRecordAreaCopy_frames (s : State) :
    Frame 0x01008080 s (andThen execRecordAreaCopy s) := by
  dsimp only [andThen, execRecordAreaCopy]
  split
  refine Frame.step (State.copyRecords_frames _) rfl ?_
  exact Frame.refl _ _
  exact Frame.refl _ _

theorem State.opstat_frames (fn : Nat) (r : Nat) (res : Nat) (s : State) :
    Frame 0x00000004 s (State.opstat fn r res s) := by
  unfold State.opstat
  refine Frame.step (State.setFields_frames _ _) rfl ?_
  exact Frame.refl _ _

theorem State.unloadBegin_frames (fn : Nat) (r : Nat) (x : Ring) (s : State) :
    Frame 0x01e020c4 s (State.unloadBegin fn r x s) := by
  unfold State.unloadBegin
  dsimp only
  split
  refine Frame.step (State.unloaded_frames _ _ _) rfl ?_
  split
  split
  refine Frame.step (State.flumeUnload_frames _ _ _) rfl ?_
  refine Frame.step (State.setRing_frames _ _ _ _) rfl ?_
  refine Frame.step (State.setFlag_frames _ _ _) rfl ?_
  refine Frame.step (State.opstat_frames _ _ _ _) rfl ?_
  exact Frame.refl _ _
  refine Frame.step (State.setRing_frames _ _ _ _) rfl ?_
  refine Frame.step (State.setFlag_frames _ _ _) rfl ?_
  refine Frame.step (State.opstat_frames _ _ _ _) rfl ?_
  exact Frame.refl _ _
  refine Frame.set_hif ?_ rfl
  split
  refine Frame.step (State.flumeUnload_frames _ _ _) rfl ?_
  refine Frame.step (State.setRing_frames _ _ _ _) rfl ?_
  refine Frame.step (State.setFlag_frames _ _ _) rfl ?_
  refine Frame.step (State.opstat_frames _ _ _ _) rfl ?_
  exact Frame.refl _ _
  refine Frame.step (State.setRing_frames _ _ _ _) rfl ?_
  refine Frame.step (State.setFlag_frames _ _ _) rfl ?_
  refine Frame.step (State.opstat_frames _ _ _ _) rfl ?_
  exact Frame.refl _ _
  split
  split
  refine Frame.step (State.flumeUnload_frames _ _ _) rfl ?_
  refine Frame.step (State.setRing_frames _ _ _ _) rfl ?_
  refine Frame.step (State.setFlag_frames _ _ _) rfl ?_
  refine Frame.step (State.opstat_frames _ _ _ _) rfl ?_
  exact Frame.refl _ _
  refine Frame.step (State.setRing_frames _ _ _ _) rfl ?_
  refine Frame.step (State.setFlag_frames _ _ _) rfl ?_
  refine Frame.step (State.opstat_frames _ _ _ _) rfl ?_
  exact Frame.refl _ _
  refine Frame.set_hif ?_ rfl
  split
  refine Frame.step (State.flumeUnload_frames _ _ _) rfl ?_
  refine Frame.step (State.setRing_frames _ _ _ _) rfl ?_
  refine Frame.step (State.setFlag_frames _ _ _) rfl ?_
  refine Frame.step (State.opstat_frames _ _ _ _) rfl ?_
  exact Frame.refl _ _
  refine Frame.step (State.setRing_frames _ _ _ _) rfl ?_
  refine Frame.step (State.setFlag_frames _ _ _) rfl ?_
  refine Frame.step (State.opstat_frames _ _ _ _) rfl ?_
  exact Frame.refl _ _

theorem execRingUnload_frames (fn : Nat) (r : Nat) (late : Bool) (s : State) :
    Frame 0x63e0a0c6 s (andThen (execRingUnload fn r late) s) := by
  dsimp only [andThen, execRingUnload]
  split
  split
  split
  split
  refine forAll_frames ?_ ?_
  intro _
  intro _
  refine Frame.step (State.complete_frames _ _ _) rfl ?_
  refine Frame.step (State.abortCmd_frames _ _) rfl ?_
  exact Frame.refl _ _
  refine Frame.step (State.quiet_frames _) rfl ?_
  exact Frame.refl _ _
  exact Frame.refl _ _
  exact Frame.refl _ _
  exact Frame.refl _ _
  split
  split
  refine Frame.step (State.hifFault_frames _ _ _ _) rfl ?_
  refine Frame.step (State.quiet_frames _) rfl ?_
  exact Frame.refl _ _
  split
  refine Frame.step (State.hifFault_frames _ _ _ _) rfl ?_
  refine Frame.step (State.opstat_frames _ _ _ _) rfl ?_
  refine Frame.step (State.quiet_frames _) rfl ?_
  exact Frame.refl _ _
  split
  refine Frame.step (State.hifFault_frames _ _ _ _) rfl ?_
  refine Frame.step (State.opstat_frames _ _ _ _) rfl ?_
  refine Frame.step (State.quiet_frames _) rfl ?_
  exact Frame.refl _ _
  split
  refine Frame.step (State.hifFault_frames _ _ _ _) rfl ?_
  refine Frame.step (State.opstat_frames _ _ _ _) rfl ?_
  refine Frame.step (State.quiet_frames _) rfl ?_
  exact Frame.refl _ _
  refine Frame.step (State.unloadBegin_frames _ _ _ _) rfl ?_
  refine Frame.step (State.quiet_frames _) rfl ?_
  exact Frame.refl _ _
  exact Frame.refl _ _

theorem execHostReadTimeout_frames (fn : Nat) (r : Nat) (s : State) :
    Frame 0x01e020c4 s (andThen (execHostReadTimeout fn r) s) := by
  dsimp only [andThen, execHostReadTimeout]
  split
  split
  refine Frame.step (State.hifFault_frames _ _ _ _) rfl ?_
  refine Frame.step (State.setRing_frames _ _ _ _) rfl ?_
  exact Frame.refl _ _
  exact Frame.refl _ _
  exact Frame.refl _ _

theorem execCartridgeFailed_frames (k : Nat) (wear : Nat) (s : State) :
    Frame 0x016020c4 s (andThen (execCartridgeFailed k wear) s) := by
  dsimp only [andThen, execCartridgeFailed]
  split
  refine Frame.step (State.frameRegs_frames _) rfl ?_
  refine Frame.step (State.hopLevels_frames _) rfl ?_
  refine Frame.step (State.pruneStaging_frames _) rfl ?_
  refine Frame.step (State.level_frames _ _ _ _ _ _) rfl ?_
  refine Frame.step (State.raise_frames _ _ _ _ _) rfl ?_
  refine Frame.step (State.setReg_frames _ _ _) rfl ?_
  refine Frame.step (State.setHopState_frames _ _ _) rfl ?_
  exact Frame.refl _ _
  exact Frame.refl _ _

theorem State.wakeLine_frames (s : State) :
    Frame 0x00000004 s (State.wakeLine s) := by
  unfold State.wakeLine
  split
  refine Frame.step (State.setFlag_frames _ _ _) rfl ?_
  exact Frame.refl _ _
  exact Frame.refl _ _

theorem State.vfsOff_frames (perst : Bool) (s : State) :
    Frame 0x61e0a0c4 s (State.vfsOff perst s) := by
  unfold State.vfsOff
  dsimp only
  refine Frame.set_hif ?_ rfl
  refine forEach_frames ?_ ?_
  intro _
  intro _
  refine Frame.step (State.fnReset_frames _ _ _) rfl ?_
  exact Frame.refl _ _
  exact Frame.refl _ _

theorem execPerstAssert_frames (s : State) :
    Frame 0x61e0a0c4 s (andThen execPerstAssert s) := by
  dsimp only [andThen, execPerstAssert]
  split
  exact Frame.refl _ _
  refine Frame.step (State.wakeLine_frames _) rfl ?_
  refine Frame.step (State.fnReset_frames _ _ _) rfl ?_
  refine Frame.step (State.vfsOff_frames _ _) rfl ?_
  split
  refine Frame.step (State.linkLost_frames _) rfl ?_
  refine Frame.step (State.setFlag_frames _ _ _) rfl ?_
  refine Frame.step (State.quiet_frames _) rfl ?_
  exact Frame.refl _ _
  refine Frame.step (State.setFlag_frames _ _ _) rfl ?_
  refine Frame.step (State.quiet_frames _) rfl ?_
  exact Frame.refl _ _

theorem State.hostEvent_frames (seq : Nat) (e : EvRec) (s : State) :
    Frame 0x01e020c4 s (State.hostEvent seq e s) := by
  unfold State.hostEvent
  refine forAll_frames ?_ ?_
  intro _
  intro _
  refine forAll_frames ?_ ?_
  intro _
  intro _
  refine Frame.step (State.eventTo_frames _ _ _ _ _) rfl ?_
  exact Frame.refl _ _
  exact Frame.refl _ _
  exact Frame.refl _ _

theorem State.evlRegs_frames (s : State) :
    Frame 0x00000004 s (State.evlRegs s) := by
  unfold State.evlRegs
  dsimp only
  refine Frame.step (State.setFields_frames _ _) rfl ?_
  exact Frame.refl _ _

theorem State.evlPut_frames (r : EvRec) (s : State) :
    Frame 0x01e020c4 s (State.evlPut r s) := by
  unfold State.evlPut
  dsimp only
  refine Frame.step (State.hostEvent_frames _ _ _) rfl ?_
  refine Frame.step (State.evlRegs_frames _) rfl ?_
  refine Frame.set_evl ?_ rfl
  exact Frame.refl _ _

theorem State.evlFill_frames (s : State) :
    Frame 0x01e020c4 s (State.evlFill s) := by
  unfold State.evlFill
  dsimp only
  refine Frame.step (State.captureFault_frames _ _ _) rfl ?_
  refine Frame.step (State.activate_frames _ _ _ _ _) rfl ?_
  refine Frame.step (State.evlPut_frames _ _) rfl ?_
  refine Frame.set_evl ?_ rfl
  exact Frame.refl _ _

theorem State.evlCommit_frames (r : EvRec) (s : State) :
    Frame 0x01e020c4 s (State.evlCommit r s) := by
  unfold State.evlCommit
  dsimp only
  split
  split
  refine Frame.step (State.evlPut_frames _ _) rfl ?_
  exact Frame.refl _ _
  refine Frame.step (State.loseRecord_frames _ _) rfl ?_
  exact Frame.refl _ _
  split
  split
  refine Frame.step (State.evlPut_frames _ _) rfl ?_
  refine Frame.step (State.evlFill_frames _) rfl ?_
  exact Frame.refl _ _
  refine Frame.step (State.loseRecord_frames _ _) rfl ?_
  refine Frame.step (State.evlFill_frames _) rfl ?_
  exact Frame.refl _ _
  split
  refine Frame.step (State.raiseLevel_frames _ _ _ _ _) rfl ?_
  refine Frame.step (State.evlPut_frames _ _) rfl ?_
  exact Frame.refl _ _
  refine Frame.step (State.evlPut_frames _ _) rfl ?_
  exact Frame.refl _ _

theorem State.evlWrite_frames (s : State) :
    Frame 0x01e020c4 s (State.evlWrite s) := by
  unfold State.evlWrite
  dsimp only
  split
  exact Frame.refl _ _
  split
  refine Frame.step (State.raisePaced_frames _ _ _ _ _ _) rfl ?_
  refine Frame.set_evl ?_ rfl
  refine Frame.step (State.evlCommit_frames _ _) rfl ?_
  refine Frame.set_evl ?_ rfl
  exact Frame.refl _ _
  refine Frame.step (State.evlCommit_frames _ _) rfl ?_
  refine Frame.set_evl ?_ rfl
  exact Frame.refl _ _

theorem State.cellsRead_frames (first : Nat) (n : Nat) (l : List Nat) (s : State) :
    Frame 0x00800000 s (State.cellsRead first n l s).1 := by
  unfold State.cellsRead
  refine foldl_fst_frames ?_ ?_
  intro _
  intro _
  dsimp only
  split
  dsimp only
  refine Frame.set_hif ?_ rfl
  exact Frame.refl _ _
  dsimp only
  exact Frame.refl _ _
  dsimp only
  exact Frame.refl _ _

theorem State.cellsDone_frames (first : Nat) (n : Nat) (data : Option (List Nat)) (s : State) :
    Frame 0x01e020c4 s (State.cellsDone first n data s).1 := by
  unfold State.cellsDone
  dsimp only
  split
  dsimp only
  refine Frame.step (State.hifFault_frames _ _ _ _) rfl ?_
  refine Frame.step (State.setFields_frames _ _) rfl ?_
  exact Frame.refl _ _
  dsimp only
  split
  refine Frame.step (State.hifFaultOn_frames _ _ _ _ _) rfl ?_
  refine Frame.step (State.setFields_frames _ _) rfl ?_
  refine Frame.step (State.cellsRead_frames _ _ _ _) rfl ?_
  exact Frame.refl _ _
  refine Frame.step (State.setFields_frames _ _) rfl ?_
  refine Frame.step (State.cellsRead_frames _ _ _ _) rfl ?_
  exact Frame.refl _ _

theorem State.takeDesc_frames (fn : Nat) (r : Nat) (x : Ring) (l : List Nat) (f : Flume) (s : State) :
    Frame 0x01e020c4 s (State.takeDesc fn r x l f s).1 := by
  unfold State.takeDesc
  dsimp only
  split
  dsimp only
  refine Frame.step (State.setRing_frames _ _ _ _) rfl ?_
  exact Frame.refl _ _
  dsimp only
  refine Frame.step (State.completeBuf_frames _ _ _ _ _ _ _ _) rfl ?_
  refine Frame.step (State.setRing_frames _ _ _ _) rfl ?_
  exact Frame.refl _ _

theorem execPmeTurnOff_frames (s : State) :
    Frame 0x01e020c4 s (andThen execPmeTurnOff s) := by
  dsimp only [andThen, execPmeTurnOff]
  split
  refine Frame.step (State.hifFault_frames _ _ _ _) rfl ?_
  refine Frame.set_hif ?_ rfl
  refine Frame.step (State.quiet_frames _) rfl ?_
  exact Frame.refl _ _
  exact Frame.refl _ _

theorem CmdCtx.read_frames {m : Nat} {k : List Nat → State × Option Reply} {x : CmdCtx} {r s : State}
    (h : ∀ l, Frame m r (k l).1) (h0 : Frame m r s) (hm : maskIn 0x016020c4 m = true) : Frame m r (x.read s k).1 := by
  unfold CmdCtx.read; split
  · exact h _
  · exact Frame.step (State.hifFault_frames _ _ _ _) hm h0

theorem restoreRun_frames {m : Nat} {f : List Nat → State → State × Reply} {len : Nat} {x : CmdCtx} {r s : State}
    (h : ∀ s l, Frame m s (f l s).1) (h0 : Frame m r s) (hm : maskIn 0x016020c4 m = true) : Frame m r (restoreRun len f x s).1 := by
  unfold restoreRun; split
  · exact h0
  · exact CmdCtx.read_frames (fun l => Frame.step (h s l) (maskIn_self m) h0) h0 hm

theorem execFlumeRecord_frames (fn : Nat) (r : Nat) (desc : List Nat) (e : EccIn) (bad : List Nat) (s : State) :
    Frame 0x01e220e4 s (andThen (execFlumeRecord fn r desc e bad) s) := by
  dsimp only [andThen, execFlumeRecord]
  split
  exact Frame.refl _ _
  split
  exact Frame.refl _ _
  split
  refine Frame.step (State.putRecord_frames _ _ _ _ _) rfl ?_
  refine Frame.step (State.ecc_frames _ _) rfl ?_
  refine Frame.step (State.quiet_frames _) rfl ?_
  exact Frame.refl _ _
  split
  refine Frame.step (State.ecc_frames _ _) rfl ?_
  refine Frame.step (State.quiet_frames _) rfl ?_
  exact Frame.refl _ _
  split
  split
  refine Frame.step (State.putRecord_frames _ _ _ _ _) rfl ?_
  refine Frame.step (State.takeDesc_frames _ _ _ _ _ _) rfl ?_
  refine Frame.step (State.needCtx_frames _ _ _) rfl ?_
  refine Frame.step (State.ecc_frames _ _) rfl ?_
  refine Frame.step (State.quiet_frames _) rfl ?_
  exact Frame.refl _ _
  refine Frame.step (State.takeDesc_frames _ _ _ _ _ _) rfl ?_
  refine Frame.step (State.needCtx_frames _ _ _) rfl ?_
  refine Frame.step (State.ecc_frames _ _) rfl ?_
  refine Frame.step (State.quiet_frames _) rfl ?_
  exact Frame.refl _ _
  refine Frame.step (State.needCtx_frames _ _ _) rfl ?_
  refine Frame.step (State.ecc_frames _ _) rfl ?_
  refine Frame.step (State.quiet_frames _) rfl ?_
  exact Frame.refl _ _

theorem execFlumeFlush_frames (fn : Nat) (r : Nat) (s : State) :
    Frame 0x01e020c4 s (andThen (execFlumeFlush fn r) s) := by
  dsimp only [andThen, execFlumeFlush]
  split
  exact Frame.refl _ _
  split
  refine Frame.step (State.setFlume_frames _ _ _ _) rfl ?_
  refine Frame.step (State.closeBuf_frames _ _ _ _ _) rfl ?_
  refine Frame.step (State.quiet_frames _) rfl ?_
  exact Frame.refl _ _
  exact Frame.refl _ _

theorem execCartridgeInsert_frames (k : Nat) (c : Cartridge) (readable : Bool) (s : State) :
    Frame 0x016020c4 s (andThen (execCartridgeInsert k c readable) s) := by
  dsimp only [andThen, execCartridgeInsert]
  split
  split
  refine Frame.step (State.cartFound_frames _ _ _ _) rfl ?_
  exact Frame.refl _ _
  refine Frame.step (State.setHopSlot_frames _ _ _) rfl ?_
  exact Frame.refl _ _
  exact Frame.refl _ _

theorem execHoldTimeout_frames (fn : Nat) (s : State) :
    Frame 0x01e020c4 s (andThen (execHoldTimeout fn) s) := by
  dsimp only [andThen, execHoldTimeout]
  split
  refine Frame.step (State.hifFault_frames _ _ _ _) rfl ?_
  refine Frame.step (State.updFn_frames _ _ _) rfl ?_
  exact Frame.refl _ _
  exact Frame.refl _ _

theorem execFlumeEnd_frames (fn : Nat) (r : Nat) (desc : List Nat) (s : State) :
    Frame 0x01e020c4 s (andThen (execFlumeEnd fn r desc) s) := by
  dsimp only [andThen, execFlumeEnd]
  split
  exact Frame.refl _ _
  split
  split
  refine Frame.step (State.dropFlume_frames _ _ _) rfl ?_
  refine Frame.step (State.closeBuf_frames _ _ _ _ _) rfl ?_
  refine Frame.step (State.quiet_frames _) rfl ?_
  exact Frame.refl _ _
  split
  refine Frame.step (State.quiet_frames _) rfl ?_
  exact Frame.refl _ _
  split
  refine Frame.step (State.dropFlume_frames _ _ _) rfl ?_
  refine Frame.step (State.closeBuf_frames _ _ _ _ _) rfl ?_
  refine Frame.step (State.takeDesc_frames _ _ _ _ _ _) rfl ?_
  refine Frame.step (State.quiet_frames _) rfl ?_
  exact Frame.refl _ _
  refine Frame.step (State.takeDesc_frames _ _ _ _ _ _) rfl ?_
  refine Frame.step (State.quiet_frames _) rfl ?_
  exact Frame.refl _ _
  exact Frame.refl _ _

theorem execVfEnable_frames (n : Nat) (ari : Bool) (s : State) :
    Frame 0x61e0a0c4 s (andThen (execVfEnable n ari) s) := by
  dsimp only [andThen, execVfEnable]
  split
  split
  refine Frame.set_hif ?_ rfl
  refine forEach_frames ?_ ?_
  intro _
  intro _
  refine Frame.step (State.fnReset_frames _ _ _) rfl ?_
  exact Frame.refl _ _
  refine Frame.step (State.quiet_frames _) rfl ?_
  exact Frame.refl _ _
  exact Frame.refl _ _
  split
  refine Frame.set_hif ?_ rfl
  refine forEach_frames ?_ ?_
  intro _
  intro _
  refine Frame.step (State.fnReset_frames _ _ _) rfl ?_
  exact Frame.refl _ _
  refine Frame.step (State.quiet_frames _) rfl ?_
  exact Frame.refl _ _
  exact Frame.refl _ _

theorem execResyncComplete_frames (k : Nat) (s : State) :
    Frame 0x016020c4 s (andThen (execResyncComplete k) s) := by
  dsimp only [andThen, execResyncComplete]
  split
  refine Frame.step (State.frameRegs_frames _) rfl ?_
  refine Frame.step (State.hopLevels_frames _) rfl ?_
  refine Frame.step (State.note_frames _ _ _ _) rfl ?_
  refine Frame.step (State.setReg_frames _ _ _) rfl ?_
  refine Frame.step (State.setHopState_frames _ _ _) rfl ?_
  split
  split
  refine Frame.step (State.mapCart_frames _ _ _) rfl ?_
  exact Frame.refl _ _
  exact Frame.refl _ _
  exact Frame.refl _ _
  exact Frame.refl _ _

theorem State.fetched_frames (k : CmdSpec) (c : CmdIn) (s : State) :
    Frame 0x00800004 s (State.fetched k c s).1 := by
  unfold State.fetched
  refine Frame.step (State.fetch_frames _ _ _) rfl ?_
  refine Frame.step (State.needCtx_frames _ _ _) rfl ?_
  refine Frame.step (State.quiet_frames _) rfl ?_
  exact Frame.refl _ _

theorem State.sendSnap_frames (x : CmdCtx) (l : List Nat) (s : State) :
    Frame 0x00800000 s (State.sendSnap x l s) := by
  unfold State.sendSnap
  refine Frame.step (State.hostWrite_frames _ _ _ _) rfl ?_
  exact Frame.refl _ _

theorem State.unfreeze_frames (s : State) :
    Frame 0x00000084 s (State.unfreeze s) := by
  unfold State.unfreeze
  refine Frame.step (State.note_frames _ _ _ _) rfl ?_
  refine Frame.step (State.setFlag_frames _ _ _) rfl ?_
  exact Frame.refl _ _

theorem State.ringWritten_frames (fn : Nat) (r : Nat) (irq : Bool) (s : State) :
    Frame 0x00800000 s (State.ringWritten fn r irq s) := by
  unfold State.ringWritten
  dsimp only
  split
  split
  refine Frame.step (State.ringSignal_frames _ _ _) rfl ?_
  refine Frame.step (State.setRing_frames _ _ _ _) rfl ?_
  exact Frame.refl _ _
  refine Frame.step (State.setRing_frames _ _ _ _) rfl ?_
  exact Frame.refl _ _
  exact Frame.refl _ _

theorem State.putEntry_frames (fn : Nat) (r : Nat) (e : HostEntry) (s : State) :
    Frame 0x00810002 s (State.putEntry fn r e s) := by
  unfold State.putEntry
  dsimp only
  split
  refine Frame.step (State.ringWritten_frames _ _ _ _) rfl ?_
  split
  refine Frame.set_est ?_ rfl
  refine Frame.step (State.updFn_frames _ _ _) rfl ?_
  refine Frame.step (State.setRing_frames _ _ _ _) rfl ?_
  refine Frame.step (State.hostWrite_frames _ _ _ _) rfl ?_
  refine Frame.step (State.took_frames _) rfl ?_
  exact Frame.refl _ _
  refine Frame.step (State.updFn_frames _ _ _) rfl ?_
  refine Frame.step (State.setRing_frames _ _ _ _) rfl ?_
  refine Frame.step (State.hostWrite_frames _ _ _ _) rfl ?_
  refine Frame.step (State.took_frames _) rfl ?_
  exact Frame.refl _ _
  exact Frame.refl _ _

theorem State.unready_frames (fn : Nat) (r : Nat) (s : State) :
    Frame 0x00800000 s (State.unready fn r s) := by
  unfold State.unready
  refine Frame.set_hif ?_ rfl
  exact Frame.refl _ _

theorem execEntryWrite_frames (fn : Nat) (r : Nat) (s : State) :
    Frame 0x00810006 s (andThen (execEntryWrite fn r) s) := by
  dsimp only [andThen, execEntryWrite]
  split
  split
  split
  split
  refine Frame.step (State.putEntry_frames _ _ _ _) rfl ?_
  refine Frame.step (State.unready_frames _ _ _) rfl ?_
  refine Frame.step (State.needCtx_frames _ _ _) rfl ?_
  refine Frame.step (State.quiet_frames _) rfl ?_
  exact Frame.refl _ _
  refine Frame.step (State.needCtx_frames _ _ _) rfl ?_
  refine Frame.step (State.quiet_frames _) rfl ?_
  exact Frame.refl _ _
  split
  exact Frame.refl _ _
  split
  refine Frame.step (State.putEntry_frames _ _ _ _) rfl ?_
  refine Frame.step (State.setRing_frames _ _ _ _) rfl ?_
  refine Frame.step (State.needCtx_frames _ _ _) rfl ?_
  refine Frame.step (State.quiet_frames _) rfl ?_
  exact Frame.refl _ _
  refine Frame.step (State.needCtx_frames _ _ _) rfl ?_
  refine Frame.step (State.quiet_frames _) rfl ?_
  exact Frame.refl _ _
  exact Frame.refl _ _
  exact Frame.refl _ _

theorem execHeldEntryFlush_frames (fn : Nat) (s : State) :
    Frame 0x00810006 s (andThen (execHeldEntryFlush fn) s) := by
  dsimp only [andThen, execHeldEntryFlush]
  split
  split
  split
  split
  split
  refine Frame.step (State.putEntry_frames _ _ _ _) rfl ?_
  refine Frame.step (State.updFn_frames _ _ _) rfl ?_
  refine Frame.step (State.needCtx_frames _ _ _) rfl ?_
  refine Frame.step (State.quiet_frames _) rfl ?_
  exact Frame.refl _ _
  refine Frame.step (State.needCtx_frames _ _ _) rfl ?_
  refine Frame.step (State.quiet_frames _) rfl ?_
  exact Frame.refl _ _
  exact Frame.refl _ _
  exact Frame.refl _ _
  exact Frame.refl _ _
  exact Frame.refl _ _

theorem execFoldClose_frames (s : State) :
    Frame 0x00000084 s (andThen execFoldClose s) := by
  dsimp only [andThen, execFoldClose]
  split
  split
  refine Frame.step (State.closeFold_frames _ _) rfl ?_
  exact Frame.refl _ _
  exact Frame.refl _ _
  exact Frame.refl _ _

theorem State.sendPending_frames (fn : Nat) (s : State) :
    Frame 0x00800000 s (State.sendPending fn s) := by
  unfold State.sendPending
  dsimp only
  split
  refine Frame.set_hif ?_ rfl
  refine Frame.step (State.setFn_frames _ _ _) rfl ?_
  exact Frame.refl _ _
  exact Frame.refl _ _

theorem execVectorUnmask_frames (fn : Nat) (enable : Bool) (unmasked : List Nat) (s : State) :
    Frame 0x00800000 s (andThen (execVectorUnmask fn enable unmasked) s) := by
  dsimp only [andThen, execVectorUnmask]
  split
  refine Frame.step (State.sendPending_frames _ _) rfl ?_
  refine Frame.step (State.updFn_frames _ _ _) rfl ?_
  refine Frame.step (State.quiet_frames _) rfl ?_
  exact Frame.refl _ _
  exact Frame.refl _ _

theorem execEjectComplete_frames (k : Nat) (s : State) :
    Frame 0x03e020c6 s (andThen (execEjectComplete k) s) := by
  dsimp only [andThen, execEjectComplete]
  split
  split
  refine Frame.step (State.frameRegs_frames _) rfl ?_
  refine Frame.step (State.hopLevels_frames _) rfl ?_
  refine Frame.step (State.pruneStaging_frames _) rfl ?_
  refine Frame.step (State.setHopSlot_frames _ _ _) rfl ?_
  refine Frame.step (State.ejectAnswer_frames _ _ _) rfl ?_
  refine Frame.step (State.note_frames _ _ _ _) rfl ?_
  refine Frame.step (State.setFields_frames _ _) rfl ?_
  refine Frame.step (State.mapCart_frames _ _ _) rfl ?_
  exact Frame.refl _ _
  exact Frame.refl _ _
  exact Frame.refl _ _

theorem execCartridgeRemoved_frames (k : Nat) (s : State) :
    Frame 0x03e020c6 s (andThen (execCartridgeRemoved k) s) := by
  dsimp only [andThen, execCartridgeRemoved]
  split
  refine Frame.step (State.setHopSlot_frames _ _ _) rfl ?_
  exact Frame.refl _ _
  split
  refine Frame.step (State.frameRegs_frames _) rfl ?_
  refine Frame.step (State.hopLevels_frames _) rfl ?_
  split
  refine Frame.step (State.goneAt_frames _ _ _) rfl ?_
  refine Frame.step (State.goneAt_frames _ _ _) rfl ?_
  refine Frame.step (State.setFields_frames _ _) rfl ?_
  refine Frame.step (State.setHopSlot_frames _ _ _) rfl ?_
  refine Frame.step (State.ejectAnswer_frames _ _ _) rfl ?_
  exact Frame.refl _ _
  refine Frame.step (State.raise_frames _ _ _ _ _) rfl ?_
  refine Frame.step (State.goneAt_frames _ _ _) rfl ?_
  refine Frame.step (State.goneAt_frames _ _ _) rfl ?_
  refine Frame.step (State.setFields_frames _ _) rfl ?_
  refine Frame.step (State.setHopSlot_frames _ _ _) rfl ?_
  refine Frame.step (State.ejectAnswer_frames _ _ _) rfl ?_
  exact Frame.refl _ _
  exact Frame.refl _ _

theorem inSession_frames {m : Nat} {f : Session → State → State × Reply} {x : CmdCtx} {r s : State}
    (h : ∀ s y, Frame m s (f y s).1) (h0 : Frame m r s) : Frame m r (inSession f x s).1 := by
  unfold inSession; split
  · exact Frame.step (h _ _) (maskIn_self m) h0
  · exact h0

theorem execHourSeal_frames (s : State) :
    Frame 0x01000000 s (andThen execHourSeal s) := by
  dsimp only [andThen, execHourSeal]
  split
  refine Frame.set_hop ?_ rfl
  split
  refine forAll_frames ?_ ?_
  intro _
  intro _
  refine Frame.step (State.mapCart_frames _ _ _) rfl ?_
  exact Frame.refl _ _
  exact Frame.refl _ _
  exact Frame.refl _ _
  exact Frame.refl _ _

theorem execRingLoad_frames (fn r ctx) (s : State) : Frame 0x01e020c6 s (andThen (execRingLoad fn r ctx) s) := by
  have hget : ∀ s : State, Frame 0x00800004 s ((s.cacheIn fn r).getD s) := fun s => by
    cases hc : s.cacheIn fn r with
    | none => exact Frame.refl _ _
    | some t => exact cacheIn_frames hc
  dsimp only [andThen, execRingLoad]
  split
  split
  refine Frame.step (State.hifFault_frames _ _ _ _) rfl ?_
  refine Frame.step (State.quiet_frames _) rfl ?_
  exact Frame.refl _ _
  split
  refine Frame.step (hget _) rfl ?_
  refine Frame.step (State.updFn_frames _ _ _) rfl ?_
  refine Frame.step (State.setRing_frames _ _ _ _) rfl ?_
  refine Frame.step (State.took_frames _) rfl ?_
  refine Frame.step (State.took_frames _) rfl ?_
  refine Frame.step (State.opstat_frames _ _ _ _) rfl ?_
  refine Frame.step (State.quiet_frames _) rfl ?_
  exact Frame.refl _ _
  refine Frame.step (State.hifFault_frames _ _ _ _) rfl ?_
  split
  refine Frame.step (State.hifFault_frames _ _ _ _) rfl ?_
  refine Frame.step (State.opstat_frames _ _ _ _) rfl ?_
  refine Frame.step (State.quiet_frames _) rfl ?_
  exact Frame.refl _ _
  refine Frame.step (State.opstat_frames _ _ _ _) rfl ?_
  refine Frame.step (State.quiet_frames _) rfl ?_
  exact Frame.refl _ _
  exact Frame.refl _ _

theorem execChunkCommit_frames (k : Nat) (wear : Nat) (s : State) :
    Frame 0x016020c4 s (andThen (execChunkCommit k wear) s) := by
  dsimp only [andThen, execChunkCommit]
  split
  split
  refine Frame.step (State.level_frames _ _ _ _ _ _) rfl ?_
  refine Frame.step (State.setReg_frames _ _ _) rfl ?_
  refine Frame.step (State.commitChunk_frames _ _ _) rfl ?_
  exact Frame.refl _ _
  exact Frame.refl _ _
  exact Frame.refl _ _

theorem execMinuteRecord_frames (s : State) :
    Frame 0x01000000 s (andThen execMinuteRecord s) := by
  dsimp only [andThen, execMinuteRecord]
  split
  exact Frame.refl _ _
  split
  refine Frame.set_hop ?_ rfl
  refine forAll_frames ?_ ?_
  intro _
  intro _
  refine Frame.step (State.mapCart_frames _ _ _) rfl ?_
  exact Frame.refl _ _
  exact Frame.refl _ _
  exact Frame.refl _ _

theorem execFreezeTimeout_frames (s : State) :
    Frame 0x00000084 s (andThen execFreezeTimeout s) := by
  dsimp only [andThen, execFreezeTimeout]
  split
  refine Frame.step (State.unfreeze_frames _) rfl ?_
  exact Frame.refl _ _
  exact Frame.refl _ _

theorem execFunctionLevelReset_frames (fn : Nat) (s : State) :
    Frame 0x61e0a0c4 s (andThen (execFunctionLevelReset fn) s) := by
  dsimp only [andThen, execFunctionLevelReset]
  split
  split
  refine Frame.step (State.sessionCloseOf_frames _ _) rfl ?_
  refine Frame.step (State.fnReset_frames _ _ _) rfl ?_
  refine Frame.step (State.vfsOff_frames _ _) rfl ?_
  refine Frame.step (State.quiet_frames _) rfl ?_
  exact Frame.refl _ _
  refine Frame.step (State.fnReset_frames _ _ _) rfl ?_
  refine Frame.step (State.quiet_frames _) rfl ?_
  exact Frame.refl _ _
  exact Frame.refl _ _

theorem execModtimeExpiry_frames (fn : Nat) (r : Nat) (s : State) :
    Frame 0x00800000 s (andThen (execModtimeExpiry fn r) s) := by
  dsimp only [andThen, execModtimeExpiry]
  split
  split
  split
  refine Frame.step (State.ringSignal_frames _ _ _) rfl ?_
  refine Frame.step (State.quiet_frames _) rfl ?_
  exact Frame.refl _ _
  exact Frame.refl _ _
  exact Frame.refl _ _
  exact Frame.refl _ _

theorem execPmeResend_frames (fn : Nat) (s : State) :
    Frame 0x00800000 s (andThen (execPmeResend fn) s) := by
  dsimp only [andThen, execPmeResend]
  split
  refine Frame.step (State.sendPme_frames _ _) rfl ?_
  refine Frame.step (State.quiet_frames _) rfl ?_
  exact Frame.refl _ _
  exact Frame.refl _ _

theorem execLinkUp_frames (gen : Nat) (width : Nat) (s : State) :
    Frame 0x00800004 s (andThen (execLinkUp gen width) s) := by
  dsimp only [andThen, execLinkUp]
  split
  refine forAll_frames ?_ ?_
  intro _
  intro _
  split
  refine Frame.step (State.sendPme_frames _ _) rfl ?_
  exact Frame.refl _ _
  split
  exact Frame.refl _ _
  refine Frame.step (State.updFn_frames _ _ _) rfl ?_
  exact Frame.refl _ _
  refine Frame.set_hif ?_ rfl
  refine Frame.step (State.setFields_frames _ _) rfl ?_
  refine Frame.step (State.quiet_frames _) rfl ?_
  exact Frame.refl _ _
  exact Frame.refl _ _

theorem execCellTableReadDone_frames (data : Option (List Nat)) (s : State) :
    Frame 0x01e020c4 s (andThen (execCellTableReadDone data) s) := by
  dsimp only [andThen, execCellTableReadDone]
  split
  refine Frame.step (State.setFlag_frames _ _ _) rfl ?_
  refine Frame.step (State.cellsDone_frames _ _ _ _) rfl ?_
  exact Frame.refl _ _
  exact Frame.refl _ _

theorem execChunkClose_frames (s : State) :
    Frame 0x016020c4 s (andThen execChunkClose s) := by
  dsimp only [andThen, execChunkClose]
  split
  split
  refine Frame.step (State.closeChunk_frames _ _ _ _) rfl ?_
  exact Frame.refl _ _
  exact Frame.refl _ _
  exact Frame.refl _ _

theorem execFunctionPowerChange_frames (fn : Nat) (d0 : Bool) (bme : Bool) (pmeEn : Bool) (clear : Bool) (s : State) :
    Frame 0x01e020c4 s (andThen (execFunctionPowerChange fn d0 bme pmeEn clear) s) := by
  dsimp only [andThen, execFunctionPowerChange]
  split
  split
  refine Frame.step (State.holdWaiting_frames _ _) rfl ?_
  refine Frame.step (State.updFn_frames _ _ _) rfl ?_
  refine Frame.step (State.quiet_frames _) rfl ?_
  exact Frame.refl _ _
  split
  refine Frame.step (State.sendPending_frames _ _) rfl ?_
  refine Frame.step (State.updFn_frames _ _ _) rfl ?_
  refine Frame.step (State.updFn_frames _ _ _) rfl ?_
  refine Frame.step (State.quiet_frames _) rfl ?_
  exact Frame.refl _ _
  refine Frame.step (State.updFn_frames _ _ _) rfl ?_
  refine Frame.step (State.quiet_frames _) rfl ?_
  exact Frame.refl _ _
  exact Frame.refl _ _

theorem execPerstDeassert_frames (s : State) :
    Frame 0x00000004 s (andThen execPerstDeassert s) := by
  dsimp only [andThen, execPerstDeassert]
  refine Frame.step (State.setFlag_frames _ _ _) rfl ?_
  refine Frame.step (State.setFlag_frames _ _ _) rfl ?_
  exact Frame.refl _ _

theorem cmdNop_frames (x : CmdCtx) (s : State) : Frame 0 s (cmdNop.run x s).1 := by
  dsimp only [cmdNop]
  exact Frame.refl _ _

theorem cmdSetpoint_frames (x : CmdCtx) (s : State) : Frame 0x0170a0c4 s (cmdSetpoint.run x s).1 := by
  dsimp only [cmdSetpoint]
  refine Frame.step (State.setpointWrite_frames _ _ _) rfl ?_
  exact Frame.refl _ _

theorem cmdHostInput_frames (x : CmdCtx) (s : State) : Frame 0x0168a0c4 s (cmdHostInput.run x s).1 := by
  dsimp only [cmdHostInput]
  split
  dsimp only
  exact Frame.refl _ _
  split
  dsimp only
  refine Frame.step (State.note_frames _ _ _ _) rfl ?_
  exact Frame.refl _ _
  dsimp only
  refine forEach_frames ?_ ?_
  intro _
  intro _
  refine Frame.step (State.govWrite_frames _ _ _ _) rfl ?_
  exact Frame.refl _ _
  exact Frame.refl _ _

theorem cmdCapture_frames (x : CmdCtx) (s : State) : Frame 0x00200084 s (cmdCapture.run x s).1 := by
  dsimp only [cmdCapture]
  refine Frame.step (State.capture_frames _ _ _) rfl ?_
  exact Frame.refl _ _

theorem cmdSnapCert_frames (x : CmdCtx) (s : State) : Frame 0x03e020c6 s (cmdSnapCert.run x s).1 := by
  dsimp only [cmdSnapCert]
  split
  dsimp only
  exact Frame.refl _ _
  split
  dsimp only
  exact Frame.refl _ _
  dsimp only
  refine Frame.step (State.completeWith_frames _ _ _ _) rfl ?_
  refine Frame.step (State.sendSnap_frames _ _ _) rfl ?_
  exact Frame.refl _ _

theorem cmdSnapModel_frames (x : CmdCtx) (s : State) : Frame 0x00800000 s (cmdSnapModel.run x s).1 := by
  dsimp only [cmdSnapModel]
  split
  dsimp only
  exact Frame.refl _ _
  split
  dsimp only
  exact Frame.refl _ _
  dsimp only
  refine Frame.step (State.sendSnap_frames _ _ _) rfl ?_
  exact Frame.refl _ _

theorem cmdRestoreCert_frames (x : CmdCtx) (s : State) : Frame 0x016120c4 s (cmdRestoreCert.run x s).1 := by
  dsimp only [cmdRestoreCert]
  refine restoreRun_frames ?_ ?_ rfl
  intro _
  intro _
  refine Frame.step (State.restoreCert_frames _ _) rfl ?_
  exact Frame.refl _ _
  exact Frame.refl _ _

theorem cmdRestoreModel_frames (x : CmdCtx) (s : State) : Frame 0x016220c4 s (cmdRestoreModel.run x s).1 := by
  dsimp only [cmdRestoreModel]
  refine restoreRun_frames ?_ ?_ rfl
  intro _
  intro _
  refine Frame.step (State.restoreModel_frames _ _) rfl ?_
  exact Frame.refl _ _
  exact Frame.refl _ _

theorem cmdModelStart_frames (x : CmdCtx) (s : State) : Frame 0x00020000 s (cmdModelStart.run x s).1 := by
  dsimp only [cmdModelStart]
  split
  dsimp only
  exact Frame.refl _ _
  dsimp only
  refine Frame.set_mdl ?_ rfl
  exact Frame.refl _ _

theorem cmdConnect_frames (x : CmdCtx) (s : State) : Frame 0x00002000 s (cmdConnect.run x s).1 := by
  dsimp only [cmdConnect]
  refine Frame.step (State.request_frames _ _ _ _) rfl ?_
  exact Frame.refl _ _

theorem cmdOpen_frames (x : CmdCtx) (s : State) : Frame 0x00002000 s (cmdOpen.run x s).1 := by
  dsimp only [cmdOpen]
  split
  dsimp only
  exact Frame.refl _ _
  dsimp only
  refine Frame.step (State.request_frames _ _ _ _) rfl ?_
  exact Frame.refl _ _

theorem cmdReset_frames (x : CmdCtx) (s : State) : Frame 0x00002000 s (cmdReset.run x s).1 := by
  dsimp only [cmdReset]
  refine Frame.step (State.request_frames _ _ _ _) rfl ?_
  exact Frame.refl _ _

theorem cmdSessionOpen_frames (x : CmdCtx) (s : State) : Frame 0x0160a0c4 s (cmdSessionOpen.run x s).1 := by
  dsimp only [cmdSessionOpen]
  refine Frame.step (State.sessionOpen_frames _ _ _ _ _ _) rfl ?_
  exact Frame.refl _ _

theorem cmdSessionClose_frames (x : CmdCtx) (s : State) : Frame 0x0000a004 s (cmdSessionClose.run x s).1 := by
  dsimp only [cmdSessionClose]
  refine Frame.set_auth ?_ rfl
  refine Frame.step (State.sessionClose_frames _) rfl ?_
  exact Frame.refl _ _

theorem cmdPasswordSet_frames (x : CmdCtx) (s : State) : Frame 0x0160a0c4 s (cmdPasswordSet.run x s).1 := by
  dsimp only [cmdPasswordSet]
  refine inSession_frames ?_ ?_
  intro _
  intro _
  refine Frame.step (State.passwordStage_frames _ _ _ _) rfl ?_
  exact Frame.refl _ _
  exact Frame.refl _ _

theorem cmdKeySet_frames (x : CmdCtx) (s : State) : Frame 0x0160a0c4 s (cmdKeySet.run x s).1 := by
  dsimp only [cmdKeySet]
  refine inSession_frames ?_ ?_
  intro _
  intro _
  refine Frame.step (State.keyStage_frames _ _ _) rfl ?_
  exact Frame.refl _ _
  exact Frame.refl _ _

theorem cmdWeldClear_frames (x : CmdCtx) (s : State) : Frame 0x8160a0c4 s (cmdWeldClear.run x s).1 := by
  dsimp only [cmdWeldClear]
  refine inSession_frames ?_ ?_
  intro _
  intro _
  refine Frame.step (State.weldClear_frames _ _) rfl ?_
  exact Frame.refl _ _
  exact Frame.refl _ _

theorem cmdClogRoll_frames (x : CmdCtx) (s : State) : Frame 0x0160a0c4 s (cmdClogRoll.run x s).1 := by
  dsimp only [cmdClogRoll]
  refine inSession_frames ?_ ?_
  intro _
  intro _
  refine Frame.step (State.clogRoll_frames _ _ _ _) rfl ?_
  exact Frame.refl _ _
  exact Frame.refl _ _

theorem cmdTableLoad_frames (x : CmdCtx) (s : State) : Frame 0x0160a0c4 s (cmdTableLoad.run x s).1 := by
  dsimp only [cmdTableLoad]
  split
  split
  dsimp only
  exact Frame.refl _ _
  refine CmdCtx.read_frames ?_ ?_ rfl
  intro _
  split
  dsimp only
  split
  refine Frame.step (State.raise_frames _ _ _ _ _) rfl ?_
  exact Frame.refl _ _
  split
  refine Frame.step (State.note_frames _ _ _ _) rfl ?_
  exact Frame.refl _ _
  exact Frame.refl _ _
  refine inSession_frames ?_ ?_
  intro _
  intro _
  refine Frame.step (State.tableStage_frames _ _ _ _ _) rfl ?_
  exact Frame.refl _ _
  exact Frame.refl _ _
  exact Frame.refl _ _
  split
  dsimp only
  exact Frame.refl _ _
  refine CmdCtx.read_frames ?_ ?_ rfl
  intro _
  split
  dsimp only
  split
  refine Frame.step (State.raise_frames _ _ _ _ _) rfl ?_
  exact Frame.refl _ _
  split
  refine Frame.step (State.note_frames _ _ _ _) rfl ?_
  exact Frame.refl _ _
  exact Frame.refl _ _
  refine inSession_frames ?_ ?_
  intro _
  intro _
  refine Frame.step (State.tableStage_frames _ _ _ _ _) rfl ?_
  exact Frame.refl _ _
  exact Frame.refl _ _
  exact Frame.refl _ _

theorem cmdCellRefresh_frames (x : CmdCtx) (s : State) : Frame 0x01e020c4 s (cmdCellRefresh.run x s).1 := by
  dsimp only [cmdCellRefresh]
  split
  dsimp only
  exact Frame.refl _ _
  split
  dsimp only
  exact Frame.refl _ _
  split
  dsimp only
  refine Frame.step (State.cellsDone_frames _ _ _ _) rfl ?_
  exact Frame.refl _ _
  dsimp only
  refine Frame.step (State.cellsDone_frames _ _ _ _) rfl ?_
  exact Frame.refl _ _

theorem cmdEvlogMark_frames (x : CmdCtx) (s : State) : Frame 0 s (cmdEvlogMark.run x s).1 := by
  dsimp only [cmdEvlogMark]
  exact Frame.refl _ _

theorem cmdEvlogFreeze_frames (x : CmdCtx) (s : State) : Frame 0x00000084 s (cmdEvlogFreeze.run x s).1 := by
  dsimp only [cmdEvlogFreeze]
  split
  dsimp only
  exact Frame.refl _ _
  dsimp only
  refine Frame.step (State.note_frames _ _ _ _) rfl ?_
  refine Frame.step (State.setFields_frames _ _) rfl ?_
  refine Frame.set_evl ?_ rfl
  exact Frame.refl _ _

theorem cmdEvlogRelease_frames (x : CmdCtx) (s : State) : Frame 0x00000084 s (cmdEvlogRelease.run x s).1 := by
  dsimp only [cmdEvlogRelease]
  split
  dsimp only
  refine Frame.step (State.unfreeze_frames _) rfl ?_
  exact Frame.refl _ _
  dsimp only
  exact Frame.refl _ _

theorem cmdFlumeOpen_frames (x : CmdCtx) (s : State) : Frame 0x00800004 s (cmdFlumeOpen.run x s).1 := by
  dsimp only [cmdFlumeOpen]
  split
  dsimp only
  exact Frame.refl _ _
  split
  dsimp only
  exact Frame.refl _ _
  split
  dsimp only
  exact Frame.refl _ _
  split
  dsimp only
  refine Frame.step (State.addSat_frames _ _ _) rfl ?_
  exact Frame.refl _ _
  dsimp only
  refine Frame.step (State.setFlume_frames _ _ _ _) rfl ?_
  exact Frame.refl _ _

theorem cmdFlumeClose_frames (x : CmdCtx) (s : State) : Frame 0x01e020c4 s (cmdFlumeClose.run x s).1 := by
  dsimp only [cmdFlumeClose]
  split
  dsimp only
  exact Frame.refl _ _
  split
  dsimp only
  exact Frame.refl _ _
  dsimp only
  refine Frame.step (State.dropFlume_frames _ _ _) rfl ?_
  refine Frame.step (State.closeBuf_frames _ _ _ _ _) rfl ?_
  exact Frame.refl _ _

theorem cmdFlumeStat_frames (x : CmdCtx) (s : State) : Frame 0 s (cmdFlumeStat.run x s).1 := by
  dsimp only [cmdFlumeStat]
  split
  dsimp only
  exact Frame.refl _ _
  dsimp only
  exact Frame.refl _ _

theorem cmdHopEject_frames (x : CmdCtx) (s : State) : Frame 0x016020c4 s (cmdHopEject.run x s).1 := by
  dsimp only [cmdHopEject]
  split
  dsimp only
  exact Frame.refl _ _
  split
  dsimp only
  exact Frame.refl _ _
  split
  dsimp only
  refine Frame.step (State.note_frames _ _ _ _) rfl ?_
  exact Frame.refl _ _
  dsimp only
  refine Frame.step (State.setHopSlot_frames _ _ _) rfl ?_
  split
  refine Frame.step (State.closeShort_frames _) rfl ?_
  exact Frame.refl _ _
  exact Frame.refl _ _

theorem cmdHopAdmit_frames (x : CmdCtx) (s : State) : Frame 0x016020c4 s (cmdHopAdmit.run x s).1 := by
  dsimp only [cmdHopAdmit]
  split
  dsimp only
  exact Frame.refl _ _
  split
  dsimp only
  exact Frame.refl _ _
  split
  dsimp only
  refine Frame.step (State.note_frames _ _ _ _) rfl ?_
  exact Frame.refl _ _
  dsimp only
  refine Frame.step (State.hopAdmit_frames _ _ _) rfl ?_
  exact Frame.refl _ _

theorem cmdEvlogClear_frames (x : CmdCtx) (s : State) : Frame 0x01e0a0c4 s (cmdEvlogClear.run x s).1 := by
  dsimp only [cmdEvlogClear]
  split
  dsimp only
  exact Frame.refl _ _
  split
  dsimp only
  refine Frame.step (State.note_frames _ _ _ _) rfl ?_
  exact Frame.refl _ _
  split
  dsimp only
  refine Frame.step (State.sessionTouch_frames _) rfl ?_
  refine Frame.step (State.setFields_frames _ _) rfl ?_
  refine Frame.step (State.evlPut_frames _ _) rfl ?_
  refine Frame.step (State.goneAt_frames _ _ _) rfl ?_
  refine Frame.step (State.goneAt_frames _ _ _) rfl ?_
  refine Frame.set_evl ?_ rfl
  refine Frame.step (State.copyRecords_frames _) rfl ?_
  exact Frame.refl _ _
  dsimp only
  refine Frame.step (State.note_frames _ _ _ _) rfl ?_
  exact Frame.refl _ _

theorem State.serve_frames {m : Nat} {k : CmdSpec} (h : ∀ x s, Frame m s (k.run x s).1) (hm : maskIn 0x03e020c6 m = true)
    (x : CmdCtx) (s : State) : Frame m s (s.serve k x) := by
  have hc : ∀ c y, Frame m s (s.complete c y) := fun c y => Frame.step (State.complete_frames _ _ _) hm (Frame.refl _ _)
  unfold State.serve
  repeat' split
  all_goals first
    | exact hc _ _
    | (rename_i heq; have h1 := h x s; rw [heq] at h1; exact h1)
    | (rename_i heq; have h1 := h x s; rw [heq] at h1; exact Frame.step (State.complete_frames _ _ _) hm h1)

theorem State.command_frames {m : Nat} {k : CmdSpec} (h : ∀ x s, Frame m s (k.run x s).1) (hm : maskIn 0x03e020c6 m = true)
    (c : CmdIn) (s : State) : Frame m s (s.command k c) := by
  unfold State.command
  split
  · have h1 : Frame m s (s.quiet.needCtx c.fn c.ring).1 := Frame.step (State.needCtx_frames _ _ _) (maskIn_trans rfl hm)
      (Frame.step (State.quiet_frames _) (maskIn_trans rfl hm) (Frame.refl _ _))
    dsimp only
    split
    · exact Frame.step (State.serve_frames h (maskIn_trans rfl hm) _ _) (maskIn_self m)
        (Frame.step (State.fetch_frames _ _ _) (maskIn_trans rfl hm) h1)
    · exact h1
  · exact Frame.refl _ _

theorem execNopCmd_frames (c : CmdIn) (s : State) : Frame 0x03e020c6 s (andThen (execNopCmd c) s) := by
  dsimp only [andThen, execNopCmd]
  split
  · exact State.command_frames (fun x s => Frame.step (cmdNop_frames x s) rfl (Frame.refl _ _)) rfl _ _
  · have h1 : Frame 0x03e020c6 s (s.quiet.needCtx c.fn c.ring).1 := Frame.step (State.needCtx_frames _ _ _) rfl
      (Frame.step (State.quiet_frames _) rfl (Frame.refl _ _))
    split
    · split
      · exact Frame.step (State.complete_frames _ _ _) rfl (Frame.step (State.fetch_frames _ _ _) rfl h1)
      · exact h1
    · exact Frame.refl _ _

theorem execModelStart_frames (c : CmdIn) (s : State) :
    Frame 0x03e220c6 s (andThen (execModelStart c) s) := by
  dsimp only [andThen, execModelStart]
  exact State.command_frames (fun x s => Frame.step (cmdModelStart_frames x s) rfl (Frame.refl _ _)) rfl _ _

theorem execHostInput_frames (c : CmdIn) (s : State) :
    Frame 0x03e8a0c6 s (andThen (execHostInput c) s) := by
  dsimp only [andThen, execHostInput]
  exact State.command_frames (fun x s => Frame.step (cmdHostInput_frames x s) rfl (Frame.refl _ _)) rfl _ _

theorem execConnectReq_frames (c : CmdIn) (s : State) :
    Frame 0x03e020c6 s (andThen (execConnectReq c) s) := by
  dsimp only [andThen, execConnectReq]
  exact State.command_frames (fun x s => Frame.step (cmdConnect_frames x s) rfl (Frame.refl _ _)) rfl _ _

theorem execSetpoint_frames (c : CmdIn) (s : State) :
    Frame 0x03f0a0c6 s (andThen (execSetpoint c) s) := by
  dsimp only [andThen, execSetpoint]
  exact State.command_frames (fun x s => Frame.step (cmdSetpoint_frames x s) rfl (Frame.refl _ _)) rfl _ _

theorem execWeldClear_frames (c : CmdIn) (s : State) :
    Frame 0x83e0a0c6 s (andThen (execWeldClear c) s) := by
  dsimp only [andThen, execWeldClear]
  exact State.command_frames (fun x s => Frame.step (cmdWeldClear_frames x s) rfl (Frame.refl _ _)) rfl _ _

theorem execHopEject_frames (c : CmdIn) (s : State) :
    Frame 0x03e020c6 s (andThen (execHopEject c) s) := by
  dsimp only [andThen, execHopEject]
  exact State.command_frames (fun x s => Frame.step (cmdHopEject_frames x s) rfl (Frame.refl _ _)) rfl _ _

theorem execEvlogClear_frames (c : CmdIn) (s : State) :
    Frame 0x03e0a0c6 s (andThen (execEvlogClear c) s) := by
  dsimp only [andThen, execEvlogClear]
  exact State.command_frames (fun x s => Frame.step (cmdEvlogClear_frames x s) rfl (Frame.refl _ _)) rfl _ _

theorem execHopAdmit_frames (c : CmdIn) (s : State) :
    Frame 0x03e020c6 s (andThen (execHopAdmit c) s) := by
  dsimp only [andThen, execHopAdmit]
  exact State.command_frames (fun x s => Frame.step (cmdHopAdmit_frames x s) rfl (Frame.refl _ _)) rfl _ _

theorem execClogRoll_frames (c : CmdIn) (s : State) :
    Frame 0x03e0a0c6 s (andThen (execClogRoll c) s) := by
  dsimp only [andThen, execClogRoll]
  exact State.command_frames (fun x s => Frame.step (cmdClogRoll_frames x s) rfl (Frame.refl _ _)) rfl _ _

theorem execSessionClose_frames (c : CmdIn) (s : State) :
    Frame 0x03e0a0c6 s (andThen (execSessionClose c) s) := by
  dsimp only [andThen, execSessionClose]
  exact State.command_frames (fun x s => Frame.step (cmdSessionClose_frames x s) rfl (Frame.refl _ _)) rfl _ _

theorem execEvlogRelease_frames (c : CmdIn) (s : State) :
    Frame 0x03e020c6 s (andThen (execEvlogRelease c) s) := by
  dsimp only [andThen, execEvlogRelease]
  exact State.command_frames (fun x s => Frame.step (cmdEvlogRelease_frames x s) rfl (Frame.refl _ _)) rfl _ _

theorem execEvlogMark_frames (c : CmdIn) (s : State) :
    Frame 0x03e020c6 s (andThen (execEvlogMark c) s) := by
  dsimp only [andThen, execEvlogMark]
  exact State.command_frames (fun x s => Frame.step (cmdEvlogMark_frames x s) rfl (Frame.refl _ _)) rfl _ _

theorem execCapture_frames (c : CmdIn) (s : State) :
    Frame 0x03e020c6 s (andThen (execCapture c) s) := by
  dsimp only [andThen, execCapture]
  exact State.command_frames (fun x s => Frame.step (cmdCapture_frames x s) rfl (Frame.refl _ _)) rfl _ _

theorem execEvlogFreeze_frames (c : CmdIn) (s : State) :
    Frame 0x03e020c6 s (andThen (execEvlogFreeze c) s) := by
  dsimp only [andThen, execEvlogFreeze]
  exact State.command_frames (fun x s => Frame.step (cmdEvlogFreeze_frames x s) rfl (Frame.refl _ _)) rfl _ _

theorem execPasswordSet_frames (c : CmdIn) (s : State) :
    Frame 0x03e0a0c6 s (andThen (execPasswordSet c) s) := by
  dsimp only [andThen, execPasswordSet]
  exact State.command_frames (fun x s => Frame.step (cmdPasswordSet_frames x s) rfl (Frame.refl _ _)) rfl _ _

theorem execRestoreModel_frames (c : CmdIn) (s : State) :
    Frame 0x03e220c6 s (andThen (execRestoreModel c) s) := by
  dsimp only [andThen, execRestoreModel]
  exact State.command_frames (fun x s => Frame.step (cmdRestoreModel_frames x s) rfl (Frame.refl _ _)) rfl _ _

theorem execOpenReq_frames (c : CmdIn) (s : State) :
    Frame 0x03e020c6 s (andThen (execOpenReq c) s) := by
  dsimp only [andThen, execOpenReq]
  exact State.command_frames (fun x s => Frame.step (cmdOpen_frames x s) rfl (Frame.refl _ _)) rfl _ _

theorem execKeySet_frames (c : CmdIn) (s : State) :
    Frame 0x03e0a0c6 s (andThen (execKeySet c) s) := by
  dsimp only [andThen, execKeySet]
  exact State.command_frames (fun x s => Frame.step (cmdKeySet_frames x s) rfl (Frame.refl _ _)) rfl _ _

theorem execSessionOpen_frames (c : CmdIn) (s : State) :
    Frame 0x03e0a0c6 s (andThen (execSessionOpen c) s) := by
  dsimp only [andThen, execSessionOpen]
  exact State.command_frames (fun x s => Frame.step (cmdSessionOpen_frames x s) rfl (Frame.refl _ _)) rfl _ _

theorem execTableLoad_frames (c : CmdIn) (s : State) :
    Frame 0x03e0a0c6 s (andThen (execTableLoad c) s) := by
  dsimp only [andThen, execTableLoad]
  exact State.command_frames (fun x s => Frame.step (cmdTableLoad_frames x s) rfl (Frame.refl _ _)) rfl _ _

theorem execFlumeStat_frames (c : CmdIn) (s : State) :
    Frame 0x03e020c6 s (andThen (execFlumeStat c) s) := by
  dsimp only [andThen, execFlumeStat]
  exact State.command_frames (fun x s => Frame.step (cmdFlumeStat_frames x s) rfl (Frame.refl _ _)) rfl _ _

theorem execFlumeClose_frames (c : CmdIn) (s : State) :
    Frame 0x03e020c6 s (andThen (execFlumeClose c) s) := by
  dsimp only [andThen, execFlumeClose]
  exact State.command_frames (fun x s => Frame.step (cmdFlumeClose_frames x s) rfl (Frame.refl _ _)) rfl _ _

theorem execCellRefresh_frames (c : CmdIn) (s : State) :
    Frame 0x03e020c6 s (andThen (execCellRefresh c) s) := by
  dsimp only [andThen, execCellRefresh]
  exact State.command_frames (fun x s => Frame.step (cmdCellRefresh_frames x s) rfl (Frame.refl _ _)) rfl _ _

theorem execRestoreCert_frames (c : CmdIn) (s : State) :
    Frame 0x03e120c6 s (andThen (execRestoreCert c) s) := by
  dsimp only [andThen, execRestoreCert]
  exact State.command_frames (fun x s => Frame.step (cmdRestoreCert_frames x s) rfl (Frame.refl _ _)) rfl _ _

theorem execSnapModel_frames (c : CmdIn) (s : State) :
    Frame 0x03e020c6 s (andThen (execSnapModel c) s) := by
  dsimp only [andThen, execSnapModel]
  exact State.command_frames (fun x s => Frame.step (cmdSnapModel_frames x s) rfl (Frame.refl _ _)) rfl _ _

theorem execFlumeOpen_frames (c : CmdIn) (s : State) :
    Frame 0x03e020c6 s (andThen (execFlumeOpen c) s) := by
  dsimp only [andThen, execFlumeOpen]
  exact State.command_frames (fun x s => Frame.step (cmdFlumeOpen_frames x s) rfl (Frame.refl _ _)) rfl _ _

theorem execSnapCert_frames (c : CmdIn) (s : State) :
    Frame 0x03e020c6 s (andThen (execSnapCert c) s) := by
  dsimp only [andThen, execSnapCert]
  exact State.command_frames (fun x s => Frame.step (cmdSnapCert_frames x s) rfl (Frame.refl _ _)) rfl _ _

theorem execResetReq_frames (c : CmdIn) (s : State) :
    Frame 0x03e020c6 s (andThen (execResetReq c) s) := by
  dsimp only [andThen, execResetReq]
  exact State.command_frames (fun x s => Frame.step (cmdReset_frames x s) rfl (Frame.refl _ _)) rfl _ _

end Sys2Proof.Machine
end

