-- ==== Sys2Proof/Laws/FramePorts.lean ====
section
/-! SUPPORT. Frames of Ethernet, time, pulses, CAN and tandem: the parts of the state that each definition may change. -/
namespace Sys2Proof.Machine

theorem State.setTci_frames (n : Nat) (l : List (Nat × Bool)) (s : State) :
    Frame 0x04000004 s (State.setTci n l s) := by
  unfold State.setTci
  refine Frame.step (State.setReg_frames _ _ _) rfl ?_
  refine Frame.set_tim ?_ rfl
  exact Frame.refl _ _

theorem State.latchFor_frames (p : Path) (off : Nat) (v : Nat) (s : State) :
    Frame 0x00000008 s (State.latchFor p off v s) := by
  unfold State.latchFor
  refine Frame.set_latch ?_ rfl
  exact Frame.refl _ _

theorem execTciRead_frames (path : Path) (n : Nat) (s : State) :
    Frame 0x0400001c s (andThen (execTciRead path n) s) := by
  dsimp only [andThen, execTciRead]
  split
  refine Frame.step (State.latchFor_frames _ _ _ _) rfl ?_
  refine Frame.step (State.latchFor_frames _ _ _ _) rfl ?_
  refine Frame.step (State.latchFor_frames _ _ _ _) rfl ?_
  refine Frame.step (State.returns_frames _ _ _) rfl ?_
  refine Frame.step (State.setTci_frames _ _ _) rfl ?_
  exact Frame.refl _ _
  exact Frame.refl _ _

theorem State.setCan_frames (c : Nat) (x : CanCtl) (s : State) :
    Frame 0x08000000 s (State.setCan c x s) := by
  unfold State.setCan
  refine Frame.set_can ?_ rfl
  exact Frame.refl _ _

theorem State.canBegin_frames (c : Nat) (sof : Option Nat) (s : State) :
    Frame 0x08000000 s (State.canBegin c sof s) := by
  unfold State.canBegin
  dsimp only
  split
  split
  refine Frame.step (State.setCan_frames _ _ _) rfl ?_
  exact Frame.refl _ _
  exact Frame.refl _ _
  exact Frame.refl _ _

theorem State.canSent_frames (c : Nat) (id : Nat) (data : List Nat) (s : State) :
    Frame 0x08000000 s (State.canSent c id data s) := by
  unfold State.canSent
  refine Frame.set_can ?_ rfl
  exact Frame.refl _ _

theorem State.setPend_frames (c : Nat) (pend : Nat) (s : State) :
    Frame 0x00000004 s (State.setPend c pend s) := by
  unfold State.setPend
  refine Frame.step (State.setFields_frames _ _) rfl ?_
  exact Frame.refl _ _

theorem State.canSignal_frames (c : Nat) (enable : Bool) (s : State) :
    Frame 0x00800000 s (State.canSignal c enable s) := by
  unfold State.canSignal
  split
  refine Frame.step (State.sendVector_frames _ _ _) rfl ?_
  exact Frame.refl _ _
  exact Frame.refl _ _

theorem State.updCan_frames (c : Nat) (f : CanCtl → CanCtl) (s : State) :
    Frame 0x08000000 s (State.updCan c f s) := by
  unfold State.updCan
  refine Frame.step (State.setCan_frames _ _ _) rfl ?_
  exact Frame.refl _ _

theorem State.canNote_frames (c : Nat) (code : Nat) (s : State) :
    Frame 0x00000084 s (State.canNote c code s) := by
  unfold State.canNote
  refine Frame.step (State.note_frames _ _ _ _) rfl ?_
  exact Frame.refl _ _

theorem State.canTef_frames (c : Nat) (k : Nat) (h : List Nat) (ts : List Nat) (att : Nat) (out : Nat) (s : State) :
    Frame 0x18000084 s (State.canTef c k h ts att out s) := by
  unfold State.canTef
  split
  dsimp only
  split
  refine Frame.step (State.updCan_frames _ _ _) rfl ?_
  refine Frame.step (State.writeMem_frames _ _ _ _) rfl ?_
  exact Frame.refl _ _
  refine Frame.step (State.canNote_frames _ _ _) rfl ?_
  exact Frame.refl _ _
  exact Frame.refl _ _

theorem State.canDone_frames (c : Nat) (k : Nat) (sof : Option Nat) (canc : Bool) (s : State) :
    Frame 0x18800084 s (State.canDone c k sof canc s) := by
  unfold State.canDone
  dsimp only
  refine Frame.step (State.canSignal_frames _ _ _) rfl ?_
  refine Frame.step (State.canTef_frames _ _ _ _ _ _ _) rfl ?_
  refine Frame.step (State.setFields_frames _ _) rfl ?_
  refine Frame.step (State.setPend_frames _ _ _) rfl ?_
  refine Frame.step (State.setCan_frames _ _ _) rfl ?_
  refine Frame.step (State.writeMem_frames _ _ _ _) rfl ?_
  refine Frame.step (State.writeMem_frames _ _ _ _) rfl ?_
  exact Frame.refl _ _

theorem State.canFinish_frames (c : Nat) (src : Nat) (sof : Nat) (s : State) :
    Frame 0x18800084 s (State.canFinish c src sof s) := by
  unfold State.canFinish
  dsimp only
  split
  refine Frame.step (State.canSent_frames _ _ _ _) rfl ?_
  refine Frame.step (State.setCan_frames _ _ _) rfl ?_
  exact Frame.refl _ _
  refine Frame.step (State.canSent_frames _ _ _ _) rfl ?_
  refine Frame.step (State.setCan_frames _ _ _) rfl ?_
  exact Frame.refl _ _
  refine Frame.step (State.canSent_frames _ _ _ _) rfl ?_
  refine Frame.step (State.setCan_frames _ _ _) rfl ?_
  exact Frame.refl _ _
  refine Frame.step (State.canSent_frames _ _ _ _) rfl ?_
  refine Frame.step (State.canDone_frames _ _ _ _ _) rfl ?_
  exact Frame.refl _ _

theorem State.canEstate_frames (c : Nat) (s : State) :
    Frame 0x00800084 s (State.canEstate c s) := by
  unfold State.canEstate
  dsimp only
  split
  refine Frame.step (State.canSignal_frames _ _ _) rfl ?_
  refine Frame.step (State.canNote_frames _ _ _) rfl ?_
  refine Frame.step (State.setReg_frames _ _ _) rfl ?_
  exact Frame.refl _ _
  split
  refine Frame.step (State.setReg_frames _ _ _) rfl ?_
  exact Frame.refl _ _
  exact Frame.refl _ _

theorem State.canTxGood_frames (c : Nat) (s : State) :
    Frame 0x08000004 s (State.canTxGood c s) := by
  unfold State.canTxGood
  dsimp only
  refine Frame.step (State.setReg_frames _ _ _) rfl ?_
  refine Frame.step (State.updCan_frames _ _ _) rfl ?_
  exact Frame.refl _ _

theorem execCanTxComplete_frames (c : Nat) (sof : Option Nat) (loop : Nat) (s : State) :
    Frame 0x18800084 s (andThen (execCanTxComplete c sof loop) s) := by
  dsimp only [andThen, execCanTxComplete]
  split
  split
  refine Frame.step (State.canEstate_frames _ _) rfl ?_
  refine Frame.step (State.canTxGood_frames _ _) rfl ?_
  split
  refine Frame.step (State.setReg_frames _ _ _) rfl ?_
  refine Frame.step (State.canFinish_frames _ _ _ _) rfl ?_
  refine Frame.step (State.updCan_frames _ _ _) rfl ?_
  refine Frame.step (State.canBegin_frames _ _ _) rfl ?_
  exact Frame.refl _ _
  refine Frame.step (State.canFinish_frames _ _ _ _) rfl ?_
  refine Frame.step (State.updCan_frames _ _ _) rfl ?_
  refine Frame.step (State.canBegin_frames _ _ _) rfl ?_
  exact Frame.refl _ _
  refine Frame.step (State.canBegin_frames _ _ _) rfl ?_
  exact Frame.refl _ _
  exact Frame.refl _ _

theorem execCanReferenceMessage_frames (c : Nat) (s : State) :
    Frame 0x08000000 s (andThen (execCanReferenceMessage c) s) := by
  dsimp only [andThen, execCanReferenceMessage]
  split
  refine Frame.step (State.updCan_frames _ _ _) rfl ?_
  exact Frame.refl _ _
  exact Frame.refl _ _

theorem State.timeFlags_frames (s : State) :
    Frame 0x00000004 s (State.timeFlags s) := by
  unfold State.timeFlags
  dsimp only
  refine Frame.step (State.setFlag_frames _ _ _) rfl ?_
  refine Frame.step (State.setFlag_frames _ _ _) rfl ?_
  exact Frame.refl _ _

theorem State.clockSecond_frames (s : State) :
    Frame 0x04000004 s (State.clockSecond s) := by
  unfold State.clockSecond
  dsimp only
  refine Frame.step (State.timeFlags_frames _) rfl ?_
  split
  refine Frame.set_tim ?_ rfl
  exact Frame.refl _ _
  exact Frame.refl _ _

theorem State.portStates_frames (s : State) :
    Frame 0x00000004 s (State.portStates s) := by
  unfold State.portStates
  refine forEach_frames ?_ ?_
  intro _
  intro _
  dsimp only
  refine Frame.step (State.setReg_frames _ _ _) rfl ?_
  exact Frame.refl _ _
  exact Frame.refl _ _

theorem State.follow_frames (m : Master) (s : State) :
    Frame 0x04000004 s (State.follow m s) := by
  unfold State.follow
  dsimp only
  refine Frame.step (State.portStates_frames _) rfl ?_
  refine Frame.set_tim ?_ rfl
  exact Frame.refl _ _

theorem State.selectMaster_frames (s : State) :
    Frame 0x04000004 s (State.selectMaster s) := by
  unfold State.selectMaster
  split
  refine Frame.step (State.timeFlags_frames _) rfl ?_
  refine Frame.step (State.follow_frames _ _) rfl ?_
  exact Frame.refl _ _
  exact Frame.refl _ _

theorem State.govLoad_frames (s : State) :
    Frame 0x00480000 s (State.govLoad s) := by
  unfold State.govLoad
  split
  dsimp only
  refine Frame.set_tdm ?_ rfl
  refine forEach_frames ?_ ?_
  intro _
  intro _
  refine Frame.step (State.setSlot_frames _ _ _) rfl ?_
  exact Frame.refl _ _
  exact Frame.refl _ _
  exact Frame.refl _ _

theorem State.ageTurn_frames (s : State) :
    Frame 0x00400004 s (State.ageTurn s) := by
  unfold State.ageTurn
  dsimp only
  split
  split
  refine Frame.set_tdm ?_ rfl
  refine Frame.step (State.setReg_frames _ _ _) rfl ?_
  exact Frame.refl _ _
  refine Frame.step (State.setReg_frames _ _ _) rfl ?_
  exact Frame.refl _ _
  exact Frame.refl _ _

theorem State.loopTurn_frames (s : State) :
    Frame 0x00400040 s (State.loopTurn s) := by
  unfold State.loopTurn
  dsimp only
  split
  split
  refine Frame.step (State.goneAt_frames _ _ _) rfl ?_
  refine Frame.set_tdm ?_ rfl
  exact Frame.refl _ _
  refine Frame.set_tdm ?_ rfl
  exact Frame.refl _ _
  split
  split
  refine Frame.step (State.goneAt_frames _ _ _) rfl ?_
  refine Frame.set_tdm ?_ rfl
  exact Frame.refl _ _
  refine Frame.set_tdm ?_ rfl
  exact Frame.refl _ _
  split
  refine Frame.step (State.goneAt_frames _ _ _) rfl ?_
  refine Frame.set_tdm ?_ rfl
  exact Frame.refl _ _
  refine Frame.set_tdm ?_ rfl
  exact Frame.refl _ _

theorem State.coilsFor_frames (s : State) :
    Frame 0x00002000 s (State.coilsFor s) := by
  unfold State.coilsFor
  dsimp only
  refine Frame.set_slu ?_ rfl rfl
  exact Frame.refl _ _

theorem State.attemptsTake_frames (s : State) :
    Frame 0x00002000 s (State.attemptsTake s) := by
  unfold State.attemptsTake
  dsimp only
  refine Frame.set_slu ?_ rfl rfl
  exact Frame.refl _ _

theorem State.envTake_frames (s : State) :
    Frame 0x00100000 s (State.envTake s) := by
  unfold State.envTake
  dsimp only
  refine Frame.set_env ?_ rfl
  exact Frame.refl _ _

theorem State.estTake_frames (s : State) :
    Frame 0x00010000 s (State.estTake s) := by
  unfold State.estTake
  dsimp only
  split
  refine forAll_frames ?_ ?_
  intro _
  intro _
  refine Frame.step (State.setEst_frames _ _ _) rfl ?_
  exact Frame.refl _ _
  exact Frame.refl _ _
  refine Frame.set_est ?_ rfl
  exact Frame.refl _ _

theorem State.handoverEnv_frames (s : State) :
    Frame 0x00100000 s (State.handoverEnv s) := by
  unfold State.handoverEnv
  split
  refine Frame.step (State.envTake_frames _) rfl ?_
  exact Frame.refl _ _
  exact Frame.refl _ _

theorem State.takeOver_frames (env : Bool) (s : State) :
    Frame 0x00112000 s (State.takeOver env s) := by
  unfold State.takeOver
  split
  refine Frame.step (State.attemptsTake_frames _) rfl ?_
  refine doIf_frames ?_ ?_
  intro _
  refine Frame.step (State.envTake_frames _) rfl ?_
  exact Frame.refl _ _
  refine Frame.step (State.estTake_frames _) rfl ?_
  exact Frame.refl _ _
  exact Frame.refl _ _

theorem State.granted_frames (fo : Bool) (role : Nat) (s : State) :
    Frame 0x00400004 s (State.granted fo role s) := by
  unfold State.granted
  dsimp only
  refine Frame.set_tdm ?_ rfl
  refine Frame.step (State.setFields_frames _ _) rfl ?_
  exact Frame.refl _ _

theorem State.grantHandover_frames (s : State) :
    Frame 0x00512084 s (State.grantHandover s) := by
  unfold State.grantHandover
  dsimp only
  refine Frame.step (State.note_frames _ _ _ _) rfl ?_
  refine Frame.set_env ?_ rfl
  refine Frame.step (State.coilsFor_frames _) rfl ?_
  refine Frame.step (State.takeOver_frames _ _) rfl ?_
  refine Frame.step (State.granted_frames _ _ _) rfl ?_
  exact Frame.refl _ _

theorem State.grantFailover_frames (s : State) :
    Frame 0x017120c4 s (State.grantFailover s) := by
  unfold State.grantFailover
  dsimp only
  refine Frame.step (State.watchOpen_frames _) rfl ?_
  refine Frame.set_slu ?_ rfl rfl
  refine Frame.step (State.emergencyOpen_frames _ _ _) rfl ?_
  refine Frame.step (State.raise_frames _ _ _ _ _) rfl ?_
  refine Frame.step (State.takeOver_frames _ _) rfl ?_
  refine Frame.step (State.granted_frames _ _ _) rfl ?_
  exact Frame.refl _ _

theorem State.hoFaultOpens_frames (s : State) :
    Frame 0x006020c4 s (State.hoFaultOpens s) := by
  unfold State.hoFaultOpens
  dsimp only
  split
  refine Frame.step (State.openFor_frames _ _ _ _ _) rfl ?_
  refine Frame.set_tdm ?_ rfl
  exact Frame.refl _ _
  exact Frame.refl _ _

theorem State.grantReclaim_frames (s : State) :
    Frame 0x016020c4 s (State.grantReclaim s) := by
  unfold State.grantReclaim
  dsimp only
  refine Frame.step (State.hoFaultOpens_frames _) rfl ?_
  refine Frame.step (State.setFields_frames _ _) rfl ?_
  refine Frame.step (State.raise_frames _ _ _ _ _) rfl ?_
  refine Frame.set_slu ?_ rfl rfl
  refine Frame.step (State.granted_frames _ _ _) rfl ?_
  exact Frame.refl _ _

theorem State.claimFails_frames (s : State) :
    Frame 0x00400084 s (State.claimFails s) := by
  unfold State.claimFails
  dsimp only
  split
  refine Frame.set_tdm ?_ rfl
  exact Frame.refl _ _
  refine Frame.step (State.note_frames _ _ _ _) rfl ?_
  refine Frame.set_tdm ?_ rfl
  exact Frame.refl _ _

theorem State.claimCheck_frames (s : State) :
    Frame 0x017120c4 s (State.claimCheck s) := by
  unfold State.claimCheck
  split
  split
  split
  refine Frame.step (State.grantHandover_frames _) rfl ?_
  exact Frame.refl _ _
  refine Frame.step (State.grantFailover_frames _) rfl ?_
  exact Frame.refl _ _
  refine Frame.step (State.grantReclaim_frames _) rfl ?_
  exact Frame.refl _ _
  refine Frame.step (State.watchOpen_frames _) rfl ?_
  refine Frame.step (State.granted_frames _ _ _) rfl ?_
  exact Frame.refl _ _
  refine Frame.step (State.claimFails_frames _) rfl ?_
  exact Frame.refl _ _
  exact Frame.refl _ _

theorem State.helloSend_frames (s : State) :
    Frame 0x00400002 s (State.helloSend s) := by
  unfold State.helloSend
  dsimp only
  refine Frame.step (State.took_frames _) rfl ?_
  refine Frame.set_tdm ?_ rfl
  exact Frame.refl _ _

theorem State.tdmStrike_frames (s : State) :
    Frame 0x017120c6 s (State.tdmStrike s) := by
  unfold State.tdmStrike
  dsimp only
  refine Frame.set_tdm ?_ rfl
  refine Frame.step (State.claimCheck_frames _) rfl ?_
  refine doIf_frames ?_ ?_
  intro _
  refine Frame.step (State.helloSend_frames _) rfl ?_
  exact Frame.refl _ _
  refine Frame.set_tdm ?_ rfl
  exact Frame.refl _ _

theorem State.netStrike_frames (s : State) :
    Frame 0x02000000 s (State.netStrike s) := by
  unfold State.netStrike
  refine Frame.step (State.txStrike_frames _) rfl ?_
  refine forEach_frames ?_ ?_
  intro _
  intro _
  refine forAll_frames ?_ ?_
  intro _
  intro _
  refine Frame.step (State.txPut_frames _ _ _) rfl ?_
  exact Frame.refl _ _
  exact Frame.refl _ _
  exact Frame.refl _ _

theorem State.setTto_frames (k : Nat) (x : Tto) (s : State) :
    Frame 0x04000000 s (State.setTto k x s) := by
  unfold State.setTto
  refine Frame.set_tim ?_ rfl
  exact Frame.refl _ _

theorem State.ttoDisarm_frames (k : Nat) (s : State) :
    Frame 0x04000004 s (State.ttoDisarm k s) := by
  unfold State.ttoDisarm
  refine Frame.step (State.setFlag_frames _ _ _) rfl ?_
  refine Frame.step (State.setTto_frames _ _ _) rfl ?_
  exact Frame.refl _ _

theorem State.ttoStart_frames (k : Nat) (p : TtoPlan) (t : Nat) (s : State) :
    Frame 0x04000084 s (State.ttoStart k p t s) := by
  unfold State.ttoStart
  dsimp only
  split
  refine Frame.step (State.ttoDisarm_frames _ _) rfl ?_
  refine Frame.step (State.setReg_frames _ _ _) rfl ?_
  exact Frame.refl _ _
  split
  refine Frame.step (State.note_frames _ _ _ _) rfl ?_
  refine Frame.step (State.setFlag_frames _ _ _) rfl ?_
  refine Frame.step (State.ttoDisarm_frames _ _) rfl ?_
  refine Frame.step (State.setReg_frames _ _ _) rfl ?_
  exact Frame.refl _ _
  refine Frame.step (State.setFlag_frames _ _ _) rfl ?_
  refine Frame.step (State.setTto_frames _ _ _) rfl ?_
  refine Frame.step (State.setReg_frames _ _ _) rfl ?_
  exact Frame.refl _ _

theorem State.ttoEnd_frames (k : Nat) (s : State) :
    Frame 0x04000084 s (State.ttoEnd k s) := by
  unfold State.ttoEnd
  dsimp only
  split
  exact Frame.refl _ _
  split
  refine Frame.step (State.setTto_frames _ _ _) rfl ?_
  exact Frame.refl _ _
  refine Frame.step (State.ttoDisarm_frames _ _) rfl ?_
  refine Frame.step (State.setTto_frames _ _ _) rfl ?_
  exact Frame.refl _ _
  refine Frame.step (State.ttoStart_frames _ _ _ _) rfl ?_
  refine Frame.step (State.setTto_frames _ _ _) rfl ?_
  exact Frame.refl _ _

theorem State.ttoStrike_frames (s : State) :
    Frame 0x04000084 s (State.ttoStrike s) := by
  unfold State.ttoStrike
  refine forEach_frames ?_ ?_
  intro _
  intro _
  dsimp only
  split
  split
  exact Frame.refl _ _
  refine Frame.step (State.setFlag_frames _ _ _) rfl ?_
  refine Frame.step (State.setTto_frames _ _ _) rfl ?_
  exact Frame.refl _ _
  split
  split
  refine Frame.step (State.ttoEnd_frames _ _) rfl ?_
  exact Frame.refl _ _
  exact Frame.refl _ _
  exact Frame.refl _ _
  exact Frame.refl _ _

theorem State.readyStrike_frames (s : State) :
    Frame 0x00400004 s (State.readyStrike s) := by
  unfold State.readyStrike
  dsimp only
  split
  refine Frame.step (State.setFlag_frames _ _ _) rfl ?_
  exact Frame.refl _ _
  refine Frame.set_tdm ?_ rfl
  refine Frame.step (State.setFlag_frames _ _ _) rfl ?_
  exact Frame.refl _ _

theorem State.loopStrike_frames (i : Nat) (s : State) :
    Frame 0x00400044 s (State.loopStrike i s) := by
  unfold State.loopStrike
  dsimp only
  split
  refine Frame.set_tdm ?_ rfl
  refine Frame.step (State.setReg_frames _ _ _) rfl ?_
  exact Frame.refl _ _
  refine Frame.step (State.goneAt_frames _ _ _) rfl ?_
  refine Frame.set_tdm ?_ rfl
  refine Frame.step (State.setReg_frames _ _ _) rfl ?_
  exact Frame.refl _ _

theorem State.hoBegin_frames (kind : Nat) (code : Nat) (s : State) :
    Frame 0x00400804 s (State.hoBegin kind code s) := by
  unfold State.hoBegin
  dsimp only
  refine Frame.step (State.imdStop_frames _) rfl ?_
  refine Frame.set_tdm ?_ rfl
  refine Frame.step (State.setFields_frames _ _) rfl ?_
  exact Frame.refl _ _

theorem State.canInit_frames (c : Nat) (on : Bool) (s : State) :
    Frame 0x08000004 s (State.canInit c on s) := by
  unfold State.canInit
  split
  refine Frame.step (State.setFields_frames _ _) rfl ?_
  refine Frame.step (State.updCan_frames _ _ _) rfl ?_
  exact Frame.refl _ _
  dsimp only
  split
  refine Frame.step (State.setFields_frames _ _) rfl ?_
  exact Frame.refl _ _
  refine Frame.step (State.setFields_frames _ _) rfl ?_
  exact Frame.refl _ _

theorem State.canCtrlWrite_frames (path : Path) (c : Nat) (w : Nat) (s : State) :
    Frame 0x0960a0c4 s (State.canCtrlWrite path c w s) := by
  unfold State.canCtrlWrite
  dsimp only
  split
  split
  refine Frame.step (State.canNote_frames _ _ _) rfl ?_
  refine Frame.step (State.writeWord_frames _ _ _ _) rfl ?_
  exact Frame.refl _ _
  refine Frame.step (State.canInit_frames _ _ _) rfl ?_
  refine Frame.step (State.canNote_frames _ _ _) rfl ?_
  refine Frame.step (State.writeWord_frames _ _ _ _) rfl ?_
  exact Frame.refl _ _
  split
  split
  refine Frame.step (State.noteBad_frames _ _ _) rfl ?_
  refine Frame.step (State.writeWord_frames _ _ _ _) rfl ?_
  exact Frame.refl _ _
  refine Frame.step (State.canInit_frames _ _ _) rfl ?_
  refine Frame.step (State.noteBad_frames _ _ _) rfl ?_
  refine Frame.step (State.writeWord_frames _ _ _ _) rfl ?_
  exact Frame.refl _ _
  split
  refine Frame.step (State.writeWord_frames _ _ _ _) rfl ?_
  exact Frame.refl _ _
  refine Frame.step (State.canInit_frames _ _ _) rfl ?_
  refine Frame.step (State.writeWord_frames _ _ _ _) rfl ?_
  exact Frame.refl _ _

theorem State.canConfigWrite_frames (path : Path) (c : Nat) (rel : Nat) (w : Nat) (s : State) :
    Frame 0x0160a0c4 s (State.canConfigWrite path c rel w s) := by
  unfold State.canConfigWrite
  split
  refine Frame.step (State.canNote_frames _ _ _) rfl ?_
  exact Frame.refl _ _
  dsimp only
  split
  refine Frame.step (State.writeWord_frames _ _ _ _) rfl ?_
  exact Frame.refl _ _
  refine Frame.step (State.noteBad_frames _ _ _) rfl ?_
  exact Frame.refl _ _

theorem execCanInitWrite_frames (path : Path) (c : Nat) (rel : Nat) (w : Word) (s : State) :
    Frame 0x0960a0c4 s (andThen (execCanInitWrite path c rel w) s) := by
  dsimp only [andThen, execCanInitWrite]
  split
  split
  refine Frame.step (State.canCtrlWrite_frames _ _ _ _) rfl ?_
  exact Frame.refl _ _
  split
  refine Frame.step (State.canConfigWrite_frames _ _ _ _ _) rfl ?_
  exact Frame.refl _ _
  exact Frame.refl _ _
  exact Frame.refl _ _

theorem State.canFilterCfg_frames (path : Path) (c : Nat) (w : Nat) (s : State) :
    Frame 0x0960a0c4 s (State.canFilterCfg path c w s) := by
  unfold State.canFilterCfg
  dsimp only
  split
  refine Frame.step (State.updCan_frames _ _ _) rfl ?_
  refine Frame.step (State.writeWord_frames _ _ _ _) rfl ?_
  exact Frame.refl _ _
  refine Frame.step (State.writeWord_frames _ _ _ _) rfl ?_
  exact Frame.refl _ _

theorem execCanFilterWrite_frames (path : Path) (c : Nat) (w : Word) (s : State) :
    Frame 0x0960a0c4 s (andThen (execCanFilterWrite path c w) s) := by
  dsimp only [andThen, execCanFilterWrite]
  split
  split
  refine Frame.step (State.canNote_frames _ _ _) rfl ?_
  exact Frame.refl _ _
  refine Frame.step (State.updCan_frames _ _ _) rfl ?_
  refine Frame.step (State.writeWord_frames _ _ _ _) rfl ?_
  exact Frame.refl _ _
  exact Frame.refl _ _

theorem State.setRxq_frames (c : Nat) (j : Nat) (q : CanQueue) (s : State) :
    Frame 0x08000004 s (State.setRxq c j q s) := by
  unfold State.setRxq
  refine Frame.step (State.setReg_frames _ _ _) rfl ?_
  refine Frame.step (State.updCan_frames _ _ _) rfl ?_
  exact Frame.refl _ _

theorem execCanRxAck_frames (c : Nat) (j : Nat) (w : Word) (s : State) :
    Frame 0x08000084 s (andThen (execCanRxAck c j w) s) := by
  dsimp only [andThen, execCanRxAck]
  split
  split
  refine Frame.step (State.canNote_frames _ _ _) rfl ?_
  exact Frame.refl _ _
  refine Frame.step (State.setRxq_frames _ _ _ _) rfl ?_
  exact Frame.refl _ _
  exact Frame.refl _ _

theorem State.canRequest_frames (c : Nat) (k : Nat) (s : State) :
    Frame 0x08000084 s (State.canRequest c k s) := by
  unfold State.canRequest
  dsimp only
  split
  exact Frame.refl _ _
  split
  refine Frame.step (State.setPend_frames _ _ _) rfl ?_
  refine Frame.step (State.updCan_frames _ _ _) rfl ?_
  exact Frame.refl _ _
  refine Frame.step (State.canNote_frames _ _ _) rfl ?_
  exact Frame.refl _ _

theorem execCanTxRequest_frames (c : Nat) (w : Word) (s : State) :
    Frame 0x08000084 s (andThen (execCanTxRequest c w) s) := by
  dsimp only [andThen, execCanTxRequest]
  split
  refine forEach_frames ?_ ?_
  intro _
  intro _
  refine Frame.step (State.canRequest_frames _ _ _) rfl ?_
  exact Frame.refl _ _
  exact Frame.refl _ _
  exact Frame.refl _ _

theorem State.canCancel_frames (c : Nat) (k : Nat) (s : State) :
    Frame 0x18800084 s (State.canCancel c k s) := by
  unfold State.canCancel
  dsimp only
  split
  exact Frame.refl _ _
  split
  refine Frame.step (State.setPend_frames _ _ _) rfl ?_
  refine Frame.step (State.setCan_frames _ _ _) rfl ?_
  exact Frame.refl _ _
  refine Frame.step (State.canDone_frames _ _ _ _ _) rfl ?_
  exact Frame.refl _ _

theorem execCanTxCancel_frames (c : Nat) (w : Word) (sof : Option Nat) (s : State) :
    Frame 0x18800084 s (andThen (execCanTxCancel c w sof) s) := by
  dsimp only [andThen, execCanTxCancel]
  split
  refine forEach_frames ?_ ?_
  intro _
  intro _
  refine Frame.step (State.canCancel_frames _ _ _) rfl ?_
  exact Frame.refl _ _
  split
  refine Frame.step (State.canBegin_frames _ _ _) rfl ?_
  exact Frame.refl _ _
  exact Frame.refl _ _
  exact Frame.refl _ _

theorem execCanMwinAccess_frames (path : Path) (c : Nat) (w : Option Word) (s : State) :
    Frame 0x10000094 s (andThen (execCanMwinAccess path c w) s) := by
  dsimp only [andThen, execCanMwinAccess]
  split
  split
  refine Frame.step (State.returns_frames _ _ _) rfl ?_
  refine Frame.step (State.setReg_frames _ _ _) rfl ?_
  exact Frame.refl _ _
  split
  refine Frame.step (State.canNote_frames _ _ _) rfl ?_
  refine Frame.step (State.setReg_frames _ _ _) rfl ?_
  exact Frame.refl _ _
  split
  refine Frame.step (State.writeMem_frames _ _ _ _) rfl ?_
  refine Frame.step (State.setReg_frames _ _ _) rfl ?_
  exact Frame.refl _ _
  refine Frame.step (State.setReg_frames _ _ _) rfl ?_
  exact Frame.refl _ _
  exact Frame.refl _ _

theorem execTtoArm_frames (path : Path) (k : Nat) (w : Word) (s : State) :
    Frame 0x0560a0c6 s (andThen (execTtoArm path k w) s) := by
  dsimp only [andThen, execTtoArm]
  split
  split
  refine Frame.step (State.noteBad_frames _ _ _) rfl ?_
  refine Frame.step (State.writeWord_frames _ _ _ _) rfl ?_
  exact Frame.refl _ _
  split
  refine Frame.step (State.writeWord_frames _ _ _ _) rfl ?_
  exact Frame.refl _ _
  split
  refine Frame.step (State.setTto_frames _ _ _) rfl ?_
  refine Frame.step (State.took_frames _) rfl ?_
  refine Frame.step (State.writeWord_frames _ _ _ _) rfl ?_
  exact Frame.refl _ _
  refine Frame.step (State.ttoStart_frames _ _ _ _) rfl ?_
  refine Frame.step (State.took_frames _) rfl ?_
  refine Frame.step (State.writeWord_frames _ _ _ _) rfl ?_
  exact Frame.refl _ _
  exact Frame.refl _ _

theorem State.ttoOff_frames (k : Nat) (s : State) :
    Frame 0x04000004 s (State.ttoOff k s) := by
  unfold State.ttoOff
  dsimp only
  split
  refine Frame.step (State.setTto_frames _ _ _) rfl ?_
  exact Frame.refl _ _
  refine Frame.step (State.ttoDisarm_frames _ _) rfl ?_
  exact Frame.refl _ _

theorem State.linksBack_frames (s : State) :
    Frame 0x00000040 s (State.linksBack s) := by
  unfold State.linksBack
  split
  exact Frame.refl _ _
  refine Frame.step (State.goneAt_frames _ _ _) rfl ?_
  exact Frame.refl _ _

theorem execHandoverRequest_frames (path : Path) (w : Word) (s : State) :
    Frame 0x016020c4 s (andThen (execHandoverRequest path w) s) := by
  dsimp only [andThen, execHandoverRequest]
  split
  split
  refine Frame.set_tdm ?_ rfl
  exact Frame.refl _ _
  refine Frame.step (State.raise_frames _ _ _ _ _) rfl ?_
  exact Frame.refl _ _
  exact Frame.refl _ _

theorem execClientClockApply_frames (fn : Nat) (w : Word) (s : State) :
    Frame 0x00800002 s (andThen (execClientClockApply fn w) s) := by
  dsimp only [andThen, execClientClockApply]
  split
  refine Frame.step (State.took_frames _) rfl ?_
  refine Frame.step (State.updFn_frames _ _ _) rfl ?_
  exact Frame.refl _ _
  exact Frame.refl _ _

theorem execImg_frames (s : State) :
    Frame 0x00400024 s (andThen execImg s) := by
  dsimp only [andThen, execImg]
  split
  split
  refine Frame.set_tdm ?_ rfl
  refine Frame.step (State.taskDone_frames _ _) rfl ?_
  exact Frame.refl _ _
  refine Frame.step (State.taskDone_frames _ _) rfl ?_
  exact Frame.refl _ _
  exact Frame.refl _ _

theorem execImageAgeAlarm_frames (s : State) :
    Frame 0x016020c4 s (andThen execImageAgeAlarm s) := by
  dsimp only [andThen, execImageAgeAlarm]
  split
  refine Frame.step (State.raiseLevel_frames _ _ _ _ _) rfl ?_
  exact Frame.refl _ _
  exact Frame.refl _ _

theorem State.assertClaim_frames (at_ : Nat) (s : State) :
    Frame 0x00400000 s (State.assertClaim at_ s) := by
  unfold State.assertClaim
  refine Frame.set_tdm ?_ rfl
  exact Frame.refl _ _

theorem execTokenClaim_frames (s : State) :
    Frame 0x00400000 s (andThen execTokenClaim s) := by
  dsimp only [andThen, execTokenClaim]
  split
  split
  refine Frame.step (State.assertClaim_frames _ _) rfl ?_
  exact Frame.refl _ _
  split
  refine Frame.step (State.assertClaim_frames _ _) rfl ?_
  refine Frame.set_tdm ?_ rfl
  exact Frame.refl _ _
  exact Frame.refl _ _
  exact Frame.refl _ _

theorem State.takeEntry_frames (l : List Nat) (g : Nat) (s : State) :
    Frame 0x00010000 s (State.takeEntry l g s) := by
  unfold State.takeEntry
  dsimp only
  split
  refine Frame.step (State.setEst_frames _ _ _) rfl ?_
  exact Frame.refl _ _
  exact Frame.refl _ _

theorem State.adoptWeld_frames (l : List Nat) (s : State) :
    Frame 0x00002084 s (State.adoptWeld l s) := by
  unfold State.adoptWeld
  split
  refine Frame.step (State.note_frames _ _ _ _) rfl ?_
  refine Frame.step (State.setWeldLock_frames _) rfl ?_
  exact Frame.refl _ _
  exact Frame.refl _ _

theorem State.crossCompare_frames (l : List Nat) (s : State) :
    Frame 0x016020c4 s (State.crossCompare l s) := by
  unfold State.crossCompare
  dsimp only
  refine Frame.step (State.level_frames _ _ _ _ _ _) rfl ?_
  refine Frame.set_tdm ?_ rfl
  refine forAll_frames ?_ ?_
  intro _
  intro _
  split
  refine Frame.step (State.level_frames _ _ _ _ _ _) rfl ?_
  refine Frame.set_tdm ?_ rfl
  exact Frame.refl _ _
  exact Frame.refl _ _
  exact Frame.refl _ _

theorem State.holdImd_frames (l : List Nat) (s : State) :
    Frame 0x00000804 s (State.holdImd l s) := by
  unfold State.holdImd
  dsimp only
  refine Frame.step (State.setFields_frames _ _) rfl ?_
  refine Frame.set_imd ?_ rfl
  exact Frame.refl _ _

theorem State.imageTaken_frames (l : List Nat) (s : State) :
    Frame 0x016128c4 s (State.imageTaken l s) := by
  unfold State.imageTaken
  dsimp only
  refine Frame.step (State.goneAt_frames _ _ _) rfl ?_
  refine Frame.step (State.level_frames _ _ _ _ _ _) rfl ?_
  refine Frame.step (State.adoptWeld_frames _ _) rfl ?_
  refine Frame.step (State.crossCompare_frames _ _) rfl ?_
  refine Frame.step (State.holdImd_frames _ _) rfl ?_
  refine forEach_frames ?_ ?_
  intro _
  intro _
  refine Frame.step (State.takeEntry_frames _ _ _) rfl ?_
  exact Frame.refl _ _
  refine Frame.step (State.setConn_frames _ _) rfl ?_
  refine Frame.step (State.setFields_frames _ _) rfl ?_
  refine Frame.set_tdm ?_ rfl
  exact Frame.refl _ _

theorem State.hoRefuse_frames (kind : Nat) (code : Nat) (s : State) :
    Frame 0x016020c4 s (State.hoRefuse kind code s) := by
  unfold State.hoRefuse
  split
  refine Frame.step (State.raise_frames _ _ _ _ _) rfl ?_
  exact Frame.refl _ _
  split
  refine Frame.step (State.openFor_frames _ _ _ _ _) rfl ?_
  exact Frame.refl _ _
  exact Frame.refl _ _

theorem State.hoSup_frames (s : State) :
    Frame 0x016028c4 s (State.hoSup s) := by
  unfold State.hoSup
  dsimp only
  split
  split
  refine Frame.set_tdm ?_ rfl
  exact Frame.refl _ _
  exact Frame.refl _ _
  split
  split
  split
  refine Frame.set_tdm ?_ rfl
  refine Frame.set_tdm ?_ rfl
  exact Frame.refl _ _
  refine Frame.set_tdm ?_ rfl
  exact Frame.refl _ _
  split
  refine Frame.set_tdm ?_ rfl
  refine Frame.set_tdm ?_ rfl
  exact Frame.refl _ _
  refine Frame.set_tdm ?_ rfl
  exact Frame.refl _ _
  split
  split
  refine Frame.set_tdm ?_ rfl
  refine Frame.step (State.hoBegin_frames _ _ _) rfl ?_
  refine Frame.set_tdm ?_ rfl
  exact Frame.refl _ _
  refine Frame.step (State.hoBegin_frames _ _ _) rfl ?_
  refine Frame.set_tdm ?_ rfl
  exact Frame.refl _ _
  split
  refine Frame.set_tdm ?_ rfl
  refine Frame.step (State.hoRefuse_frames _ _ _) rfl ?_
  refine Frame.set_tdm ?_ rfl
  exact Frame.refl _ _
  refine Frame.step (State.hoRefuse_frames _ _ _) rfl ?_
  refine Frame.set_tdm ?_ rfl
  exact Frame.refl _ _

theorem State.canRxGood_frames (c : Nat) (s : State) :
    Frame 0x08000006 s (State.canRxGood c s) := by
  unfold State.canRxGood
  dsimp only
  refine Frame.step (State.setReg_frames _ _ _) rfl ?_
  refine Frame.step (State.updCan_frames _ _ _) rfl ?_
  split
  refine Frame.step (State.took_frames _) rfl ?_
  exact Frame.refl _ _
  exact Frame.refl _ _

theorem State.canStore_frames (c : Nat) (j : Nat) (f : CanFrame) (tag : Nat) (fidx : Nat) (s : State) :
    Frame 0x19e020c4 s (State.canStore c j f tag fidx s) := by
  unfold State.canStore
  dsimp only
  split
  refine Frame.step (State.canSignal_frames _ _ _) rfl ?_
  refine Frame.step (State.setRxq_frames _ _ _ _) rfl ?_
  refine Frame.step (State.writeMem_frames _ _ _ _) rfl ?_
  exact Frame.refl _ _
  refine Frame.step (State.raisePaced_frames _ _ _ _ _ _) rfl ?_
  refine Frame.step (State.setRxq_frames _ _ _ _) rfl ?_
  exact Frame.refl _ _

theorem State.canAnswer_frames (c : Nat) (f : CanFrame) (s : State) :
    Frame 0x08000084 s (State.canAnswer c f s) := by
  unfold State.canAnswer
  dsimp only
  split
  split
  split
  refine Frame.step (State.updCan_frames _ _ _) rfl ?_
  exact Frame.refl _ _
  refine Frame.step (State.canNote_frames _ _ _) rfl ?_
  refine Frame.step (State.updCan_frames _ _ _) rfl ?_
  exact Frame.refl _ _
  exact Frame.refl _ _
  exact Frame.refl _ _

theorem execCanFrameReceive_frames (c : Nat) (f : CanFrame) (s : State) :
    Frame 0x19e020c6 s (andThen (execCanFrameReceive c f) s) := by
  dsimp only [andThen, execCanFrameReceive]
  split
  refine Frame.step (State.canAnswer_frames _ _ _) rfl ?_
  refine Frame.step (State.updCan_frames _ _ _) rfl ?_
  split
  refine Frame.step (State.canStore_frames _ _ _ _ _ _) rfl ?_
  refine Frame.step (State.canEstate_frames _ _) rfl ?_
  refine Frame.step (State.canRxGood_frames _ _) rfl ?_
  exact Frame.refl _ _
  refine Frame.step (State.canEstate_frames _ _) rfl ?_
  refine Frame.step (State.canRxGood_frames _ _) rfl ?_
  exact Frame.refl _ _
  exact Frame.refl _ _

theorem State.setIvl_frames (k : Nat) (x : Ivl) (s : State) :
    Frame 0x04000004 s (State.setIvl k x s) := by
  unfold State.setIvl
  refine Frame.step (State.setBit_frames _ _ _ _) rfl ?_
  refine Frame.set_tim ?_ rfl
  exact Frame.refl _ _

theorem State.ivlStart_frames (k : Nat) (t : Nat) (s : State) :
    Frame 0x04000004 s (State.ivlStart k t s) := by
  unfold State.ivlStart
  dsimp only
  split
  refine Frame.step (State.setIvl_frames _ _ _) rfl ?_
  exact Frame.refl _ _
  refine Frame.step (State.setBit_frames _ _ _ _) rfl ?_
  refine Frame.step (State.setIvl_frames _ _ _) rfl ?_
  exact Frame.refl _ _

theorem State.ivlDone_frames (k : Nat) (res : Nat) (tie : Bool) (s : State) :
    Frame 0x04000004 s (State.ivlDone k res tie s) := by
  unfold State.ivlDone
  dsimp only
  split
  refine Frame.step (State.setIvl_frames _ _ _) rfl ?_
  refine Frame.step (State.setReg_frames _ _ _) rfl ?_
  refine Frame.step (State.setReg_frames _ _ _) rfl ?_
  exact Frame.refl _ _
  refine Frame.step (State.setFlag_frames _ _ _) rfl ?_
  refine Frame.step (State.setIvl_frames _ _ _) rfl ?_
  refine Frame.step (State.setReg_frames _ _ _) rfl ?_
  refine Frame.step (State.setReg_frames _ _ _) rfl ?_
  exact Frame.refl _ _

theorem State.ivlStop_frames (k : Nat) (t : Nat) (s : State) :
    Frame 0x04000004 s (State.ivlStop k t s) := by
  unfold State.ivlStop
  dsimp only
  split
  split
  refine Frame.step (State.ivlDone_frames _ _ _ _) rfl ?_
  exact Frame.refl _ _
  refine Frame.step (State.ivlDone_frames _ _ _ _) rfl ?_
  exact Frame.refl _ _
  refine Frame.step (State.setReg_frames _ _ _) rfl ?_
  exact Frame.refl _ _

theorem State.ivlEdge_frames (n : Nat) (rising : Bool) (t : Nat) (k : Nat) (s : State) :
    Frame 0x04000004 s (State.ivlEdge n rising t k s) := by
  unfold State.ivlEdge
  dsimp only
  split
  exact Frame.refl _ _
  split
  refine Frame.step (State.ivlStart_frames _ _ _) rfl ?_
  exact Frame.refl _ _
  split
  refine Frame.step (State.ivlStop_frames _ _ _) rfl ?_
  exact Frame.refl _ _
  exact Frame.refl _ _

theorem State.tciEdge_frames (n : Nat) (rising : Bool) (t : Nat) (s : State) :
    Frame 0x056020c4 s (State.tciEdge n rising t s) := by
  unfold State.tciEdge
  split
  split
  dsimp only
  split
  refine Frame.step (State.setTci_frames _ _ _) rfl ?_
  exact Frame.refl _ _
  refine Frame.step (State.raisePaced_frames _ _ _ _ _ _) rfl ?_
  refine Frame.step (State.setFlag_frames _ _ _) rfl ?_
  exact Frame.refl _ _
  exact Frame.refl _ _
  split
  dsimp only
  split
  refine Frame.step (State.setTci_frames _ _ _) rfl ?_
  exact Frame.refl _ _
  refine Frame.step (State.raisePaced_frames _ _ _ _ _ _) rfl ?_
  refine Frame.step (State.setFlag_frames _ _ _) rfl ?_
  exact Frame.refl _ _
  exact Frame.refl _ _

theorem execTciEdge_frames (n : Nat) (rising : Bool) (part : Nat) (s : State) :
    Frame 0x056020c4 s (andThen (execTciEdge n rising part) s) := by
  dsimp only [andThen, execTciEdge]
  split
  refine forEach_frames ?_ ?_
  intro _
  intro _
  refine Frame.step (State.ivlEdge_frames _ _ _ _ _) rfl ?_
  exact Frame.refl _ _
  refine Frame.step (State.tciEdge_frames _ _ _ _) rfl ?_
  refine Frame.set_tim ?_ rfl
  exact Frame.refl _ _
  exact Frame.refl _ _

theorem State.linkDown_frames (n : Nat) (s : State) :
    Frame 0x056020c4 s (State.linkDown n s) := by
  unfold State.linkDown
  dsimp only
  refine Frame.step (State.selectMaster_frames _) rfl ?_
  refine Frame.step (State.portStates_frames _) rfl ?_
  split
  refine Frame.step (State.raiseAs_frames _ _ _ _ _ _ _) rfl ?_
  refine Frame.step (State.setFields_frames _ _) rfl ?_
  exact Frame.refl _ _
  refine Frame.step (State.setFields_frames _ _) rfl ?_
  exact Frame.refl _ _

theorem execClaimDrop_frames (hw : Bool) (s : State) :
    Frame 0x006028c4 s (andThen (execClaimDrop hw) s) := by
  dsimp only [andThen, execClaimDrop]
  split
  split
  refine Frame.step (State.dropClaim_frames _ _) rfl ?_
  refine Frame.step (State.hoStop_frames _ _) rfl ?_
  exact Frame.refl _ _
  exact Frame.refl _ _
  split
  refine Frame.set_slu_tdm ?_ rfl rfl
  refine Frame.step (State.inhibit_frames _ _) rfl ?_
  refine Frame.step (State.dropClaim_frames _ _) rfl ?_
  exact Frame.refl _ _
  exact Frame.refl _ _

theorem State.canAlarm_frames (e : EvRec) (c : Nat) (s : State) :
    Frame 0x096020c4 s (State.canAlarm e c s) := by
  unfold State.canAlarm
  split
  split
  refine Frame.step (State.updCan_frames _ _ _) rfl ?_
  exact Frame.refl _ _
  refine Frame.step (State.raisePaced_frames _ _ _ _ _ _) rfl ?_
  refine Frame.step (State.addSat_frames _ _ _) rfl ?_
  exact Frame.refl _ _
  exact Frame.refl _ _

theorem execCanTefAck_frames (c : Nat) (w : Word) (s : State) :
    Frame 0x08000084 s (andThen (execCanTefAck c w) s) := by
  dsimp only [andThen, execCanTefAck]
  split
  split
  refine Frame.step (State.canNote_frames _ _ _) rfl ?_
  exact Frame.refl _ _
  refine Frame.step (State.updCan_frames _ _ _) rfl ?_
  exact Frame.refl _ _
  exact Frame.refl _ _

theorem execFailoverTake_frames (s : State) :
    Frame 0x00400000 s (andThen execFailoverTake s) := by
  dsimp only [andThen, execFailoverTake]
  split
  refine Frame.step (State.assertClaim_frames _ _) rfl ?_
  refine Frame.set_tdm ?_ rfl
  exact Frame.refl _ _
  exact Frame.refl _ _

theorem execLoopFaultBand_frames (s : State) :
    Frame 0x016020c4 s (andThen execLoopFaultBand s) := by
  dsimp only [andThen, execLoopFaultBand]
  split
  refine Frame.step (State.raiseLevel_frames _ _ _ _ _) rfl ?_
  exact Frame.refl _ _
  exact Frame.refl _ _

theorem execLoopDisagree_frames (s : State) :
    Frame 0x016020c4 s (andThen execLoopDisagree s) := by
  dsimp only [andThen, execLoopDisagree]
  split
  refine Frame.step (State.raiseLevel_frames _ _ _ _ _) rfl ?_
  exact Frame.refl _ _
  exact Frame.refl _ _

theorem execImageReceive_frames (bytes : List Nat) (whole : Bool) (s : State) :
    Frame 0x016128c4 s (andThen (execImageReceive bytes whole) s) := by
  dsimp only [andThen, execImageReceive]
  split
  split
  refine Frame.step (State.imageTaken_frames _ _) rfl ?_
  exact Frame.refl _ _
  split
  refine Frame.step (State.addSat_frames _ _ _) rfl ?_
  exact Frame.refl _ _
  refine Frame.set_tdm ?_ rfl
  refine Frame.step (State.addSat_frames _ _ _) rfl ?_
  exact Frame.refl _ _
  exact Frame.refl _ _

theorem State.unpair_frames (s : State) :
    Frame 0x00000004 s (State.unpair s) := by
  unfold State.unpair
  dsimp only
  split
  refine Frame.step (State.setReg_frames _ _ _) rfl ?_
  refine Frame.step (State.setFields_frames _ _) rfl ?_
  exact Frame.refl _ _
  refine Frame.step (State.setFields_frames _ _) rfl ?_
  exact Frame.refl _ _

theorem execHelloReceive_frames (h : HelloIn) (s : State) :
    Frame 0x016020c4 s (andThen (execHelloReceive h) s) := by
  dsimp only [andThen, execHelloReceive]
  split
  split
  refine Frame.set_tdm ?_ rfl
  exact Frame.refl _ _
  split
  split
  refine Frame.step (State.setReg_frames _ _ _) rfl ?_
  refine Frame.step (State.goneAt_frames _ _ _) rfl ?_
  refine Frame.step (State.setFlag_frames _ _ _) rfl ?_
  refine Frame.set_tdm ?_ rfl
  exact Frame.refl _ _
  refine Frame.step (State.goneAt_frames _ _ _) rfl ?_
  refine Frame.step (State.setFlag_frames _ _ _) rfl ?_
  refine Frame.set_tdm ?_ rfl
  exact Frame.refl _ _
  refine Frame.step (State.raiseLevel_frames _ _ _ _ _) rfl ?_
  refine Frame.step (State.unpair_frames _) rfl ?_
  refine Frame.set_tdm ?_ rfl
  exact Frame.refl _ _
  exact Frame.refl _ _

theorem State.hoGiveUp_frames (s : State) :
    Frame 0x006020c4 s (State.hoGiveUp s) := by
  unfold State.hoGiveUp
  refine Frame.step (State.hoFaultOpens_frames _) rfl ?_
  refine Frame.step (State.hoAbandon_frames _ _) rfl ?_
  exact Frame.refl _ _

theorem State.millraceDown_frames (s : State) :
    Frame 0x016020c4 s (State.millraceDown s) := by
  unfold State.millraceDown
  dsimp only
  refine Frame.step (State.unpair_frames _) rfl ?_
  refine Frame.set_tdm ?_ rfl
  split
  split
  refine Frame.step (State.setFlag_frames _ _ _) rfl ?_
  refine Frame.step (State.raiseLevel_frames _ _ _ _ _) rfl ?_
  refine Frame.step (State.setFields_frames _ _) rfl ?_
  exact Frame.refl _ _
  refine Frame.step (State.hoGiveUp_frames _) rfl ?_
  refine Frame.step (State.raiseLevel_frames _ _ _ _ _) rfl ?_
  refine Frame.step (State.setFields_frames _ _) rfl ?_
  exact Frame.refl _ _
  refine Frame.step (State.raiseLevel_frames _ _ _ _ _) rfl ?_
  refine Frame.step (State.setFields_frames _ _) rfl ?_
  exact Frame.refl _ _

theorem State.setRate_frames (r : ℤ) (s : State) :
    Frame 0x00000004 s (State.setRate r s) := by
  unfold State.setRate
  refine Frame.step (State.setReg_frames _ _ _) rfl ?_
  exact Frame.refl _ _

theorem State.toTime_frames (st : Nat) (s : State) :
    Frame 0x00000004 s (State.toTime st s) := by
  unfold State.toTime
  refine Frame.step (State.timeFlags_frames _) rfl ?_
  refine Frame.step (State.setReg_frames _ _ _) rfl ?_
  exact Frame.refl _ _

theorem State.unled_frames (s : State) :
    Frame 0x056020c4 s (State.unled s) := by
  unfold State.unled
  dsimp only
  split
  refine Frame.step (State.raise_frames _ _ _ _ _) rfl ?_
  refine Frame.step (State.toTime_frames _ _) rfl ?_
  refine Frame.step (State.setRate_frames _ _) rfl ?_
  refine Frame.set_tim ?_ rfl
  exact Frame.refl _ _
  split
  refine Frame.step (State.toTime_frames _ _) rfl ?_
  exact Frame.refl _ _
  exact Frame.refl _ _

theorem execMillraceLinkDown_frames (s : State) :
    Frame 0x016020c4 s (andThen execMillraceLinkDown s) := by
  dsimp only [andThen, execMillraceLinkDown]
  split
  refine Frame.step (State.millraceDown_frames _) rfl ?_
  exact Frame.refl _ _
  exact Frame.refl _ _

theorem State.evlTake_frames (s : State) :
    Frame 0x09e020c4 s (State.evlTake s) := by
  unfold State.evlTake
  dsimp only
  refine forAll_frames ?_ ?_
  intro _
  intro _
  refine forEach_frames ?_ ?_
  intro _
  intro _
  refine Frame.step (State.canAlarm_frames _ _ _) rfl ?_
  exact Frame.refl _ _
  exact Frame.refl _ _
  refine Frame.step (State.evlWrite_frames _) rfl ?_
  exact Frame.refl _ _

theorem State.evlDrain_frames (n : Nat) (s : State) : Frame 0x09e020c4 s (s.evlDrain n) := by
  induction n generalizing s with
  | zero => exact Frame.refl _ _
  | succ n ih => unfold State.evlDrain; split
                 · exact Frame.refl _ _
                 · exact Frame.step (ih _) rfl (Frame.step (State.evlTake_frames _) rfl (Frame.refl _ _))

theorem execCanFilterSwap_frames (c : Nat) (s : State) :
    Frame 0x08000004 s (andThen (execCanFilterSwap c) s) := by
  dsimp only [andThen, execCanFilterSwap]
  split
  split
  refine Frame.step (State.setReg_frames _ _ _) rfl ?_
  refine Frame.step (State.updCan_frames _ _ _) rfl ?_
  exact Frame.refl _ _
  exact Frame.refl _ _
  exact Frame.refl _ _

theorem execPtpAnnounce_frames (a : AnnounceIn) (s : State) :
    Frame 0x04000004 s (andThen (execPtpAnnounce a) s) := by
  dsimp only [andThen, execPtpAnnounce]
  split
  refine Frame.step (State.selectMaster_frames _) rfl ?_
  refine Frame.set_tim ?_ rfl
  exact Frame.refl _ _
  exact Frame.refl _ _

theorem execRoleDecide_frames (pref : Bool) (s : State) :
    Frame 0x00400000 s (andThen (execRoleDecide pref) s) := by
  dsimp only [andThen, execRoleDecide]
  split
  split
  refine Frame.set_tdm ?_ rfl
  exact Frame.refl _ _
  split
  split
  refine Frame.set_tdm ?_ rfl
  exact Frame.refl _ _
  split
  split
  refine Frame.set_tdm ?_ rfl
  exact Frame.refl _ _
  refine Frame.set_tdm ?_ rfl
  exact Frame.refl _ _
  split
  refine Frame.set_tdm ?_ rfl
  exact Frame.refl _ _
  refine Frame.set_tdm ?_ rfl
  exact Frame.refl _ _
  split
  split
  refine Frame.set_tdm ?_ rfl
  exact Frame.refl _ _
  refine Frame.set_tdm ?_ rfl
  exact Frame.refl _ _
  exact Frame.refl _ _
  exact Frame.refl _ _

theorem State.canGiveUp_frames (c : Nat) (src : Nat) (canc : Bool) (s : State) :
    Frame 0x18800084 s (State.canGiveUp c src canc s) := by
  unfold State.canGiveUp
  split
  refine Frame.step (State.updCan_frames _ _ _) rfl ?_
  exact Frame.refl _ _
  refine Frame.step (State.updCan_frames _ _ _) rfl ?_
  exact Frame.refl _ _
  refine Frame.step (State.updCan_frames _ _ _) rfl ?_
  exact Frame.refl _ _
  refine Frame.step (State.canDone_frames _ _ _ _ _) rfl ?_
  exact Frame.refl _ _

theorem State.canFailed_frames (c : Nat) (src : Nat) (s : State) :
    Frame 0x18800084 s (State.canFailed c src s) := by
  unfold State.canFailed
  dsimp only
  split
  refine Frame.step (State.canGiveUp_frames _ _ _ _) rfl ?_
  exact Frame.refl _ _
  split
  refine Frame.step (State.canGiveUp_frames _ _ _ _) rfl ?_
  exact Frame.refl _ _
  exact Frame.refl _ _

theorem State.keepHandover_frames (s : State) :
    Frame 0x006020c4 s (State.keepHandover s) := by
  unfold State.keepHandover
  dsimp only
  split
  split
  refine Frame.step (State.note_frames _ _ _ _) rfl ?_
  refine Frame.set_tdm ?_ rfl
  refine Frame.step (State.setFields_frames _ _) rfl ?_
  exact Frame.refl _ _
  split
  refine Frame.set_tdm ?_ rfl
  exact Frame.refl _ _
  exact Frame.refl _ _
  split
  refine Frame.step (State.hoGiveUp_frames _) rfl ?_
  exact Frame.refl _ _
  split
  refine Frame.set_tdm ?_ rfl
  exact Frame.refl _ _
  exact Frame.refl _ _

theorem State.canJudge_frames (c : Nat) (s : State) :
    Frame 0x096020c4 s (State.canJudge c s) := by
  unfold State.canJudge
  dsimp only
  split
  exact Frame.refl _ _
  refine forEach_frames ?_ ?_
  intro _
  intro _
  split
  refine Frame.step (State.updCan_frames _ _ _) rfl ?_
  exact Frame.refl _ _
  split
  exact Frame.refl _ _
  split
  refine Frame.step (State.raise_frames _ _ _ _ _) rfl ?_
  refine Frame.step (State.updCan_frames _ _ _) rfl ?_
  exact Frame.refl _ _
  refine Frame.step (State.updCan_frames _ _ _) rfl ?_
  exact Frame.refl _ _
  refine Frame.step (State.setFields_frames _ _) rfl ?_
  exact Frame.refl _ _

theorem execHoldoverExpiry_frames (s : State) :
    Frame 0x016020c4 s (andThen execHoldoverExpiry s) := by
  dsimp only [andThen, execHoldoverExpiry]
  split
  refine Frame.step (State.raise_frames _ _ _ _ _) rfl ?_
  refine Frame.step (State.toTime_frames _ _) rfl ?_
  exact Frame.refl _ _
  exact Frame.refl _ _

theorem execCanBusOff_frames (c : Nat) (s : State) :
    Frame 0x09e020c4 s (andThen (execCanBusOff c) s) := by
  dsimp only [andThen, execCanBusOff]
  split
  refine Frame.step (State.canSignal_frames _ _ _) rfl ?_
  refine Frame.step (State.raiseAs_frames _ _ _ _ _ _ _) rfl ?_
  refine Frame.step (State.setFields_frames _ _) rfl ?_
  refine Frame.step (State.updCan_frames _ _ _) rfl ?_
  exact Frame.refl _ _
  exact Frame.refl _ _

theorem State.policed_frames (n : Nat) (s : State) :
    Frame 0x02000084 s (State.policed n s) := by
  unfold State.policed
  dsimp only
  split
  refine Frame.step (State.note_frames _ _ _ _) rfl ?_
  refine Frame.set_net ?_ rfl
  refine Frame.step (State.addSat_frames _ _ _) rfl ?_
  exact Frame.refl _ _
  refine Frame.step (State.addSat_frames _ _ _) rfl ?_
  exact Frame.refl _ _

theorem State.passFrame_frames (n : Nat) (c : FrameClass) (f : FrameIn) (s : State) :
    Frame 0x036020c4 s (State.passFrame n c f s) := by
  unfold State.passFrame
  dsimp only
  split
  split
  split
  refine Frame.step (State.raiseAs_frames _ _ _ _ _ _ _) rfl ?_
  refine Frame.set_net ?_ rfl
  exact Frame.refl _ _
  refine Frame.set_net ?_ rfl
  exact Frame.refl _ _
  refine Frame.step (State.policed_frames _ _) rfl ?_
  exact Frame.refl _ _
  split
  split
  refine Frame.step (State.raiseAs_frames _ _ _ _ _ _ _) rfl ?_
  refine Frame.set_net ?_ rfl
  exact Frame.refl _ _
  refine Frame.set_net ?_ rfl
  exact Frame.refl _ _
  refine Frame.step (State.policed_frames _ _) rfl ?_
  exact Frame.refl _ _

theorem execEthFrameReceive_frames (port : Nat) (f : FrameIn) (s : State) :
    Frame 0x036020c4 s (andThen (execEthFrameReceive port f) s) := by
  dsimp only [andThen, execEthFrameReceive]
  split
  split
  refine Frame.step (State.passFrame_frames _ _ _ _) rfl ?_
  refine Frame.set_net ?_ rfl
  exact Frame.refl _ _
  refine Frame.step (State.addSat_frames _ _ _) rfl ?_
  refine Frame.set_net ?_ rfl
  exact Frame.refl _ _
  exact Frame.refl _ _

theorem State.busOffGone_frames (s : State) :
    Frame 0x00000040 s (State.busOffGone s) := by
  unfold State.busOffGone
  split
  exact Frame.refl _ _
  refine Frame.step (State.goneAt_frames _ _ _) rfl ?_
  exact Frame.refl _ _

theorem execCanBusOffRecovery_frames (c : Nat) (s : State) :
    Frame 0x08000044 s (andThen (execCanBusOffRecovery c) s) := by
  dsimp only [andThen, execCanBusOffRecovery]
  split
  refine Frame.step (State.busOffGone_frames _) rfl ?_
  refine Frame.step (State.setFields_frames _ _) rfl ?_
  refine Frame.step (State.updCan_frames _ _ _) rfl ?_
  exact Frame.refl _ _
  exact Frame.refl _ _

theorem State.keepReady_frames (s : State) :
    Frame 0x00400044 s (State.keepReady s) := by
  unfold State.keepReady
  dsimp only
  split
  refine Frame.step (State.goneAt_frames _ _ _) rfl ?_
  refine Frame.set_tdm ?_ rfl
  refine Frame.step (State.setFlag_frames _ _ _) rfl ?_
  exact Frame.refl _ _
  refine Frame.set_tdm ?_ rfl
  refine Frame.step (State.setFlag_frames _ _ _) rfl ?_
  exact Frame.refl _ _

theorem execKeepFrameReceive_frames (k : KeepIn) (s : State) :
    Frame 0x006020c4 s (andThen (execKeepFrameReceive k) s) := by
  dsimp only [andThen, execKeepFrameReceive]
  split
  split
  split
  split
  refine Frame.step (State.keepHandover_frames _) rfl ?_
  refine Frame.step (State.keepReady_frames _) rfl ?_
  refine Frame.step (State.goneAt_frames _ _ _) rfl ?_
  refine Frame.step (State.setFlag_frames _ _ _) rfl ?_
  refine Frame.set_tdm ?_ rfl
  exact Frame.refl _ _
  refine Frame.step (State.goneAt_frames _ _ _) rfl ?_
  refine Frame.step (State.setFlag_frames _ _ _) rfl ?_
  refine Frame.set_tdm ?_ rfl
  exact Frame.refl _ _
  split
  refine Frame.step (State.keepHandover_frames _) rfl ?_
  refine Frame.step (State.keepReady_frames _) rfl ?_
  refine Frame.step (State.goneAt_frames _ _ _) rfl ?_
  refine Frame.step (State.setFlag_frames _ _ _) rfl ?_
  refine Frame.set_tdm ?_ rfl
  exact Frame.refl _ _
  refine Frame.step (State.goneAt_frames _ _ _) rfl ?_
  refine Frame.step (State.setFlag_frames _ _ _) rfl ?_
  refine Frame.set_tdm ?_ rfl
  exact Frame.refl _ _
  split
  split
  refine Frame.step (State.keepHandover_frames _) rfl ?_
  refine Frame.step (State.keepReady_frames _) rfl ?_
  refine Frame.set_tdm ?_ rfl
  exact Frame.refl _ _
  refine Frame.set_tdm ?_ rfl
  exact Frame.refl _ _
  split
  refine Frame.step (State.keepHandover_frames _) rfl ?_
  refine Frame.step (State.keepReady_frames _) rfl ?_
  refine Frame.set_tdm ?_ rfl
  exact Frame.refl _ _
  refine Frame.set_tdm ?_ rfl
  exact Frame.refl _ _
  exact Frame.refl _ _

theorem State.steer_frames (off : ℤ) (s : State) :
    Frame 0x056020c4 s (State.steer off s) := by
  unfold State.steer
  dsimp only
  refine Frame.step (State.level_frames _ _ _ _ _ _) rfl ?_
  refine Frame.step (State.toTime_frames _ _) rfl ?_
  refine Frame.step (State.setRate_frames _ _) rfl ?_
  refine Frame.set_tim ?_ rfl
  exact Frame.refl _ _

theorem State.setClock_frames (ns : Nat) (age : Nat) (src : Nat) (st : Nat) (s : State) :
    Frame 0x04000024 s (State.setClock ns age src st s) := by
  unfold State.setClock
  dsimp only
  refine Frame.step (State.toTime_frames _ _) rfl ?_
  refine Frame.step (State.setReg_frames _ _ _) rfl ?_
  refine Frame.step (State.setFlag_frames _ _ _) rfl ?_
  refine Frame.set_sys_tim ?_ rfl
  exact Frame.refl _ _

theorem execPtpSync_frames (x : SyncIn) (s : State) :
    Frame 0x056020e4 s (andThen (execPtpSync x) s) := by
  dsimp only [andThen, execPtpSync]
  split
  split
  refine Frame.step (State.steer_frames _ _) rfl ?_
  refine Frame.step (State.setReg_frames _ _ _) rfl ?_
  refine Frame.step (State.setReg_frames _ _ _) rfl ?_
  exact Frame.refl _ _
  refine Frame.set_tim ?_ rfl
  refine Frame.step (State.setClock_frames _ _ _ _ _) rfl ?_
  refine Frame.step (State.setReg_frames _ _ _) rfl ?_
  refine Frame.step (State.setReg_frames _ _ _) rfl ?_
  exact Frame.refl _ _
  exact Frame.refl _ _

theorem execHandoverTimeout_frames (s : State) :
    Frame 0x016020c4 s (andThen execHandoverTimeout s) := by
  dsimp only [andThen, execHandoverTimeout]
  split
  split
  refine Frame.set_tdm ?_ rfl
  refine Frame.step (State.raise_frames _ _ _ _ _) rfl ?_
  exact Frame.refl _ _
  refine Frame.step (State.hoGiveUp_frames _) rfl ?_
  exact Frame.refl _ _
  exact Frame.refl _ _

theorem State.canCount_frames (c : Nat) (tx : Bool) (n : Nat) (s : State) :
    Frame 0x08000004 s (State.canCount c tx n s) := by
  unfold State.canCount
  dsimp only
  refine Frame.step (State.setFields_frames _ _) rfl ?_
  refine Frame.step (State.updCan_frames _ _ _) rfl ?_
  exact Frame.refl _ _

theorem State.canForced_frames (c : Nat) (s : State) :
    Frame 0x18800084 s (State.canForced c s) := by
  unfold State.canForced
  refine forEach_frames ?_ ?_
  intro _
  intro _
  refine Frame.step (State.setRxq_frames _ _ _ _) rfl ?_
  exact Frame.refl _ _
  split
  refine Frame.step (State.canCount_frames _ _ _ _) rfl ?_
  refine Frame.step (State.canFailed_frames _ _ _) rfl ?_
  refine Frame.step (State.updCan_frames _ _ _) rfl ?_
  exact Frame.refl _ _
  exact Frame.refl _ _

theorem execCanErrorFrame_frames (c : Nat) (sof : Option Nat) (more : Bool) (s : State) :
    Frame 0x18800084 s (andThen (execCanErrorFrame c sof more) s) := by
  dsimp only [andThen, execCanErrorFrame]
  split
  split
  refine Frame.step (State.canEstate_frames _ _) rfl ?_
  refine Frame.step (State.canCount_frames _ _ _ _) rfl ?_
  refine Frame.step (State.canFailed_frames _ _ _) rfl ?_
  refine Frame.step (State.updCan_frames _ _ _) rfl ?_
  refine Frame.step (State.canBegin_frames _ _ _) rfl ?_
  exact Frame.refl _ _
  refine Frame.step (State.canEstate_frames _ _) rfl ?_
  refine Frame.step (State.canCount_frames _ _ _ _) rfl ?_
  refine Frame.step (State.canBegin_frames _ _ _) rfl ?_
  exact Frame.refl _ _
  exact Frame.refl _ _

theorem execEventRecordCommit_frames (s : State) :
    Frame 0x09e020c4 s (andThen execEventRecordCommit s) := by
  dsimp only [andThen, execEventRecordCommit]
  split
  exact Frame.refl _ _
  split
  refine Frame.step (State.evlTake_frames _) rfl ?_
  refine Frame.step (State.quiet_frames _) rfl ?_
  exact Frame.refl _ _
  exact Frame.refl _ _

theorem execReferenceWithdraw_frames (c : Nat) (s : State) :
    Frame 0x08000084 s (andThen (execReferenceWithdraw c) s) := by
  dsimp only [andThen, execReferenceWithdraw]
  split
  split
  refine Frame.step (State.canNote_frames _ _ _) rfl ?_
  refine Frame.step (State.updCan_frames _ _ _) rfl ?_
  exact Frame.refl _ _
  exact Frame.refl _ _
  exact Frame.refl _ _

theorem execPartnerNotReady_frames (s : State) :
    Frame 0x016020c4 s (andThen execPartnerNotReady s) := by
  dsimp only [andThen, execPartnerNotReady]
  split
  refine Frame.step (State.raiseLevel_frames _ _ _ _ _) rfl ?_
  exact Frame.refl _ _
  exact Frame.refl _ _

theorem State.ttoIssue_frames (k : Nat) (s : State) :
    Frame 0x04000004 s (State.ttoIssue k s) := by
  unfold State.ttoIssue
  dsimp only
  split
  exact Frame.refl _ _
  split
  exact Frame.refl _ _
  refine Frame.step (State.setFlag_frames _ _ _) rfl ?_
  refine Frame.step (State.setReg_frames _ _ _) rfl ?_
  refine Frame.step (State.setTto_frames _ _ _) rfl ?_
  exact Frame.refl _ _

theorem execTtoPulse_frames (k : Nat) (s : State) :
    Frame 0x04000084 s (andThen (execTtoPulse k) s) := by
  dsimp only [andThen, execTtoPulse]
  split
  split
  refine Frame.step (State.ttoIssue_frames _ _) rfl ?_
  refine Frame.step (State.ttoEnd_frames _ _) rfl ?_
  exact Frame.refl _ _
  exact Frame.refl _ _
  split
  refine Frame.step (State.ttoIssue_frames _ _) rfl ?_
  refine Frame.step (State.ttoEnd_frames _ _) rfl ?_
  exact Frame.refl _ _
  exact Frame.refl _ _

theorem execEthLinkChange_frames (port : Nat) (up : Bool) (g1 : Bool) (s : State) :
    Frame 0x056020c4 s (andThen (execEthLinkChange port up g1) s) := by
  dsimp only [andThen, execEthLinkChange]
  split
  split
  split
  refine Frame.step (State.portStates_frames _) rfl ?_
  refine Frame.step (State.linksBack_frames _) rfl ?_
  refine Frame.step (State.setFields_frames _ _) rfl ?_
  exact Frame.refl _ _
  exact Frame.refl _ _
  refine Frame.step (State.linkDown_frames _ _) rfl ?_
  exact Frame.refl _ _
  exact Frame.refl _ _

theorem execClaimBackoffEnd_frames (s : State) :
    Frame 0x00400084 s (andThen execClaimBackoffEnd s) := by
  dsimp only [andThen, execClaimBackoffEnd]
  split
  split
  split
  refine Frame.step (State.assertClaim_frames _ _) rfl ?_
  exact Frame.refl _ _
  refine Frame.step (State.note_frames _ _ _ _) rfl ?_
  refine Frame.set_tdm ?_ rfl
  exact Frame.refl _ _
  exact Frame.refl _ _
  exact Frame.refl _ _

theorem execArbitrationLoss_frames (c : Nat) (sof : Option Nat) (s : State) :
    Frame 0x18800084 s (andThen (execArbitrationLoss c sof) s) := by
  dsimp only [andThen, execArbitrationLoss]
  split
  split
  refine Frame.step (State.canFailed_frames _ _ _) rfl ?_
  refine Frame.step (State.updCan_frames _ _ _) rfl ?_
  refine Frame.step (State.canBegin_frames _ _ _) rfl ?_
  exact Frame.refl _ _
  refine Frame.step (State.canBegin_frames _ _ _) rfl ?_
  exact Frame.refl _ _
  exact Frame.refl _ _

theorem execProtocolException_frames (c : Nat) (s : State) :
    Frame 0x00000004 s (andThen (execProtocolException c) s) := by
  dsimp only [andThen, execProtocolException]
  split
  refine Frame.step (State.addSat_frames _ _ _) rfl ?_
  exact Frame.refl _ _
  exact Frame.refl _ _

theorem execMasterLost_frames (s : State) :
    Frame 0x056020c4 s (andThen execMasterLost s) := by
  dsimp only [andThen, execMasterLost]
  split
  split
  refine Frame.step (State.selectMaster_frames _) rfl ?_
  refine Frame.step (State.portStates_frames _) rfl ?_
  split
  refine Frame.step (State.unled_frames _) rfl ?_
  refine Frame.set_tim ?_ rfl
  exact Frame.refl _ _
  refine Frame.set_tim ?_ rfl
  exact Frame.refl _ _
  exact Frame.refl _ _
  exact Frame.refl _ _

theorem execDiscoveryRequest_frames (c : Nat) (s : State) :
    Frame 0x096020c4 s (andThen (execDiscoveryRequest c) s) := by
  dsimp only [andThen, execDiscoveryRequest]
  split
  refine Frame.step (State.updCan_frames _ _ _) rfl ?_
  refine Frame.step (State.canJudge_frames _ _) rfl ?_
  exact Frame.refl _ _
  exact Frame.refl _ _

theorem execIntervalTimeout_frames (k : Nat) (s : State) :
    Frame 0x04000004 s (andThen (execIntervalTimeout k) s) := by
  dsimp only [andThen, execIntervalTimeout]
  split
  split
  refine Frame.step (State.addSat_frames _ _ _) rfl ?_
  refine Frame.step (State.setIvl_frames _ _ _) rfl ?_
  exact Frame.refl _ _
  exact Frame.refl _ _
  exact Frame.refl _ _

theorem execAcqWaitExpiry_frames (aon : Nat) (s : State) :
    Frame 0x056020e4 s (andThen (execAcqWaitExpiry aon) s) := by
  dsimp only [andThen, execAcqWaitExpiry]
  split
  split
  refine Frame.step (State.note_frames _ _ _ _) rfl ?_
  refine Frame.step (State.setClock_frames _ _ _ _ _) rfl ?_
  exact Frame.refl _ _
  refine Frame.step (State.raise_frames _ _ _ _ _) rfl ?_
  refine Frame.step (State.setClock_frames _ _ _ _ _) rfl ?_
  exact Frame.refl _ _
  exact Frame.refl _ _

end Sys2Proof.Machine
end

