-- ==== Sys2Proof/Laws/FrameSystem.lean ====
section
/-! SUPPORT. Frames of power, security, register access and the service protocol: the parts of the state that each definition may change. -/
namespace Sys2Proof.Machine

theorem execMillpondReady_frames (readA : Bool) (readB : Bool) (s : State) :
    Frame 0x016020c4 s (andThen (execMillpondReady readA readB) s) := by
  dsimp only [andThen, execMillpondReady]
  split
  split
  split
  split
  split
  refine Frame.step (State.cartFound_frames _ _ _ _) rfl ?_
  refine Frame.step (State.cartFound_frames _ _ _ _) rfl ?_
  refine Frame.set_mpd ?_ rfl
  refine Frame.step (State.setFlag_frames _ _ _) rfl ?_
  exact Frame.refl _ _
  refine Frame.step (State.cartFound_frames _ _ _ _) rfl ?_
  refine Frame.set_mpd ?_ rfl
  refine Frame.step (State.setFlag_frames _ _ _) rfl ?_
  exact Frame.refl _ _
  split
  refine Frame.step (State.cartFound_frames _ _ _ _) rfl ?_
  refine Frame.set_mpd ?_ rfl
  refine Frame.step (State.setFlag_frames _ _ _) rfl ?_
  exact Frame.refl _ _
  refine Frame.step (State.cartFound_frames _ _ _ _) rfl ?_
  refine Frame.set_mpd ?_ rfl
  refine Frame.step (State.setFlag_frames _ _ _) rfl ?_
  exact Frame.refl _ _
  split
  split
  refine Frame.step (State.cartFound_frames _ _ _ _) rfl ?_
  refine Frame.set_mpd ?_ rfl
  refine Frame.step (State.setFlag_frames _ _ _) rfl ?_
  exact Frame.refl _ _
  refine Frame.set_mpd ?_ rfl
  refine Frame.step (State.setFlag_frames _ _ _) rfl ?_
  exact Frame.refl _ _
  split
  refine Frame.step (State.cartFound_frames _ _ _ _) rfl ?_
  refine Frame.set_mpd ?_ rfl
  refine Frame.step (State.setFlag_frames _ _ _) rfl ?_
  exact Frame.refl _ _
  refine Frame.set_mpd ?_ rfl
  refine Frame.step (State.setFlag_frames _ _ _) rfl ?_
  exact Frame.refl _ _
  split
  split
  refine Frame.step (State.cartFound_frames _ _ _ _) rfl ?_
  refine Frame.set_mpd ?_ rfl
  refine Frame.step (State.setFlag_frames _ _ _) rfl ?_
  exact Frame.refl _ _
  refine Frame.set_mpd ?_ rfl
  refine Frame.step (State.setFlag_frames _ _ _) rfl ?_
  exact Frame.refl _ _
  refine Frame.set_mpd ?_ rfl
  refine Frame.step (State.setFlag_frames _ _ _) rfl ?_
  exact Frame.refl _ _
  exact Frame.refl _ _

theorem execFirewallBlock_frames (init : Nat) (reg : Nat) (ofs : Nat) (s : State) :
    Frame 0x016020c4 s (andThen (execFirewallBlock init reg ofs) s) := by
  dsimp only [andThen, execFirewallBlock]
  split
  refine Frame.step (State.raisePaced_frames _ _ _ _ _ _) rfl ?_
  refine Frame.step (State.addSat_frames _ _ _) rfl ?_
  refine Frame.step (State.setFields_frames _ _) rfl ?_
  exact Frame.refl _ _
  exact Frame.refl _ _

theorem State.brakeDomains_frames (s : State) :
    Frame 0x00020904 s (State.brakeDomains s) := by
  unfold State.brakeDomains
  refine Frame.step (State.setFields_frames _ _) rfl ?_
  refine Frame.step (State.mdlSuspend_frames _) rfl ?_
  refine forEach_frames ?_ ?_
  intro _
  intro _
  refine Frame.step (State.bankPowerOff_frames _ _) rfl ?_
  exact Frame.refl _ _
  refine Frame.step (State.imdStop_frames _) rfl ?_
  exact Frame.refl _ _

theorem State.enterBrake_frames (s : State) :
    Frame 0x60020984 s (State.enterBrake s) := by
  unfold State.enterBrake
  refine Frame.step (State.dbgCheck_frames _) rfl ?_
  refine Frame.step (State.brakeDomains_frames _) rfl ?_
  refine Frame.step (State.setReg_frames _ _ _) rfl ?_
  exact Frame.refl _ _

theorem State.lcRefused_frames (s : State) :
    Frame 0x00000084 s (State.lcRefused s) := by
  unfold State.lcRefused
  refine Frame.step (State.note_frames _ _ _ _) rfl ?_
  exact Frame.refl _ _

theorem execWarmResetOverrun_frames (s : State) :
    Frame 0x216020c4 s (andThen execWarmResetOverrun s) := by
  dsimp only [andThen, execWarmResetOverrun]
  split
  split
  split
  refine Frame.set_pwr ?_ rfl
  refine Frame.step (State.raise_frames _ _ _ _ _) rfl ?_
  refine Frame.set_pwr ?_ rfl
  exact Frame.refl _ _
  refine Frame.step (State.raise_frames _ _ _ _ _) rfl ?_
  refine Frame.set_pwr ?_ rfl
  exact Frame.refl _ _
  split
  refine Frame.set_pwr ?_ rfl
  exact Frame.refl _ _
  exact Frame.refl _ _
  exact Frame.refl _ _

theorem State.warmSluice_frames (s : State) :
    Frame 0x202020c4 s (State.warmSluice s) := by
  unfold State.warmSluice
  dsimp only
  split
  refine Frame.set_pwr ?_ rfl
  refine Frame.step (State.abandonNow_frames _) rfl ?_
  refine Frame.set_slu ?_ rfl rfl
  exact Frame.refl _ _
  split
  refine Frame.step (State.emergencyOpen_frames _ _ _) rfl ?_
  refine Frame.set_slu ?_ rfl rfl
  exact Frame.refl _ _
  refine Frame.set_slu ?_ rfl rfl
  exact Frame.refl _ _

theorem State.warmAssert_frames (src : Nat) (s : State) :
    Frame 0x61faa0e4 s (State.warmAssert src s) := by
  unfold State.warmAssert
  dsimp only
  refine Frame.step (State.secRegs_frames _) rfl ?_
  refine Frame.step (State.setFields_frames _ _) rfl ?_
  refine Frame.step (State.mdlSuspend_frames _) rfl ?_
  refine Frame.set_sys_gov_env_hif_pwr_sec ?_ rfl (fun x => ⟨x.1, rfl⟩) (fun _ _ => rfl)
  refine forEach_frames ?_ ?_
  intro _
  intro _
  refine Frame.step (State.fnReset_frames _ _ _) rfl ?_
  exact Frame.refl _ _
  refine Frame.step (State.warmSluice_frames _) rfl ?_
  refine Frame.step (State.sessionAbort_frames _) rfl ?_
  refine Frame.step (State.liveRevert_frames _) rfl ?_
  exact Frame.refl _ _

theorem State.warmBegin_frames (src : Nat) (s : State) :
    Frame 0x61faa0e4 s (State.warmBegin src s) := by
  unfold State.warmBegin
  split
  refine Frame.set_pwr ?_ rfl
  exact Frame.refl _ _
  refine Frame.step (State.warmAssert_frames _ _) rfl ?_
  exact Frame.refl _ _

theorem State.afterWarm_frames (code : Nat) (cls : Nat) (s : State) :
    Frame 0x20000000 s (State.afterWarm code cls s) := by
  unfold State.afterWarm
  refine Frame.set_pwr ?_ rfl
  exact Frame.refl _ _

theorem execLockstepEccError_frames (s : State) :
    Frame 0x61faa0e4 s (andThen execLockstepEccError s) := by
  dsimp only [andThen, execLockstepEccError]
  split
  refine Frame.step (State.warmBegin_frames _ _) rfl ?_
  refine Frame.step (State.afterWarm_frames _ _ _) rfl ?_
  exact Frame.refl _ _
  exact Frame.refl _ _

theorem State.pwrRefused_frames (s : State) :
    Frame 0x00000084 s (State.pwrRefused s) := by
  unfold State.pwrRefused
  refine Frame.step (State.note_frames _ _ _ _) rfl ?_
  exact Frame.refl _ _

theorem State.openOrderly_frames (s : State) :
    Frame 0x006020c4 s (State.openOrderly s) := by
  unfold State.openOrderly
  split
  exact Frame.refl _ _
  refine Frame.step (State.orderlyOpen_frames _) rfl ?_
  refine Frame.step (State.hoStop_frames _ _) rfl ?_
  exact Frame.refl _ _

theorem State.pwrTake_frames (cmd : Nat) (svc : Bool) (s : State) :
    Frame 0x6064a0c4 s (State.pwrTake cmd svc s) := by
  unfold State.pwrTake
  dsimp only
  split
  split
  refine Frame.set_pwr ?_ rfl
  refine Frame.step (State.setFlag_frames _ _ _) rfl ?_
  exact Frame.refl _ _
  refine Frame.step (State.pwrRefused_frames _) rfl ?_
  exact Frame.refl _ _
  split
  split
  refine Frame.step (State.openOrderly_frames _) rfl ?_
  refine Frame.set_pwr ?_ rfl
  exact Frame.refl _ _
  refine Frame.step (State.pwrRefused_frames _) rfl ?_
  exact Frame.refl _ _
  split
  split
  refine Frame.step (State.dbgCheck_frames _) rfl ?_
  refine Frame.set_bal_pwr ?_ rfl
  refine Frame.step (State.sessionClose_frames _) rfl ?_
  refine Frame.step (State.openOrderly_frames _) rfl ?_
  refine Frame.step (State.setReg_frames _ _ _) rfl ?_
  exact Frame.refl _ _
  refine Frame.step (State.pwrRefused_frames _) rfl ?_
  exact Frame.refl _ _
  split
  split
  refine Frame.step (State.pwrRefused_frames _) rfl ?_
  exact Frame.refl _ _
  refine Frame.set_pwr ?_ rfl
  exact Frame.refl _ _
  split
  split
  refine Frame.step (State.pwrRefused_frames _) rfl ?_
  exact Frame.refl _ _
  refine Frame.set_pwr ?_ rfl
  exact Frame.refl _ _
  split
  split
  refine Frame.set_pwr ?_ rfl
  refine Frame.step (State.setReg_frames _ _ _) rfl ?_
  exact Frame.refl _ _
  refine Frame.step (State.pwrRefused_frames _) rfl ?_
  exact Frame.refl _ _
  exact Frame.refl _ _

theorem State.pwrCommand_frames (cmd : Nat) (p : Path) (w : Nat) (s : State) :
    Frame 0x6064a0c4 s (State.pwrCommand cmd p w s) := by
  unfold State.pwrCommand
  split
  dsimp only
  split
  refine Frame.set_pwr ?_ rfl
  exact Frame.refl _ _
  refine Frame.step (State.pwrTake_frames _ _ _) rfl ?_
  exact Frame.refl _ _
  exact Frame.refl _ _

theorem execPwrCmdStandstill_frames (path : Path) (w : Word) (s : State) :
    Frame 0x6064a0c4 s (andThen (execPwrCmdStandstill path w) s) := by
  dsimp only [andThen, execPwrCmdStandstill]
  refine Frame.step (State.pwrCommand_frames _ _ _ _) rfl ?_
  exact Frame.refl _ _

theorem execAuxInputLow_frames (k : Nat) (s : State) :
    Frame 0x016020c4 s (andThen (execAuxInputLow k) s) := by
  dsimp only [andThen, execAuxInputLow]
  split
  refine Frame.step (State.raiseLevel_frames _ _ _ _ _) rfl ?_
  exact Frame.refl _ _
  exact Frame.refl _ _

theorem State.svcRegs_frames (s : State) :
    Frame 0x00000004 s (State.svcRegs s) := by
  unfold State.svcRegs
  refine Frame.step (State.setReg_frames _ _ _) rfl ?_
  exact Frame.refl _ _

theorem State.svcClose_frames (c : Nat) (s : State) :
    Frame 0x0080a09c s (State.svcClose c s) := by
  unfold State.svcClose
  dsimp only
  refine Frame.step (State.svcRegs_frames _) rfl ?_
  refine Frame.set_latch_readData_evl_hif ?_ rfl
  refine Frame.step (State.sessionCloseOf_frames _ _) rfl ?_
  exact Frame.refl _ _

theorem State.lcLog_frames (e : ClogFields) (n : Nat) (s : State) :
    Frame 0x0160a0c4 s (State.lcLog e n s) := by
  unfold State.lcLog
  refine Frame.step (State.clogWrite_frames _ _) rfl ?_
  exact Frame.refl _ _

theorem State.retireFirst_frames (p : Path) (s : State) :
    Frame 0x40000000 s (State.retireFirst p s) := by
  unfold State.retireFirst
  refine Frame.set_sec ?_ rfl id id
  exact Frame.refl _ _

theorem State.lcLog_life (e : ClogFields) (n : Nat) (s : State) (h : ¬ (s.sec.lc = 4 ∧ s.sec.lcNext = none)) :
    ¬ ((s.lcLog e n).sec.lc = 4 ∧ (s.lcLog e n).sec.lcNext = none) := by
  have h1 : (s.lcLog e n).sec = s.sec := (State.lcLog_frames e n s).sec rfl
  rw [h1]; exact h

theorem State.lcRequest_frames (n : Nat) (p : Path) (s : State) : Frame 0x6160a8c4 s (s.lcRequest n p) := by
  have hl : ∀ t : State, Frame 0x6160a8c4 s s.lcRefused := fun _ => Frame.step (State.lcRefused_frames _) rfl (Frame.refl _ _)
  have hr : Frame 0x6160a8c4 s (s.retireFirst p) := Frame.step (State.retireFirst_frames _ _) rfl (Frame.refl _ _)
  have hs' : lcInSession s.sec.lc n = true → s.sec.lc ≠ 4 := fun hm h4 => by
    rw [h4] at hm; simp [lcInSession, lcCommission, lcField, lcService] at hm
  have hs : lcInSession s.sec.lc n = true → ¬ (s.sec.lc = 4 ∧ s.sec.lcNext = none) := fun hm h4 => hs' hm h4.1
  unfold State.lcRequest
  dsimp only
  split
  · rename_i hb
    have h4 : ¬ (s.sec.lc = 4 ∧ s.sec.lcNext = none) := fun x => by rw [x.1] at hb; cases hb
    split
    · split
      · exact Frame.step (State.setLifecycle_frames _ _ (State.lcLog_life _ _ _ h4)) rfl
          (Frame.step (State.lcLog_frames _ _ _) rfl (Frame.refl _ _))
      · exact hr
    · exact hl s
  · split
    · rename_i hi
      split
      · split
        · exact Frame.step (State.sessionTouch_frames _) rfl (Frame.step (State.raise_frames _ _ _ _ _) rfl (Frame.refl _ _))
        · split
          · exact Frame.set_sec (Frame.step (State.sessionTouch_frames _) rfl (Frame.step (State.lcLog_frames _ _ _) rfl
              (Frame.refl _ _))) rfl (fun y => absurd y (State.lcLog_life _ _ _ (hs hi)))
              (fun _ h4 => absurd ((congrArg SecState.lc ((State.lcLog_frames _ _ s).sec rfl)).symm.trans h4) (hs' hi))
          · exact Frame.step (State.sessionTouch_frames _) rfl hr
      · exact hl s
    · exact hl s

theorem State.lcWrite_frames (n : Nat) (p : Path) (w : Nat) (s : State) :
    Frame 0x6160a8c4 s (State.lcWrite n p w s) := by
  unfold State.lcWrite
  split
  split
  refine Frame.step (State.lcRequest_frames _ _ _) rfl ?_
  exact Frame.refl _ _
  refine Frame.step (State.lcRefused_frames _) rfl ?_
  exact Frame.refl _ _
  exact Frame.refl _ _

theorem execLcField_frames (path : Path) (w : Word) (s : State) :
    Frame 0x6160a8c4 s (andThen (execLcField path w) s) := by
  dsimp only [andThen, execLcField]
  refine Frame.step (State.lcWrite_frames _ _ _ _) rfl ?_
  exact Frame.refl _ _

theorem State.ptpWrite_frames (p : Path) (a : Nat) (w : Nat) (s : State) :
    Frame 0x0560a0c4 s (State.ptpWrite p a w s) := by
  unfold State.ptpWrite
  dsimp only
  split
  refine Frame.step (State.selectMaster_frames _) rfl ?_
  refine Frame.step (State.portStates_frames _) rfl ?_
  split
  refine Frame.step (State.noteBad_frames _ _ _) rfl ?_
  refine Frame.step (State.writeWord_frames _ _ _ _) rfl ?_
  exact Frame.refl _ _
  refine Frame.step (State.writeWord_frames _ _ _ _) rfl ?_
  exact Frame.refl _ _
  refine Frame.step (State.selectMaster_frames _) rfl ?_
  refine Frame.step (State.portStates_frames _) rfl ?_
  split
  refine Frame.step (State.noteBad_frames _ _ _) rfl ?_
  refine Frame.step (State.writeWord_frames _ _ _ _) rfl ?_
  exact Frame.refl _ _
  refine Frame.step (State.writeWord_frames _ _ _ _) rfl ?_
  exact Frame.refl _ _

theorem State.secStrike_frames (s : State) :
    Frame 0x60000004 s (State.secStrike s) := by
  unfold State.secStrike
  dsimp only
  split
  split
  split
  split
  split
  refine Frame.set_pwr_sec ?_ rfl id id
  refine Frame.step (State.setFields_frames _ _) rfl ?_
  refine Frame.set_sec ?_ rfl id id
  refine Frame.step (State.secRegs_frames _) rfl ?_
  refine Frame.set_sec ?_ rfl id id
  exact Frame.refl _ _
  refine Frame.step (State.setFields_frames _ _) rfl ?_
  refine Frame.set_sec ?_ rfl id id
  refine Frame.step (State.secRegs_frames _) rfl ?_
  refine Frame.set_sec ?_ rfl id id
  exact Frame.refl _ _
  split
  refine Frame.set_pwr_sec ?_ rfl id id
  refine Frame.step (State.setFields_frames _ _) rfl ?_
  refine Frame.set_sec ?_ rfl id id
  refine Frame.step (State.secRegs_frames _) rfl ?_
  refine Frame.set_sec ?_ rfl id id
  exact Frame.refl _ _
  refine Frame.step (State.setFields_frames _ _) rfl ?_
  refine Frame.set_sec ?_ rfl id id
  refine Frame.step (State.secRegs_frames _) rfl ?_
  refine Frame.set_sec ?_ rfl id id
  exact Frame.refl _ _
  split
  refine Frame.set_pwr_sec ?_ rfl id id
  refine Frame.step (State.secRegs_frames _) rfl ?_
  refine Frame.set_sec ?_ rfl id id
  exact Frame.refl _ _
  refine Frame.step (State.secRegs_frames _) rfl ?_
  refine Frame.set_sec ?_ rfl id id
  exact Frame.refl _ _
  split
  split
  split
  refine Frame.set_pwr_sec ?_ rfl id id
  refine Frame.step (State.setFields_frames _ _) rfl ?_
  refine Frame.set_sec ?_ rfl id id
  exact Frame.refl _ _
  refine Frame.step (State.setFields_frames _ _) rfl ?_
  refine Frame.set_sec ?_ rfl id id
  exact Frame.refl _ _
  split
  refine Frame.set_pwr_sec ?_ rfl id id
  refine Frame.step (State.setFields_frames _ _) rfl ?_
  refine Frame.set_sec ?_ rfl id id
  exact Frame.refl _ _
  refine Frame.step (State.setFields_frames _ _) rfl ?_
  refine Frame.set_sec ?_ rfl id id
  exact Frame.refl _ _
  split
  refine Frame.set_pwr_sec ?_ rfl id id
  exact Frame.refl _ _
  exact Frame.refl _ _
  split
  split
  refine Frame.step (State.setFields_frames _ _) rfl ?_
  refine Frame.set_sec ?_ rfl id id
  refine Frame.step (State.secRegs_frames _) rfl ?_
  refine Frame.set_sec ?_ rfl id id
  exact Frame.refl _ _
  refine Frame.step (State.secRegs_frames _) rfl ?_
  refine Frame.set_sec ?_ rfl id id
  exact Frame.refl _ _
  split
  refine Frame.step (State.setFields_frames _ _) rfl ?_
  refine Frame.set_sec ?_ rfl id id
  exact Frame.refl _ _
  exact Frame.refl _ _

theorem State.firstStrike_frames (s : State) :
    Frame 0x00000304 s (State.firstStrike s) := by
  unfold State.firstStrike
  refine forEach_frames ?_ ?_
  intro _
  intro _
  refine Frame.step (State.bankAdded_frames _ _) rfl ?_
  exact Frame.refl _ _
  refine Frame.step (State.setFlag_frames _ _ _) rfl ?_
  exact Frame.refl _ _

theorem State.pwrTurn_frames (s : State) :
    Frame 0x60020884 s (State.pwrTurn s) := by
  unfold State.pwrTurn
  dsimp only
  split
  split
  refine Frame.step (State.dbgCheck_frames _) rfl ?_
  refine Frame.set_pwr ?_ rfl
  refine Frame.step (State.setReg_frames _ _ _) rfl ?_
  refine Frame.step (State.mdlSuspend_frames _) rfl ?_
  refine Frame.step (State.setFlag_frames _ _ _) rfl ?_
  refine Frame.step (State.dbgCheck_frames _) rfl ?_
  refine Frame.set_imd_pwr ?_ rfl
  refine Frame.step (State.setFields_frames _ _) rfl ?_
  exact Frame.refl _ _
  refine Frame.step (State.dbgCheck_frames _) rfl ?_
  refine Frame.set_imd_pwr ?_ rfl
  refine Frame.step (State.setFields_frames _ _) rfl ?_
  exact Frame.refl _ _
  split
  refine Frame.step (State.dbgCheck_frames _) rfl ?_
  refine Frame.set_pwr ?_ rfl
  refine Frame.step (State.setReg_frames _ _ _) rfl ?_
  refine Frame.step (State.mdlSuspend_frames _) rfl ?_
  refine Frame.step (State.setFlag_frames _ _ _) rfl ?_
  exact Frame.refl _ _
  exact Frame.refl _ _

theorem State.brstRelease_frames (s : State) :
    Frame 0x20000004 s (State.brstRelease s) := by
  unfold State.brstRelease
  dsimp only
  split
  exact Frame.refl _ _
  refine Frame.step (State.setReg_frames _ _ _) rfl ?_
  refine Frame.set_pwr ?_ rfl
  exact Frame.refl _ _

theorem State.supplyStrike_frames (i : StrikeIn) (s : State) :
    Frame 0x20000044 s (State.supplyStrike i s) := by
  unfold State.supplyStrike
  dsimp only
  split
  split
  refine Frame.step (State.goneAt_frames _ _ _) rfl ?_
  split
  split
  refine Frame.step (State.goneAt_frames _ _ _) rfl ?_
  split
  split
  refine Frame.step (State.goneAt_frames _ _ _) rfl ?_
  refine Frame.step (State.setFields_frames _ _) rfl ?_
  refine Frame.set_pwr ?_ rfl
  exact Frame.refl _ _
  refine Frame.step (State.setFields_frames _ _) rfl ?_
  refine Frame.set_pwr ?_ rfl
  exact Frame.refl _ _
  split
  refine Frame.step (State.goneAt_frames _ _ _) rfl ?_
  refine Frame.step (State.setFields_frames _ _) rfl ?_
  refine Frame.set_pwr ?_ rfl
  exact Frame.refl _ _
  refine Frame.step (State.setFields_frames _ _) rfl ?_
  refine Frame.set_pwr ?_ rfl
  exact Frame.refl _ _
  split
  split
  refine Frame.step (State.goneAt_frames _ _ _) rfl ?_
  refine Frame.step (State.setFields_frames _ _) rfl ?_
  refine Frame.set_pwr ?_ rfl
  exact Frame.refl _ _
  refine Frame.step (State.setFields_frames _ _) rfl ?_
  refine Frame.set_pwr ?_ rfl
  exact Frame.refl _ _
  split
  refine Frame.step (State.goneAt_frames _ _ _) rfl ?_
  refine Frame.step (State.setFields_frames _ _) rfl ?_
  refine Frame.set_pwr ?_ rfl
  exact Frame.refl _ _
  refine Frame.step (State.setFields_frames _ _) rfl ?_
  refine Frame.set_pwr ?_ rfl
  exact Frame.refl _ _
  split
  refine Frame.step (State.goneAt_frames _ _ _) rfl ?_
  split
  split
  refine Frame.step (State.goneAt_frames _ _ _) rfl ?_
  refine Frame.step (State.setFields_frames _ _) rfl ?_
  refine Frame.set_pwr ?_ rfl
  exact Frame.refl _ _
  refine Frame.step (State.setFields_frames _ _) rfl ?_
  refine Frame.set_pwr ?_ rfl
  exact Frame.refl _ _
  refine Frame.step (State.goneAt_frames _ _ _) rfl ?_
  refine Frame.step (State.setFields_frames _ _) rfl ?_
  refine Frame.set_pwr ?_ rfl
  exact Frame.refl _ _
  split
  split
  refine Frame.step (State.goneAt_frames _ _ _) rfl ?_
  refine Frame.step (State.setFields_frames _ _) rfl ?_
  refine Frame.set_pwr ?_ rfl
  exact Frame.refl _ _
  refine Frame.step (State.setFields_frames _ _) rfl ?_
  refine Frame.set_pwr ?_ rfl
  exact Frame.refl _ _
  refine Frame.step (State.setFields_frames _ _) rfl ?_
  refine Frame.set_pwr ?_ rfl
  exact Frame.refl _ _
  split
  split
  refine Frame.step (State.goneAt_frames _ _ _) rfl ?_
  split
  split
  refine Frame.step (State.goneAt_frames _ _ _) rfl ?_
  refine Frame.step (State.setFields_frames _ _) rfl ?_
  refine Frame.set_pwr ?_ rfl
  exact Frame.refl _ _
  refine Frame.step (State.setFields_frames _ _) rfl ?_
  refine Frame.set_pwr ?_ rfl
  exact Frame.refl _ _
  split
  refine Frame.step (State.goneAt_frames _ _ _) rfl ?_
  refine Frame.step (State.setFields_frames _ _) rfl ?_
  refine Frame.set_pwr ?_ rfl
  exact Frame.refl _ _
  refine Frame.step (State.setFields_frames _ _) rfl ?_
  refine Frame.set_pwr ?_ rfl
  exact Frame.refl _ _
  split
  split
  refine Frame.step (State.goneAt_frames _ _ _) rfl ?_
  refine Frame.step (State.setFields_frames _ _) rfl ?_
  refine Frame.set_pwr ?_ rfl
  exact Frame.refl _ _
  refine Frame.step (State.setFields_frames _ _) rfl ?_
  refine Frame.set_pwr ?_ rfl
  exact Frame.refl _ _
  split
  refine Frame.step (State.goneAt_frames _ _ _) rfl ?_
  refine Frame.step (State.setFields_frames _ _) rfl ?_
  refine Frame.set_pwr ?_ rfl
  exact Frame.refl _ _
  refine Frame.step (State.setFields_frames _ _) rfl ?_
  refine Frame.set_pwr ?_ rfl
  exact Frame.refl _ _
  split
  refine Frame.step (State.goneAt_frames _ _ _) rfl ?_
  split
  split
  refine Frame.step (State.goneAt_frames _ _ _) rfl ?_
  refine Frame.step (State.setFields_frames _ _) rfl ?_
  refine Frame.set_pwr ?_ rfl
  exact Frame.refl _ _
  refine Frame.step (State.setFields_frames _ _) rfl ?_
  refine Frame.set_pwr ?_ rfl
  exact Frame.refl _ _
  refine Frame.step (State.goneAt_frames _ _ _) rfl ?_
  refine Frame.step (State.setFields_frames _ _) rfl ?_
  refine Frame.set_pwr ?_ rfl
  exact Frame.refl _ _
  split
  split
  refine Frame.step (State.goneAt_frames _ _ _) rfl ?_
  refine Frame.step (State.setFields_frames _ _) rfl ?_
  refine Frame.set_pwr ?_ rfl
  exact Frame.refl _ _
  refine Frame.step (State.setFields_frames _ _) rfl ?_
  refine Frame.set_pwr ?_ rfl
  exact Frame.refl _ _
  refine Frame.step (State.setFields_frames _ _) rfl ?_
  refine Frame.set_pwr ?_ rfl
  exact Frame.refl _ _
  split
  refine Frame.step (State.goneAt_frames _ _ _) rfl ?_
  split
  split
  refine Frame.step (State.goneAt_frames _ _ _) rfl ?_
  split
  split
  refine Frame.step (State.goneAt_frames _ _ _) rfl ?_
  refine Frame.step (State.setFields_frames _ _) rfl ?_
  refine Frame.set_pwr ?_ rfl
  exact Frame.refl _ _
  refine Frame.step (State.setFields_frames _ _) rfl ?_
  refine Frame.set_pwr ?_ rfl
  exact Frame.refl _ _
  refine Frame.step (State.goneAt_frames _ _ _) rfl ?_
  refine Frame.step (State.setFields_frames _ _) rfl ?_
  refine Frame.set_pwr ?_ rfl
  exact Frame.refl _ _
  split
  split
  refine Frame.step (State.goneAt_frames _ _ _) rfl ?_
  refine Frame.step (State.setFields_frames _ _) rfl ?_
  refine Frame.set_pwr ?_ rfl
  exact Frame.refl _ _
  refine Frame.step (State.setFields_frames _ _) rfl ?_
  refine Frame.set_pwr ?_ rfl
  exact Frame.refl _ _
  refine Frame.step (State.goneAt_frames _ _ _) rfl ?_
  refine Frame.step (State.setFields_frames _ _) rfl ?_
  refine Frame.set_pwr ?_ rfl
  exact Frame.refl _ _
  refine Frame.step (State.goneAt_frames _ _ _) rfl ?_
  split
  split
  refine Frame.step (State.goneAt_frames _ _ _) rfl ?_
  refine Frame.step (State.setFields_frames _ _) rfl ?_
  refine Frame.set_pwr ?_ rfl
  exact Frame.refl _ _
  refine Frame.step (State.setFields_frames _ _) rfl ?_
  refine Frame.set_pwr ?_ rfl
  exact Frame.refl _ _
  refine Frame.step (State.goneAt_frames _ _ _) rfl ?_
  refine Frame.step (State.setFields_frames _ _) rfl ?_
  refine Frame.set_pwr ?_ rfl
  exact Frame.refl _ _
  split
  split
  refine Frame.step (State.goneAt_frames _ _ _) rfl ?_
  split
  split
  refine Frame.step (State.goneAt_frames _ _ _) rfl ?_
  refine Frame.step (State.setFields_frames _ _) rfl ?_
  refine Frame.set_pwr ?_ rfl
  exact Frame.refl _ _
  refine Frame.step (State.setFields_frames _ _) rfl ?_
  refine Frame.set_pwr ?_ rfl
  exact Frame.refl _ _
  refine Frame.step (State.setFields_frames _ _) rfl ?_
  refine Frame.set_pwr ?_ rfl
  exact Frame.refl _ _
  split
  split
  refine Frame.step (State.goneAt_frames _ _ _) rfl ?_
  refine Frame.step (State.setFields_frames _ _) rfl ?_
  refine Frame.set_pwr ?_ rfl
  exact Frame.refl _ _
  refine Frame.step (State.setFields_frames _ _) rfl ?_
  refine Frame.set_pwr ?_ rfl
  exact Frame.refl _ _
  refine Frame.step (State.setFields_frames _ _) rfl ?_
  refine Frame.set_pwr ?_ rfl
  exact Frame.refl _ _
  split
  split
  refine Frame.step (State.goneAt_frames _ _ _) rfl ?_
  refine Frame.step (State.setFields_frames _ _) rfl ?_
  refine Frame.set_pwr ?_ rfl
  exact Frame.refl _ _
  refine Frame.step (State.setFields_frames _ _) rfl ?_
  refine Frame.set_pwr ?_ rfl
  exact Frame.refl _ _
  refine Frame.step (State.setFields_frames _ _) rfl ?_
  refine Frame.set_pwr ?_ rfl
  exact Frame.refl _ _

theorem State.onMessage_frames {m : Nat} {f : SvcConn → State → State} {c : Nat} {ok : Bool} {r s : State}
    (h : ∀ s x, Frame m s (f x s)) (h0 : Frame m r s) (hm : maskIn 0x0080a09c m = true) : Frame m r (s.onMessage c ok f) := by
  unfold State.onMessage
  split
  · exact h0
  · split
    · exact h0
    · split
      · exact Frame.step (h _ _) (maskIn_self m) (Frame.set_hif (Frame.step (State.quiet_frames _) (maskIn_trans rfl hm) h0)
          (maskIn_trans rfl hm))
      · exact Frame.step (State.svcClose_frames _ _) (maskIn_trans rfl hm) h0

theorem State.bankWrite_frames (p : Path) (a : Nat) (w : Word) (s : State) :
    Frame 0x0160a1c4 s (State.bankWrite p a w s) := by
  unfold State.bankWrite
  dsimp only
  split
  refine Frame.step (State.bnkCtrlWrite_frames _ _ _ _) rfl ?_
  exact Frame.refl _ _
  split
  exact Frame.refl _ _
  refine Frame.step (State.writeWord_frames _ _ _ _) rfl ?_
  exact Frame.refl _ _

theorem State.canDiscWrite_frames (p : Path) (a : Nat) (w : Nat) (s : State) :
    Frame 0x0160a0c4 s (State.canDiscWrite p a w s) := by
  unfold State.canDiscWrite
  dsimp only
  split
  refine Frame.step (State.noteBad_frames _ _ _) rfl ?_
  refine Frame.step (State.writeWord_frames _ _ _ _) rfl ?_
  exact Frame.refl _ _
  refine Frame.step (State.writeWord_frames _ _ _ _) rfl ?_
  exact Frame.refl _ _

theorem State.canWrite_frames (p : Path) (c : Nat) (rel : Nat) (w : Word) (s : State) :
    Frame 0x19e0a0d4 s (State.canWrite p c rel w s) := by
  unfold State.canWrite
  dsimp only
  split
  refine Frame.step (execCanInitWrite_frames _ _ _ _ _) rfl ?_
  exact Frame.refl _ _
  split
  refine Frame.step (State.canFilterCfg_frames _ _ _ _) rfl ?_
  exact Frame.refl _ _
  split
  refine Frame.step (execCanFilterWrite_frames _ _ _ _) rfl ?_
  exact Frame.refl _ _
  split
  refine Frame.step (execCanRxAck_frames _ _ _ _) rfl ?_
  exact Frame.refl _ _
  split
  refine Frame.step (execCanRxAck_frames _ _ _ _) rfl ?_
  exact Frame.refl _ _
  split
  refine Frame.step (execCanTxRequest_frames _ _ _) rfl ?_
  exact Frame.refl _ _
  split
  refine Frame.step (execCanTxCancel_frames _ _ _ _) rfl ?_
  exact Frame.refl _ _
  split
  refine Frame.step (execCanMwinAccess_frames _ _ _ _) rfl ?_
  exact Frame.refl _ _
  split
  refine Frame.step (State.canDiscWrite_frames _ _ _ _) rfl ?_
  exact Frame.refl _ _
  refine Frame.step (State.writeWord_frames _ _ _ _) rfl ?_
  exact Frame.refl _ _

theorem State.ttoCtrlWrite_frames (p : Path) (k : Nat) (w : Word) (s : State) :
    Frame 0x0560a0c6 s (State.ttoCtrlWrite p k w s) := by
  unfold State.ttoCtrlWrite
  split
  refine Frame.step (execTtoArm_frames _ _ _ _) rfl ?_
  exact Frame.refl _ _
  dsimp only
  split
  refine Frame.step (State.ttoOff_frames _ _) rfl ?_
  refine Frame.step (State.writeWord_frames _ _ _ _) rfl ?_
  exact Frame.refl _ _
  refine Frame.step (State.writeWord_frames _ _ _ _) rfl ?_
  exact Frame.refl _ _

theorem State.netPortWrite_frames (p : Path) (a : Nat) (w : Nat) (s : State) :
    Frame 0x0560a0c4 s (State.netPortWrite p a w s) := by
  unfold State.netPortWrite
  refine Frame.step (State.selectMaster_frames _) rfl ?_
  refine Frame.step (State.portStates_frames _) rfl ?_
  refine Frame.step (State.linksBack_frames _) rfl ?_
  refine Frame.step (State.writeWord_frames _ _ _ _) rfl ?_
  exact Frame.refl _ _

theorem State.netIpWrite_frames (p : Path) (n : Nat) (a : Nat) (w : Nat) (s : State) :
    Frame 0x0360a0c4 s (State.netIpWrite p n a w s) := by
  unfold State.netIpWrite
  dsimp only
  split
  refine Frame.set_net ?_ rfl
  refine Frame.step (State.writeWord_frames _ _ _ _) rfl ?_
  exact Frame.refl _ _
  refine Frame.step (State.goneAt_frames _ _ _) rfl ?_
  refine Frame.set_net ?_ rfl
  refine Frame.step (State.writeWord_frames _ _ _ _) rfl ?_
  exact Frame.refl _ _

theorem State.timWrite_frames (p : Path) (a : Nat) (w : Word) (s : State) :
    Frame 0x0760a0c6 s (State.timWrite p a w s) := by
  unfold State.timWrite
  split
  refine Frame.step (State.ttoCtrlWrite_frames _ _ _ _) rfl ?_
  exact Frame.refl _ _
  refine Frame.step (State.netPortWrite_frames _ _ _ _) rfl ?_
  exact Frame.refl _ _
  refine Frame.step (State.netIpWrite_frames _ _ _ _ _) rfl ?_
  exact Frame.refl _ _
  split
  refine Frame.step (State.ptpWrite_frames _ _ _ _) rfl ?_
  exact Frame.refl _ _
  refine Frame.step (State.writeWord_frames _ _ _ _) rfl ?_
  exact Frame.refl _ _

theorem State.pwrCmdWrite_frames (p : Path) (w : Nat) (s : State) :
    Frame 0x6164a0c4 s (State.pwrCmdWrite p w s) := by
  unfold State.pwrCmdWrite
  dsimp only
  split
  refine Frame.step (State.pwrCommand_frames _ _ _ _) rfl ?_
  exact Frame.refl _ _
  split
  refine Frame.step (State.noteBad_frames _ _ _) rfl ?_
  exact Frame.refl _ _
  exact Frame.refl _ _

theorem State.brstWrite_frames (w : Nat) (s : State) :
    Frame 0x20000004 s (State.brstWrite w s) := by
  unfold State.brstWrite
  dsimp only
  split
  refine Frame.step (State.setReg_frames _ _ _) rfl ?_
  exact Frame.refl _ _
  refine forEach_frames ?_ ?_
  intro _
  intro _
  refine Frame.step (State.brstRequest_frames _ _) rfl ?_
  exact Frame.refl _ _
  refine Frame.step (State.setReg_frames _ _ _) rfl ?_
  exact Frame.refl _ _

theorem State.lcCmdWrite_frames (p : Path) (w : Nat) (s : State) :
    Frame 0x6160a8c4 s (State.lcCmdWrite p w s) := by
  unfold State.lcCmdWrite
  dsimp only
  split
  refine Frame.step (State.lcWrite_frames _ _ _ _) rfl ?_
  exact Frame.refl _ _
  split
  refine Frame.step (State.lcRefused_frames _) rfl ?_
  refine Frame.step (State.noteBad_frames _ _ _) rfl ?_
  exact Frame.refl _ _
  exact Frame.refl _ _

theorem execDebugDrop_frames (path : Path) (w : Word) (s : State) :
    Frame 0x60000084 s (andThen (execDebugDrop path w) s) := by
  dsimp only [andThen, execDebugDrop]
  split
  refine Frame.step (State.dbgEnd_frames _) rfl ?_
  exact Frame.refl _ _
  exact Frame.refl _ _

theorem State.rdIdxWrite_frames (p : Path) (w : Nat) (s : State) :
    Frame 0x00000080 s (State.rdIdxWrite p w s) := by
  unfold State.rdIdxWrite
  refine Frame.set_evl ?_ rfl
  exact Frame.refl _ _

theorem State.windowWrite_frames (p : Path) (fn : Nat) (rel : Nat) (w : Word) (s : State) :
    Frame 0x01e0a0c6 s (State.windowWrite p fn rel w s) := by
  unfold State.windowWrite
  split
  refine Frame.step (execRctBaseWrite_frames _ _ _ _) rfl ?_
  exact Frame.refl _ _
  split
  split
  exact Frame.refl _ _
  refine Frame.step (State.noteBad_frames _ _ _) rfl ?_
  exact Frame.refl _ _
  split
  refine Frame.step (execClientClockApply_frames _ _ _) rfl ?_
  exact Frame.refl _ _
  refine Frame.step (State.writeWord_frames _ _ _ _) rfl ?_
  exact Frame.refl _ _

theorem State.regWrite_frames (p : Path) (a : Nat) (w : Word) (s : State) :
    Frame 0x7ffca9d6 s (State.regWrite p a w s) := by
  unfold State.regWrite
  dsimp only
  refine Frame.ite ?_ ?_
  refine Frame.step (State.govWrite_frames _ _ _ _) rfl ?_
  exact Frame.refl _ _
  refine Frame.ite ?_ ?_
  refine Frame.step (State.bankWrite_frames _ _ _ _) rfl ?_
  exact Frame.refl _ _
  refine Frame.ite ?_ ?_
  refine Frame.step (State.canWrite_frames _ _ _ _ _) rfl ?_
  exact Frame.refl _ _
  refine Frame.ite ?_ ?_
  refine Frame.step (State.timWrite_frames _ _ _ _) rfl ?_
  exact Frame.refl _ _
  refine Frame.ite ?_ ?_
  refine Frame.step (State.curCtrlWrite_frames _ _ _) rfl ?_
  exact Frame.refl _ _
  split
  refine Frame.step (State.imdCtrlWrite_frames _ _ _) rfl ?_
  exact Frame.refl _ _
  split
  refine Frame.step (State.thmConfigWrite_frames _ _ _ _) rfl ?_
  exact Frame.refl _ _
  split
  refine Frame.step (State.setpointWrite_frames _ _ _) rfl ?_
  exact Frame.refl _ _
  split
  refine Frame.step (State.pwrCmdWrite_frames _ _ _) rfl ?_
  exact Frame.refl _ _
  split
  split
  refine Frame.step (State.brstWrite_frames _ _) rfl ?_
  exact Frame.refl _ _
  exact Frame.refl _ _
  split
  refine Frame.step (State.lcCmdWrite_frames _ _ _) rfl ?_
  exact Frame.refl _ _
  split
  refine Frame.step (execDebugDrop_frames _ _ _) rfl ?_
  exact Frame.refl _ _
  split
  refine Frame.step (execHandoverRequest_frames _ _ _) rfl ?_
  exact Frame.refl _ _
  split
  refine Frame.step (State.rdIdxWrite_frames _ _ _) rfl ?_
  exact Frame.refl _ _
  split
  refine Frame.step (execCellTableRead_frames _ _ _) rfl ?_
  exact Frame.refl _ _
  split
  refine Frame.step (execPrivWrite_frames _ _ _ _) rfl ?_
  exact Frame.refl _ _
  refine Frame.step (State.windowWrite_frames _ _ _ _ _) rfl ?_
  exact Frame.refl _ _
  refine Frame.step (State.writeWord_frames _ _ _ _) rfl ?_
  exact Frame.refl _ _

theorem State.pathWrite_frames (p : Path) (off : Nat) (w : Word) (s : State) :
    Frame 0x7ffca9d6 s (State.pathWrite p off w s) := by
  unfold State.pathWrite
  split
  exact Frame.refl _ _
  split
  refine Frame.step (State.regWrite_frames _ _ _ _) rfl ?_
  exact Frame.refl _ _
  exact Frame.refl _ _
  split
  refine Frame.step (State.regWrite_frames _ _ _ _) rfl ?_
  exact Frame.refl _ _
  exact Frame.refl _ _
  refine Frame.step (State.regWrite_frames _ _ _ _) rfl ?_
  exact Frame.refl _ _

theorem State.regResult_frames (c : Nat) (m : List Nat) (off : Nat) (val : Nat) (status : Nat) (s : State) :
    Frame 0x02800000 s (State.regResult c m off val status s) := by
  unfold State.regResult
  refine Frame.step (State.svcSend_frames _ _ _) rfl ?_
  exact Frame.refl _ _

theorem execServiceRegWrite_frames (conn : Nat) (msg : List Nat) (s : State) :
    Frame 0x7ffca9de s (andThen (execServiceRegWrite conn msg) s) := by
  dsimp only [andThen, execServiceRegWrite]
  refine State.onMessage_frames ?_ ?_ rfl
  intro _
  intro _
  split
  refine Frame.step (State.regResult_frames _ _ _ _ _ _) rfl ?_
  split
  refine Frame.step (State.pathWrite_frames _ _ _ _) rfl ?_
  exact Frame.refl _ _
  refine Frame.step (State.hifFault_frames _ _ _ _) rfl ?_
  exact Frame.refl _ _
  refine Frame.step (State.regResult_frames _ _ _ _ _ _) rfl ?_
  exact Frame.refl _ _
  exact Frame.refl _ _

theorem execLockstepMismatch_frames (group : Nat) (s : State) :
    Frame 0x61faa0e4 s (andThen (execLockstepMismatch group) s) := by
  dsimp only [andThen, execLockstepMismatch]
  split
  split
  refine Frame.set_pwr ?_ rfl
  refine Frame.step (State.addSat_frames _ _ _) rfl ?_
  refine Frame.step (State.setReg_frames _ _ _) rfl ?_
  refine Frame.set_sec ?_ rfl id id
  exact Frame.refl _ _
  refine Frame.step (State.warmBegin_frames _ _) rfl ?_
  split
  refine Frame.step (State.afterWarm_frames _ _ _) rfl ?_
  refine Frame.step (State.afterWarm_frames _ _ _) rfl ?_
  refine Frame.step (State.addSat_frames _ _ _) rfl ?_
  refine Frame.step (State.setReg_frames _ _ _) rfl ?_
  refine Frame.set_sec ?_ rfl id id
  exact Frame.refl _ _
  refine Frame.step (State.afterWarm_frames _ _ _) rfl ?_
  refine Frame.step (State.addSat_frames _ _ _) rfl ?_
  refine Frame.step (State.setReg_frames _ _ _) rfl ?_
  refine Frame.set_sec ?_ rfl id id
  exact Frame.refl _ _
  exact Frame.refl _ _

theorem execLcCommission_frames (path : Path) (w : Word) (s : State) :
    Frame 0x6160a8c4 s (andThen (execLcCommission path w) s) := by
  dsimp only [andThen, execLcCommission]
  refine Frame.step (State.lcWrite_frames _ _ _ _) rfl ?_
  exact Frame.refl _ _

theorem State.loadThresholds_frames (s : State) :
    Frame 0x00002004 s (State.loadThresholds s) := by
  unfold State.loadThresholds
  dsimp only
  refine Frame.step (State.setFlag_frames _ _ _) rfl ?_
  refine Frame.set_slu ?_ rfl rfl
  exact Frame.refl _ _

theorem State.estCleared_frames (s : State) :
    Frame 0x00030084 s (State.estCleared s) := by
  unfold State.estCleared
  refine forAll_frames ?_ ?_
  intro _
  intro _
  refine Frame.step (State.note_frames _ _ _ _) rfl ?_
  exact Frame.refl _ _
  refine Frame.step (State.estBoot_frames _) rfl ?_
  refine Frame.set_regs_est_mdl ?_ rfl
  exact Frame.refl _ _

theorem State.regRead_frames (p : Path) (off : Nat) (s : State) :
    Frame 0x1400009e s (State.regRead p off s) := by
  unfold State.regRead
  dsimp only
  split
  refine Frame.step (State.returns_frames _ _ _) rfl ?_
  exact Frame.refl _ _
  split
  refine Frame.step (execTciRead_frames _ _ _) rfl ?_
  exact Frame.refl _ _
  split
  refine Frame.step (execCanMwinAccess_frames _ _ _ _) rfl ?_
  exact Frame.refl _ _
  split
  refine Frame.step (State.returns_frames _ _ _) rfl ?_
  exact Frame.refl _ _
  refine Frame.step (State.returns_frames _ _ _) rfl ?_
  split
  refine Frame.step (State.took_frames _) rfl ?_
  refine forAll_frames ?_ ?_
  intro _
  intro _
  refine Frame.step (State.latchFor_frames _ _ _ _) rfl ?_
  exact Frame.refl _ _
  exact Frame.refl _ _
  refine forAll_frames ?_ ?_
  intro _
  intro _
  refine Frame.step (State.latchFor_frames _ _ _ _) rfl ?_
  exact Frame.refl _ _
  exact Frame.refl _ _

theorem State.bootImage_frames (r : BootIn) (s : State) :
    Frame 0x416020c4 s (State.bootImage r s) := by
  unfold State.bootImage
  dsimp only
  split
  refine Frame.step (State.setFields_frames _ _) rfl ?_
  refine Frame.set_sec ?_ rfl id id
  exact Frame.refl _ _
  refine Frame.step (State.raise_frames _ _ _ _ _) rfl ?_
  refine Frame.step (State.setFields_frames _ _) rfl ?_
  refine Frame.set_sec ?_ rfl id id
  exact Frame.refl _ _
  refine Frame.step (State.raise_frames _ _ _ _ _) rfl ?_
  refine Frame.step (State.setFlag_frames _ _ _) rfl ?_
  exact Frame.refl _ _

theorem State.bootRecords_frames (r : BootIn) (s : State) :
    Frame 0x616030c4 s (State.bootRecords r s) := by
  unfold State.bootRecords
  dsimp only
  refine forAll_frames ?_ ?_
  intro _
  intro _
  split
  refine Frame.step (State.note_frames _ _ _ _) rfl ?_
  exact Frame.refl _ _
  refine Frame.step (State.raise_frames _ _ _ _ _) rfl ?_
  exact Frame.refl _ _
  refine Frame.set_pwr ?_ rfl
  split
  split
  split
  split
  refine Frame.step (State.raise_frames _ _ _ _ _) rfl ?_
  refine Frame.step (State.note_frames _ _ _ _) rfl ?_
  refine Frame.set_pwr ?_ rfl
  refine Frame.step (State.raise_frames _ _ _ _ _) rfl ?_
  refine Frame.set_sec ?_ rfl id id
  refine forEach_frames ?_ ?_
  intro _
  intro _
  refine Frame.step (State.raise_frames _ _ _ _ _) rfl ?_
  refine Frame.set_evl ?_ rfl
  exact Frame.refl _ _
  refine Frame.set_evl ?_ rfl
  refine Frame.step (State.record_frames _ _) rfl ?_
  refine Frame.set_thm ?_ rfl
  exact Frame.refl _ _
  refine Frame.step (State.note_frames _ _ _ _) rfl ?_
  refine Frame.set_pwr ?_ rfl
  refine Frame.step (State.raise_frames _ _ _ _ _) rfl ?_
  refine Frame.set_sec ?_ rfl id id
  refine forEach_frames ?_ ?_
  intro _
  intro _
  refine Frame.step (State.raise_frames _ _ _ _ _) rfl ?_
  refine Frame.set_evl ?_ rfl
  exact Frame.refl _ _
  refine Frame.set_evl ?_ rfl
  refine Frame.step (State.record_frames _ _) rfl ?_
  refine Frame.set_thm ?_ rfl
  exact Frame.refl _ _
  split
  refine Frame.step (State.raise_frames _ _ _ _ _) rfl ?_
  refine Frame.step (State.note_frames _ _ _ _) rfl ?_
  refine Frame.set_pwr ?_ rfl
  refine Frame.step (State.raise_frames _ _ _ _ _) rfl ?_
  refine Frame.set_sec ?_ rfl id id
  refine forEach_frames ?_ ?_
  intro _
  intro _
  refine Frame.step (State.raise_frames _ _ _ _ _) rfl ?_
  refine Frame.set_evl ?_ rfl
  exact Frame.refl _ _
  refine Frame.set_evl ?_ rfl
  exact Frame.refl _ _
  refine Frame.step (State.note_frames _ _ _ _) rfl ?_
  refine Frame.set_pwr ?_ rfl
  refine Frame.step (State.raise_frames _ _ _ _ _) rfl ?_
  refine Frame.set_sec ?_ rfl id id
  refine forEach_frames ?_ ?_
  intro _
  intro _
  refine Frame.step (State.raise_frames _ _ _ _ _) rfl ?_
  refine Frame.set_evl ?_ rfl
  exact Frame.refl _ _
  refine Frame.set_evl ?_ rfl
  exact Frame.refl _ _
  split
  split
  refine Frame.step (State.raise_frames _ _ _ _ _) rfl ?_
  refine Frame.step (State.note_frames _ _ _ _) rfl ?_
  refine Frame.set_pwr ?_ rfl
  refine forEach_frames ?_ ?_
  intro _
  intro _
  refine Frame.step (State.raise_frames _ _ _ _ _) rfl ?_
  refine Frame.set_evl ?_ rfl
  exact Frame.refl _ _
  refine Frame.set_evl ?_ rfl
  refine Frame.step (State.record_frames _ _) rfl ?_
  refine Frame.set_thm ?_ rfl
  exact Frame.refl _ _
  refine Frame.step (State.note_frames _ _ _ _) rfl ?_
  refine Frame.set_pwr ?_ rfl
  refine forEach_frames ?_ ?_
  intro _
  intro _
  refine Frame.step (State.raise_frames _ _ _ _ _) rfl ?_
  refine Frame.set_evl ?_ rfl
  exact Frame.refl _ _
  refine Frame.set_evl ?_ rfl
  refine Frame.step (State.record_frames _ _) rfl ?_
  refine Frame.set_thm ?_ rfl
  exact Frame.refl _ _
  split
  refine Frame.step (State.raise_frames _ _ _ _ _) rfl ?_
  refine Frame.step (State.note_frames _ _ _ _) rfl ?_
  refine Frame.set_pwr ?_ rfl
  refine forEach_frames ?_ ?_
  intro _
  intro _
  refine Frame.step (State.raise_frames _ _ _ _ _) rfl ?_
  refine Frame.set_evl ?_ rfl
  exact Frame.refl _ _
  refine Frame.set_evl ?_ rfl
  exact Frame.refl _ _
  refine Frame.step (State.note_frames _ _ _ _) rfl ?_
  refine Frame.set_pwr ?_ rfl
  refine forEach_frames ?_ ?_
  intro _
  intro _
  refine Frame.step (State.raise_frames _ _ _ _ _) rfl ?_
  refine Frame.set_evl ?_ rfl
  exact Frame.refl _ _
  refine Frame.set_evl ?_ rfl
  exact Frame.refl _ _
  split
  split
  split
  refine Frame.step (State.raise_frames _ _ _ _ _) rfl ?_
  refine Frame.step (State.raise_frames _ _ _ _ _) rfl ?_
  refine Frame.set_sec ?_ rfl id id
  refine forEach_frames ?_ ?_
  intro _
  intro _
  refine Frame.step (State.raise_frames _ _ _ _ _) rfl ?_
  refine Frame.set_evl ?_ rfl
  exact Frame.refl _ _
  refine Frame.set_evl ?_ rfl
  refine Frame.step (State.record_frames _ _) rfl ?_
  refine Frame.set_thm ?_ rfl
  exact Frame.refl _ _
  refine Frame.step (State.raise_frames _ _ _ _ _) rfl ?_
  refine Frame.set_sec ?_ rfl id id
  refine forEach_frames ?_ ?_
  intro _
  intro _
  refine Frame.step (State.raise_frames _ _ _ _ _) rfl ?_
  refine Frame.set_evl ?_ rfl
  exact Frame.refl _ _
  refine Frame.set_evl ?_ rfl
  refine Frame.step (State.record_frames _ _) rfl ?_
  refine Frame.set_thm ?_ rfl
  exact Frame.refl _ _
  split
  refine Frame.step (State.raise_frames _ _ _ _ _) rfl ?_
  refine Frame.step (State.raise_frames _ _ _ _ _) rfl ?_
  refine Frame.set_sec ?_ rfl id id
  refine forEach_frames ?_ ?_
  intro _
  intro _
  refine Frame.step (State.raise_frames _ _ _ _ _) rfl ?_
  refine Frame.set_evl ?_ rfl
  exact Frame.refl _ _
  refine Frame.set_evl ?_ rfl
  exact Frame.refl _ _
  refine Frame.step (State.raise_frames _ _ _ _ _) rfl ?_
  refine Frame.set_sec ?_ rfl id id
  refine forEach_frames ?_ ?_
  intro _
  intro _
  refine Frame.step (State.raise_frames _ _ _ _ _) rfl ?_
  refine Frame.set_evl ?_ rfl
  exact Frame.refl _ _
  refine Frame.set_evl ?_ rfl
  exact Frame.refl _ _
  split
  split
  refine Frame.step (State.raise_frames _ _ _ _ _) rfl ?_
  refine forEach_frames ?_ ?_
  intro _
  intro _
  refine Frame.step (State.raise_frames _ _ _ _ _) rfl ?_
  refine Frame.set_evl ?_ rfl
  exact Frame.refl _ _
  refine Frame.set_evl ?_ rfl
  refine Frame.step (State.record_frames _ _) rfl ?_
  refine Frame.set_thm ?_ rfl
  exact Frame.refl _ _
  refine forEach_frames ?_ ?_
  intro _
  intro _
  refine Frame.step (State.raise_frames _ _ _ _ _) rfl ?_
  refine Frame.set_evl ?_ rfl
  exact Frame.refl _ _
  refine Frame.set_evl ?_ rfl
  refine Frame.step (State.record_frames _ _) rfl ?_
  refine Frame.set_thm ?_ rfl
  exact Frame.refl _ _
  split
  refine Frame.step (State.raise_frames _ _ _ _ _) rfl ?_
  refine forEach_frames ?_ ?_
  intro _
  intro _
  refine Frame.step (State.raise_frames _ _ _ _ _) rfl ?_
  refine Frame.set_evl ?_ rfl
  exact Frame.refl _ _
  refine Frame.set_evl ?_ rfl
  exact Frame.refl _ _
  refine forEach_frames ?_ ?_
  intro _
  intro _
  refine Frame.step (State.raise_frames _ _ _ _ _) rfl ?_
  refine Frame.set_evl ?_ rfl
  exact Frame.refl _ _
  refine Frame.set_evl ?_ rfl
  exact Frame.refl _ _

theorem State.loadConfig_frames (s : State) :
    Frame 0x217134c4 s (State.loadConfig s) := by
  unfold State.loadConfig
  dsimp only
  refine Frame.step (State.secRegs_frames _) rfl ?_
  refine Frame.step (State.estBoot_frames _) rfl ?_
  refine forEach_frames ?_ ?_
  intro _
  intro _
  refine Frame.step (State.raise_frames _ _ _ _ _) rfl ?_
  exact Frame.refl _ _
  refine Frame.step (State.mapsShown_frames _) rfl ?_
  refine Frame.set_cur_thm_slu_env_pwr ?_ rfl rfl
  refine Frame.step (State.loadThresholds_frames _) rfl ?_
  refine Frame.step (State.loadCommitted_frames _) rfl ?_
  exact Frame.refl _ _

theorem State.boot_frames (r : BootIn) (s : State) :
    Frame 0x6173bdc4 s (State.boot r s) := by
  unfold State.boot
  dsimp only
  split
  refine Frame.step (State.setFlag_frames _ _ _) rfl ?_
  refine Frame.set_pwr_sec ?_ rfl id id
  exact Frame.refl _ _
  refine Frame.step (State.secRegs_frames _) rfl ?_
  refine Frame.step (State.setFields_frames _ _) rfl ?_
  split
  split
  refine Frame.step (State.enterBrake_frames _) rfl ?_
  refine Frame.set_pwr ?_ rfl
  refine Frame.step (State.abortDone_frames _) rfl ?_
  refine Frame.step (State.loadConfig_frames _) rfl ?_
  refine Frame.step (State.bootImage_frames _ _) rfl ?_
  refine Frame.step (State.bootRecords_frames _ _) rfl ?_
  refine Frame.step (State.setFlag_frames _ _ _) rfl ?_
  exact Frame.refl _ _
  refine Frame.step (State.setFlag_frames _ _ _) rfl ?_
  refine Frame.set_pwr ?_ rfl
  refine Frame.step (State.abortDone_frames _) rfl ?_
  refine Frame.step (State.loadConfig_frames _) rfl ?_
  refine Frame.step (State.bootImage_frames _ _) rfl ?_
  refine Frame.step (State.bootRecords_frames _ _) rfl ?_
  refine Frame.step (State.setFlag_frames _ _ _) rfl ?_
  exact Frame.refl _ _
  split
  refine Frame.step (State.enterBrake_frames _) rfl ?_
  refine Frame.set_pwr ?_ rfl
  refine Frame.step (State.bootImage_frames _ _) rfl ?_
  refine Frame.step (State.bootRecords_frames _ _) rfl ?_
  refine Frame.step (State.setFlag_frames _ _ _) rfl ?_
  exact Frame.refl _ _
  refine Frame.step (State.setFlag_frames _ _ _) rfl ?_
  refine Frame.set_pwr ?_ rfl
  refine Frame.step (State.bootImage_frames _ _) rfl ?_
  refine Frame.step (State.bootRecords_frames _ _) rfl ?_
  refine Frame.step (State.setFlag_frames _ _ _) rfl ?_
  exact Frame.refl _ _

theorem execStartSequence_frames (r : BootIn) (s : State) :
    Frame 0x6173bdc4 s (andThen (execStartSequence r) s) := by
  dsimp only [andThen, execStartSequence]
  split
  refine Frame.step (State.boot_frames _ _) rfl ?_
  exact Frame.refl _ _
  exact Frame.refl _ _

theorem execDebugMemoryWrite_frames (mem : Nat) (owner : Nat) (addr : Nat) (bytes : List Nat) (s : State) :
    Frame 0x50200000 s (andThen (execDebugMemoryWrite mem owner addr bytes) s) := by
  dsimp only [andThen, execDebugMemoryWrite]
  split
  split
  split
  refine Frame.set_sec ?_ rfl id id
  split
  refine Frame.step (State.writeMem_frames _ _ _ _) rfl ?_
  exact Frame.refl _ _
  refine Frame.step (State.millpondWrite_frames _ _ _) rfl ?_
  exact Frame.refl _ _
  refine Frame.set_sec ?_ rfl id id
  exact Frame.refl _ _
  exact Frame.refl _ _
  split
  split
  split
  refine Frame.set_sec ?_ rfl id id
  split
  refine Frame.step (State.writeMem_frames _ _ _ _) rfl ?_
  exact Frame.refl _ _
  refine Frame.step (State.millpondWrite_frames _ _ _) rfl ?_
  exact Frame.refl _ _
  refine Frame.set_sec ?_ rfl id id
  exact Frame.refl _ _
  exact Frame.refl _ _
  split
  split
  refine Frame.set_sec ?_ rfl id id
  split
  refine Frame.step (State.writeMem_frames _ _ _ _) rfl ?_
  exact Frame.refl _ _
  refine Frame.step (State.millpondWrite_frames _ _ _) rfl ?_
  exact Frame.refl _ _
  refine Frame.set_sec ?_ rfl id id
  exact Frame.refl _ _
  exact Frame.refl _ _

theorem State.debugFail_frames (s : State) :
    Frame 0x416020c4 s (State.debugFail s) := by
  unfold State.debugFail
  dsimp only
  split
  refine Frame.step (State.raise_frames _ _ _ _ _) rfl ?_
  refine Frame.step (State.secRegs_frames _) rfl ?_
  refine Frame.set_sec ?_ rfl id id
  refine Frame.step (State.note_frames _ _ _ _) rfl ?_
  refine Frame.set_sec ?_ rfl id id
  exact Frame.refl _ _
  refine Frame.step (State.secRegs_frames _) rfl ?_
  refine Frame.step (State.note_frames _ _ _ _) rfl ?_
  refine Frame.set_sec ?_ rfl id id
  exact Frame.refl _ _

theorem State.debugGrant_frames (level : Nat) (signer : Nat) (s : State) :
    Frame 0x60402884 s (State.debugGrant level signer s) := by
  unfold State.debugGrant
  dsimp only
  split
  split
  split
  refine Frame.set_sec ?_ rfl id id
  refine Frame.step (State.secRegs_frames _) rfl ?_
  refine Frame.step (State.note_frames _ _ _ _) rfl ?_
  refine Frame.step (State.setFields_frames _ _) rfl ?_
  refine Frame.set_sec ?_ rfl id id
  refine Frame.step (State.dbgEnd_frames _) rfl ?_
  exact Frame.refl _ _
  refine Frame.step (State.dropClaim_frames _ _) rfl ?_
  refine Frame.set_sec ?_ rfl id id
  refine Frame.step (State.secRegs_frames _) rfl ?_
  refine Frame.step (State.note_frames _ _ _ _) rfl ?_
  refine Frame.step (State.setFields_frames _ _) rfl ?_
  refine Frame.set_sec ?_ rfl id id
  refine Frame.step (State.dbgEnd_frames _) rfl ?_
  exact Frame.refl _ _
  split
  refine Frame.set_sec ?_ rfl id id
  refine Frame.step (State.secRegs_frames _) rfl ?_
  refine Frame.step (State.note_frames _ _ _ _) rfl ?_
  refine Frame.step (State.setFields_frames _ _) rfl ?_
  refine Frame.set_sec ?_ rfl id id
  exact Frame.refl _ _
  refine Frame.step (State.dropClaim_frames _ _) rfl ?_
  refine Frame.set_sec ?_ rfl id id
  refine Frame.step (State.secRegs_frames _) rfl ?_
  refine Frame.step (State.note_frames _ _ _ _) rfl ?_
  refine Frame.step (State.setFields_frames _ _) rfl ?_
  refine Frame.set_sec ?_ rfl id id
  exact Frame.refl _ _
  refine Frame.step (State.secRegs_frames _) rfl ?_
  refine Frame.step (State.note_frames _ _ _ _) rfl ?_
  refine Frame.step (State.setFields_frames _ _) rfl ?_
  refine Frame.set_sec ?_ rfl id id
  split
  refine Frame.step (State.dbgEnd_frames _) rfl ?_
  exact Frame.refl _ _
  exact Frame.refl _ _

theorem execDebugChallenge_frames (r : DebugIn) (s : State) :
    Frame 0x616028c6 s (andThen (execDebugChallenge r) s) := by
  dsimp only [andThen, execDebugChallenge]
  split
  split
  refine Frame.step (State.debugFail_frames _) rfl ?_
  refine Frame.set_sec ?_ rfl id id
  refine Frame.step (State.took_frames _) rfl ?_
  exact Frame.refl _ _
  split
  refine Frame.step (State.debugGrant_frames _ _ _) rfl ?_
  refine Frame.set_sec ?_ rfl id id
  refine Frame.step (State.took_frames _) rfl ?_
  exact Frame.refl _ _
  refine Frame.set_sec ?_ rfl id id
  refine Frame.step (State.took_frames _) rfl ?_
  exact Frame.refl _ _
  exact Frame.refl _ _

theorem State.fwSwitch_frames (s : State) :
    Frame 0x40000084 s (State.fwSwitch s) := by
  unfold State.fwSwitch
  refine Frame.step (State.note_frames _ _ _ _) rfl ?_
  refine Frame.set_sec ?_ rfl id id
  exact Frame.refl _ _

theorem execStageComplete_frames (ok : Bool) (s : State) :
    Frame 0x43e020c6 s (andThen (execStageComplete ok) s) := by
  dsimp only [andThen, execStageComplete]
  split
  split
  split
  refine Frame.step (State.complete_frames _ _ _) rfl ?_
  refine Frame.step (State.secRegs_frames _) rfl ?_
  refine Frame.step (State.note_frames _ _ _ _) rfl ?_
  refine Frame.set_sec ?_ rfl id id
  refine Frame.step (State.quiet_frames _) rfl ?_
  exact Frame.refl _ _
  refine Frame.step (State.complete_frames _ _ _) rfl ?_
  refine Frame.step (State.secRegs_frames _) rfl ?_
  refine Frame.step (State.note_frames _ _ _ _) rfl ?_
  refine Frame.set_sec ?_ rfl id id
  refine Frame.step (State.quiet_frames _) rfl ?_
  exact Frame.refl _ _
  exact Frame.refl _ _
  exact Frame.refl _ _

theorem State.hopForced_frames (s : State) :
    Frame 0x01000000 s (State.hopForced s) := by
  unfold State.hopForced
  dsimp only
  split
  exact Frame.refl _ _
  refine Frame.set_hop ?_ rfl
  exact Frame.refl _ _

theorem State.blockReset_frames (k : Nat) (forced : Bool) (s : State) :
    Frame 0x7fe260c4 s (State.blockReset k forced s) := by
  unfold State.blockReset
  dsimp only
  split
  refine Frame.step (State.mdlSuspend_frames _) rfl ?_
  split
  split
  refine Frame.set_sec ?_ rfl id id
  refine Frame.step (State.setBit_frames _ _ _ _) rfl ?_
  refine Frame.step (State.setBit_frames _ _ _ _) rfl ?_
  refine Frame.set_pwr ?_ rfl
  exact Frame.refl _ _
  refine Frame.step (State.setBit_frames _ _ _ _) rfl ?_
  refine Frame.step (State.setBit_frames _ _ _ _) rfl ?_
  refine Frame.set_pwr ?_ rfl
  exact Frame.refl _ _
  refine Frame.step (State.setBit_frames _ _ _ _) rfl ?_
  refine Frame.step (State.setBit_frames _ _ _ _) rfl ?_
  refine Frame.set_pwr ?_ rfl
  exact Frame.refl _ _
  split
  split
  refine Frame.set_sio ?_ rfl
  refine Frame.step (State.linkDown_frames _ _) rfl ?_
  refine Frame.step (State.linkDown_frames _ _) rfl ?_
  refine Frame.set_net ?_ rfl
  split
  split
  refine Frame.set_sec ?_ rfl id id
  refine Frame.step (State.setBit_frames _ _ _ _) rfl ?_
  refine Frame.step (State.setBit_frames _ _ _ _) rfl ?_
  refine Frame.set_pwr ?_ rfl
  exact Frame.refl _ _
  refine Frame.step (State.setBit_frames _ _ _ _) rfl ?_
  refine Frame.step (State.setBit_frames _ _ _ _) rfl ?_
  refine Frame.set_pwr ?_ rfl
  exact Frame.refl _ _
  refine Frame.step (State.setBit_frames _ _ _ _) rfl ?_
  refine Frame.step (State.setBit_frames _ _ _ _) rfl ?_
  refine Frame.set_pwr ?_ rfl
  exact Frame.refl _ _
  refine Frame.step (State.linkDown_frames _ _) rfl ?_
  refine Frame.step (State.linkDown_frames _ _) rfl ?_
  refine Frame.set_net ?_ rfl
  split
  split
  refine Frame.set_sec ?_ rfl id id
  refine Frame.step (State.setBit_frames _ _ _ _) rfl ?_
  refine Frame.step (State.setBit_frames _ _ _ _) rfl ?_
  refine Frame.set_pwr ?_ rfl
  exact Frame.refl _ _
  refine Frame.step (State.setBit_frames _ _ _ _) rfl ?_
  refine Frame.step (State.setBit_frames _ _ _ _) rfl ?_
  refine Frame.set_pwr ?_ rfl
  exact Frame.refl _ _
  refine Frame.step (State.setBit_frames _ _ _ _) rfl ?_
  refine Frame.step (State.setBit_frames _ _ _ _) rfl ?_
  refine Frame.set_pwr ?_ rfl
  exact Frame.refl _ _
  split
  split
  refine Frame.step (State.hopForced_frames _) rfl ?_
  split
  split
  refine Frame.set_sec ?_ rfl id id
  refine Frame.step (State.setBit_frames _ _ _ _) rfl ?_
  refine Frame.step (State.setBit_frames _ _ _ _) rfl ?_
  refine Frame.set_pwr ?_ rfl
  exact Frame.refl _ _
  refine Frame.step (State.setBit_frames _ _ _ _) rfl ?_
  refine Frame.step (State.setBit_frames _ _ _ _) rfl ?_
  refine Frame.set_pwr ?_ rfl
  exact Frame.refl _ _
  refine Frame.step (State.setBit_frames _ _ _ _) rfl ?_
  refine Frame.step (State.setBit_frames _ _ _ _) rfl ?_
  refine Frame.set_pwr ?_ rfl
  exact Frame.refl _ _
  split
  split
  refine Frame.set_sec ?_ rfl id id
  refine Frame.step (State.setBit_frames _ _ _ _) rfl ?_
  refine Frame.step (State.setBit_frames _ _ _ _) rfl ?_
  refine Frame.set_pwr ?_ rfl
  exact Frame.refl _ _
  refine Frame.step (State.setBit_frames _ _ _ _) rfl ?_
  refine Frame.step (State.setBit_frames _ _ _ _) rfl ?_
  refine Frame.set_pwr ?_ rfl
  exact Frame.refl _ _
  refine Frame.step (State.setBit_frames _ _ _ _) rfl ?_
  refine Frame.step (State.setBit_frames _ _ _ _) rfl ?_
  refine Frame.set_pwr ?_ rfl
  exact Frame.refl _ _
  refine Frame.step (State.canInit_frames _ _ _) rfl ?_
  refine doIf_frames ?_ ?_
  intro _
  refine Frame.step (State.canForced_frames _ _) rfl ?_
  exact Frame.refl _ _
  split
  split
  refine Frame.set_sec ?_ rfl id id
  refine Frame.step (State.setBit_frames _ _ _ _) rfl ?_
  refine Frame.step (State.setBit_frames _ _ _ _) rfl ?_
  refine Frame.set_pwr ?_ rfl
  exact Frame.refl _ _
  refine Frame.step (State.setBit_frames _ _ _ _) rfl ?_
  refine Frame.step (State.setBit_frames _ _ _ _) rfl ?_
  refine Frame.set_pwr ?_ rfl
  exact Frame.refl _ _
  refine Frame.step (State.setBit_frames _ _ _ _) rfl ?_
  refine Frame.step (State.setBit_frames _ _ _ _) rfl ?_
  refine Frame.set_pwr ?_ rfl
  exact Frame.refl _ _

theorem execBlockIdle_frames (k : Nat) (s : State) :
    Frame 0x7fe260c4 s (andThen (execBlockIdle k) s) := by
  dsimp only [andThen, execBlockIdle]
  split
  split
  refine Frame.step (State.blockReset_frames _ _ _) rfl ?_
  exact Frame.refl _ _
  exact Frame.refl _ _
  exact Frame.refl _ _

theorem State.blowFuses_frames (s : State) :
    Frame 0x40000084 s (State.blowFuses s) := by
  unfold State.blowFuses
  dsimp only
  refine Frame.step (State.secRegs_frames _) rfl ?_
  refine foldl_frames ?_ ?_
  intro _
  intro _
  split
  refine Frame.step (State.note_frames _ _ _ _) rfl ?_
  refine Frame.set_sec ?_ rfl id id
  exact Frame.refl _ _
  exact Frame.refl _ _
  split
  refine Frame.step (State.note_frames _ _ _ _) rfl ?_
  refine Frame.set_sec ?_ rfl id id
  exact Frame.refl _ _
  exact Frame.refl _ _

theorem execRunEntry_frames (s : State) :
    Frame 0x600108a4 s (andThen execRunEntry s) := by
  dsimp only [andThen, execRunEntry]
  split
  refine Frame.step (State.dbgCheck_frames _) rfl ?_
  refine Frame.step (State.blowFuses_frames _) rfl ?_
  refine Frame.set_sys_imd_est ?_ rfl
  refine Frame.step (State.setFields_frames _ _) rfl ?_
  exact Frame.refl _ _
  exact Frame.refl _ _

theorem execSessionPathLost_frames (path : Path) (s : State) :
    Frame 0x0080a09c s (andThen (execSessionPathLost path) s) := by
  dsimp only [andThen, execSessionPathLost]
  split
  split
  refine Frame.step (State.svcClose_frames _ _) rfl ?_
  exact Frame.refl _ _
  exact Frame.refl _ _
  split
  exact Frame.refl _ _
  refine Frame.step (State.sessionCloseOf_frames _ _) rfl ?_
  exact Frame.refl _ _
  exact Frame.refl _ _

theorem execPwrCmdCold_frames (path : Path) (w : Word) (s : State) :
    Frame 0x6064a0c4 s (andThen (execPwrCmdCold path w) s) := by
  dsimp only [andThen, execPwrCmdCold]
  refine Frame.step (State.pwrCommand_frames _ _ _ _) rfl ?_
  exact Frame.refl _ _

theorem State.domainOff_frames (d : Nat) (s : State) :
    Frame 0x05e2a0c4 s (State.domainOff d s) := by
  unfold State.domainOff
  split
  refine Frame.step (State.setFlag_frames _ _ _) rfl ?_
  exact Frame.refl _ _
  split
  refine Frame.step (State.mdlSuspend_frames _) rfl ?_
  refine Frame.step (State.setFlag_frames _ _ _) rfl ?_
  exact Frame.refl _ _
  split
  refine Frame.step (State.millraceDown_frames _) rfl ?_
  refine Frame.step (State.setFlag_frames _ _ _) rfl ?_
  exact Frame.refl _ _
  split
  refine Frame.step (State.setFlag_frames _ _ _) rfl ?_
  refine Frame.step (State.linkDown_frames _ _) rfl ?_
  refine Frame.step (State.linkDown_frames _ _) rfl ?_
  exact Frame.refl _ _
  dsimp only
  refine Frame.step (State.setFlag_frames _ _ _) rfl ?_
  split
  refine Frame.step (State.linkLost_frames _) rfl ?_
  exact Frame.refl _ _
  exact Frame.refl _ _

theorem fwRefused_frames (code : Nat) (s : State) :
    Frame 0x00000084 s (fwRefused code s).1 := by
  unfold fwRefused
  dsimp only
  refine Frame.step (State.note_frames _ _ _ _) rfl ?_
  exact Frame.refl _ _

theorem State.fwLive_frames (x : CmdCtx) (mask : Nat) (i : FwImage) (s : State) :
    Frame 0x60000084 s (State.fwLive x mask i s).1 := by
  unfold State.fwLive
  split
  dsimp only
  exact Frame.refl _ _
  split
  refine Frame.step (fwRefused_frames _ _) rfl ?_
  exact Frame.refl _ _
  dsimp only
  split
  dsimp only
  exact Frame.refl _ _
  dsimp only
  refine Frame.step (State.secRegs_frames _) rfl ?_
  refine Frame.step (State.brstRequest_frames _ _) rfl ?_
  refine Frame.set_sec ?_ rfl id id
  exact Frame.refl _ _

theorem State.countsRestart_frames (proc : Nat) (s : State) :
    Frame 0x00000024 s (State.countsRestart proc s) := by
  unfold State.countsRestart
  dsimp only
  refine forEach_frames ?_ ?_
  intro _
  intro _
  refine Frame.step (State.setBit_frames _ _ _ _) rfl ?_
  exact Frame.refl _ _
  refine Frame.set_sys ?_ rfl
  exact Frame.refl _ _

theorem State.powerFailSup_frames (s : State) :
    Frame 0x29e028c4 s (State.powerFailSup s) := by
  unfold State.powerFailSup
  dsimp only
  refine Frame.set_pwr ?_ rfl
  refine Frame.step (State.evlDrain_frames _ _) rfl ?_
  refine forAll_frames ?_ ?_
  intro _
  intro _
  refine Frame.step (State.closeFold_frames _ _) rfl ?_
  exact Frame.refl _ _
  refine Frame.step (State.raise_frames _ _ _ _ _) rfl ?_
  refine Frame.step (State.powerDown_frames _) rfl ?_
  split
  refine Frame.step (State.hoSup_frames _) rfl ?_
  refine Frame.set_tdm ?_ rfl
  exact Frame.refl _ _
  refine Frame.step (State.orderlyOpen_frames _) rfl ?_
  refine Frame.step (State.hoStop_frames _ _) rfl ?_
  exact Frame.refl _ _

theorem State.powerOff_frames (s : State) :
    Frame 0x69e0a9e4 s (State.powerOff s) := by
  unfold State.powerOff
  dsimp only
  refine Frame.set_pwr ?_ rfl
  refine Frame.step (State.setReg_frames _ _ _) rfl ?_
  refine Frame.step (State.coreOff_frames _) rfl ?_
  refine forEach_frames ?_ ?_
  intro _
  intro _
  refine Frame.step (State.bankPowerOff_frames _ _) rfl ?_
  exact Frame.refl _ _
  refine Frame.step (State.dropClaim_frames _ _) rfl ?_
  refine Frame.step (State.imdStop_frames _) rfl ?_
  refine Frame.step (State.sessionAbort_frames _) rfl ?_
  refine Frame.step (State.evlDrain_frames _ _) rfl ?_
  refine Frame.step (State.hopFlush_frames _ _) rfl ?_
  split
  refine Frame.step (State.note_frames _ _ _ _) rfl ?_
  exact Frame.refl _ _
  exact Frame.refl _ _

theorem State.powerFailBegin_frames (s : State) :
    Frame 0x69e0a9e4 s (State.powerFailBegin s) := by
  unfold State.powerFailBegin
  dsimp only
  split
  refine Frame.set_evl_tdm_pwr ?_ rfl
  refine Frame.step (State.setFlag_frames _ _ _) rfl ?_
  exact Frame.refl _ _
  split
  refine Frame.step (State.powerOff_frames _) rfl ?_
  refine Frame.step (State.powerFailSup_frames _) rfl ?_
  refine Frame.set_evl_tdm_pwr ?_ rfl
  refine Frame.step (State.setFlag_frames _ _ _) rfl ?_
  exact Frame.refl _ _
  refine Frame.step (State.powerFailSup_frames _) rfl ?_
  refine Frame.set_evl_tdm_pwr ?_ rfl
  refine Frame.step (State.setFlag_frames _ _ _) rfl ?_
  exact Frame.refl _ _

theorem execWarmResetComplete_frames (estOk : Bool) (s : State) :
    Frame 0x69e3a9e4 s (andThen (execWarmResetComplete estOk) s) := by
  dsimp only [andThen, execWarmResetComplete]
  split
  split
  split
  split
  refine Frame.step (State.powerFailBegin_frames _) rfl ?_
  refine forAll_frames ?_ ?_
  intro _
  intro _
  split
  refine Frame.step (State.note_frames _ _ _ _) rfl ?_
  exact Frame.refl _ _
  refine Frame.step (State.raise_frames _ _ _ _ _) rfl ?_
  exact Frame.refl _ _
  refine Frame.set_sys_pwr ?_ rfl
  refine Frame.step (State.note_frames _ _ _ _) rfl ?_
  refine Frame.step (State.secRegs_frames _) rfl ?_
  refine Frame.step (State.abortDone_frames _) rfl ?_
  refine Frame.step (State.loadThresholds_frames _) rfl ?_
  refine Frame.step (State.loadCommitted_frames _) rfl ?_
  refine Frame.step (State.setFlag_frames _ _ _) rfl ?_
  exact Frame.refl _ _
  refine forAll_frames ?_ ?_
  intro _
  intro _
  split
  refine Frame.step (State.note_frames _ _ _ _) rfl ?_
  exact Frame.refl _ _
  refine Frame.step (State.raise_frames _ _ _ _ _) rfl ?_
  exact Frame.refl _ _
  refine Frame.set_sys_pwr ?_ rfl
  refine Frame.step (State.note_frames _ _ _ _) rfl ?_
  refine Frame.step (State.secRegs_frames _) rfl ?_
  refine Frame.step (State.abortDone_frames _) rfl ?_
  refine Frame.step (State.loadThresholds_frames _) rfl ?_
  refine Frame.step (State.loadCommitted_frames _) rfl ?_
  refine Frame.step (State.setFlag_frames _ _ _) rfl ?_
  exact Frame.refl _ _
  split
  refine Frame.step (State.powerFailBegin_frames _) rfl ?_
  refine forAll_frames ?_ ?_
  intro _
  intro _
  split
  refine Frame.step (State.note_frames _ _ _ _) rfl ?_
  exact Frame.refl _ _
  refine Frame.step (State.raise_frames _ _ _ _ _) rfl ?_
  exact Frame.refl _ _
  refine Frame.set_sys_pwr ?_ rfl
  refine Frame.step (State.note_frames _ _ _ _) rfl ?_
  refine Frame.step (State.secRegs_frames _) rfl ?_
  refine Frame.step (State.abortDone_frames _) rfl ?_
  refine Frame.step (State.loadCommitted_frames _) rfl ?_
  refine Frame.step (State.setFlag_frames _ _ _) rfl ?_
  exact Frame.refl _ _
  refine forAll_frames ?_ ?_
  intro _
  intro _
  split
  refine Frame.step (State.note_frames _ _ _ _) rfl ?_
  exact Frame.refl _ _
  refine Frame.step (State.raise_frames _ _ _ _ _) rfl ?_
  exact Frame.refl _ _
  refine Frame.set_sys_pwr ?_ rfl
  refine Frame.step (State.note_frames _ _ _ _) rfl ?_
  refine Frame.step (State.secRegs_frames _) rfl ?_
  refine Frame.step (State.abortDone_frames _) rfl ?_
  refine Frame.step (State.loadCommitted_frames _) rfl ?_
  refine Frame.step (State.setFlag_frames _ _ _) rfl ?_
  exact Frame.refl _ _
  split
  split
  refine Frame.step (State.powerFailBegin_frames _) rfl ?_
  refine forAll_frames ?_ ?_
  intro _
  intro _
  split
  refine Frame.step (State.note_frames _ _ _ _) rfl ?_
  exact Frame.refl _ _
  refine Frame.step (State.raise_frames _ _ _ _ _) rfl ?_
  exact Frame.refl _ _
  refine Frame.set_sys_pwr ?_ rfl
  refine Frame.step (State.note_frames _ _ _ _) rfl ?_
  refine Frame.step (State.estCleared_frames _) rfl ?_
  refine Frame.step (State.secRegs_frames _) rfl ?_
  refine Frame.step (State.abortDone_frames _) rfl ?_
  refine Frame.step (State.loadThresholds_frames _) rfl ?_
  refine Frame.step (State.loadCommitted_frames _) rfl ?_
  refine Frame.step (State.setFlag_frames _ _ _) rfl ?_
  exact Frame.refl _ _
  refine forAll_frames ?_ ?_
  intro _
  intro _
  split
  refine Frame.step (State.note_frames _ _ _ _) rfl ?_
  exact Frame.refl _ _
  refine Frame.step (State.raise_frames _ _ _ _ _) rfl ?_
  exact Frame.refl _ _
  refine Frame.set_sys_pwr ?_ rfl
  refine Frame.step (State.note_frames _ _ _ _) rfl ?_
  refine Frame.step (State.estCleared_frames _) rfl ?_
  refine Frame.step (State.secRegs_frames _) rfl ?_
  refine Frame.step (State.abortDone_frames _) rfl ?_
  refine Frame.step (State.loadThresholds_frames _) rfl ?_
  refine Frame.step (State.loadCommitted_frames _) rfl ?_
  refine Frame.step (State.setFlag_frames _ _ _) rfl ?_
  exact Frame.refl _ _
  split
  refine Frame.step (State.powerFailBegin_frames _) rfl ?_
  refine forAll_frames ?_ ?_
  intro _
  intro _
  split
  refine Frame.step (State.note_frames _ _ _ _) rfl ?_
  exact Frame.refl _ _
  refine Frame.step (State.raise_frames _ _ _ _ _) rfl ?_
  exact Frame.refl _ _
  refine Frame.set_sys_pwr ?_ rfl
  refine Frame.step (State.note_frames _ _ _ _) rfl ?_
  refine Frame.step (State.estCleared_frames _) rfl ?_
  refine Frame.step (State.secRegs_frames _) rfl ?_
  refine Frame.step (State.abortDone_frames _) rfl ?_
  refine Frame.step (State.loadCommitted_frames _) rfl ?_
  refine Frame.step (State.setFlag_frames _ _ _) rfl ?_
  exact Frame.refl _ _
  refine forAll_frames ?_ ?_
  intro _
  intro _
  split
  refine Frame.step (State.note_frames _ _ _ _) rfl ?_
  exact Frame.refl _ _
  refine Frame.step (State.raise_frames _ _ _ _ _) rfl ?_
  exact Frame.refl _ _
  refine Frame.set_sys_pwr ?_ rfl
  refine Frame.step (State.note_frames _ _ _ _) rfl ?_
  refine Frame.step (State.estCleared_frames _) rfl ?_
  refine Frame.step (State.secRegs_frames _) rfl ?_
  refine Frame.step (State.abortDone_frames _) rfl ?_
  refine Frame.step (State.loadCommitted_frames _) rfl ?_
  refine Frame.step (State.setFlag_frames _ _ _) rfl ?_
  exact Frame.refl _ _
  exact Frame.refl _ _

theorem State.powerFailStrike_frames (s : State) :
    Frame 0x69e6a9e4 s (State.powerFailStrike s) := by
  unfold State.powerFailStrike
  dsimp only
  split
  exact Frame.refl _ _
  split
  split
  split
  refine Frame.step (State.powerOff_frames _) rfl ?_
  refine Frame.set_bal ?_ rfl
  exact Frame.refl _ _
  refine Frame.set_bal ?_ rfl
  exact Frame.refl _ _
  split
  refine Frame.step (State.powerOff_frames _) rfl ?_
  exact Frame.refl _ _
  exact Frame.refl _ _
  split
  split
  refine Frame.step (State.powerOff_frames _) rfl ?_
  refine Frame.set_bal ?_ rfl
  refine Frame.set_pwr ?_ rfl
  refine Frame.step (State.closeShort_frames _) rfl ?_
  refine Frame.step (State.mdlSuspend_frames _) rfl ?_
  refine Frame.step (State.setFlag_frames _ _ _) rfl ?_
  exact Frame.refl _ _
  refine Frame.set_bal ?_ rfl
  refine Frame.set_pwr ?_ rfl
  refine Frame.step (State.closeShort_frames _) rfl ?_
  refine Frame.step (State.mdlSuspend_frames _) rfl ?_
  refine Frame.step (State.setFlag_frames _ _ _) rfl ?_
  exact Frame.refl _ _
  split
  refine Frame.step (State.powerOff_frames _) rfl ?_
  refine Frame.set_pwr ?_ rfl
  refine Frame.step (State.closeShort_frames _) rfl ?_
  refine Frame.step (State.mdlSuspend_frames _) rfl ?_
  refine Frame.step (State.setFlag_frames _ _ _) rfl ?_
  exact Frame.refl _ _
  refine Frame.set_pwr ?_ rfl
  refine Frame.step (State.closeShort_frames _) rfl ?_
  refine Frame.step (State.mdlSuspend_frames _) rfl ?_
  refine Frame.step (State.setFlag_frames _ _ _) rfl ?_
  exact Frame.refl _ _

theorem State.pwrStrike_frames (i : StrikeIn) (s : State) :
    Frame 0x69e6abe4 s (State.pwrStrike i s) := by
  unfold State.pwrStrike
  dsimp only
  refine Frame.step (State.powerFailStrike_frames _) rfl ?_
  refine Frame.step (State.setFlag_frames _ _ _) rfl ?_
  refine doIf_frames ?_ ?_
  intro _
  refine Frame.step (State.pwrTurn_frames _) rfl ?_
  refine Frame.step (State.brstRelease_frames _) rfl ?_
  exact Frame.refl _ _
  refine Frame.step (State.supplyStrike_frames _ _) rfl ?_
  split
  refine Frame.step (State.firstStrike_frames _) rfl ?_
  exact Frame.refl _ _
  exact Frame.refl _ _

theorem execBlockResetTimeout_frames (k : Nat) (s : State) :
    Frame 0x7fe260c4 s (andThen (execBlockResetTimeout k) s) := by
  dsimp only [andThen, execBlockResetTimeout]
  split
  split
  refine Frame.step (State.note_frames _ _ _ _) rfl ?_
  refine Frame.step (State.blockReset_frames _ _ _) rfl ?_
  exact Frame.refl _ _
  exact Frame.refl _ _
  exact Frame.refl _ _

theorem State.pwrSup_frames (s : State) :
    Frame 0x69e4a8c4 s (State.pwrSup s) := by
  unfold State.pwrSup
  dsimp only
  split
  refine Frame.step (State.powerFailSup_frames _) rfl ?_
  refine foldl_frames ?_ ?_
  intro _
  intro _
  refine Frame.step (State.pwrTake_frames _ _ _) rfl ?_
  exact Frame.refl _ _
  refine Frame.set_pwr ?_ rfl
  exact Frame.refl _ _
  refine foldl_frames ?_ ?_
  intro _
  intro _
  refine Frame.step (State.pwrTake_frames _ _ _) rfl ?_
  exact Frame.refl _ _
  refine Frame.set_pwr ?_ rfl
  exact Frame.refl _ _

theorem execDebugPresenceLost_frames (s : State) :
    Frame 0x60000084 s (andThen execDebugPresenceLost s) := by
  dsimp only [andThen, execDebugPresenceLost]
  split
  refine Frame.step (State.dbgEnd_frames _) rfl ?_
  exact Frame.refl _ _
  exact Frame.refl _ _

theorem execLcService_frames (path : Path) (w : Word) (s : State) :
    Frame 0x6160a8c4 s (andThen (execLcService path w) s) := by
  dsimp only [andThen, execLcService]
  refine Frame.step (State.lcWrite_frames _ _ _ _) rfl ?_
  exact Frame.refl _ _

theorem State.fwWhole_frames (i : FwImage) (s : State) :
    Frame 0x60000084 s (State.fwWhole i s).1 := by
  unfold State.fwWhole
  split
  dsimp only
  exact Frame.refl _ _
  split
  dsimp only
  exact Frame.refl _ _
  dsimp only
  refine Frame.step (State.secRegs_frames _) rfl ?_
  split
  refine Frame.set_sec ?_ rfl id id
  split
  refine Frame.step (State.setReg_frames _ _ _) rfl ?_
  refine Frame.step (State.fwSwitch_frames _) rfl ?_
  exact Frame.refl _ _
  refine Frame.step (State.fwSwitch_frames _) rfl ?_
  exact Frame.refl _ _
  refine Frame.set_pwr ?_ rfl
  split
  refine Frame.step (State.setReg_frames _ _ _) rfl ?_
  refine Frame.step (State.fwSwitch_frames _) rfl ?_
  exact Frame.refl _ _
  refine Frame.step (State.fwSwitch_frames _) rfl ?_
  exact Frame.refl _ _

theorem State.strapLatch_frames (ohms : Nat) (s : State) :
    Frame 0x20000004 s (State.strapLatch ohms s) := by
  unfold State.strapLatch
  dsimp only
  refine Frame.step (State.setFields_frames _ _) rfl ?_
  refine Frame.set_pwr ?_ rfl
  exact Frame.refl _ _

theorem execServiceTimeout_frames (s : State) : Frame 0x6040a884 s (andThen execServiceTimeout s) := by
  dsimp only [andThen, execServiceTimeout]
  split
  · rename_i h
    simp only [Bool.and_eq_true, beq_iff_eq] at h
    exact Frame.step (State.setLifecycle_frames _ _ (fun x => by rw [h.1.1] at x; cases x.1)) rfl (Frame.refl _ _)
  · exact Frame.refl _ _

theorem execPwrCmdWarm_frames (path : Path) (w : Word) (s : State) :
    Frame 0x6064a0c4 s (andThen (execPwrCmdWarm path w) s) := by
  dsimp only [andThen, execPwrCmdWarm]
  refine Frame.step (State.pwrCommand_frames _ _ _ _) rfl ?_
  exact Frame.refl _ _

theorem execStartTimeout_frames (s : State) :
    Frame 0x616229c4 s (andThen execStartTimeout s) := by
  dsimp only [andThen, execStartTimeout]
  split
  split
  refine Frame.step (State.enterBrake_frames _) rfl ?_
  refine Frame.step (State.raise_frames _ _ _ _ _) rfl ?_
  refine Frame.step (State.setReg_frames _ _ _) rfl ?_
  refine Frame.step (State.raise_frames _ _ _ _ _) rfl ?_
  exact Frame.refl _ _
  refine Frame.set_pwr ?_ rfl
  refine Frame.step (State.setReg_frames _ _ _) rfl ?_
  refine Frame.step (State.raise_frames _ _ _ _ _) rfl ?_
  exact Frame.refl _ _
  exact Frame.refl _ _

theorem execAonSupplyLoss_frames (low : Bool) (s : State) :
    Frame 0x24000000 s (andThen (execAonSupplyLoss low) s) := by
  dsimp only [andThen, execAonSupplyLoss]
  split
  refine Frame.set_tim_pwr ?_ rfl
  exact Frame.refl _ _
  exact Frame.refl _ _

theorem execDebugLockoutEnd_frames (s : State) :
    Frame 0x40000004 s (andThen execDebugLockoutEnd s) := by
  dsimp only [andThen, execDebugLockoutEnd]
  split
  refine Frame.step (State.secRegs_frames _) rfl ?_
  refine Frame.set_sec ?_ rfl id id
  exact Frame.refl _ _
  exact Frame.refl _ _

theorem execWarmReset_frames (s : State) :
    Frame 0x61faa0e4 s (andThen execWarmReset s) := by
  dsimp only [andThen, execWarmReset]
  split
  refine Frame.step (State.warmBegin_frames _ _) rfl ?_
  exact Frame.refl _ _
  exact Frame.refl _ _

theorem execTlsConnect_frames (c : TlsIn) (s : State) :
    Frame 0x01e020c4 s (andThen (execTlsConnect c) s) := by
  dsimp only [andThen, execTlsConnect]
  split
  split
  refine Frame.step (State.raisePaced_frames _ _ _ _ _ _) rfl ?_
  refine Frame.step (State.addSat_frames _ _ _) rfl ?_
  exact Frame.refl _ _
  refine Frame.step (State.svcRegs_frames _) rfl ?_
  refine Frame.set_hif ?_ rfl
  exact Frame.refl _ _
  exact Frame.refl _ _

theorem execPwrCmdTrim_frames (path : Path) (w : Word) (s : State) :
    Frame 0x6064a0c4 s (andThen (execPwrCmdTrim path w) s) := by
  dsimp only [andThen, execPwrCmdTrim]
  refine Frame.step (State.pwrCommand_frames _ _ _ _) rfl ?_
  exact Frame.refl _ _

theorem execNewPartRunning_frames (k : Nat) (s : State) :
    Frame 0x63e020c6 s (andThen (execNewPartRunning k) s) := by
  dsimp only [andThen, execNewPartRunning]
  split
  exact Frame.refl _ _
  split
  exact Frame.refl _ _
  split
  split
  refine Frame.step (State.brstRequest_frames _ _) rfl ?_
  refine Frame.set_sec ?_ rfl id id
  exact Frame.refl _ _
  split
  refine Frame.step (State.complete_frames _ _ _) rfl ?_
  refine Frame.step (State.secRegs_frames _) rfl ?_
  refine Frame.set_sec ?_ rfl id id
  refine Frame.step (State.fwSwitch_frames _) rfl ?_
  refine Frame.set_sec ?_ rfl id id
  refine Frame.step (State.quiet_frames _) rfl ?_
  exact Frame.refl _ _
  exact Frame.refl _ _
  exact Frame.refl _ _

theorem execLiveUpdateTimeout_frames (s : State) :
    Frame 0x63e020c6 s (andThen execLiveUpdateTimeout s) := by
  dsimp only [andThen, execLiveUpdateTimeout]
  split
  exact Frame.refl _ _
  split
  split
  refine Frame.step (State.complete_frames _ _ _) rfl ?_
  refine Frame.step (State.raise_frames _ _ _ _ _) rfl ?_
  refine Frame.step (State.liveRevert_frames _) rfl ?_
  refine Frame.step (State.quiet_frames _) rfl ?_
  exact Frame.refl _ _
  exact Frame.refl _ _
  exact Frame.refl _ _

theorem execDomainSupplyFault_frames (d : Nat) (bad : Bool) (s : State) :
    Frame 0x05e2a1c4 s (andThen (execDomainSupplyFault d bad) s) := by
  dsimp only [andThen, execDomainSupplyFault]
  split
  split
  refine Frame.step (State.updBank_frames _ _ _) rfl ?_
  refine Frame.step (State.level_frames _ _ _ _ _ _) rfl ?_
  exact Frame.refl _ _
  exact Frame.refl _ _
  split
  split
  refine Frame.step (State.level_frames _ _ _ _ _ _) rfl ?_
  exact Frame.refl _ _
  exact Frame.refl _ _
  split
  refine Frame.step (State.raise_frames _ _ _ _ _) rfl ?_
  refine Frame.step (State.domainOff_frames _ _) rfl ?_
  exact Frame.refl _ _
  exact Frame.refl _ _

theorem execWake_frames (key : Bool) (level : Bool) (s : State) :
    Frame 0x20000004 s (andThen (execWake key level) s) := by
  dsimp only [andThen, execWake]
  split
  split
  refine Frame.set_pwr ?_ rfl
  refine Frame.step (State.setFlag_frames _ _ _) rfl ?_
  exact Frame.refl _ _
  refine Frame.step (State.setFlag_frames _ _ _) rfl ?_
  exact Frame.refl _ _
  split
  refine Frame.set_pwr ?_ rfl
  refine Frame.step (State.setFlag_frames _ _ _) rfl ?_
  exact Frame.refl _ _
  refine Frame.step (State.setFlag_frames _ _ _) rfl ?_
  exact Frame.refl _ _

theorem State.beginStart_frames (cause : Nat) (s : State) :
    Frame 0x00000004 s (State.beginStart cause s) := by
  unfold State.beginStart
  refine Frame.step (State.secRegs_frames _) rfl ?_
  refine Frame.step (State.saRegs_frames _) rfl ?_
  refine Frame.step (State.clogRegs_frames _) rfl ?_
  refine Frame.step (State.evlRegs_frames _) rfl ?_
  refine Frame.step (State.addSat_frames _ _ _) rfl ?_
  refine Frame.step (State.setFields_frames _ _) rfl ?_
  exact Frame.refl _ _

theorem execCoilSupplyLow_frames (s : State) :
    Frame 0x016020c4 s (andThen execCoilSupplyLow s) := by
  dsimp only [andThen, execCoilSupplyLow]
  split
  refine Frame.step (State.raiseLevel_frames _ _ _ _ _) rfl ?_
  exact Frame.refl _ _
  exact Frame.refl _ _

theorem execServiceRegRead_frames (conn : Nat) (msg : List Nat) (s : State) :
    Frame 0x1680a09e s (andThen (execServiceRegRead conn msg) s) := by
  dsimp only [andThen, execServiceRegRead]
  refine State.onMessage_frames ?_ ?_ rfl
  intro _
  intro _
  refine Frame.step (State.regResult_frames _ _ _ _ _ _) rfl ?_
  refine Frame.step (State.regRead_frames _ _ _) rfl ?_
  exact Frame.refl _ _
  exact Frame.refl _ _

theorem execStandstillEntry_frames (relays : Nat) (s : State) :
    Frame 0x09e0a9e4 s (andThen (execStandstillEntry relays) s) := by
  dsimp only [andThen, execStandstillEntry]
  split
  refine Frame.set_hif ?_ rfl
  refine Frame.step (State.setReg_frames _ _ _) rfl ?_
  refine Frame.step (State.coreOff_frames _) rfl ?_
  refine forEach_frames ?_ ?_
  intro _
  intro _
  refine Frame.step (State.bankPowerOff_frames _ _) rfl ?_
  exact Frame.refl _ _
  refine Frame.step (State.evlDrain_frames _ _) rfl ?_
  refine forEach_frames ?_ ?_
  intro _
  intro _
  refine Frame.step (State.raise_frames _ _ _ _ _) rfl ?_
  exact Frame.refl _ _
  refine Frame.step (State.dropClaim_frames _ _) rfl ?_
  refine Frame.step (State.hopFlush_frames _ _) rfl ?_
  refine Frame.step (State.evlDrain_frames _ _) rfl ?_
  refine Frame.step (State.imdStop_frames _) rfl ?_
  refine Frame.step (State.note_frames _ _ _ _) rfl ?_
  refine Frame.step (State.powerDown_frames _) rfl ?_
  exact Frame.refl _ _
  exact Frame.refl _ _

theorem execPwrCmdRetry_frames (path : Path) (w : Word) (s : State) :
    Frame 0x6064a0c4 s (andThen (execPwrCmdRetry path w) s) := by
  dsimp only [andThen, execPwrCmdRetry]
  refine Frame.step (State.pwrCommand_frames _ _ _ _) rfl ?_
  exact Frame.refl _ _

theorem execHoldupTest_frames (tenths : Nat) (s : State) :
    Frame 0x216020c4 s (andThen (execHoldupTest tenths) s) := by
  dsimp only [andThen, execHoldupTest]
  split
  refine Frame.step (State.level_frames _ _ _ _ _ _) rfl ?_
  refine Frame.step (State.setFields_frames _ _) rfl ?_
  refine Frame.set_pwr ?_ rfl
  exact Frame.refl _ _
  exact Frame.refl _ _

theorem execDebugRunControl_frames (proc : Nat) (kind : Nat) (taken : Nat) (s : State) :
    Frame 0x40000024 s (andThen (execDebugRunControl proc kind taken) s) := by
  dsimp only [andThen, execDebugRunControl]
  split
  split
  refine Frame.set_sec ?_ rfl id id
  exact Frame.refl _ _
  refine Frame.step (State.secRegs_frames _) rfl ?_
  split
  refine Frame.step (State.countsRestart_frames _ _) rfl ?_
  refine Frame.set_sec ?_ rfl id id
  exact Frame.refl _ _
  refine Frame.set_sec ?_ rfl id id
  exact Frame.refl _ _
  exact Frame.refl _ _

theorem State.wiped_frames (cold cycle : Bool) (s0 : State) : Frame 0x7ffffffc s0 (s0.wiped cold cycle) := by
  have h := State.sessionAbort_frames s0
  constructor
  case pending => exact h.pending
  case free => exact fun _ => h.free rfl
  case ramWf => exact fun _ => rfl
  case weld => exact fun _ => h.weld rfl
  case dead => exact fun x => ⟨(h.dead x).1, rfl⟩
  case calm => exact fun _ _ => rfl
  all_goals exact fun x => absurd x (by decide)

theorem execColdReset_frames (ohms : Nat) (s : State) :
    Frame 0x7ffffffe s (andThen (execColdReset ohms) s) := by
  dsimp only [andThen, execColdReset]
  split
  exact Frame.refl _ _
  split
  refine Frame.step (State.beginStart_frames _ _) rfl ?_
  refine Frame.set_pwr ?_ rfl
  refine Frame.step (State.strapLatch_frames _ _) rfl ?_
  refine Frame.step (State.wiped_frames _ _ _) rfl ?_
  exact Frame.refl _ _
  split
  refine Frame.step (State.took_frames _) rfl ?_
  refine Frame.step (State.beginStart_frames _ _) rfl ?_
  refine Frame.set_pwr ?_ rfl
  refine Frame.step (State.strapLatch_frames _ _) rfl ?_
  refine Frame.step (State.wiped_frames _ _ _) rfl ?_
  exact Frame.refl _ _
  exact Frame.refl _ _

theorem execRegisterWrite_frames (path : Path) (off : Nat) (size : Nat) (w : BitVec 64) (s : State) :
    Frame 0x7ffca9d6 s (andThen (execRegisterWrite path off size w) s) := by
  dsimp only [andThen, execRegisterWrite]
  split
  split
  refine Frame.step (State.pathWrite_frames _ _ _ _) rfl ?_
  refine Frame.step (State.quiet_frames _) rfl ?_
  exact Frame.refl _ _
  split
  refine Frame.step (State.pathWrite_frames _ _ _ _) rfl ?_
  refine Frame.step (State.pathWrite_frames _ _ _ _) rfl ?_
  refine Frame.step (State.quiet_frames _) rfl ?_
  exact Frame.refl _ _
  refine Frame.step (State.hifFault_frames _ _ _ _) rfl ?_
  exact Frame.refl _ _
  exact Frame.refl _ _

theorem State.fwStageRun_frames (x : CmdCtx) (l : List Nat) (s : State) :
    Frame 0x40000084 s (State.fwStageRun x l s).1 := by
  unfold State.fwStageRun
  dsimp only
  split
  refine Frame.step (fwRefused_frames _ _) rfl ?_
  exact Frame.refl _ _
  dsimp only
  refine Frame.step (State.secRegs_frames _) rfl ?_
  refine Frame.set_sec ?_ rfl id id
  exact Frame.refl _ _

theorem execServiceIdleClose_frames (conn : Nat) (s : State) :
    Frame 0x0080a09c s (andThen (execServiceIdleClose conn) s) := by
  dsimp only [andThen, execServiceIdleClose]
  split
  split
  refine Frame.step (State.svcClose_frames _ _) rfl ?_
  exact Frame.refl _ _
  exact Frame.refl _ _
  exact Frame.refl _ _

theorem execPowerOnReset_frames (cycle : Bool) (ohms : Nat) (s : State) :
    Frame 0x7ffffffc s (andThen (execPowerOnReset cycle ohms) s) := by
  have h1 : Frame 0x7ffffffc s ((s.wiped false cycle).strapLatch ohms) :=
    Frame.step (State.strapLatch_frames _ _) rfl (Frame.step (State.wiped_frames _ _ _) rfl (Frame.refl _ _))
  have h2 : ((s.wiped false cycle).strapLatch ohms).sec.lc = s.sec.lc := by
    have h3 : s.sessionAbort.sec.lc = s.sec.lc := by unfold State.sessionAbort; dsimp only; split <;> rfl
    have h4 := (State.strapLatch_frames ohms (s.wiped false cycle)).sec rfl
    rw [h4]
    exact h3
  dsimp only [andThen, execPowerOnReset]
  generalize (s.wiped false cycle).strapLatch ohms = t at h1 h2
  split
  · refine Frame.step (State.beginStart_frames _ _) rfl (Frame.set_sys_pwr_sec h1 rfl (fun x => ⟨?_, x.2⟩) (fun hx x => hx (h2.trans ?_)))
    · have h4 : s.sec.lc = 4 := h2 ▸ x.1
      show (if s.sec.lc = lcService then lcField else s.sec.lc) = 4
      rw [h4]; rfl
    · by_contra hn
      have x' : (if s.sec.lc = lcService then lcField else s.sec.lc) = 4 := x
      split at x'
      · exact absurd x' (by decide)
      · exact hn x'
  · exact Frame.refl _ _

theorem execLcRetired_frames (path : Path) (w : Word) (s : State) :
    Frame 0x6160a8c4 s (andThen (execLcRetired path w) s) := by
  dsimp only [andThen, execLcRetired]
  refine Frame.step (State.lcWrite_frames _ _ _ _) rfl ?_
  exact Frame.refl _ _

theorem execDieHoldRelease_frames (hottest : ℤ) (s : State) :
    Frame 0x20000020 s (andThen (execDieHoldRelease hottest) s) := by
  dsimp only [andThen, execDieHoldRelease]
  split
  refine Frame.set_sys_pwr ?_ rfl
  exact Frame.refl _ _
  exact Frame.refl _ _

theorem execBlockReset_frames (path : Path) (w : Word) (s : State) :
    Frame 0x20000004 s (andThen (execBlockReset path w) s) := by
  dsimp only [andThen, execBlockReset]
  split
  refine Frame.step (State.brstWrite_frames _ _) rfl ?_
  exact Frame.refl _ _
  exact Frame.refl _ _

theorem execPwrCmdRun_frames (path : Path) (w : Word) (s : State) :
    Frame 0x6064a0c4 s (andThen (execPwrCmdRun path w) s) := by
  dsimp only [andThen, execPwrCmdRun]
  refine Frame.step (State.pwrCommand_frames _ _ _ _) rfl ?_
  exact Frame.refl _ _

theorem execLoReadLatch_frames (path : Path) (off : Nat) (s : State) :
    Frame 0x1400009e s (andThen (execLoReadLatch path off) s) := by
  dsimp only [andThen, execLoReadLatch]
  split
  refine Frame.step (State.regRead_frames _ _ _) rfl ?_
  exact Frame.refl _ _
  exact Frame.refl _ _

theorem execPowerFail_frames (s : State) :
    Frame 0x69e0a9e4 s (andThen execPowerFail s) := by
  dsimp only [andThen, execPowerFail]
  split
  exact Frame.refl _ _
  split
  refine Frame.set_tdm_pwr ?_ rfl
  exact Frame.refl _ _
  refine Frame.step (State.powerFailBegin_frames _) rfl ?_
  exact Frame.refl _ _

theorem cmdFwStage_frames (x : CmdCtx) (s : State) : Frame 0x416020c4 s (cmdFwStage.run x s).1 := by
  dsimp only [cmdFwStage]
  split
  dsimp only
  exact Frame.refl _ _
  split
  refine Frame.step (fwRefused_frames _ _) rfl ?_
  exact Frame.refl _ _
  split
  dsimp only
  exact Frame.refl _ _
  refine CmdCtx.read_frames ?_ ?_ rfl
  intro _
  refine Frame.step (State.fwStageRun_frames _ _ _) rfl ?_
  exact Frame.refl _ _
  exact Frame.refl _ _

theorem cmdFwActivate_frames (x : CmdCtx) (s : State) : Frame 0x60000084 s (cmdFwActivate.run x s).1 := by
  dsimp only [cmdFwActivate]
  split
  dsimp only
  exact Frame.refl _ _
  split
  dsimp only
  exact Frame.refl _ _
  split
  split
  refine Frame.step (fwRefused_frames _ _) rfl ?_
  exact Frame.refl _ _
  refine Frame.step (fwRefused_frames _ _) rfl ?_
  exact Frame.refl _ _
  split
  refine Frame.step (State.fwWhole_frames _ _) rfl ?_
  exact Frame.refl _ _
  refine Frame.step (State.fwLive_frames _ _ _ _) rfl ?_
  exact Frame.refl _ _

theorem catalogue_frames : ∀ k ∈ catalogue, k.opc ≠ 0x53 → ∀ (x : CmdCtx) (s : State), Frame 0x63fba0c6 s (k.run x s).1 := by
  unfold catalogue
  refine List.forall_mem_cons.2 ⟨fun _ x s => Frame.step (cmdNop_frames x s) rfl (Frame.refl _ _), ?_⟩
  refine List.forall_mem_cons.2 ⟨fun _ x s => Frame.step (cmdSetpoint_frames x s) rfl (Frame.refl _ _), ?_⟩
  refine List.forall_mem_cons.2 ⟨fun _ x s => Frame.step (cmdHostInput_frames x s) rfl (Frame.refl _ _), ?_⟩
  refine List.forall_mem_cons.2 ⟨fun _ x s => Frame.step (cmdCapture_frames x s) rfl (Frame.refl _ _), ?_⟩
  refine List.forall_mem_cons.2 ⟨fun _ x s => Frame.step (cmdSnapCert_frames x s) rfl (Frame.refl _ _), ?_⟩
  refine List.forall_mem_cons.2 ⟨fun _ x s => Frame.step (cmdSnapModel_frames x s) rfl (Frame.refl _ _), ?_⟩
  refine List.forall_mem_cons.2 ⟨fun _ x s => Frame.step (cmdRestoreCert_frames x s) rfl (Frame.refl _ _), ?_⟩
  refine List.forall_mem_cons.2 ⟨fun _ x s => Frame.step (cmdRestoreModel_frames x s) rfl (Frame.refl _ _), ?_⟩
  refine List.forall_mem_cons.2 ⟨fun _ x s => Frame.step (cmdModelStart_frames x s) rfl (Frame.refl _ _), ?_⟩
  refine List.forall_mem_cons.2 ⟨fun _ x s => Frame.step (cmdConnect_frames x s) rfl (Frame.refl _ _), ?_⟩
  refine List.forall_mem_cons.2 ⟨fun _ x s => Frame.step (cmdOpen_frames x s) rfl (Frame.refl _ _), ?_⟩
  refine List.forall_mem_cons.2 ⟨fun _ x s => Frame.step (cmdReset_frames x s) rfl (Frame.refl _ _), ?_⟩
  refine List.forall_mem_cons.2 ⟨fun _ x s => Frame.step (cmdSessionOpen_frames x s) rfl (Frame.refl _ _), ?_⟩
  refine List.forall_mem_cons.2 ⟨fun _ x s => Frame.step (cmdSessionClose_frames x s) rfl (Frame.refl _ _), ?_⟩
  refine List.forall_mem_cons.2 ⟨fun _ x s => Frame.step (cmdPasswordSet_frames x s) rfl (Frame.refl _ _), ?_⟩
  refine List.forall_mem_cons.2 ⟨fun _ x s => Frame.step (cmdKeySet_frames x s) rfl (Frame.refl _ _), ?_⟩
  refine List.forall_mem_cons.2 ⟨fun h => absurd rfl h, ?_⟩
  refine List.forall_mem_cons.2 ⟨fun _ x s => Frame.step (cmdClogRoll_frames x s) rfl (Frame.refl _ _), ?_⟩
  refine List.forall_mem_cons.2 ⟨fun _ x s => Frame.step (cmdTableLoad_frames x s) rfl (Frame.refl _ _), ?_⟩
  refine List.forall_mem_cons.2 ⟨fun _ x s => Frame.step (cmdCellRefresh_frames x s) rfl (Frame.refl _ _), ?_⟩
  refine List.forall_mem_cons.2 ⟨fun _ x s => Frame.step (cmdEvlogMark_frames x s) rfl (Frame.refl _ _), ?_⟩
  refine List.forall_mem_cons.2 ⟨fun _ x s => Frame.step (cmdEvlogFreeze_frames x s) rfl (Frame.refl _ _), ?_⟩
  refine List.forall_mem_cons.2 ⟨fun _ x s => Frame.step (cmdEvlogRelease_frames x s) rfl (Frame.refl _ _), ?_⟩
  refine List.forall_mem_cons.2 ⟨fun _ x s => Frame.step (cmdFlumeOpen_frames x s) rfl (Frame.refl _ _), ?_⟩
  refine List.forall_mem_cons.2 ⟨fun _ x s => Frame.step (cmdFlumeClose_frames x s) rfl (Frame.refl _ _), ?_⟩
  refine List.forall_mem_cons.2 ⟨fun _ x s => Frame.step (cmdFlumeStat_frames x s) rfl (Frame.refl _ _), ?_⟩
  refine List.forall_mem_cons.2 ⟨fun _ x s => Frame.step (cmdHopEject_frames x s) rfl (Frame.refl _ _), ?_⟩
  refine List.forall_mem_cons.2 ⟨fun _ x s => Frame.step (cmdHopAdmit_frames x s) rfl (Frame.refl _ _), ?_⟩
  refine List.forall_mem_cons.2 ⟨fun _ x s => Frame.step (cmdEvlogClear_frames x s) rfl (Frame.refl _ _), ?_⟩
  refine List.forall_mem_cons.2 ⟨fun _ x s => Frame.step (cmdFwStage_frames x s) rfl (Frame.refl _ _), ?_⟩
  refine List.forall_mem_cons.2 ⟨fun _ x s => Frame.step (cmdFwActivate_frames x s) rfl (Frame.refl _ _), ?_⟩
  exact fun _ h => absurd h (List.not_mem_nil)

theorem catalogue_frames_weld : ∀ k ∈ catalogue, ∀ (x : CmdCtx) (s : State), Frame 0xe3fba0c6 s (k.run x s).1 := by
  unfold catalogue
  refine List.forall_mem_cons.2 ⟨fun x s => Frame.step (cmdNop_frames x s) rfl (Frame.refl _ _), ?_⟩
  refine List.forall_mem_cons.2 ⟨fun x s => Frame.step (cmdSetpoint_frames x s) rfl (Frame.refl _ _), ?_⟩
  refine List.forall_mem_cons.2 ⟨fun x s => Frame.step (cmdHostInput_frames x s) rfl (Frame.refl _ _), ?_⟩
  refine List.forall_mem_cons.2 ⟨fun x s => Frame.step (cmdCapture_frames x s) rfl (Frame.refl _ _), ?_⟩
  refine List.forall_mem_cons.2 ⟨fun x s => Frame.step (cmdSnapCert_frames x s) rfl (Frame.refl _ _), ?_⟩
  refine List.forall_mem_cons.2 ⟨fun x s => Frame.step (cmdSnapModel_frames x s) rfl (Frame.refl _ _), ?_⟩
  refine List.forall_mem_cons.2 ⟨fun x s => Frame.step (cmdRestoreCert_frames x s) rfl (Frame.refl _ _), ?_⟩
  refine List.forall_mem_cons.2 ⟨fun x s => Frame.step (cmdRestoreModel_frames x s) rfl (Frame.refl _ _), ?_⟩
  refine List.forall_mem_cons.2 ⟨fun x s => Frame.step (cmdModelStart_frames x s) rfl (Frame.refl _ _), ?_⟩
  refine List.forall_mem_cons.2 ⟨fun x s => Frame.step (cmdConnect_frames x s) rfl (Frame.refl _ _), ?_⟩
  refine List.forall_mem_cons.2 ⟨fun x s => Frame.step (cmdOpen_frames x s) rfl (Frame.refl _ _), ?_⟩
  refine List.forall_mem_cons.2 ⟨fun x s => Frame.step (cmdReset_frames x s) rfl (Frame.refl _ _), ?_⟩
  refine List.forall_mem_cons.2 ⟨fun x s => Frame.step (cmdSessionOpen_frames x s) rfl (Frame.refl _ _), ?_⟩
  refine List.forall_mem_cons.2 ⟨fun x s => Frame.step (cmdSessionClose_frames x s) rfl (Frame.refl _ _), ?_⟩
  refine List.forall_mem_cons.2 ⟨fun x s => Frame.step (cmdPasswordSet_frames x s) rfl (Frame.refl _ _), ?_⟩
  refine List.forall_mem_cons.2 ⟨fun x s => Frame.step (cmdKeySet_frames x s) rfl (Frame.refl _ _), ?_⟩
  refine List.forall_mem_cons.2 ⟨fun x s => Frame.step (cmdWeldClear_frames x s) rfl (Frame.refl _ _), ?_⟩
  refine List.forall_mem_cons.2 ⟨fun x s => Frame.step (cmdClogRoll_frames x s) rfl (Frame.refl _ _), ?_⟩
  refine List.forall_mem_cons.2 ⟨fun x s => Frame.step (cmdTableLoad_frames x s) rfl (Frame.refl _ _), ?_⟩
  refine List.forall_mem_cons.2 ⟨fun x s => Frame.step (cmdCellRefresh_frames x s) rfl (Frame.refl _ _), ?_⟩
  refine List.forall_mem_cons.2 ⟨fun x s => Frame.step (cmdEvlogMark_frames x s) rfl (Frame.refl _ _), ?_⟩
  refine List.forall_mem_cons.2 ⟨fun x s => Frame.step (cmdEvlogFreeze_frames x s) rfl (Frame.refl _ _), ?_⟩
  refine List.forall_mem_cons.2 ⟨fun x s => Frame.step (cmdEvlogRelease_frames x s) rfl (Frame.refl _ _), ?_⟩
  refine List.forall_mem_cons.2 ⟨fun x s => Frame.step (cmdFlumeOpen_frames x s) rfl (Frame.refl _ _), ?_⟩
  refine List.forall_mem_cons.2 ⟨fun x s => Frame.step (cmdFlumeClose_frames x s) rfl (Frame.refl _ _), ?_⟩
  refine List.forall_mem_cons.2 ⟨fun x s => Frame.step (cmdFlumeStat_frames x s) rfl (Frame.refl _ _), ?_⟩
  refine List.forall_mem_cons.2 ⟨fun x s => Frame.step (cmdHopEject_frames x s) rfl (Frame.refl _ _), ?_⟩
  refine List.forall_mem_cons.2 ⟨fun x s => Frame.step (cmdHopAdmit_frames x s) rfl (Frame.refl _ _), ?_⟩
  refine List.forall_mem_cons.2 ⟨fun x s => Frame.step (cmdEvlogClear_frames x s) rfl (Frame.refl _ _), ?_⟩
  refine List.forall_mem_cons.2 ⟨fun x s => Frame.step (cmdFwStage_frames x s) rfl (Frame.refl _ _), ?_⟩
  refine List.forall_mem_cons.2 ⟨fun x s => Frame.step (cmdFwActivate_frames x s) rfl (Frame.refl _ _), ?_⟩
  exact fun _ h => absurd h (List.not_mem_nil)

theorem State.svcCommand_frames (c : Nat) (m : List Nat) (s : State) : Frame 0xe3fba0c6 s (s.svcCommand c m) := by
  unfold State.svcCommand
  dsimp only
  split
  · rename_i k hk
    exact State.serve_frames (catalogue_frames_weld _ (List.mem_of_find?_eq_some hk)) rfl _ _
  · exact Frame.step (State.complete_frames _ _ _) rfl (Frame.refl _ _)

theorem execServiceCommand_frames (c : Nat) (m : List Nat) (s : State) : Frame 0xe3fba0de s (andThen (execServiceCommand c m) s) := by
  dsimp only [andThen, execServiceCommand]
  exact State.onMessage_frames (fun s _ => Frame.step (State.svcCommand_frames _ _ _) rfl (Frame.refl _ _)) (Frame.refl _ _) rfl

theorem execFwActivate_frames (c : CmdIn) (s : State) :
    Frame 0x63e020c6 s (andThen (execFwActivate c) s) := by
  dsimp only [andThen, execFwActivate]
  exact State.command_frames (fun x s => Frame.step (cmdFwActivate_frames x s) rfl (Frame.refl _ _)) rfl _ _

theorem execFwStage_frames (c : CmdIn) (s : State) :
    Frame 0x43e020c6 s (andThen (execFwStage c) s) := by
  dsimp only [andThen, execFwStage]
  exact State.command_frames (fun x s => Frame.step (cmdFwStage_frames x s) rfl (Frame.refl _ _)) rfl _ _

end Sys2Proof.Machine
end

