-- ==== Sys2Proof/Laws/FrameTurn.lean ====
section
/-! SUPPORT. Frames of the turn, supervision, the commit and the strike: the parts of the state that each definition may change. -/
namespace Sys2Proof.Machine

theorem State.lcCommit_frames (s : State) : Frame 0x6040a884 s s.lcCommit := by
  unfold State.lcCommit
  split
  · exact Frame.refl _ _
  · rename_i n hn
    have hd : ¬ (s.sec.lc = 4 ∧ s.sec.lcNext = none) := fun x => by rw [x.2] at hn; cases hn
    split
    · refine Frame.step (State.lcRefused_frames _) rfl ?_
      exact Frame.set_sec (Frame.refl _ _) rfl (fun y => absurd y hd) (fun _ _ => rfl)
    · exact Frame.step (State.setLifecycle_frames _ _ hd) rfl (Frame.refl _ _)

theorem State.strikeCur_frames (c : CurIn) (s : State) :
    Frame 0x016024c4 s (State.strikeCur c s) := by
  unfold State.strikeCur
  dsimp only
  refine Frame.step (State.hwCurrent_frames _ _) rfl ?_
  refine Frame.step (State.curStrikeTail_frames _ _ _) rfl ?_
  refine Frame.step (State.curStrikeHead_frames _ _) rfl ?_
  exact Frame.refl _ _

theorem State.tableCommitted_frames (e : Nat × TableBytes) (s : State) :
    Frame 0x00111004 s (State.tableCommitted e s) := by
  unfold State.tableCommitted
  split
  refine Frame.step (State.beginBuild_frames _ _ _) rfl ?_
  exact Frame.refl _ _
  split
  refine Frame.set_env ?_ rfl
  exact Frame.refl _ _
  refine Frame.set_thm ?_ rfl
  exact Frame.refl _ _

theorem State.partString_frames (s : State) :
    Frame 0x006020c4 s (State.partString s) := by
  unfold State.partString
  split
  refine Frame.step (State.orderlyOpen_frames _) rfl ?_
  refine Frame.step (State.hoStop_frames _ _) rfl ?_
  exact Frame.refl _ _
  exact Frame.refl _ _

theorem State.answer_frames (y : Reply) (r : Req) (s : State) :
    Frame 0x03e020c6 s (State.answer y r s) := by
  unfold State.answer
  split
  refine Frame.step (State.complete_frames _ _ _) rfl ?_
  exact Frame.refl _ _
  exact Frame.refl _ _

theorem State.actOpens_frames (l : List Req) (s : State) :
    Frame 0x03e020c6 s (State.actOpens l s) := by
  unfold State.actOpens
  split
  exact Frame.refl _ _
  dsimp only
  refine forAll_frames ?_ ?_
  intro _
  intro _
  refine Frame.step (State.answer_frames _ _ _) rfl ?_
  exact Frame.refl _ _
  refine Frame.step (State.partString_frames _) rfl ?_
  exact Frame.refl _ _

theorem State.chkLapse_frames (s : State) :
    Frame 0x016020e4 s (State.chkLapse s) := by
  unfold State.chkLapse
  split
  refine Frame.step (State.raise_frames _ _ _ _ _) rfl ?_
  refine Frame.set_sys ?_ rfl
  exact Frame.refl _ _
  exact Frame.refl _ _

theorem State.turnMonitor_frames (turnNs : Nat) (s : State) :
    Frame 0x016020e4 s (State.turnMonitor turnNs s) := by
  unfold State.turnMonitor
  dsimp only
  split
  refine Frame.step (State.raise_frames _ _ _ _ _) rfl ?_
  refine Frame.step (State.setFlag_frames _ _ _) rfl ?_
  refine doIf_frames ?_ ?_
  intro _
  refine Frame.step (State.chkLapse_frames _) rfl ?_
  exact Frame.refl _ _
  refine Frame.set_sys ?_ rfl
  exact Frame.refl _ _
  refine doIf_frames ?_ ?_
  intro _
  refine Frame.step (State.chkLapse_frames _) rfl ?_
  exact Frame.refl _ _
  refine Frame.set_sys ?_ rfl
  exact Frame.refl _ _

theorem State.cellsTurn_frames (s : State) :
    Frame 0x00820000 s (State.cellsTurn s) := by
  unfold State.cellsTurn
  refine Frame.set_mdl_hif ?_ rfl
  exact Frame.refl _ _

theorem State.turnStart_frames (i : StrikeIn) (s : State) :
    Frame 0x01ff68e4 s (State.turnStart i s) := by
  unfold State.turnStart
  dsimp only
  refine Frame.step (State.setReg_frames _ _ _) rfl ?_
  refine Frame.step (State.govLoad_frames _) rfl ?_
  refine Frame.step (State.ageTurn_frames _) rfl ?_
  refine Frame.step (State.loopTurn_frames _) rfl ?_
  refine doIf_frames ?_ ?_
  intro _
  refine Frame.step (State.hopTurnStart_frames _) rfl ?_
  exact Frame.refl _ _
  refine Frame.step (State.envTurnStart_frames _) rfl ?_
  refine Frame.step (State.handoverEnv_frames _) rfl ?_
  refine Frame.step (State.bankCommands_frames _) rfl ?_
  refine Frame.step (State.imdTurn_frames _) rfl ?_
  refine Frame.step (State.blocksBegin_frames _) rfl ?_
  refine Frame.step (State.cellsTurn_frames _) rfl ?_
  refine Frame.step (State.tgTurnStart_frames _) rfl ?_
  refine Frame.step (State.estTurnStart_frames _) rfl ?_
  refine Frame.step (State.sluTurnStart_frames _) rfl ?_
  refine Frame.step (State.minuteStart_frames _) rfl ?_
  refine Frame.step (State.turnMonitor_frames _ _) rfl ?_
  exact Frame.refl _ _

theorem State.strikeUnits_frames (i : StrikeIn) (s : State) :
    Frame 0x0777f5c4 s (State.strikeUnits i s) := by
  unfold State.strikeUnits
  dsimp only
  refine doIf_frames ?_ ?_
  intro _
  refine Frame.step (State.clockSecond_frames _) rfl ?_
  exact Frame.refl _ _
  refine Frame.step (State.netStrike_frames _) rfl ?_
  refine Frame.step (State.ttoStrike_frames _) rfl ?_
  refine Frame.step (State.readyStrike_frames _) rfl ?_
  refine Frame.step (State.loopStrike_frames _ _) rfl ?_
  refine Frame.step (State.envFall_frames _) rfl ?_
  refine Frame.step (State.setpLatch_frames _) rfl ?_
  refine Frame.step (State.lockStrike_frames _) rfl ?_
  refine Frame.step (State.estStrike_frames _ _) rfl ?_
  refine Frame.step (State.sioStrike_frames _ _) rfl ?_
  refine Frame.step (State.sluStrike_frames _ _) rfl ?_
  refine Frame.step (State.thermalStrike_frames _ _) rfl ?_
  exact Frame.refl _ _

theorem State.strikeWrite_frames (i : StrikeIn) (r : StrikeRec) (s : State) :
    Frame 0x017aa0c4 s (State.strikeWrite i r s) := by
  unfold State.strikeWrite
  dsimp only
  refine doIf_frames ?_ ?_
  intro _
  refine Frame.step (State.minuteTurn_frames _) rfl ?_
  exact Frame.refl _ _
  refine Frame.step (State.minuteStrike_frames _ _) rfl ?_
  refine Frame.step (State.governor_frames _ _ _) rfl ?_
  refine Frame.step (State.intake_frames _ _ _ _) rfl ?_
  refine Frame.set_slu ?_ rfl rfl
  exact Frame.refl _ _

theorem State.strikeRest_frames (i : StrikeIn) (words : Tab Nat) (s : State) :
    Frame 0x077ff5c4 s (State.strikeRest i words s) := by
  unfold State.strikeRest
  dsimp only
  refine Frame.step (State.strikeWrite_frames _ _ _) rfl ?_
  refine Frame.step (State.strikeUnits_frames _ _) rfl ?_
  exact Frame.refl _ _

theorem State.missed_frames (task : Nat) (s : State) :
    Frame 0x00000024 s (State.missed task s) := by
  unfold State.missed
  dsimp only
  refine Frame.step (State.setReg_frames _ _ _) rfl ?_
  refine Frame.step (State.setBit_frames _ _ _ _) rfl ?_
  refine Frame.step (State.setBit_frames _ _ _ _) rfl ?_
  refine Frame.set_sys ?_ rfl
  refine Frame.step (State.runNoted_frames _ _) rfl ?_
  exact Frame.refl _ _

theorem State.raiseCls_frames (code : Nat) (cls : Nat) (subj : Nat) (s : State) :
    Frame 0x016020c4 s (State.raiseCls code cls subj s) := by
  unfold State.raiseCls
  split
  refine Frame.step (State.note_frames _ _ _ _) rfl ?_
  exact Frame.refl _ _
  refine Frame.step (State.raise_frames _ _ _ _ _) rfl ?_
  exact Frame.refl _ _

theorem State.missEffect_frames (task : Nat) (s : State) :
    Frame 0x006660e4 s (State.missEffect task s) := by
  unfold State.missEffect
  dsimp only
  split
  split
  refine Frame.step (State.emergencyOpen_frames _ _ _) rfl ?_
  exact Frame.refl _ _
  exact Frame.refl _ _
  refine Frame.step (State.mestMissed_frames _) rfl ?_
  exact Frame.refl _ _
  refine Frame.set_bal ?_ rfl
  exact Frame.refl _ _
  refine Frame.set_tdm ?_ rfl
  exact Frame.refl _ _
  refine Frame.set_sys ?_ rfl
  exact Frame.refl _ _
  refine Frame.set_sio ?_ rfl
  exact Frame.refl _ _
  exact Frame.refl _ _

theorem State.taskMiss_frames (task : Nat) (s : State) :
    Frame 0x016660e4 s (State.taskMiss task s) := by
  unfold State.taskMiss
  split
  dsimp only
  refine Frame.step (State.raiseCls_frames _ _ _ _) rfl ?_
  refine Frame.step (State.missEffect_frames _ _) rfl ?_
  refine Frame.step (State.missed_frames _ _) rfl ?_
  exact Frame.refl _ _
  exact Frame.refl _ _

theorem State.turnMiss_frames (task : Nat) (s : State) :
    Frame 0x016660e4 s (State.turnMiss task s) := by
  unfold State.turnMiss
  refine Frame.step (State.taskMiss_frames _ _) rfl ?_
  split
  refine Frame.step (State.taskMiss_frames _ _) rfl ?_
  exact Frame.refl _ _
  exact Frame.refl _ _

theorem State.judge_frames (gone : Bool) (code : Nat) (subj : Nat) (s : State) :
    Frame 0x00000040 s (State.judge gone code subj s) := by
  unfold State.judge
  split
  refine Frame.step (State.goneAt_frames _ _ _) rfl ?_
  exact Frame.refl _ _
  refine Frame.step (State.mapFault_frames _ _ _ _) rfl ?_
  exact Frame.refl _ _

theorem State.positionAbsences_frames (g : Nat) (s : State) :
    Frame 0x00000040 s (State.positionAbsences g s) := by
  unfold State.positionAbsences
  dsimp only
  refine Frame.step (State.judge_frames _ _ _ _) rfl ?_
  refine Frame.step (State.judge_frames _ _ _ _) rfl ?_
  refine Frame.step (State.judge_frames _ _ _ _) rfl ?_
  refine Frame.step (State.judge_frames _ _ _ _) rfl ?_
  refine Frame.step (State.judge_frames _ _ _ _) rfl ?_
  split
  refine Frame.step (State.judge_frames _ _ _ _) rfl ?_
  refine Frame.step (State.judge_frames _ _ _ _) rfl ?_
  refine Frame.step (State.judge_frames _ _ _ _) rfl ?_
  refine Frame.step (State.judge_frames _ _ _ _) rfl ?_
  exact Frame.refl _ _
  exact Frame.refl _ _

theorem State.commitClose_frames (x : Session) (s : State) :
    Frame 0x03e0a0c6 s (State.commitClose x s) := by
  unfold State.commitClose
  dsimp only
  split
  refine Frame.step (State.complete_frames _ _ _) rfl ?_
  refine Frame.step (State.note_frames _ _ _ _) rfl ?_
  refine Frame.step (State.saRegs_frames _) rfl ?_
  refine Frame.step (State.clogWrite_frames _ _) rfl ?_
  refine Frame.set_auth ?_ rfl
  exact Frame.refl _ _
  refine Frame.step (State.note_frames _ _ _ _) rfl ?_
  refine Frame.step (State.saRegs_frames _) rfl ?_
  refine Frame.step (State.clogWrite_frames _ _) rfl ?_
  refine Frame.set_auth ?_ rfl
  exact Frame.refl _ _

theorem State.commitSwitch_frames (c : CommitIn) (x : Session) (s : State) :
    Frame 0x6051b886 s (State.commitSwitch c x s) := by
  unfold State.commitSwitch
  dsimp only
  refine Frame.step (State.lcCommit_frames _) rfl ?_
  refine Frame.step (State.secRegs_frames _) rfl ?_
  refine forAll_frames ?_ ?_
  intro _
  intro _
  refine Frame.step (State.tableCommitted_frames _ _) rfl ?_
  exact Frame.refl _ _
  refine Frame.set_slu_auth_sec ?_ rfl rfl id id
  split
  refine Frame.step (State.took_frames _) rfl ?_
  exact Frame.refl _ _
  exact Frame.refl _ _

theorem execSessionCommitComplete_frames (c : CommitIn) (s : State) :
    Frame 0x63f1b8c6 s (andThen (execSessionCommitComplete c) s) := by
  dsimp only [andThen, execSessionCommitComplete]
  split
  split
  refine Frame.step (State.commitClose_frames _ _) rfl ?_
  refine Frame.step (State.commitSwitch_frames _ _ _) rfl ?_
  exact Frame.refl _ _
  exact Frame.refl _ _
  exact Frame.refl _ _

theorem State.fitMiss_frames (g : Nat) (s : State) :
    Frame 0x016020e4 s (State.fitMiss g s) := by
  unfold State.fitMiss
  dsimp only
  split
  split
  refine Frame.step (State.raiseCls_frames _ _ _ _) rfl ?_
  refine Frame.step (State.setReg_frames _ _ _) rfl ?_
  refine Frame.step (State.setBit_frames _ _ _ _) rfl ?_
  refine Frame.step (State.setBit_frames _ _ _ _) rfl ?_
  refine Frame.set_sys ?_ rfl
  exact Frame.refl _ _
  exact Frame.refl _ _
  split
  split
  refine Frame.step (State.raiseCls_frames _ _ _ _) rfl ?_
  refine Frame.step (State.setReg_frames _ _ _) rfl ?_
  refine Frame.step (State.setBit_frames _ _ _ _) rfl ?_
  refine Frame.step (State.setBit_frames _ _ _ _) rfl ?_
  refine Frame.set_sys ?_ rfl
  exact Frame.refl _ _
  exact Frame.refl _ _
  split
  refine Frame.step (State.raiseCls_frames _ _ _ _) rfl ?_
  refine Frame.step (State.setReg_frames _ _ _) rfl ?_
  refine Frame.step (State.setBit_frames _ _ _ _) rfl ?_
  refine Frame.step (State.setBit_frames _ _ _ _) rfl ?_
  refine Frame.set_sys ?_ rfl
  exact Frame.refl _ _
  exact Frame.refl _ _

theorem State.tempTests_frames (j : Nat) (s : State) :
    Frame 0x00002040 s (State.tempTests j s) := by
  unfold State.tempTests
  dsimp only
  refine Frame.step (State.judge_frames _ _ _ _) rfl ?_
  refine Frame.step (State.judge_frames _ _ _ _) rfl ?_
  refine Frame.step (State.judge_frames _ _ _ _) rfl ?_
  refine Frame.step (State.judge_frames _ _ _ _) rfl ?_
  refine Frame.step (State.judge_frames _ _ _ _) rfl ?_
  refine Frame.step (State.judge_frames _ _ _ _) rfl ?_
  refine Frame.set_slu ?_ rfl rfl
  exact Frame.refl _ _

theorem State.tempSup_frames (j : Nat) (s : State) :
    Frame 0x00002040 s (State.tempSup j s) := by
  unfold State.tempSup
  dsimp only
  split
  refine Frame.step (State.tempTests_frames _ _) rfl ?_
  exact Frame.refl _ _
  exact Frame.refl _ _

theorem State.chkNext_frames (last : Bool) (s : State) :
    Frame 0x00000020 s (State.chkNext last s) := by
  unfold State.chkNext
  dsimp only
  refine Frame.set_sys ?_ rfl
  exact Frame.refl _ _

theorem execChk_frames (r : ChkIn) (s : State) :
    Frame 0x416120e4 s (andThen (execChk r) s) := by
  dsimp only [andThen, execChk]
  split
  refine forAll_frames ?_ ?_
  intro _
  intro _
  refine Frame.step (State.slotBad_frames _ _) rfl ?_
  exact Frame.refl _ _
  split
  refine Frame.step (State.setReg_frames _ _ _) rfl ?_
  refine Frame.set_sec ?_ rfl id id
  refine Frame.step (State.chkNext_frames _ _) rfl ?_
  refine Frame.step (State.taskDone_frames _ _) rfl ?_
  exact Frame.refl _ _
  refine Frame.step (State.raise_frames _ _ _ _ _) rfl ?_
  refine Frame.step (State.setReg_frames _ _ _) rfl ?_
  refine Frame.set_sec ?_ rfl id id
  refine Frame.step (State.chkNext_frames _ _) rfl ?_
  refine Frame.step (State.taskDone_frames _ _) rfl ?_
  exact Frame.refl _ _
  exact Frame.refl _ _

theorem State.writeHwRecords_frames (s : State) :
    Frame 0x000000c4 s (State.writeHwRecords s) := by
  unfold State.writeHwRecords
  refine forAll_frames ?_ ?_
  intro _
  intro _
  refine Frame.step (State.record_frames _ _) rfl ?_
  exact Frame.refl _ _
  refine Frame.set_flt ?_ rfl
  exact Frame.refl _ _

theorem State.meanRuns_frames (g : Nat) (s : State) :
    Frame 0x00002000 s (State.meanRuns g s) := by
  unfold State.meanRuns
  dsimp only
  split
  refine Frame.set_slu ?_ rfl rfl
  exact Frame.refl _ _
  refine Frame.set_slu ?_ rfl rfl
  exact Frame.refl _ _

theorem State.socAbsences_frames (g : Nat) (s : State) :
    Frame 0x00000040 s (State.socAbsences g s) := by
  unfold State.socAbsences
  dsimp only
  refine Frame.step (State.judge_frames _ _ _ _) rfl ?_
  refine Frame.step (State.judge_frames _ _ _ _) rfl ?_
  exact Frame.refl _ _

theorem State.stringAbsences_frames (s : State) :
    Frame 0x00000040 s (State.stringAbsences s) := by
  unfold State.stringAbsences
  dsimp only
  split
  split
  refine Frame.step (State.judge_frames _ _ _ _) rfl ?_
  refine Frame.step (State.judge_frames _ _ _ _) rfl ?_
  split
  exact Frame.refl _ _
  refine Frame.step (State.judge_frames _ _ _ _) rfl ?_
  refine Frame.step (State.judge_frames _ _ _ _) rfl ?_
  refine Frame.step (State.judge_frames _ _ _ _) rfl ?_
  refine Frame.step (State.judge_frames _ _ _ _) rfl ?_
  exact Frame.refl _ _
  refine Frame.step (State.judge_frames _ _ _ _) rfl ?_
  refine Frame.step (State.judge_frames _ _ _ _) rfl ?_
  refine Frame.step (State.judge_frames _ _ _ _) rfl ?_
  split
  exact Frame.refl _ _
  refine Frame.step (State.judge_frames _ _ _ _) rfl ?_
  refine Frame.step (State.judge_frames _ _ _ _) rfl ?_
  refine Frame.step (State.judge_frames _ _ _ _) rfl ?_
  refine Frame.step (State.judge_frames _ _ _ _) rfl ?_
  exact Frame.refl _ _
  refine Frame.step (State.judge_frames _ _ _ _) rfl ?_
  split
  refine Frame.step (State.judge_frames _ _ _ _) rfl ?_
  refine Frame.step (State.judge_frames _ _ _ _) rfl ?_
  split
  exact Frame.refl _ _
  refine Frame.step (State.judge_frames _ _ _ _) rfl ?_
  refine Frame.step (State.judge_frames _ _ _ _) rfl ?_
  refine Frame.step (State.judge_frames _ _ _ _) rfl ?_
  refine Frame.step (State.judge_frames _ _ _ _) rfl ?_
  exact Frame.refl _ _
  refine Frame.step (State.judge_frames _ _ _ _) rfl ?_
  refine Frame.step (State.judge_frames _ _ _ _) rfl ?_
  refine Frame.step (State.judge_frames _ _ _ _) rfl ?_
  split
  exact Frame.refl _ _
  refine Frame.step (State.judge_frames _ _ _ _) rfl ?_
  refine Frame.step (State.judge_frames _ _ _ _) rfl ?_
  refine Frame.step (State.judge_frames _ _ _ _) rfl ?_
  refine Frame.step (State.judge_frames _ _ _ _) rfl ?_
  exact Frame.refl _ _

theorem State.stringRuns_frames (s : State) :
    Frame 0x00002000 s (State.stringRuns s) := by
  unfold State.stringRuns
  dsimp only
  split
  split
  split
  exact Frame.refl _ _
  refine Frame.set_slu ?_ rfl rfl
  exact Frame.refl _ _
  refine Frame.set_slu ?_ rfl rfl
  split
  exact Frame.refl _ _
  refine Frame.set_slu ?_ rfl rfl
  exact Frame.refl _ _
  refine Frame.set_slu ?_ rfl rfl
  split
  split
  exact Frame.refl _ _
  refine Frame.set_slu ?_ rfl rfl
  exact Frame.refl _ _
  refine Frame.set_slu ?_ rfl rfl
  split
  exact Frame.refl _ _
  refine Frame.set_slu ?_ rfl rfl
  exact Frame.refl _ _

theorem State.supTests_frames (s : State) :
    Frame 0x00002040 s (State.supTests s) := by
  unfold State.supTests
  split
  dsimp only
  refine forAll_frames ?_ ?_
  intro _
  intro _
  refine Frame.step (State.tempSup_frames _ _) rfl ?_
  exact Frame.refl _ _
  refine forEach_frames ?_ ?_
  intro _
  intro _
  refine Frame.step (State.judge_frames _ _ _ _) rfl ?_
  exact Frame.refl _ _
  refine forAll_frames ?_ ?_
  intro _
  intro _
  refine Frame.step (State.socAbsences_frames _ _) rfl ?_
  exact Frame.refl _ _
  refine Frame.step (State.stringAbsences_frames _) rfl ?_
  refine Frame.step (State.stringRuns_frames _) rfl ?_
  refine forAll_frames ?_ ?_
  intro _
  intro _
  refine Frame.step (State.positionAbsences_frames _ _) rfl ?_
  refine Frame.step (State.meanRuns_frames _ _) rfl ?_
  exact Frame.refl _ _
  exact Frame.refl _ _
  exact Frame.refl _ _

theorem State.haltRelease_frames (s : State) :
    Frame 0x40402804 s (State.haltRelease s) := by
  unfold State.haltRelease
  split
  dsimp only
  refine Frame.set_tdm_sec ?_ rfl id id
  refine Frame.step (State.dropClaim_frames _ _) rfl ?_
  exact Frame.refl _ _
  exact Frame.refl _ _

theorem State.isolate_frames (s : State) :
    Frame 0x006020c4 s (State.isolate s) := by
  unfold State.isolate
  split
  refine Frame.step (State.partString_frames _) rfl ?_
  exact Frame.refl _ _
  exact Frame.refl _ _

theorem State.connectStart_frames (s : State) :
    Frame 0x00002004 s (State.connectStart s) := by
  unfold State.connectStart
  dsimp only
  refine Frame.set_slu ?_ rfl rfl
  refine Frame.step (State.toSeq_frames _ _) rfl ?_
  refine Frame.step (State.inhibit_frames _ _) rfl ?_
  refine Frame.step (State.setConn_frames _ _) rfl ?_
  exact Frame.refl _ _

theorem State.actConnect_frames (alone : Bool) (r : Req) (s : State) :
    Frame 0x03e020c6 s (State.actConnect alone r s) := by
  unfold State.actConnect
  split
  split
  refine Frame.step (State.answer_frames _ _ _) rfl ?_
  refine Frame.step (State.connectStart_frames _) rfl ?_
  exact Frame.refl _ _
  refine Frame.step (State.answer_frames _ _ _) rfl ?_
  refine Frame.step (State.raise_frames _ _ _ _ _) rfl ?_
  exact Frame.refl _ _
  refine Frame.step (State.answer_frames _ _ _) rfl ?_
  refine Frame.step (State.note_frames _ _ _ _) rfl ?_
  exact Frame.refl _ _

theorem State.actResets_frames (n : Nat) (l : List Req) (s0 : State) :
    Frame 0x03e020c6 s0 (State.actResets n l s0) := by
  unfold State.actResets
  dsimp only
  split
  exact Frame.refl _ _
  split
  refine forAll_frames ?_ ?_
  intro _
  intro _
  refine Frame.step (State.answer_frames _ _ _) rfl ?_
  exact Frame.refl _ _
  refine forAll_frames ?_ ?_
  intro _
  intro _
  refine Frame.step (State.clearFault_frames _ _) rfl ?_
  exact Frame.refl _ _
  refine Frame.set_slu ?_ rfl rfl
  exact Frame.refl _ _
  refine forAll_frames ?_ ?_
  intro _
  intro _
  refine Frame.step (State.answer_frames _ _ _) rfl ?_
  refine Frame.step (State.note_frames _ _ _ _) rfl ?_
  exact Frame.refl _ _
  refine Frame.set_slu ?_ rfl rfl
  exact Frame.refl _ _

theorem State.actRequests_frames (n : Nat) (s : State) :
    Frame 0x03e020c6 s (State.actRequests n s) := by
  unfold State.actRequests
  dsimp only
  refine forAll_frames ?_ ?_
  intro _
  intro _
  refine Frame.step (State.actConnect_frames _ _ _) rfl ?_
  exact Frame.refl _ _
  refine Frame.step (State.actOpens_frames _ _) rfl ?_
  refine Frame.step (State.actResets_frames _ _ _) rfl ?_
  refine Frame.set_slu ?_ rfl rfl
  exact Frame.refl _ _

theorem State.clearClass1_frames (s : State) :
    Frame 0x000000c4 s (State.clearClass1 s) := by
  unfold State.clearClass1
  refine forAll_frames ?_ ?_
  intro _
  intro _
  refine Frame.step (State.clearFault_frames _ _) rfl ?_
  exact Frame.refl _ _
  exact Frame.refl _ _

theorem State.supRun_frames (s : State) :
    Frame 0x6be5ecc6 s (State.supRun s) := by
  unfold State.supRun
  dsimp only
  refine Frame.step (State.haltRelease_frames _) rfl ?_
  refine Frame.step (State.pwrSup_frames _) rfl ?_
  refine Frame.step (State.hoSup_frames _) rfl ?_
  refine Frame.step (State.isolate_frames _) rfl ?_
  refine Frame.step (State.actRequests_frames _ _) rfl ?_
  refine Frame.step (State.clearClass1_frames _) rfl ?_
  refine Frame.step (State.supTests_frames _) rfl ?_
  refine forEach_frames ?_ ?_
  intro _
  intro _
  refine Frame.step (State.siEvaluate_frames _ _) rfl ?_
  exact Frame.refl _ _
  refine Frame.step (State.estSup_frames _) rfl ?_
  refine Frame.step (State.pathCompare_frames _) rfl ?_
  refine Frame.step (State.writeHwRecords_frames _) rfl ?_
  exact Frame.refl _ _

theorem execSup_frames (e : EccIn) (s : State) :
    Frame 0x6be7ece6 s (andThen (execSup e) s) := by
  dsimp only [andThen, execSup]
  split
  refine Frame.step (State.taskDone_frames _ _) rfl ?_
  refine Frame.step (State.supRun_frames _) rfl ?_
  refine Frame.step (State.ecc_frames _ _) rfl ?_
  exact Frame.refl _ _
  exact Frame.refl _ _

theorem execHeartbeatMissing_frames (s : State) :
    Frame 0x016028c4 s (andThen execHeartbeatMissing s) := by
  dsimp only [andThen, execHeartbeatMissing]
  split
  refine Frame.step (State.dropClaim_frames _ _) rfl ?_
  refine Frame.step (State.raiseAs_frames _ _ _ _ _ _ _) rfl ?_
  refine Frame.step (State.setFlag_frames _ _ _) rfl ?_
  exact Frame.refl _ _
  exact Frame.refl _ _

theorem State.appTaskMiss_frames (code : Nat) (s : State) :
    Frame 0x016020e4 s (State.appTaskMiss code s) := by
  unfold State.appTaskMiss
  dsimp only
  refine Frame.step (State.raiseCls_frames _ _ _ _) rfl ?_
  refine Frame.set_sys ?_ rfl
  exact Frame.refl _ _

theorem execSupervisionTestMet_frames (code : Nat) (subj : Nat) (s : State) :
    Frame 0x016020c4 s (andThen (execSupervisionTestMet code subj) s) := by
  dsimp only [andThen, execSupervisionTestMet]
  split
  refine Frame.step (State.raiseLevel_frames _ _ _ _ _) rfl ?_
  exact Frame.refl _ _
  exact Frame.refl _ _

theorem State.strikeRun_frames (i : StrikeIn) (s : State) :
    Frame 0x6fffffe6 s (State.strikeRun i s) := by
  unfold State.strikeRun
  dsimp only
  refine Frame.step (State.strikeRest_frames _ _ _) rfl ?_
  refine Frame.step (State.strikeCur_frames _ _) rfl ?_
  refine forAll_fst_frames ?_ ?_
  intro _
  intro _
  dsimp only [strikeBank]
  refine Frame.step (State.balStrike_frames _ _) rfl ?_
  refine Frame.step (State.checksStrike_frames _ _ _) rfl ?_
  refine Frame.step (State.bankStrikeTail_frames _ _ _) rfl ?_
  refine Frame.step (State.hwBank_frames _ _ _) rfl ?_
  refine Frame.step (State.bankStrikeHead_frames _ _) rfl ?_
  exact Frame.refl _ _
  dsimp only
  refine Frame.step (State.tdmStrike_frames _) rfl ?_
  split
  refine doIf_frames ?_ ?_
  intro _
  refine Frame.step (State.turnStart_frames _ _) rfl ?_
  exact Frame.refl _ _
  refine Frame.step (State.secStrike_frames _) rfl ?_
  refine Frame.step (State.pwrStrike_frames _ _) rfl ?_
  refine Frame.set_sys ?_ rfl
  exact Frame.refl _ _
  refine Frame.set_sys ?_ rfl
  refine doIf_frames ?_ ?_
  intro _
  refine Frame.step (State.turnStart_frames _ _) rfl ?_
  exact Frame.refl _ _
  refine Frame.step (State.secStrike_frames _) rfl ?_
  refine Frame.step (State.pwrStrike_frames _ _) rfl ?_
  refine Frame.set_sys ?_ rfl
  exact Frame.refl _ _

theorem execStrike_frames (i : StrikeIn) (s : State) :
    Frame 0x6fffffe6 s (andThen (execStrike i) s) := by
  dsimp only [andThen, execStrike]
  split
  refine Frame.step (State.strikeRun_frames _ _) rfl ?_
  exact Frame.refl _ _
  exact Frame.refl _ _

theorem execDeadlineMiss_frames (task : Nat) (g : Nat) (s : State) :
    Frame 0x016660e4 s (andThen (execDeadlineMiss task g) s) := by
  dsimp only [andThen, execDeadlineMiss]
  split
  refine Frame.step (State.turnMiss_frames _ _) rfl ?_
  exact Frame.refl _ _
  split
  refine Frame.step (State.fitMiss_frames _ _) rfl ?_
  exact Frame.refl _ _
  split
  split
  refine Frame.step (State.appTaskMiss_frames _ _) rfl ?_
  exact Frame.refl _ _
  exact Frame.refl _ _
  exact Frame.refl _ _

end Sys2Proof.Machine
end

