-- ==== Sys2Proof/Laws/State.lean ====
section
/-! SUPPORT. What the updates that every meaning is built from do to each part of the state, and what reads back. -/
namespace Sys2Proof.Machine

@[simp] theorem setReg_pending (f : Field) (v : Nat) (s : State) : (s.setReg f v).pending = s.pending := rfl
@[simp] theorem setReg_free (f : Field) (v : Nat) (s : State) : (s.setReg f v).free = s.free := rfl
@[simp] theorem setReg_latch (f : Field) (v : Nat) (s : State) : (s.setReg f v).latch = s.latch := rfl
@[simp] theorem setReg_readData (f : Field) (v : Nat) (s : State) : (s.setReg f v).readData = s.readData := rfl
@[simp] theorem setReg_sys (f : Field) (v : Nat) (s : State) : (s.setReg f v).sys = s.sys := rfl
@[simp] theorem setReg_flt (f : Field) (v : Nat) (s : State) : (s.setReg f v).flt = s.flt := rfl
@[simp] theorem setReg_evl (f : Field) (v : Nat) (s : State) : (s.setReg f v).evl = s.evl := rfl
@[simp] theorem setReg_bnk (f : Field) (v : Nat) (s : State) : (s.setReg f v).bnk = s.bnk := rfl
@[simp] theorem setReg_chk (f : Field) (v : Nat) (s : State) : (s.setReg f v).chk = s.chk := rfl
@[simp] theorem setReg_cur (f : Field) (v : Nat) (s : State) : (s.setReg f v).cur = s.cur := rfl
@[simp] theorem setReg_imd (f : Field) (v : Nat) (s : State) : (s.setReg f v).imd = s.imd := rfl
@[simp] theorem setReg_thm (f : Field) (v : Nat) (s : State) : (s.setReg f v).thm = s.thm := rfl
@[simp] theorem setReg_slu (f : Field) (v : Nat) (s : State) : (s.setReg f v).slu = s.slu := rfl
@[simp] theorem setReg_sio (f : Field) (v : Nat) (s : State) : (s.setReg f v).sio = s.sio := rfl
@[simp] theorem setReg_auth (f : Field) (v : Nat) (s : State) : (s.setReg f v).auth = s.auth := rfl
@[simp] theorem setReg_est (f : Field) (v : Nat) (s : State) : (s.setReg f v).est = s.est := rfl
@[simp] theorem setReg_mdl (f : Field) (v : Nat) (s : State) : (s.setReg f v).mdl = s.mdl := rfl
@[simp] theorem setReg_bal (f : Field) (v : Nat) (s : State) : (s.setReg f v).bal = s.bal := rfl
@[simp] theorem setReg_gov (f : Field) (v : Nat) (s : State) : (s.setReg f v).gov = s.gov := rfl
@[simp] theorem setReg_env (f : Field) (v : Nat) (s : State) : (s.setReg f v).env = s.env := rfl
@[simp] theorem setReg_mpd (f : Field) (v : Nat) (s : State) : (s.setReg f v).mpd = s.mpd := rfl
@[simp] theorem setReg_tdm (f : Field) (v : Nat) (s : State) : (s.setReg f v).tdm = s.tdm := rfl
@[simp] theorem setReg_hif (f : Field) (v : Nat) (s : State) : (s.setReg f v).hif = s.hif := rfl
@[simp] theorem setReg_hop (f : Field) (v : Nat) (s : State) : (s.setReg f v).hop = s.hop := rfl
@[simp] theorem setReg_net (f : Field) (v : Nat) (s : State) : (s.setReg f v).net = s.net := rfl
@[simp] theorem setReg_tim (f : Field) (v : Nat) (s : State) : (s.setReg f v).tim = s.tim := rfl
@[simp] theorem setReg_can (f : Field) (v : Nat) (s : State) : (s.setReg f v).can = s.can := rfl
@[simp] theorem setReg_ram (f : Field) (v : Nat) (s : State) : (s.setReg f v).ram = s.ram := rfl
@[simp] theorem setReg_pwr (f : Field) (v : Nat) (s : State) : (s.setReg f v).pwr = s.pwr := rfl
@[simp] theorem setReg_sec (f : Field) (v : Nat) (s : State) : (s.setReg f v).sec = s.sec := rfl

@[simp] theorem setFlag_pending (f : Field) (b : Bool) (s : State) : (s.setFlag f b).pending = s.pending := rfl
@[simp] theorem setFlag_free (f : Field) (b : Bool) (s : State) : (s.setFlag f b).free = s.free := rfl
@[simp] theorem setFlag_latch (f : Field) (b : Bool) (s : State) : (s.setFlag f b).latch = s.latch := rfl
@[simp] theorem setFlag_readData (f : Field) (b : Bool) (s : State) : (s.setFlag f b).readData = s.readData := rfl
@[simp] theorem setFlag_sys (f : Field) (b : Bool) (s : State) : (s.setFlag f b).sys = s.sys := rfl
@[simp] theorem setFlag_flt (f : Field) (b : Bool) (s : State) : (s.setFlag f b).flt = s.flt := rfl
@[simp] theorem setFlag_evl (f : Field) (b : Bool) (s : State) : (s.setFlag f b).evl = s.evl := rfl
@[simp] theorem setFlag_bnk (f : Field) (b : Bool) (s : State) : (s.setFlag f b).bnk = s.bnk := rfl
@[simp] theorem setFlag_chk (f : Field) (b : Bool) (s : State) : (s.setFlag f b).chk = s.chk := rfl
@[simp] theorem setFlag_cur (f : Field) (b : Bool) (s : State) : (s.setFlag f b).cur = s.cur := rfl
@[simp] theorem setFlag_imd (f : Field) (b : Bool) (s : State) : (s.setFlag f b).imd = s.imd := rfl
@[simp] theorem setFlag_thm (f : Field) (b : Bool) (s : State) : (s.setFlag f b).thm = s.thm := rfl
@[simp] theorem setFlag_slu (f : Field) (b : Bool) (s : State) : (s.setFlag f b).slu = s.slu := rfl
@[simp] theorem setFlag_sio (f : Field) (b : Bool) (s : State) : (s.setFlag f b).sio = s.sio := rfl
@[simp] theorem setFlag_auth (f : Field) (b : Bool) (s : State) : (s.setFlag f b).auth = s.auth := rfl
@[simp] theorem setFlag_est (f : Field) (b : Bool) (s : State) : (s.setFlag f b).est = s.est := rfl
@[simp] theorem setFlag_mdl (f : Field) (b : Bool) (s : State) : (s.setFlag f b).mdl = s.mdl := rfl
@[simp] theorem setFlag_bal (f : Field) (b : Bool) (s : State) : (s.setFlag f b).bal = s.bal := rfl
@[simp] theorem setFlag_gov (f : Field) (b : Bool) (s : State) : (s.setFlag f b).gov = s.gov := rfl
@[simp] theorem setFlag_env (f : Field) (b : Bool) (s : State) : (s.setFlag f b).env = s.env := rfl
@[simp] theorem setFlag_mpd (f : Field) (b : Bool) (s : State) : (s.setFlag f b).mpd = s.mpd := rfl
@[simp] theorem setFlag_tdm (f : Field) (b : Bool) (s : State) : (s.setFlag f b).tdm = s.tdm := rfl
@[simp] theorem setFlag_hif (f : Field) (b : Bool) (s : State) : (s.setFlag f b).hif = s.hif := rfl
@[simp] theorem setFlag_hop (f : Field) (b : Bool) (s : State) : (s.setFlag f b).hop = s.hop := rfl
@[simp] theorem setFlag_net (f : Field) (b : Bool) (s : State) : (s.setFlag f b).net = s.net := rfl
@[simp] theorem setFlag_tim (f : Field) (b : Bool) (s : State) : (s.setFlag f b).tim = s.tim := rfl
@[simp] theorem setFlag_can (f : Field) (b : Bool) (s : State) : (s.setFlag f b).can = s.can := rfl
@[simp] theorem setFlag_ram (f : Field) (b : Bool) (s : State) : (s.setFlag f b).ram = s.ram := rfl
@[simp] theorem setFlag_pwr (f : Field) (b : Bool) (s : State) : (s.setFlag f b).pwr = s.pwr := rfl
@[simp] theorem setFlag_sec (f : Field) (b : Bool) (s : State) : (s.setFlag f b).sec = s.sec := rfl

@[simp] theorem addSat_pending (f : Field) (n : Nat) (s : State) : (s.addSat f n).pending = s.pending := rfl
@[simp] theorem addSat_free (f : Field) (n : Nat) (s : State) : (s.addSat f n).free = s.free := rfl
@[simp] theorem addSat_latch (f : Field) (n : Nat) (s : State) : (s.addSat f n).latch = s.latch := rfl
@[simp] theorem addSat_readData (f : Field) (n : Nat) (s : State) : (s.addSat f n).readData = s.readData := rfl
@[simp] theorem addSat_sys (f : Field) (n : Nat) (s : State) : (s.addSat f n).sys = s.sys := rfl
@[simp] theorem addSat_flt (f : Field) (n : Nat) (s : State) : (s.addSat f n).flt = s.flt := rfl
@[simp] theorem addSat_evl (f : Field) (n : Nat) (s : State) : (s.addSat f n).evl = s.evl := rfl
@[simp] theorem addSat_bnk (f : Field) (n : Nat) (s : State) : (s.addSat f n).bnk = s.bnk := rfl
@[simp] theorem addSat_chk (f : Field) (n : Nat) (s : State) : (s.addSat f n).chk = s.chk := rfl
@[simp] theorem addSat_cur (f : Field) (n : Nat) (s : State) : (s.addSat f n).cur = s.cur := rfl
@[simp] theorem addSat_imd (f : Field) (n : Nat) (s : State) : (s.addSat f n).imd = s.imd := rfl
@[simp] theorem addSat_thm (f : Field) (n : Nat) (s : State) : (s.addSat f n).thm = s.thm := rfl
@[simp] theorem addSat_slu (f : Field) (n : Nat) (s : State) : (s.addSat f n).slu = s.slu := rfl
@[simp] theorem addSat_sio (f : Field) (n : Nat) (s : State) : (s.addSat f n).sio = s.sio := rfl
@[simp] theorem addSat_auth (f : Field) (n : Nat) (s : State) : (s.addSat f n).auth = s.auth := rfl
@[simp] theorem addSat_est (f : Field) (n : Nat) (s : State) : (s.addSat f n).est = s.est := rfl
@[simp] theorem addSat_mdl (f : Field) (n : Nat) (s : State) : (s.addSat f n).mdl = s.mdl := rfl
@[simp] theorem addSat_bal (f : Field) (n : Nat) (s : State) : (s.addSat f n).bal = s.bal := rfl
@[simp] theorem addSat_gov (f : Field) (n : Nat) (s : State) : (s.addSat f n).gov = s.gov := rfl
@[simp] theorem addSat_env (f : Field) (n : Nat) (s : State) : (s.addSat f n).env = s.env := rfl
@[simp] theorem addSat_mpd (f : Field) (n : Nat) (s : State) : (s.addSat f n).mpd = s.mpd := rfl
@[simp] theorem addSat_tdm (f : Field) (n : Nat) (s : State) : (s.addSat f n).tdm = s.tdm := rfl
@[simp] theorem addSat_hif (f : Field) (n : Nat) (s : State) : (s.addSat f n).hif = s.hif := rfl
@[simp] theorem addSat_hop (f : Field) (n : Nat) (s : State) : (s.addSat f n).hop = s.hop := rfl
@[simp] theorem addSat_net (f : Field) (n : Nat) (s : State) : (s.addSat f n).net = s.net := rfl
@[simp] theorem addSat_tim (f : Field) (n : Nat) (s : State) : (s.addSat f n).tim = s.tim := rfl
@[simp] theorem addSat_can (f : Field) (n : Nat) (s : State) : (s.addSat f n).can = s.can := rfl
@[simp] theorem addSat_ram (f : Field) (n : Nat) (s : State) : (s.addSat f n).ram = s.ram := rfl
@[simp] theorem addSat_pwr (f : Field) (n : Nat) (s : State) : (s.addSat f n).pwr = s.pwr := rfl
@[simp] theorem addSat_sec (f : Field) (n : Nat) (s : State) : (s.addSat f n).sec = s.sec := rfl

@[simp] theorem setBit_pending (f : Field) (k : Nat) (b : Bool) (s : State) : (s.setBit f k b).pending = s.pending := rfl
@[simp] theorem setBit_free (f : Field) (k : Nat) (b : Bool) (s : State) : (s.setBit f k b).free = s.free := rfl
@[simp] theorem setBit_latch (f : Field) (k : Nat) (b : Bool) (s : State) : (s.setBit f k b).latch = s.latch := rfl
@[simp] theorem setBit_readData (f : Field) (k : Nat) (b : Bool) (s : State) : (s.setBit f k b).readData = s.readData := rfl
@[simp] theorem setBit_sys (f : Field) (k : Nat) (b : Bool) (s : State) : (s.setBit f k b).sys = s.sys := rfl
@[simp] theorem setBit_flt (f : Field) (k : Nat) (b : Bool) (s : State) : (s.setBit f k b).flt = s.flt := rfl
@[simp] theorem setBit_evl (f : Field) (k : Nat) (b : Bool) (s : State) : (s.setBit f k b).evl = s.evl := rfl
@[simp] theorem setBit_bnk (f : Field) (k : Nat) (b : Bool) (s : State) : (s.setBit f k b).bnk = s.bnk := rfl
@[simp] theorem setBit_chk (f : Field) (k : Nat) (b : Bool) (s : State) : (s.setBit f k b).chk = s.chk := rfl
@[simp] theorem setBit_cur (f : Field) (k : Nat) (b : Bool) (s : State) : (s.setBit f k b).cur = s.cur := rfl
@[simp] theorem setBit_imd (f : Field) (k : Nat) (b : Bool) (s : State) : (s.setBit f k b).imd = s.imd := rfl
@[simp] theorem setBit_thm (f : Field) (k : Nat) (b : Bool) (s : State) : (s.setBit f k b).thm = s.thm := rfl
@[simp] theorem setBit_slu (f : Field) (k : Nat) (b : Bool) (s : State) : (s.setBit f k b).slu = s.slu := rfl
@[simp] theorem setBit_sio (f : Field) (k : Nat) (b : Bool) (s : State) : (s.setBit f k b).sio = s.sio := rfl
@[simp] theorem setBit_auth (f : Field) (k : Nat) (b : Bool) (s : State) : (s.setBit f k b).auth = s.auth := rfl
@[simp] theorem setBit_est (f : Field) (k : Nat) (b : Bool) (s : State) : (s.setBit f k b).est = s.est := rfl
@[simp] theorem setBit_mdl (f : Field) (k : Nat) (b : Bool) (s : State) : (s.setBit f k b).mdl = s.mdl := rfl
@[simp] theorem setBit_bal (f : Field) (k : Nat) (b : Bool) (s : State) : (s.setBit f k b).bal = s.bal := rfl
@[simp] theorem setBit_gov (f : Field) (k : Nat) (b : Bool) (s : State) : (s.setBit f k b).gov = s.gov := rfl
@[simp] theorem setBit_env (f : Field) (k : Nat) (b : Bool) (s : State) : (s.setBit f k b).env = s.env := rfl
@[simp] theorem setBit_mpd (f : Field) (k : Nat) (b : Bool) (s : State) : (s.setBit f k b).mpd = s.mpd := rfl
@[simp] theorem setBit_tdm (f : Field) (k : Nat) (b : Bool) (s : State) : (s.setBit f k b).tdm = s.tdm := rfl
@[simp] theorem setBit_hif (f : Field) (k : Nat) (b : Bool) (s : State) : (s.setBit f k b).hif = s.hif := rfl
@[simp] theorem setBit_hop (f : Field) (k : Nat) (b : Bool) (s : State) : (s.setBit f k b).hop = s.hop := rfl
@[simp] theorem setBit_net (f : Field) (k : Nat) (b : Bool) (s : State) : (s.setBit f k b).net = s.net := rfl
@[simp] theorem setBit_tim (f : Field) (k : Nat) (b : Bool) (s : State) : (s.setBit f k b).tim = s.tim := rfl
@[simp] theorem setBit_can (f : Field) (k : Nat) (b : Bool) (s : State) : (s.setBit f k b).can = s.can := rfl
@[simp] theorem setBit_ram (f : Field) (k : Nat) (b : Bool) (s : State) : (s.setBit f k b).ram = s.ram := rfl
@[simp] theorem setBit_pwr (f : Field) (k : Nat) (b : Bool) (s : State) : (s.setBit f k b).pwr = s.pwr := rfl
@[simp] theorem setBit_sec (f : Field) (k : Nat) (b : Bool) (s : State) : (s.setBit f k b).sec = s.sec := rfl

@[simp] theorem writeMem_pending (k a : Nat) (l : List Nat) (s : State) : (s.writeMem k a l).pending = s.pending := rfl
@[simp] theorem writeMem_free (k a : Nat) (l : List Nat) (s : State) : (s.writeMem k a l).free = s.free := rfl
@[simp] theorem writeMem_regs (k a : Nat) (l : List Nat) (s : State) : (s.writeMem k a l).regs = s.regs := rfl
@[simp] theorem writeMem_latch (k a : Nat) (l : List Nat) (s : State) : (s.writeMem k a l).latch = s.latch := rfl
@[simp] theorem writeMem_readData (k a : Nat) (l : List Nat) (s : State) : (s.writeMem k a l).readData = s.readData := rfl
@[simp] theorem writeMem_sys (k a : Nat) (l : List Nat) (s : State) : (s.writeMem k a l).sys = s.sys := rfl
@[simp] theorem writeMem_flt (k a : Nat) (l : List Nat) (s : State) : (s.writeMem k a l).flt = s.flt := rfl
@[simp] theorem writeMem_evl (k a : Nat) (l : List Nat) (s : State) : (s.writeMem k a l).evl = s.evl := rfl
@[simp] theorem writeMem_bnk (k a : Nat) (l : List Nat) (s : State) : (s.writeMem k a l).bnk = s.bnk := rfl
@[simp] theorem writeMem_chk (k a : Nat) (l : List Nat) (s : State) : (s.writeMem k a l).chk = s.chk := rfl
@[simp] theorem writeMem_cur (k a : Nat) (l : List Nat) (s : State) : (s.writeMem k a l).cur = s.cur := rfl
@[simp] theorem writeMem_imd (k a : Nat) (l : List Nat) (s : State) : (s.writeMem k a l).imd = s.imd := rfl
@[simp] theorem writeMem_thm (k a : Nat) (l : List Nat) (s : State) : (s.writeMem k a l).thm = s.thm := rfl
@[simp] theorem writeMem_slu (k a : Nat) (l : List Nat) (s : State) : (s.writeMem k a l).slu = s.slu := rfl
@[simp] theorem writeMem_sio (k a : Nat) (l : List Nat) (s : State) : (s.writeMem k a l).sio = s.sio := rfl
@[simp] theorem writeMem_auth (k a : Nat) (l : List Nat) (s : State) : (s.writeMem k a l).auth = s.auth := rfl
@[simp] theorem writeMem_est (k a : Nat) (l : List Nat) (s : State) : (s.writeMem k a l).est = s.est := rfl
@[simp] theorem writeMem_mdl (k a : Nat) (l : List Nat) (s : State) : (s.writeMem k a l).mdl = s.mdl := rfl
@[simp] theorem writeMem_bal (k a : Nat) (l : List Nat) (s : State) : (s.writeMem k a l).bal = s.bal := rfl
@[simp] theorem writeMem_gov (k a : Nat) (l : List Nat) (s : State) : (s.writeMem k a l).gov = s.gov := rfl
@[simp] theorem writeMem_env (k a : Nat) (l : List Nat) (s : State) : (s.writeMem k a l).env = s.env := rfl
@[simp] theorem writeMem_mpd (k a : Nat) (l : List Nat) (s : State) : (s.writeMem k a l).mpd = s.mpd := rfl
@[simp] theorem writeMem_tdm (k a : Nat) (l : List Nat) (s : State) : (s.writeMem k a l).tdm = s.tdm := rfl
@[simp] theorem writeMem_hif (k a : Nat) (l : List Nat) (s : State) : (s.writeMem k a l).hif = s.hif := rfl
@[simp] theorem writeMem_hop (k a : Nat) (l : List Nat) (s : State) : (s.writeMem k a l).hop = s.hop := rfl
@[simp] theorem writeMem_net (k a : Nat) (l : List Nat) (s : State) : (s.writeMem k a l).net = s.net := rfl
@[simp] theorem writeMem_tim (k a : Nat) (l : List Nat) (s : State) : (s.writeMem k a l).tim = s.tim := rfl
@[simp] theorem writeMem_can (k a : Nat) (l : List Nat) (s : State) : (s.writeMem k a l).can = s.can := rfl
@[simp] theorem writeMem_pwr (k a : Nat) (l : List Nat) (s : State) : (s.writeMem k a l).pwr = s.pwr := rfl
@[simp] theorem writeMem_sec (k a : Nat) (l : List Nat) (s : State) : (s.writeMem k a l).sec = s.sec := rfl

/-- A field that is set reads its value modulo its width; another field reads as before. -/
theorem reg_setReg (s : State) (f g : Field) (v : Nat) :
    (s.setReg f v).reg g = if f.key = g.key then v % 2 ^ f.width else s.reg g :=
  Tab.get_put _ _ _ _ _

theorem reg_setReg_self (s : State) (f : Field) (v : Nat) : (s.setReg f v).reg f = v % 2 ^ f.width := by
  rw [reg_setReg, if_pos rfl]

theorem reg_setReg_other (s : State) (f g : Field) (v : Nat) (h : f.key ≠ g.key) : (s.setReg f v).reg g = s.reg g := by
  rw [reg_setReg, if_neg h]

/-- A part of the state that no field write touches is left by a list of field writes. -/
theorem setFields_keeps {α : Type} (p : State → α) (hp : ∀ s f v, p (State.setReg s f v) = p s)
    (l : List (Field × Nat)) (s : State) : p (s.setFields l) = p s := by
  unfold State.setFields
  induction l generalizing s with
  | nil => rfl
  | cons e r ih => exact (ih _).trans (hp _ _ _)

@[simp] theorem setFields_pending (l : List (Field × Nat)) (s : State) : (s.setFields l).pending = s.pending :=
  setFields_keeps (·.pending) (fun _ _ _ => rfl) l s
@[simp] theorem setFields_free (l : List (Field × Nat)) (s : State) : (s.setFields l).free = s.free :=
  setFields_keeps (·.free) (fun _ _ _ => rfl) l s
@[simp] theorem setFields_latch (l : List (Field × Nat)) (s : State) : (s.setFields l).latch = s.latch :=
  setFields_keeps (·.latch) (fun _ _ _ => rfl) l s
@[simp] theorem setFields_readData (l : List (Field × Nat)) (s : State) : (s.setFields l).readData = s.readData :=
  setFields_keeps (·.readData) (fun _ _ _ => rfl) l s
@[simp] theorem setFields_sys (l : List (Field × Nat)) (s : State) : (s.setFields l).sys = s.sys :=
  setFields_keeps (·.sys) (fun _ _ _ => rfl) l s
@[simp] theorem setFields_flt (l : List (Field × Nat)) (s : State) : (s.setFields l).flt = s.flt :=
  setFields_keeps (·.flt) (fun _ _ _ => rfl) l s
@[simp] theorem setFields_evl (l : List (Field × Nat)) (s : State) : (s.setFields l).evl = s.evl :=
  setFields_keeps (·.evl) (fun _ _ _ => rfl) l s
@[simp] theorem setFields_bnk (l : List (Field × Nat)) (s : State) : (s.setFields l).bnk = s.bnk :=
  setFields_keeps (·.bnk) (fun _ _ _ => rfl) l s
@[simp] theorem setFields_chk (l : List (Field × Nat)) (s : State) : (s.setFields l).chk = s.chk :=
  setFields_keeps (·.chk) (fun _ _ _ => rfl) l s
@[simp] theorem setFields_cur (l : List (Field × Nat)) (s : State) : (s.setFields l).cur = s.cur :=
  setFields_keeps (·.cur) (fun _ _ _ => rfl) l s
@[simp] theorem setFields_imd (l : List (Field × Nat)) (s : State) : (s.setFields l).imd = s.imd :=
  setFields_keeps (·.imd) (fun _ _ _ => rfl) l s
@[simp] theorem setFields_thm (l : List (Field × Nat)) (s : State) : (s.setFields l).thm = s.thm :=
  setFields_keeps (·.thm) (fun _ _ _ => rfl) l s
@[simp] theorem setFields_slu (l : List (Field × Nat)) (s : State) : (s.setFields l).slu = s.slu :=
  setFields_keeps (·.slu) (fun _ _ _ => rfl) l s
@[simp] theorem setFields_sio (l : List (Field × Nat)) (s : State) : (s.setFields l).sio = s.sio :=
  setFields_keeps (·.sio) (fun _ _ _ => rfl) l s
@[simp] theorem setFields_auth (l : List (Field × Nat)) (s : State) : (s.setFields l).auth = s.auth :=
  setFields_keeps (·.auth) (fun _ _ _ => rfl) l s
@[simp] theorem setFields_est (l : List (Field × Nat)) (s : State) : (s.setFields l).est = s.est :=
  setFields_keeps (·.est) (fun _ _ _ => rfl) l s
@[simp] theorem setFields_mdl (l : List (Field × Nat)) (s : State) : (s.setFields l).mdl = s.mdl :=
  setFields_keeps (·.mdl) (fun _ _ _ => rfl) l s
@[simp] theorem setFields_bal (l : List (Field × Nat)) (s : State) : (s.setFields l).bal = s.bal :=
  setFields_keeps (·.bal) (fun _ _ _ => rfl) l s
@[simp] theorem setFields_gov (l : List (Field × Nat)) (s : State) : (s.setFields l).gov = s.gov :=
  setFields_keeps (·.gov) (fun _ _ _ => rfl) l s
@[simp] theorem setFields_env (l : List (Field × Nat)) (s : State) : (s.setFields l).env = s.env :=
  setFields_keeps (·.env) (fun _ _ _ => rfl) l s
@[simp] theorem setFields_mpd (l : List (Field × Nat)) (s : State) : (s.setFields l).mpd = s.mpd :=
  setFields_keeps (·.mpd) (fun _ _ _ => rfl) l s
@[simp] theorem setFields_tdm (l : List (Field × Nat)) (s : State) : (s.setFields l).tdm = s.tdm :=
  setFields_keeps (·.tdm) (fun _ _ _ => rfl) l s
@[simp] theorem setFields_hif (l : List (Field × Nat)) (s : State) : (s.setFields l).hif = s.hif :=
  setFields_keeps (·.hif) (fun _ _ _ => rfl) l s
@[simp] theorem setFields_hop (l : List (Field × Nat)) (s : State) : (s.setFields l).hop = s.hop :=
  setFields_keeps (·.hop) (fun _ _ _ => rfl) l s
@[simp] theorem setFields_net (l : List (Field × Nat)) (s : State) : (s.setFields l).net = s.net :=
  setFields_keeps (·.net) (fun _ _ _ => rfl) l s
@[simp] theorem setFields_tim (l : List (Field × Nat)) (s : State) : (s.setFields l).tim = s.tim :=
  setFields_keeps (·.tim) (fun _ _ _ => rfl) l s
@[simp] theorem setFields_can (l : List (Field × Nat)) (s : State) : (s.setFields l).can = s.can :=
  setFields_keeps (·.can) (fun _ _ _ => rfl) l s
@[simp] theorem setFields_ram (l : List (Field × Nat)) (s : State) : (s.setFields l).ram = s.ram :=
  setFields_keeps (·.ram) (fun _ _ _ => rfl) l s
@[simp] theorem setFields_pwr (l : List (Field × Nat)) (s : State) : (s.setFields l).pwr = s.pwr :=
  setFields_keeps (·.pwr) (fun _ _ _ => rfl) l s
@[simp] theorem setFields_sec (l : List (Field × Nat)) (s : State) : (s.setFields l).sec = s.sec :=
  setFields_keeps (·.sec) (fun _ _ _ => rfl) l s

@[simp] theorem millpondWrite_memory (a : Nat) (l : List Nat) (s : State) (k : Nat) :
    (s.millpondWrite a l).memory k = (s.writeMem 4 a l).memory k := rfl

end Sys2Proof.Machine
end

