-- ==== Sys2Proof/Laws/Raise.lean ====
section
/-! SUPPORT. What raising a fault can change (R19, R20). -/
namespace Sys2Proof.Machine

/-- The register fields that raising a fault may change. -/
def raiseKeys : List Nat := [Reg.EVL_LOST_COUNT.key, Reg.EVL_LOST_CODE.key, Reg.EVL_LOST_STRK_LO_STRK.key, Reg.EVL_LOST_STRK_HI_STRK.key,
      Reg.SLU_STAT_CONN.key, Reg.SLU_STAT_EMER.key, Reg.SLU_STAT_BRK.key, Reg.GOV_SPT_STAT_INH.key,
      Reg.TDM_STAT_HO.key, Reg.TDM_LAST_ABAND.key]
/-- What raising a fault leaves: every other register field, the weld lockout, the faults in effect and their classes. -/
structure Raised (s t : State) : Prop where
  reg : ∀ f : Field, f.key ∉ raiseKeys → t.reg f = s.reg f
  weld : t.slu.weldLock = s.slu.weldLock
  act : ∀ f ∈ s.flt.active, ∃ g ∈ t.flt.active, g.code = f.code ∧ g.subj = f.subj ∧ f.cls ≤ g.cls
theorem Raised.refl (s : State) : Raised s s := ⟨fun _ _ => rfl, rfl, fun f h => ⟨f, h, rfl, rfl, le_refl _⟩⟩
theorem Raised.trans {s t u : State} (h : Raised s t) (k : Raised t u) : Raised s u :=
  ⟨fun f hf => (k.reg f hf).trans (h.reg f hf), k.weld.trans h.weld, fun f hf => by
    obtain ⟨g, hg, a, b, c⟩ := h.act f hf
    obtain ⟨g', hg', a', b', c'⟩ := k.act g hg
    exact ⟨g', hg', a'.trans a, b'.trans b, le_trans c c'⟩⟩
theorem Raised.thn {s t u : State} (k : Raised t u) (h : Raised s t) : Raised s u := h.trans k
theorem Raised.same {s t : State} (hr : t.regs = s.regs) (hw : t.slu.weldLock = s.slu.weldLock) (hf : t.flt.active = s.flt.active) : Raised s t :=
  ⟨fun f _ => by unfold State.reg; rw [hr], hw, fun f h => ⟨f, by rw [hf]; exact h, rfl, rfl, le_refl _⟩⟩
theorem Raised.setReg {s : State} {f : Field} {v : Nat} (h : f.key ∈ raiseKeys) : Raised s (s.setReg f v) :=
  ⟨fun g hg => (Tab.get_put g.rst s.regs f.key g.key (v % 2 ^ f.width)).trans (if_neg (fun e : f.key = g.key => hg (e ▸ h))), rfl, fun f h => ⟨f, h, rfl, rfl, le_refl _⟩⟩
theorem raised_lose (s : State) (r : EvRec) : Raised s (s.loseRecord r) := by
  unfold State.loseRecord
  dsimp only
  refine Raised.trans ?_ (Raised.setReg (by decide))
  split
  · exact Raised.trans (Raised.trans (Raised.setReg (by decide)) (Raised.setReg (by decide))) (Raised.setReg (by decide))
  · exact Raised.refl _
theorem raised_enqueue (s : State) (r : EvRec) : Raised s (s.enqueue r) := by
  unfold State.enqueue
  split
  · exact Raised.same rfl rfl rfl
  · exact Raised.trans (raised_lose s r) (Raised.same rfl rfl rfl)
theorem raised_record (s : State) (r : EvRec) : Raised s (s.record r) := by
  unfold State.record
  split
  · split
    · exact Raised.same rfl rfl rfl
    · split
      · exact Raised.same rfl rfl rfl
      · exact raised_enqueue _ _
  · exact raised_enqueue _ _
theorem raised_logDecision (hw : Bool) (s : State) (r : EvRec) : Raised s (s.logDecision hw r) := by
  unfold State.logDecision; split
  · exact Raised.same rfl rfl rfl
  · exact raised_record _ _
theorem raised_note (s : State) (c j : Nat) (d : List Nat) : Raised s (s.note c j d) := raised_record _ _
theorem raised_capture (s : State) (c k : Nat) : Raised s (s.capture c k) := by
  unfold State.capture
  dsimp only
  split
  · split
    · exact Raised.same rfl rfl rfl
    · exact Raised.refl _
  · exact Raised.thn (raised_note _ _ _ _) (Raised.same rfl rfl rfl)
theorem raised_captureFault (s : State) (c k : Nat) : Raised s (s.captureFault c k) := by
  unfold State.captureFault; split
  · exact raised_capture _ _ _
  · exact Raised.refl _
theorem raised_mapFault (s : State) (c j : Nat) (g : Active → Active) (h : ∀ f, f.code = c → f.subj = j → (g f).code = c ∧ (g f).subj = j ∧ f.cls ≤ (g f).cls) :
    Raised s (s.mapFault c j g) :=
  ⟨fun _ _ => rfl, rfl, fun f hf => by
    refine ⟨if f.code == c && f.subj == j then g f else f, List.mem_map.2 ⟨f, hf, rfl⟩, ?_⟩
    split
    · rename_i hc
      simp only [Bool.and_eq_true, beq_iff_eq] at hc
      obtain ⟨a, b, d⟩ := h f hc.1 hc.2
      exact ⟨a.trans hc.1.symm, b.trans hc.2.symm, d⟩
    · exact ⟨rfl, rfl, le_refl _⟩⟩
theorem raised_activate (s : State) (c k j : Nat) (e : Bool) : Raised s (s.activate c k j e) := by
  unfold State.activate
  dsimp only
  split
  · exact raised_mapFault _ _ _ _ (fun f _ _ => ⟨rfl, rfl, le_max_left _ _⟩)
  · exact ⟨fun _ _ => rfl, rfl, fun f hf => ⟨f, List.mem_append_left _ hf, rfl, rfl, le_refl _⟩⟩
theorem raised_countLatch (hw : Bool) (s : State) (c j : Nat) : Raised s (State.countLatch hw s c j) := by
  unfold State.countLatch
  dsimp only
  split
  · refine Raised.trans ?_ (raised_activate _ _ _ _ _)
    refine Raised.trans ?_ (raised_logDecision _ _ _)
    exact Raised.thn (raised_mapFault _ _ _ _ (fun f a b => ⟨a, b, le_refl _⟩)) (Raised.same rfl rfl rfl)
  · exact Raised.same rfl rfl rfl
theorem raised_coilOff (k : Nat) (s : State) : Raised s (s.coilOff k) := by
  unfold State.coilOff
  dsimp only
  split
  all_goals split
  all_goals exact Raised.same rfl rfl rfl
theorem raised_coilsOff (s : State) : Raised s s.coilsOff := Raised.trans (Raised.trans (raised_coilOff _ _) (raised_coilOff _ _)) (raised_coilOff _ _)
theorem raised_startBreaker (s : State) : Raised s s.startBreaker := by
  unfold State.startBreaker
  split
  · exact Raised.trans (Raised.trans (Raised.setReg (by decide)) (raised_coilsOff _)) (Raised.same rfl rfl rfl)
  · exact Raised.refl _
theorem raised_breakerIfNew (b : Nat) (s : State) : Raised s (s.breakerIfNew b) := by
  unfold State.breakerIfNew; split
  · exact raised_startBreaker _
  · exact Raised.refl _
theorem raised_raiseBreaking (hw : Bool) (s : State) : Raised s (s.raiseBreaking hw) := by
  unfold State.raiseBreaking
  dsimp only
  exact Raised.trans (Raised.trans (Raised.trans (raised_logDecision _ _ _) (raised_activate _ _ _ _ _)) (raised_captureFault _ _ _)) (raised_breakerIfNew _ _)
theorem raised_dropCoils (s : State) : Raised s s.dropCoils := by
  have h : Raised s (s.coilsOff.inhibit true) := Raised.trans (raised_coilsOff s) (Raised.setReg (by decide))
  unfold State.dropCoils
  dsimp only
  split
  · exact h
  · exact Raised.trans (Raised.trans (Raised.trans h (Raised.setReg (by decide))) (Raised.setReg (by decide))) (Raised.same rfl rfl rfl)
theorem raised_emergencyOpen (hw : Bool) (c : Nat) (s : State) : Raised s (s.emergencyOpen hw c) := by
  unfold State.emergencyOpen
  dsimp only
  split
  · refine Raised.trans ?_ (raised_dropCoils _)
    split
    · exact raised_raiseBreaking _ _
    · exact Raised.refl _
  · exact Raised.refl _
theorem raised_orderlyOpen (s : State) : Raised s s.orderlyOpen := by
  unfold State.orderlyOpen
  dsimp only
  split
  · exact Raised.trans (Raised.trans (Raised.setReg (by decide)) (Raised.setReg (by decide))) (Raised.same rfl rfl rfl)
  · split
    · exact Raised.same rfl rfl rfl
    · exact Raised.refl _
theorem raised_hoAbandon (hw : Bool) (s : State) : Raised s (s.hoAbandon hw) := by
  unfold State.hoAbandon
  dsimp only
  refine Raised.thn (raised_captureFault _ _ _) (Raised.thn (raised_activate _ _ _ _ _) (Raised.thn (raised_logDecision _ _ _) ?_))
  exact Raised.trans (Raised.trans (Raised.setReg (f := Reg.TDM_STAT_HO) (v := 0) (by decide)) (Raised.setReg (f := Reg.TDM_LAST_ABAND) (v := 1) (by decide)))
    (Raised.same rfl rfl rfl)
theorem raised_hoStop (hw : Bool) (s : State) : Raised s (s.hoStop hw) := by
  unfold State.hoStop; split
  · exact raised_hoAbandon _ _
  · exact Raised.refl _
theorem raised_openFor (hw : Bool) (c k b : Nat) (s : State) : Raised s (s.openFor hw c k b) := by
  unfold State.openFor
  split
  · exact Raised.trans (raised_breakerIfNew _ _) (raised_emergencyOpen _ _ _)
  · split
    · exact raised_orderlyOpen _
    · split
      · exact Raised.refl _
      · exact raised_emergencyOpen _ _ _
theorem active_after (s : State) (c k j : Nat) (e : Bool) :
    ∃ f ∈ (s.activate c k j e).flt.active, f.code = c ∧ f.subj = j ∧ k ≤ f.cls := by
  unfold State.activate
  dsimp only
  split
  · rename_i hi
    unfold State.inEffectOn at hi
    obtain ⟨f, hf, hc⟩ := List.any_eq_true.1 hi
    refine ⟨_, List.mem_map.2 ⟨f, hf, rfl⟩, ?_⟩
    rw [if_pos hc]
    exact ⟨rfl, rfl, le_max_right _ _⟩
  · exact ⟨_, List.mem_append_right _ (List.mem_singleton.2 rfl), rfl, rfl, le_refl _⟩
theorem raised_raiseOpen (hw : Bool) (c k b : Nat) (s : State) :
    Raised s (if s.handsOver c k hw then { s with tdm := { s.tdm with trigger := some (2, c) } } else (s.hoStop hw).openFor hw c k b) := by
  cases s.handsOver c k hw
  · exact Raised.trans (raised_hoStop _ _) (raised_openFor _ _ _ _ _)
  · exact Raised.same rfl rfl rfl
theorem raised_raiseLatch (b hw : Bool) (c j : Nat) (s : State) : Raised s (if b then State.countLatch hw s c j else s) := by
  cases b
  · exact Raised.refl _
  · exact raised_countLatch _ _ _ _
/-- Raising a fault keeps what `Raised` says and puts the fault in effect. -/
theorem raised_raiseAs (hw : Bool) (c k j : Nat) (e : Bool) (d : List Nat) (s : State) :
    Raised s (s.raiseAs hw c k j e d) ∧ (k ≠ 0 → ∃ f ∈ (s.raiseAs hw c k j e d).flt.active, f.code = c ∧ f.subj = j ∧ k ≤ f.cls) := by
  have up : ∀ {a b : State}, Raised a b → (∃ f ∈ a.flt.active, f.code = c ∧ f.subj = j ∧ k ≤ f.cls) →
      ∃ f ∈ b.flt.active, f.code = c ∧ f.subj = j ∧ k ≤ f.cls := fun h ⟨f, hf, x, y, z⟩ => by
    obtain ⟨g, hg, x', y', z'⟩ := h.act f hf
    exact ⟨g, hg, x'.trans x, y'.trans y, le_trans z z'⟩
  unfold State.raiseAs
  extract_lets before r m0 m1 m s1 s2 s3
  have h0 : Raised m s1 := raised_logDecision hw m r
  have h1 : Raised s s1 := Raised.trans (t := m) (Raised.same rfl rfl rfl) h0
  have h2 : Raised (s1.activate c k j e) s2 := raised_captureFault _ _ _
  have h3 : Raised (s1.activate c k j e) s3 := Raised.trans h2 (raised_raiseLatch _ _ _ _ _)
  have h4 := Raised.trans h3 (raised_raiseOpen hw c k before s3)
  have h5 := active_after s1 c k j e
  have h6 := Raised.trans h1 (raised_activate s1 c k j e)
  clear_value s1 s2 s3
  by_cases hk : k = 0
  · rw [if_pos hk]; exact ⟨h1, fun h => absurd hk h⟩
  · rw [if_neg hk]
    by_cases hl : k < 3
    · rw [if_pos hl]; exact ⟨Raised.trans h6 h2, fun _ => up h2 h5⟩
    · rw [if_neg hl]; exact ⟨Raised.trans h6 h4, fun _ => up h4 h5⟩

end Sys2Proof.Machine
end

