-- ==== Sys2Proof/Laws/Step.lean ====
section
/-! SUPPORT. What a step can do, said once: the command it takes, and the parts of the state that command may change. -/
namespace Sys2Proof.Machine

/-- Every command answers a next state. -/
theorem exec_next (c : Instr) (s : State) : exec c s = .next (andThen (exec c) s) := by
  cases c <;> rfl

theorem next_of_exec {c : Instr} {s t : State} (h : exec c s = .next t) : t = andThen (exec c) s := by
  rw [exec_next] at h; cases h; rfl

/-- A step leaves an idle state as it is, or runs the front command on the state with the rest of the queue. -/
theorem step_cases {s t : State} (h : step s = .next t) :
    (s.pending = [] ∧ t = s) ∨ ∃ c r, s.pending = c :: r ∧ t = andThen (exec c) { s with pending := r } := by
  unfold step at h
  split at h
  · cases h; exact .inl ⟨‹_›, rfl⟩
  · exact .inr ⟨_, _, ‹_›, next_of_exec h⟩

/-- The parts of the state that a command may change, by bits (`Frame`). -/
def Instr.parts : Instr → Nat
  | .strike .. => 0x6fffffe6
  | .intakeCommitLate => 0x16020c4
  | .sup .. => 0x6be7ece6
  | .mest => 0x200a4
  | .sev => 0x16060e4
  | .env => 0x17020e4
  | .bal => 0x400e4
  | .img => 0x400024
  | .chk .. => 0x416120e4
  | .fit => 0x820024
  | .deadlineMiss .. => 0x16660e4
  | .heartbeatMissing => 0x16028c4
  | .keepaliveTimeout .. => 0x402804
  | .bnkCtrlWrite .. => 0x160a1c4
  | .bankConfigApply => 0x304
  | .filterChangeApply => 0x704
  | .bankDiscovery .. => 0x100
  | .laneLock .. => 0x16025c4
  | .trayIdCheck .. => 0x16321c4
  | .surveyCheck .. => 0x16021c4
  | .normalRangeCheck .. => 0x16021c4
  | .bankRelease .. => 0x60344
  | .alignmentLost .. => 0x16020c4
  | .alignmentRegained .. => 0x444
  | .branchLost .. => 0x16021c4
  | .branchReturn .. => 0x16321c4
  | .relayFeedbackFault .. => 0x16020c4
  | .checkDwellEnd .. => 0x16022c4
  | .frozenWord .. => 0x16020c4
  | .checkCoverageLapse .. => 0x16020c4
  | .comparatorImplausible .. => 0x16020c4
  | .hallSupplyFault => 0x16024c4
  | .curCtrlWrite .. => 0x160a0c4
  | .imdPeriodEnd .. => 0x16028c4
  | .imdSelfTest => 0x800
  | .imdRelayFault .. => 0x16028c4
  | .thmConfigWrite .. => 0x160a0c4
  | .dieSensorImplausible .. => 0x16030c4
  | .dieWarning => 0x16220c4
  | .dieCooled => 0x4
  | .dieShutdown => 0x6038e4
  | .bankWarning .. => 0x16020c4
  | .bankShutdown .. => 0x16021c4
  | .dieHoldRelease .. => 0x20000020
  | .outletRiseAlarm => 0x16020c4
  | .tableBuildComplete .. => 0x10084
  | .generationSwitch => 0x10044
  | .snapshotPeriodic => 0x10000
  | .snapshotDeliver => 0x10004
  | .snapshotDiscard => 0x10000
  | .restoreWindowClose => 0x16120c4
  | .vecResume => 0x20000
  | .impedanceBlockEnd .. => 0x820000
  | .platingBumpEnd .. => 0x20000
  | .advisoryRequest .. => 0x16220c4
  | .advisoryPersist .. => 0x16220c4
  | .hwTestMet .. => 0x16020c4
  | .supervisionTestMet .. => 0x16020c4
  | .thresholdSetApply => 0x160a0c4
  | .contactFeedbackChange .. => 0x2804
  | .weldTestJudge => 0x16020c4
  | .prechargeComplete => 0x2000
  | .prechargeTimeout => 0x16020c4
  | .prechargeOvercurrent => 0x16020c4
  | .overlapElapsed => 0x2000
  | .feedbackCloseTimeout .. => 0x16020c4
  | .feedbackOpenTimeout .. => 0x16020c4
  | .openCurrentLow => 0x2000
  | .kNegDelayEnd => 0x2000
  | .orderlyTimeout => 0x16020c4
  | .breakerPulseEnd => 0x16020c4
  | .coilCircuitFault .. => 0x16020c4
  | .class2Clear .. => 0xc4
  | .siLevelChange .. => 0x4004
  | .siDiscrepancy .. => 0x16060c4
  | .testPulse .. => 0x16060c4
  | .tpReadbackFault .. => 0x16060c4
  | .isoHoldEnd .. => 0x4000
  | .srstEdge => 0x16060c4
  | .srstHeld => 0x4084
  | .srstChatterEnd => 0x44
  | .telegramSend .. => 0x2004000
  | .telegramReceive .. => 0x16060c4
  | .telegramSkewExpiry .. => 0x4000
  | .telegramTimeout .. => 0x16060c4
  | .sessionIdleTimeout => 0xa004
  | .sessionPathLost .. => 0x80a09c
  | .sessionCommitComplete .. => 0x63f1b8c6
  | .passwordLockoutEnd => 0x8004
  | .shuttleChange .. => 0x40004
  | .quietPeriodEnd => 0x40000
  | .dissipationExcess => 0x16420c4
  | .bleedNonconvergence .. => 0x16420c4
  | .shuttleFault .. => 0x16420c4
  | .govWrite .. => 0x168a0c4
  | .slotFail .. => 0x16820c4
  | .slotFailExit .. => 0x40
  | .setpointReadbackFault => 0x16020c4
  | .aoutReadbackFault => 0x16020c4
  | .actReadbackFault .. => 0x16020c4
  | .analogRangeChange => 0x80000
  | .rangeChangeComplete => 0x80004
  | .setpointWrite .. => 0x170a0c4
  | .setpointTimeout => 0x16020c4
  | .envelopeStale => 0x17020c4
  | .readerOverrun .. => 0x1e020c4
  | .scrubPass .. => 0x16220e4
  | .millpondReady .. => 0x16020c4
  | .linkUp .. => 0x800004
  | .linkDown => 0x1e0a0c4
  | .perstAssert => 0x61e0a0c4
  | .perstDeassert => 0x4
  | .functionLevelReset .. => 0x61e0a0c4
  | .functionPowerChange .. => 0x1e020c4
  | .heldEntryFlush .. => 0x810006
  | .holdTimeout .. => 0x1e020c4
  | .pmeTurnOff => 0x1e020c4
  | .pmeResend .. => 0x800000
  | .ringLoad .. => 0x1e020c6
  | .ringUnload .. => 0x63e0a0c6
  | .rctBaseWrite .. => 0x160a0c4
  | .privWrite .. => 0x160a0c4
  | .doorbell .. => 0x1e020d4
  | .entryWrite .. => 0x810006
  | .modtimeExpiry .. => 0x800000
  | .hostReadTimeout .. => 0x1e020c4
  | .cellTableRead .. => 0x160a0c4
  | .cellTableReadDone .. => 0x1e020c4
  | .nopCmd .. => 0x3e020c6
  | .flumeOpen .. => 0x3e020c6
  | .flumeClose .. => 0x3e020c6
  | .flumeStat .. => 0x3e020c6
  | .flumeRecord .. => 0x1e220e4
  | .flumeFlush .. => 0x1e020c4
  | .flumeEnd .. => 0x1e020c4
  | .setpoint .. => 0x3f0a0c6
  | .hostInput .. => 0x3e8a0c6
  | .capture .. => 0x3e020c6
  | .snapCert .. => 0x3e020c6
  | .snapModel .. => 0x3e020c6
  | .restoreCert .. => 0x3e120c6
  | .restoreModel .. => 0x3e220c6
  | .modelStart .. => 0x3e220c6
  | .connectReq .. => 0x3e020c6
  | .openReq .. => 0x3e020c6
  | .resetReq .. => 0x3e020c6
  | .weldClear .. => 0x83e0a0c6
  | .sessionOpen .. => 0x3e0a0c6
  | .sessionClose .. => 0x3e0a0c6
  | .passwordSet .. => 0x3e0a0c6
  | .keySet .. => 0x3e0a0c6
  | .tableLoad .. => 0x3e0a0c6
  | .clogRoll .. => 0x3e0a0c6
  | .cellRefresh .. => 0x3e020c6
  | .evlogMark .. => 0x3e020c6
  | .evlogFreeze .. => 0x3e020c6
  | .evlogRelease .. => 0x3e020c6
  | .evlogClear .. => 0x3e0a0c6
  | .hopEject .. => 0x3e020c6
  | .hopAdmit .. => 0x3e020c6
  | .fwStage .. => 0x43e020c6
  | .fwActivate .. => 0x63e020c6
  | .liveUpdateTimeout => 0x63e020c6
  | .chunkClose => 0x16020c4
  | .chunkCommit .. => 0x16020c4
  | .gapChunk => 0x16020c4
  | .minuteRecord => 0x1000000
  | .recordAreaCopy => 0x1008080
  | .hourSeal => 0x1000000
  | .cartridgeInsert .. => 0x16020c4
  | .cartridgeRemoved .. => 0x3e020c6
  | .cartridgeFailed .. => 0x16020c4
  | .resyncComplete .. => 0x16020c4
  | .ejectComplete .. => 0x3e020c6
  | .eventRecordCommit => 0x9e020c4
  | .foldClose => 0x84
  | .freezeTimeout => 0x84
  | .ethFrameReceive .. => 0x36020c4
  | .ethLinkChange .. => 0x56020c4
  | .ptpAnnounce .. => 0x4000004
  | .ptpSync .. => 0x56020e4
  | .acqWaitExpiry .. => 0x56020e4
  | .masterLost => 0x56020c4
  | .holdoverExpiry => 0x16020c4
  | .clientClockApply .. => 0x800002
  | .ttoArm .. => 0x560a0c6
  | .ttoPulse .. => 0x4000084
  | .tciEdge .. => 0x56020c4
  | .tciRead .. => 0x400001c
  | .intervalTimeout .. => 0x4000004
  | .canInitWrite .. => 0x960a0c4
  | .canFrameReceive .. => 0x19e020c6
  | .canRxAck .. => 0x8000084
  | .canTxRequest .. => 0x8000084
  | .canTxCancel .. => 0x18800084
  | .canTxComplete .. => 0x18800084
  | .canTefAck .. => 0x8000084
  | .canMwinAccess .. => 0x10000094
  | .canFilterWrite .. => 0x960a0c4
  | .canFilterSwap .. => 0x8000004
  | .canReferenceMessage .. => 0x8000000
  | .referenceWithdraw .. => 0x8000084
  | .discoveryRequest .. => 0x96020c4
  | .canBusOff .. => 0x9e020c4
  | .canBusOffRecovery .. => 0x8000044
  | .keepFrameReceive .. => 0x6020c4
  | .millraceLinkDown => 0x16020c4
  | .helloReceive .. => 0x16020c4
  | .imageReceive .. => 0x16128c4
  | .imageAgeAlarm => 0x16020c4
  | .roleDecide .. => 0x400000
  | .tokenClaim => 0x400000
  | .claimBackoffEnd => 0x400084
  | .claimDrop .. => 0x6028c4
  | .loopFaultBand => 0x16020c4
  | .loopDisagree => 0x16020c4
  | .handoverRequest .. => 0x16020c4
  | .handoverTimeout => 0x16020c4
  | .failoverTake => 0x400000
  | .partnerNotReady => 0x16020c4
  | .powerOnReset .. => 0x7ffffffc
  | .coldReset .. => 0x7ffffffe
  | .startSequence .. => 0x6173bdc4
  | .runEntry => 0x600108a4
  | .startTimeout => 0x616229c4
  | .warmReset => 0x61faa0e4
  | .warmResetComplete .. => 0x69e3a9e4
  | .warmResetOverrun => 0x216020c4
  | .blockReset .. => 0x20000004
  | .blockResetTimeout .. => 0x7fe260c4
  | .pwrCmdRun .. => 0x6064a0c4
  | .pwrCmdTrim .. => 0x6064a0c4
  | .pwrCmdStandstill .. => 0x6064a0c4
  | .pwrCmdWarm .. => 0x6064a0c4
  | .pwrCmdCold .. => 0x6064a0c4
  | .pwrCmdRetry .. => 0x6064a0c4
  | .standstillEntry .. => 0x9e0a9e4
  | .wake .. => 0x20000004
  | .powerFail => 0x69e0a9e4
  | .auxInputLow .. => 0x16020c4
  | .holdupTest .. => 0x216020c4
  | .coilSupplyLow => 0x16020c4
  | .lcCommission .. => 0x6160a8c4
  | .lcField .. => 0x6160a8c4
  | .lcService .. => 0x6160a8c4
  | .lcRetired .. => 0x6160a8c4
  | .serviceTimeout => 0x6040a884
  | .tlsConnect .. => 0x1e020c4
  | .serviceCommand .. => 0xe3fba0de
  | .serviceRegRead .. => 0x1680a09e
  | .serviceRegWrite .. => 0x7ffca9de
  | .serviceIdleClose .. => 0x80a09c
  | .debugChallenge .. => 0x616028c6
  | .debugLockoutEnd => 0x40000004
  | .debugDrop .. => 0x60000084
  | .debugPresenceLost => 0x60000084
  | .debugRunControl .. => 0x40000024
  | .debugMemoryWrite .. => 0x50200000
  | .lockstepMismatch .. => 0x61faa0e4
  | .lockstepEccError => 0x61faa0e4
  | .firewallBlock .. => 0x16020c4
  | .registerWrite .. => 0x7ffca9d6
  | .domainSupplyFault .. => 0x5e2a1c4
  | .aonSupplyLoss .. => 0x24000000
  | .loReadLatch .. => 0x1400009e
  | .vfEnable .. => 0x61e0a0c4
  | .vectorUnmask .. => 0x800000
  | .canErrorFrame .. => 0x18800084
  | .protocolException .. => 0x4
  | .arbitrationLoss .. => 0x18800084
  | .stageComplete .. => 0x43e020c6
  | .blockIdle .. => 0x7fe260c4
  | .newPartRunning .. => 0x63e020c6

/-- A command leaves every part of the state that it does not name. -/
theorem exec_frames (c : Instr) (s : State) : Frame (Instr.parts c) s (andThen (exec c) s) := by
  cases c with
  | strike a0 => exact execStrike_frames a0 s
  | intakeCommitLate => exact execIntakeCommitLate_frames  s
  | sup a0 => exact execSup_frames a0 s
  | mest => exact execMest_frames  s
  | sev => exact execSev_frames  s
  | env => exact execEnv_frames  s
  | bal => exact execBal_frames  s
  | img => exact execImg_frames  s
  | chk a0 => exact execChk_frames a0 s
  | fit => exact execFit_frames  s
  | deadlineMiss a0 a1 => exact execDeadlineMiss_frames a0 a1 s
  | heartbeatMissing => exact execHeartbeatMissing_frames  s
  | keepaliveTimeout a0 => exact execKeepaliveTimeout_frames a0 s
  | bnkCtrlWrite a0 a1 a2 => exact execBnkCtrlWrite_frames a0 a1 a2 s
  | bankConfigApply => exact execBankConfigApply_frames  s
  | filterChangeApply => exact execFilterChangeApply_frames  s
  | bankDiscovery a0 => exact execBankDiscovery_frames a0 s
  | laneLock a0 a1 => exact execLaneLock_frames a0 a1 s
  | trayIdCheck a0 a1 a2 => exact execTrayIdCheck_frames a0 a1 a2 s
  | surveyCheck a0 => exact execSurveyCheck_frames a0 s
  | normalRangeCheck a0 a1 => exact execNormalRangeCheck_frames a0 a1 s
  | bankRelease a0 => exact execBankRelease_frames a0 s
  | alignmentLost a0 => exact execAlignmentLost_frames a0 s
  | alignmentRegained a0 => exact execAlignmentRegained_frames a0 s
  | branchLost a0 a1 => exact execBranchLost_frames a0 a1 s
  | branchReturn a0 a1 a2 => exact execBranchReturn_frames a0 a1 a2 s
  | relayFeedbackFault a0 => exact execRelayFeedbackFault_frames a0 s
  | checkDwellEnd a0 => exact execCheckDwellEnd_frames a0 s
  | frozenWord a0 a1 => exact execFrozenWord_frames a0 a1 s
  | checkCoverageLapse a0 a1 => exact execCheckCoverageLapse_frames a0 a1 s
  | comparatorImplausible a0 a1 => exact execComparatorImplausible_frames a0 a1 s
  | hallSupplyFault => exact execHallSupplyFault_frames  s
  | curCtrlWrite a0 a1 => exact execCurCtrlWrite_frames a0 a1 s
  | imdPeriodEnd a0 => exact execImdPeriodEnd_frames a0 s
  | imdSelfTest => exact execImdSelfTest_frames  s
  | imdRelayFault a0 a1 => exact execImdRelayFault_frames a0 a1 s
  | thmConfigWrite a0 a1 a2 => exact execThmConfigWrite_frames a0 a1 a2 s
  | dieSensorImplausible a0 => exact execDieSensorImplausible_frames a0 s
  | dieWarning => exact execDieWarning_frames  s
  | dieCooled => exact execDieCooled_frames  s
  | dieShutdown => exact execDieShutdown_frames  s
  | bankWarning a0 a1 => exact execBankWarning_frames a0 a1 s
  | bankShutdown a0 a1 => exact execBankShutdown_frames a0 a1 s
  | dieHoldRelease a0 => exact execDieHoldRelease_frames a0 s
  | outletRiseAlarm => exact execOutletRiseAlarm_frames  s
  | tableBuildComplete a0 => exact execTableBuildComplete_frames a0 s
  | generationSwitch => exact execGenerationSwitch_frames  s
  | snapshotPeriodic => exact execSnapshotPeriodic_frames  s
  | snapshotDeliver => exact execSnapshotDeliver_frames  s
  | snapshotDiscard => exact execSnapshotDiscard_frames  s
  | restoreWindowClose => exact execRestoreWindowClose_frames  s
  | vecResume => exact execVecResume_frames  s
  | impedanceBlockEnd a0 => exact execImpedanceBlockEnd_frames a0 s
  | platingBumpEnd a0 => exact execPlatingBumpEnd_frames a0 s
  | advisoryRequest a0 => exact execAdvisoryRequest_frames a0 s
  | advisoryPersist a0 a1 => exact execAdvisoryPersist_frames a0 a1 s
  | hwTestMet a0 a1 => exact execHwTestMet_frames a0 a1 s
  | supervisionTestMet a0 a1 => exact execSupervisionTestMet_frames a0 a1 s
  | thresholdSetApply => exact execThresholdSetApply_frames  s
  | contactFeedbackChange a0 a1 => exact execContactFeedbackChange_frames a0 a1 s
  | weldTestJudge => exact execWeldTestJudge_frames  s
  | prechargeComplete => exact execPrechargeComplete_frames  s
  | prechargeTimeout => exact execPrechargeTimeout_frames  s
  | prechargeOvercurrent => exact execPrechargeOvercurrent_frames  s
  | overlapElapsed => exact execOverlapElapsed_frames  s
  | feedbackCloseTimeout a0 => exact execFeedbackCloseTimeout_frames a0 s
  | feedbackOpenTimeout a0 => exact execFeedbackOpenTimeout_frames a0 s
  | openCurrentLow => exact execOpenCurrentLow_frames  s
  | kNegDelayEnd => exact execKNegDelayEnd_frames  s
  | orderlyTimeout => exact execOrderlyTimeout_frames  s
  | breakerPulseEnd => exact execBreakerPulseEnd_frames  s
  | coilCircuitFault a0 => exact execCoilCircuitFault_frames a0 s
  | class2Clear a0 a1 => exact execClass2Clear_frames a0 a1 s
  | siLevelChange a0 a1 => exact execSiLevelChange_frames a0 a1 s
  | siDiscrepancy a0 => exact execSiDiscrepancy_frames a0 s
  | testPulse a0 a1 => exact execTestPulse_frames a0 a1 s
  | tpReadbackFault a0 => exact execTpReadbackFault_frames a0 s
  | isoHoldEnd a0 => exact execIsoHoldEnd_frames a0 s
  | srstEdge => exact execSrstEdge_frames  s
  | srstHeld => exact execSrstHeld_frames  s
  | srstChatterEnd => exact execSrstChatterEnd_frames  s
  | telegramSend a0 => exact execTelegramSend_frames a0 s
  | telegramReceive a0 a1 a2 => exact execTelegramReceive_frames a0 a1 a2 s
  | telegramSkewExpiry a0 => exact execTelegramSkewExpiry_frames a0 s
  | telegramTimeout a0 => exact execTelegramTimeout_frames a0 s
  | sessionIdleTimeout => exact execSessionIdleTimeout_frames  s
  | sessionPathLost a0 => exact execSessionPathLost_frames a0 s
  | sessionCommitComplete a0 => exact execSessionCommitComplete_frames a0 s
  | passwordLockoutEnd => exact execPasswordLockoutEnd_frames  s
  | shuttleChange a0 => exact execShuttleChange_frames a0 s
  | quietPeriodEnd => exact execQuietPeriodEnd_frames  s
  | dissipationExcess => exact execDissipationExcess_frames  s
  | bleedNonconvergence a0 => exact execBleedNonconvergence_frames a0 s
  | shuttleFault a0 a1 => exact execShuttleFault_frames a0 a1 s
  | govWrite a0 a1 a2 => exact execGovWrite_frames a0 a1 a2 s
  | slotFail a0 => exact execSlotFail_frames a0 s
  | slotFailExit a0 => exact execSlotFailExit_frames a0 s
  | setpointReadbackFault => exact execSetpointReadbackFault_frames  s
  | aoutReadbackFault => exact execAoutReadbackFault_frames  s
  | actReadbackFault a0 => exact execActReadbackFault_frames a0 s
  | analogRangeChange => exact execAnalogRangeChange_frames  s
  | rangeChangeComplete => exact execRangeChangeComplete_frames  s
  | setpointWrite a0 a1 => exact execSetpointWrite_frames a0 a1 s
  | setpointTimeout => exact execSetpointTimeout_frames  s
  | envelopeStale => exact execEnvelopeStale_frames  s
  | readerOverrun a0 => exact execReaderOverrun_frames a0 s
  | scrubPass a0 => exact execScrubPass_frames a0 s
  | millpondReady a0 a1 => exact execMillpondReady_frames a0 a1 s
  | linkUp a0 a1 => exact execLinkUp_frames a0 a1 s
  | linkDown => exact execLinkDown_frames  s
  | perstAssert => exact execPerstAssert_frames  s
  | perstDeassert => exact execPerstDeassert_frames  s
  | functionLevelReset a0 => exact execFunctionLevelReset_frames a0 s
  | functionPowerChange a0 a1 a2 a3 a4 => exact execFunctionPowerChange_frames a0 a1 a2 a3 a4 s
  | heldEntryFlush a0 => exact execHeldEntryFlush_frames a0 s
  | holdTimeout a0 => exact execHoldTimeout_frames a0 s
  | pmeTurnOff => exact execPmeTurnOff_frames  s
  | pmeResend a0 => exact execPmeResend_frames a0 s
  | ringLoad a0 a1 a2 => exact execRingLoad_frames a0 a1 a2 s
  | ringUnload a0 a1 a2 => exact execRingUnload_frames a0 a1 a2 s
  | rctBaseWrite a0 a1 a2 => exact execRctBaseWrite_frames a0 a1 a2 s
  | privWrite a0 a1 a2 => exact execPrivWrite_frames a0 a1 a2 s
  | doorbell a0 a1 a2 a3 => exact execDoorbell_frames a0 a1 a2 a3 s
  | entryWrite a0 a1 => exact execEntryWrite_frames a0 a1 s
  | modtimeExpiry a0 a1 => exact execModtimeExpiry_frames a0 a1 s
  | hostReadTimeout a0 a1 => exact execHostReadTimeout_frames a0 a1 s
  | cellTableRead a0 a1 => exact execCellTableRead_frames a0 a1 s
  | cellTableReadDone a0 => exact execCellTableReadDone_frames a0 s
  | nopCmd a0 => exact execNopCmd_frames a0 s
  | flumeOpen a0 => exact execFlumeOpen_frames a0 s
  | flumeClose a0 => exact execFlumeClose_frames a0 s
  | flumeStat a0 => exact execFlumeStat_frames a0 s
  | flumeRecord a0 a1 a2 a3 a4 => exact execFlumeRecord_frames a0 a1 a2 a3 a4 s
  | flumeFlush a0 a1 => exact execFlumeFlush_frames a0 a1 s
  | flumeEnd a0 a1 a2 => exact execFlumeEnd_frames a0 a1 a2 s
  | setpoint a0 => exact execSetpoint_frames a0 s
  | hostInput a0 => exact execHostInput_frames a0 s
  | capture a0 => exact execCapture_frames a0 s
  | snapCert a0 => exact execSnapCert_frames a0 s
  | snapModel a0 => exact execSnapModel_frames a0 s
  | restoreCert a0 => exact execRestoreCert_frames a0 s
  | restoreModel a0 => exact execRestoreModel_frames a0 s
  | modelStart a0 => exact execModelStart_frames a0 s
  | connectReq a0 => exact execConnectReq_frames a0 s
  | openReq a0 => exact execOpenReq_frames a0 s
  | resetReq a0 => exact execResetReq_frames a0 s
  | weldClear a0 => exact execWeldClear_frames a0 s
  | sessionOpen a0 => exact execSessionOpen_frames a0 s
  | sessionClose a0 => exact execSessionClose_frames a0 s
  | passwordSet a0 => exact execPasswordSet_frames a0 s
  | keySet a0 => exact execKeySet_frames a0 s
  | tableLoad a0 => exact execTableLoad_frames a0 s
  | clogRoll a0 => exact execClogRoll_frames a0 s
  | cellRefresh a0 => exact execCellRefresh_frames a0 s
  | evlogMark a0 => exact execEvlogMark_frames a0 s
  | evlogFreeze a0 => exact execEvlogFreeze_frames a0 s
  | evlogRelease a0 => exact execEvlogRelease_frames a0 s
  | evlogClear a0 => exact execEvlogClear_frames a0 s
  | hopEject a0 => exact execHopEject_frames a0 s
  | hopAdmit a0 => exact execHopAdmit_frames a0 s
  | fwStage a0 => exact execFwStage_frames a0 s
  | fwActivate a0 => exact execFwActivate_frames a0 s
  | liveUpdateTimeout => exact execLiveUpdateTimeout_frames  s
  | chunkClose => exact execChunkClose_frames  s
  | chunkCommit a0 a1 => exact execChunkCommit_frames a0 a1 s
  | gapChunk => exact execGapChunk_frames  s
  | minuteRecord => exact execMinuteRecord_frames  s
  | recordAreaCopy => exact execRecordAreaCopy_frames  s
  | hourSeal => exact execHourSeal_frames  s
  | cartridgeInsert a0 a1 a2 => exact execCartridgeInsert_frames a0 a1 a2 s
  | cartridgeRemoved a0 => exact execCartridgeRemoved_frames a0 s
  | cartridgeFailed a0 a1 => exact execCartridgeFailed_frames a0 a1 s
  | resyncComplete a0 => exact execResyncComplete_frames a0 s
  | ejectComplete a0 => exact execEjectComplete_frames a0 s
  | eventRecordCommit => exact execEventRecordCommit_frames  s
  | foldClose => exact execFoldClose_frames  s
  | freezeTimeout => exact execFreezeTimeout_frames  s
  | ethFrameReceive a0 a1 => exact execEthFrameReceive_frames a0 a1 s
  | ethLinkChange a0 a1 a2 => exact execEthLinkChange_frames a0 a1 a2 s
  | ptpAnnounce a0 => exact execPtpAnnounce_frames a0 s
  | ptpSync a0 => exact execPtpSync_frames a0 s
  | acqWaitExpiry a0 => exact execAcqWaitExpiry_frames a0 s
  | masterLost => exact execMasterLost_frames  s
  | holdoverExpiry => exact execHoldoverExpiry_frames  s
  | clientClockApply a0 a1 => exact execClientClockApply_frames a0 a1 s
  | ttoArm a0 a1 a2 => exact execTtoArm_frames a0 a1 a2 s
  | ttoPulse a0 => exact execTtoPulse_frames a0 s
  | tciEdge a0 a1 a2 => exact execTciEdge_frames a0 a1 a2 s
  | tciRead a0 a1 => exact execTciRead_frames a0 a1 s
  | intervalTimeout a0 => exact execIntervalTimeout_frames a0 s
  | canInitWrite a0 a1 a2 a3 => exact execCanInitWrite_frames a0 a1 a2 a3 s
  | canFrameReceive a0 a1 => exact execCanFrameReceive_frames a0 a1 s
  | canRxAck a0 a1 a2 => exact execCanRxAck_frames a0 a1 a2 s
  | canTxRequest a0 a1 => exact execCanTxRequest_frames a0 a1 s
  | canTxCancel a0 a1 a2 => exact execCanTxCancel_frames a0 a1 a2 s
  | canTxComplete a0 a1 a2 => exact execCanTxComplete_frames a0 a1 a2 s
  | canTefAck a0 a1 => exact execCanTefAck_frames a0 a1 s
  | canMwinAccess a0 a1 a2 => exact execCanMwinAccess_frames a0 a1 a2 s
  | canFilterWrite a0 a1 a2 => exact execCanFilterWrite_frames a0 a1 a2 s
  | canFilterSwap a0 => exact execCanFilterSwap_frames a0 s
  | canReferenceMessage a0 => exact execCanReferenceMessage_frames a0 s
  | referenceWithdraw a0 => exact execReferenceWithdraw_frames a0 s
  | discoveryRequest a0 => exact execDiscoveryRequest_frames a0 s
  | canBusOff a0 => exact execCanBusOff_frames a0 s
  | canBusOffRecovery a0 => exact execCanBusOffRecovery_frames a0 s
  | keepFrameReceive a0 => exact execKeepFrameReceive_frames a0 s
  | millraceLinkDown => exact execMillraceLinkDown_frames  s
  | helloReceive a0 => exact execHelloReceive_frames a0 s
  | imageReceive a0 a1 => exact execImageReceive_frames a0 a1 s
  | imageAgeAlarm => exact execImageAgeAlarm_frames  s
  | roleDecide a0 => exact execRoleDecide_frames a0 s
  | tokenClaim => exact execTokenClaim_frames  s
  | claimBackoffEnd => exact execClaimBackoffEnd_frames  s
  | claimDrop a0 => exact execClaimDrop_frames a0 s
  | loopFaultBand => exact execLoopFaultBand_frames  s
  | loopDisagree => exact execLoopDisagree_frames  s
  | handoverRequest a0 a1 => exact execHandoverRequest_frames a0 a1 s
  | handoverTimeout => exact execHandoverTimeout_frames  s
  | failoverTake => exact execFailoverTake_frames  s
  | partnerNotReady => exact execPartnerNotReady_frames  s
  | powerOnReset a0 a1 => exact execPowerOnReset_frames a0 a1 s
  | coldReset a0 => exact execColdReset_frames a0 s
  | startSequence a0 => exact execStartSequence_frames a0 s
  | runEntry => exact execRunEntry_frames  s
  | startTimeout => exact execStartTimeout_frames  s
  | warmReset => exact execWarmReset_frames  s
  | warmResetComplete a0 => exact execWarmResetComplete_frames a0 s
  | warmResetOverrun => exact execWarmResetOverrun_frames  s
  | blockReset a0 a1 => exact execBlockReset_frames a0 a1 s
  | blockResetTimeout a0 => exact execBlockResetTimeout_frames a0 s
  | pwrCmdRun a0 a1 => exact execPwrCmdRun_frames a0 a1 s
  | pwrCmdTrim a0 a1 => exact execPwrCmdTrim_frames a0 a1 s
  | pwrCmdStandstill a0 a1 => exact execPwrCmdStandstill_frames a0 a1 s
  | pwrCmdWarm a0 a1 => exact execPwrCmdWarm_frames a0 a1 s
  | pwrCmdCold a0 a1 => exact execPwrCmdCold_frames a0 a1 s
  | pwrCmdRetry a0 a1 => exact execPwrCmdRetry_frames a0 a1 s
  | standstillEntry a0 => exact execStandstillEntry_frames a0 s
  | wake a0 a1 => exact execWake_frames a0 a1 s
  | powerFail => exact execPowerFail_frames  s
  | auxInputLow a0 => exact execAuxInputLow_frames a0 s
  | holdupTest a0 => exact execHoldupTest_frames a0 s
  | coilSupplyLow => exact execCoilSupplyLow_frames  s
  | lcCommission a0 a1 => exact execLcCommission_frames a0 a1 s
  | lcField a0 a1 => exact execLcField_frames a0 a1 s
  | lcService a0 a1 => exact execLcService_frames a0 a1 s
  | lcRetired a0 a1 => exact execLcRetired_frames a0 a1 s
  | serviceTimeout => exact execServiceTimeout_frames  s
  | tlsConnect a0 => exact execTlsConnect_frames a0 s
  | serviceCommand a0 a1 => exact execServiceCommand_frames a0 a1 s
  | serviceRegRead a0 a1 => exact execServiceRegRead_frames a0 a1 s
  | serviceRegWrite a0 a1 => exact execServiceRegWrite_frames a0 a1 s
  | serviceIdleClose a0 => exact execServiceIdleClose_frames a0 s
  | debugChallenge a0 => exact execDebugChallenge_frames a0 s
  | debugLockoutEnd => exact execDebugLockoutEnd_frames  s
  | debugDrop a0 a1 => exact execDebugDrop_frames a0 a1 s
  | debugPresenceLost => exact execDebugPresenceLost_frames  s
  | debugRunControl a0 a1 a2 => exact execDebugRunControl_frames a0 a1 a2 s
  | debugMemoryWrite a0 a1 a2 a3 => exact execDebugMemoryWrite_frames a0 a1 a2 a3 s
  | lockstepMismatch a0 => exact execLockstepMismatch_frames a0 s
  | lockstepEccError => exact execLockstepEccError_frames  s
  | firewallBlock a0 a1 a2 => exact execFirewallBlock_frames a0 a1 a2 s
  | registerWrite a0 a1 a2 a3 => exact execRegisterWrite_frames a0 a1 a2 a3 s
  | domainSupplyFault a0 a1 => exact execDomainSupplyFault_frames a0 a1 s
  | aonSupplyLoss a0 => exact execAonSupplyLoss_frames a0 s
  | loReadLatch a0 a1 => exact execLoReadLatch_frames a0 a1 s
  | vfEnable a0 a1 => exact execVfEnable_frames a0 a1 s
  | vectorUnmask a0 a1 a2 => exact execVectorUnmask_frames a0 a1 a2 s
  | canErrorFrame a0 a1 a2 => exact execCanErrorFrame_frames a0 a1 a2 s
  | protocolException a0 => exact execProtocolException_frames a0 s
  | arbitrationLoss a0 a1 => exact execArbitrationLoss_frames a0 a1 s
  | stageComplete a0 => exact execStageComplete_frames a0 s
  | blockIdle a0 => exact execBlockIdle_frames a0 s
  | newPartRunning a0 => exact execNewPartRunning_frames a0 s

end Sys2Proof.Machine
end

