-- ==== Sys2Proof/Laws/Weld.lean ====
section
/-! SUPPORT. The weld lockout clear command outside a session, and the service commands of other opcodes (R224). -/
namespace Sys2Proof.Machine

theorem inSession_closed (f : Session → State → State × Reply) (x : CmdCtx) (s : State) (h : s.auth.session = none) :
    (inSession f x s).1 = s := by
  unfold inSession State.sessionOf
  rw [h]
theorem weld_serve (x : CmdCtx) (s : State) (h : s.auth.session = none) : Frame 0x03e020c6 s (s.serve cmdWeldClear x) := by
  have hc : ∀ c y, Frame 0x03e020c6 s (s.complete c y) := fun c y => Frame.step (State.complete_frames _ _ _) rfl (Frame.refl _ _)
  have hr : (cmdWeldClear.run x s).1 = s := inSession_closed _ _ _ h
  unfold State.serve
  repeat' split
  all_goals first
    | exact hc _ _
    | (rename_i he; rw [he] at hr; dsimp only at hr; rw [hr]; first | exact hc _ _ | exact Frame.refl _ _)
theorem weld_command (c : CmdIn) (s : State) (h : s.auth.session = none) : Frame 0x03e020c6 s (s.command cmdWeldClear c) := by
  unfold State.command
  split
  · have h1 : Frame 0x03e020c6 s (s.quiet.needCtx c.fn c.ring).1 := Frame.step (State.needCtx_frames _ _ _) rfl
      (Frame.step (State.quiet_frames _) rfl (Frame.refl _ _))
    dsimp only
    split
    · have h2 : Frame 0x03e020c6 s ((s.quiet.needCtx c.fn c.ring).1.fetch c cmdWeldClear.secret).1 :=
        Frame.step (State.fetch_frames _ _ _) rfl h1
      exact Frame.step (weld_serve _ _ (by rw [h2.auth rfl, h])) rfl h2
    · exact h1
  · exact Frame.refl _ _
theorem weld_svcCommand (c : Nat) (m : List Nat) (s : State) (h : s.auth.session = none) : Frame 0x63fba0c6 s (s.svcCommand c m) := by
  unfold State.svcCommand
  dsimp only
  split
  · rename_i k hk
    have hm := List.mem_of_find?_eq_some hk
    by_cases ho : k.opc = 0x53
    · have hk' : k = cmdWeldClear := by
        simp only [catalogue, List.mem_cons, List.not_mem_nil, or_false] at hm
        rcases hm with h|h|h|h|h|h|h|h|h|h|h|h|h|h|h|h|h|h|h|h|h|h|h|h|h|h|h|h|h|h|h <;> subst h <;> first | rfl | exact absurd ho (by decide)
      subst hk'
      exact Frame.step (weld_serve _ _ h) rfl (Frame.refl _ _)
    · exact State.serve_frames (catalogue_frames _ hm ho) rfl _ _
  · exact Frame.step (State.complete_frames _ _ _) rfl (Frame.refl _ _)
theorem svcCommand_other (c : Nat) (m : List Nat) (s : State) (h : leAt ((msgBody m).take 64) 0 2 ≠ 0x53) : Frame 0x63fba0c6 s (s.svcCommand c m) := by
  unfold State.svcCommand
  dsimp only
  split
  · rename_i k hk
    have hm := List.mem_of_find?_eq_some hk
    have ho := List.find?_some hk
    exact State.serve_frames (catalogue_frames _ hm (by rw [beq_iff_eq] at ho; rw [ho]; exact h)) rfl _ _
  · exact Frame.step (State.complete_frames _ _ _) rfl (Frame.refl _ _)
theorem weld_service (c : Nat) (m : List Nat) (s : State) (h : s.auth.session = none ∨ leAt ((msgBody m).take 64) 0 2 ≠ 0x53) :
    Frame 0x63fba0de s (andThen (execServiceCommand c m) s) := by
  dsimp only [andThen, execServiceCommand]
  unfold State.onMessage
  split
  · exact Frame.refl _ _
  · split
    · exact Frame.refl _ _
    split
    · have h2 : ∀ x, Frame 0x63fba0de s { s.quiet with hif := { s.quiet.hif with conns := x } } :=
        fun _ => Frame.set_hif (Frame.step (State.quiet_frames _) rfl (Frame.refl _ _)) rfl
      rcases h with h | h
      · exact Frame.step (weld_svcCommand _ _ _ h) rfl (h2 _)
      · exact Frame.step (svcCommand_other _ _ _ h) rfl (h2 _)
    · exact Frame.step (State.svcClose_frames _ _) rfl (Frame.refl _ _)

end Sys2Proof.Machine
end

