-- ==== Sys2Proof/WellFormed.lean ====
section
/-! DEFINITION. Well-formed commands: every number a command carries names a thing the module has. -/
namespace Sys2Proof

open Sys2Proof.Machine

/-- Banks 0 to 17 (R10). -/
def okBank (nn : Nat) : Bool := decide (nn < 18)

/-- Lanes: the banks and, as number 18, the current and bus front end (R61). -/
def okLane (nn : Nat) : Bool := decide (nn < 19)

/-- Local and global position numbers (R10). -/
def okLocal (p : Nat) : Bool := decide (p < 64)
def okPos (g : Nat) : Bool := decide (g < 1152)

/-- Branches B0 to B3 of a harness (R588). -/
def okBranch (k : Nat) : Bool := decide (k < 4)

/-- The coils and feedback contacts of K_POS, K_NEG and K_PRE (R216). -/
def okCoil (k : Nat) : Bool := decide (k < 3)

/-- One of two things: a channel, a port, a cartridge slot, a test-pulse output. -/
def okPair (k : Nat) : Bool := decide (k < 2)

/-- One of eight: a safety input, a telegram connection, a Governor slot. -/
def okEight (k : Nat) : Bool := decide (k < 8)

/-- The eight OCV table slots (R158). -/
def okSlot (k : Nat) : Bool := decide (k < 8)
def okSlots (l : List Nat) : Bool := l.all okSlot

/-- Functions: PF0 and 255 virtual functions; rings of a function (R359, R368). -/
def okFn (fn : Nat) : Bool := decide (fn < 256)
def okVf (fn : Nat) : Bool := decide (1 ≤ fn) && decide (fn < 256)
def okRing (r : Nat) : Bool := decide (r < 1024)

/-- CAN-A to CAN-C (R481), and the blocks of PWR_BRST (R543). -/
def okCan (c : Nat) : Bool := decide (c < 3)
def okBlock (k : Nat) : Bool := decide (k < 6)

/-- Bytes. -/
def okBytes (l : List Nat) : Bool := l.all fun b => decide (b < 256)
def okData (l : Option (List Nat)) : Bool := match l with | some b => okBytes b | none => true

/-- Event codes are 16 bits wide, offsets in a window 32. -/
def okCode (c : Nat) : Bool := decide (c < 2 ^ 16)
def okOffset (o : Nat) : Bool := decide (o < 2 ^ 32)

/-- An access path names a virtual function that can exist. -/
def okPath (p : Path) : Bool :=
  match p with
  | .pf0 => true
  | .vf n => okVf n
  | .svc _ => true
  | .dbg => true

/-- A command entry of 64 bytes from a ring that can exist (R375). -/
def Machine.CmdIn.wf (c : CmdIn) : Bool :=
  okFn c.fn && okRing c.ring && c.entry.length == 64 && okBytes c.entry && okData c.data

/-- Positions whose words a reader finds bad. -/
def Machine.EccIn.wf (e : EccIn) : Bool := e.bad.all fun x => x.2.all okPos

/-- A bank's frame carries at most 64 positions, four branches and 64-bit comparator words. -/
def Machine.BankIn.wf (b : BankIn) : Bool :=
  okBank b.bank && decide (b.v.length ≤ 64) && decide (b.cmpUnder < 2 ^ 64) && decide (b.cmpOver < 2 ^ 64)
    && decide (b.pres < 16) && b.temps.all fun t => decide (t.input < 32)

/-- At most one frame of each bank, eight module-level temperature inputs, 16 die sensors, eight safety inputs. -/
def Machine.StrikeIn.wf (i : StrikeIn) : Bool :=
  i.banks.all BankIn.wf && decide (i.banks.map (·.bank)).Nodup && i.mtemps.all (fun t => decide (t.input < 8))
    && decide (i.die.length ≤ 16) && decide (i.siA < 256) && decide (i.siB < 256) && decide (i.coilBad < 8)
    && decide (i.actBad < 64)

/-- A CAN frame: one of five formats, an identifier of 11 or 29 bits, at most 2 048 bytes (R482). -/
def Machine.CanFrame.wf (f : CanFrame) : Bool :=
  decide (f.fmt < 5) && decide (f.id < 2 ^ 29) && decide (f.data.length ≤ 2048) && okBytes f.data

/-- Well-formed commands. -/
def Instr.wf (i : Instr) : Bool :=
  match i with
  | .strike i => i.wf
  | .intakeCommitLate => true
  | .sup e => e.wf
  | .mest => true
  | .sev => true
  | .env => true
  | .bal => true
  | .img => true
  | .chk r => okSlots r.badSlots
  | .fit => true
  | .deadlineMiss task g => decide (task < 13) && okPos g
  | .heartbeatMissing => true
  | .keepaliveTimeout nn => okBank nn
  | .bnkCtrlWrite path nn _ => okPath path && okBank nn
  | .bankConfigApply => true
  | .filterChangeApply => true
  | .bankDiscovery nn => okLane nn
  | .laneLock nn r => okLane nn && decide (r.rts.length ≤ 32)
  | .trayIdCheck nn k b => okBank nn && okBranch k && okBytes b
  | .surveyCheck nn => okBank nn
  | .normalRangeCheck nn p => okBank nn && okLocal p
  | .bankRelease nn => okLane nn
  | .alignmentLost nn => okLane nn
  | .alignmentRegained nn => okLane nn
  | .branchLost nn k => okBank nn && okBranch k
  | .branchReturn nn k b => okBank nn && okBranch k && okBytes b
  | .relayFeedbackFault nn => okBank nn
  | .checkDwellEnd nn => okBank nn
  | .frozenWord nn p => okBank nn && okLocal p
  | .checkCoverageLapse nn p => okBank nn && okLocal p
  | .comparatorImplausible nn p => okBank nn && okLocal p
  | .hallSupplyFault => true
  | .curCtrlWrite path _ => okPath path
  | .imdPeriodEnd _ => true
  | .imdSelfTest => true
  | .imdRelayFault _ _ => true
  | .thmConfigWrite path off _ => okPath path && okOffset off
  | .dieSensorImplausible k => decide (k < 34)
  | .dieWarning => true
  | .dieCooled => true
  | .dieShutdown => true
  | .bankWarning nn k => okBank nn && okPair k
  | .bankShutdown nn k => okBank nn && okPair k
  | .dieHoldRelease _ => true
  | .outletRiseAlarm => true
  | .tableBuildComplete k => okSlot k
  | .generationSwitch => true
  | .snapshotPeriodic => true
  | .snapshotDeliver => true
  | .snapshotDiscard => true
  | .restoreWindowClose => true
  | .vecResume => true
  | .impedanceBlockEnd k => decide (k < 24)
  | .platingBumpEnd g => okPos g
  | .advisoryRequest _ => true
  | .advisoryPersist kind g => (kind == 1 || kind == 2) && okPos g
  | .hwTestMet code _ => okCode code
  | .supervisionTestMet code _ => okCode code
  | .thresholdSetApply => true
  | .contactFeedbackChange k _ => okCoil k
  | .weldTestJudge => true
  | .prechargeComplete => true
  | .prechargeTimeout => true
  | .prechargeOvercurrent => true
  | .overlapElapsed => true
  | .feedbackCloseTimeout k => okCoil k
  | .feedbackOpenTimeout k => okCoil k
  | .openCurrentLow => true
  | .kNegDelayEnd => true
  | .orderlyTimeout => true
  | .breakerPulseEnd => true
  | .coilCircuitFault k => okCoil k
  | .class2Clear code _ => okCode code
  | .siLevelChange n ch => okEight n && okPair ch
  | .siDiscrepancy n => okEight n
  | .testPulse tp turn => okPair tp && decide (turn < 2 ^ 59)
  | .tpReadbackFault tp => okPair tp
  | .isoHoldEnd n => okEight n
  | .srstEdge => true
  | .srstHeld => true
  | .srstChatterEnd => true
  | .telegramSend k => okEight k
  | .telegramReceive k port b => okEight k && okPair port && okBytes b
  | .telegramSkewExpiry k => okEight k
  | .telegramTimeout k => okEight k
  | .sessionIdleTimeout => true
  | .sessionPathLost path => okPath path
  | .sessionCommitComplete _ => true
  | .passwordLockoutEnd => true
  | .shuttleChange nn => okBank nn
  | .quietPeriodEnd => true
  | .dissipationExcess => true
  | .bleedNonconvergence g => okPos g
  | .shuttleFault nn code => okBank nn && (code == 0x0902 || code == 0x0903)
  | .govWrite path off _ => okPath path && okOffset off
  | .slotFail n => okEight n
  | .slotFailExit n => okEight n
  | .setpointReadbackFault => true
  | .aoutReadbackFault => true
  | .actReadbackFault k => decide (k < 6)
  | .analogRangeChange => true
  | .rangeChangeComplete => true
  | .setpointWrite path _ => okPath path
  | .setpointTimeout => true
  | .envelopeStale => true
  | .readerOverrun rd => match rd with | none => true | some (fn, r) => okFn fn && okRing r
  | .scrubPass e => e.wf
  | .millpondReady _ _ => true
  | .linkUp gen width => decide (1 ≤ gen) && decide (gen ≤ 4) && [1, 2, 4].contains width
  | .linkDown => true
  | .perstAssert => true
  | .perstDeassert => true
  | .functionLevelReset fn => okFn fn
  | .functionPowerChange fn _ _ _ _ => okFn fn
  | .heldEntryFlush fn => okFn fn
  | .holdTimeout fn => okFn fn
  | .pmeTurnOff => true
  | .pmeResend fn => okFn fn
  | .ringLoad fn r c => okFn fn && okRing r && okData c
  | .ringUnload fn r _ => okFn fn && okRing r
  | .rctBaseWrite fn _ _ => okFn fn
  | .privWrite path n _ => okPath path && okVf n
  | .doorbell fn r _ _ => okFn fn && okRing r
  | .entryWrite fn r => okFn fn && okRing r
  | .modtimeExpiry fn r => okFn fn && okRing r
  | .hostReadTimeout fn r => okFn fn && okRing r
  | .cellTableRead path _ => okPath path
  | .cellTableReadDone d => okData d
  | .nopCmd c => c.wf
  | .flumeOpen c => c.wf
  | .flumeClose c => c.wf
  | .flumeStat c => c.wf
  | .flumeRecord fn r d e b => okFn fn && okRing r && okBytes d && e.wf && b.all okPos
  | .flumeFlush fn r => okFn fn && okRing r
  | .flumeEnd fn r d => okFn fn && okRing r && okBytes d
  | .setpoint c => c.wf
  | .hostInput c => c.wf
  | .capture c => c.wf
  | .snapCert c => c.wf
  | .snapModel c => c.wf
  | .restoreCert c => c.wf
  | .restoreModel c => c.wf
  | .modelStart c => c.wf
  | .connectReq c => c.wf
  | .openReq c => c.wf
  | .resetReq c => c.wf
  | .weldClear c => c.wf
  | .sessionOpen c => c.wf
  | .sessionClose c => c.wf
  | .passwordSet c => c.wf
  | .keySet c => c.wf
  | .tableLoad c => c.wf
  | .clogRoll c => c.wf
  | .cellRefresh c => c.wf
  | .evlogMark c => c.wf
  | .evlogFreeze c => c.wf
  | .evlogRelease c => c.wf
  | .evlogClear c => c.wf
  | .hopEject c => c.wf
  | .hopAdmit c => c.wf
  | .fwStage c => c.wf
  | .fwActivate c => c.wf
  | .liveUpdateTimeout => true
  | .chunkClose => true
  | .chunkCommit k wear => okPair k && decide (wear ≤ 100)
  | .gapChunk => true
  | .minuteRecord => true
  | .recordAreaCopy => true
  | .hourSeal => true
  | .cartridgeInsert k _ _ => okPair k
  | .cartridgeRemoved k => okPair k
  | .cartridgeFailed k wear => okPair k && decide (wear ≤ 100)
  | .resyncComplete k => okPair k
  | .ejectComplete k => okPair k
  | .eventRecordCommit => true
  | .foldClose => true
  | .freezeTimeout => true
  | .ethFrameReceive port _ => okPair port
  | .ethLinkChange port _ _ => okPair port
  | .ptpAnnounce a => okPair a.port
  | .ptpSync x => okPair x.port
  | .acqWaitExpiry _ => true
  | .masterLost => true
  | .holdoverExpiry => true
  | .clientClockApply fn _ => okFn fn
  | .ttoArm path k _ => okPath path && decide (k < 4)
  | .ttoPulse k => decide (k < 6)
  | .tciEdge n _ part => decide (n < 4) && decide (part < 62500)
  | .tciRead path n => okPath path && decide (n < 4)
  | .intervalTimeout k => okPair k
  | .canInitWrite path c rel _ => okPath path && okCan c && okOffset rel
  | .canFrameReceive c f => okCan c && f.wf
  | .canRxAck c j _ => okCan c && okPair j
  | .canTxRequest c _ => okCan c
  | .canTxCancel c _ _ => okCan c
  | .canTxComplete c _ _ => okCan c
  | .canTefAck c _ => okCan c
  | .canMwinAccess path c _ => okPath path && okCan c
  | .canFilterWrite path c _ => okPath path && okCan c
  | .canFilterSwap c => okCan c
  | .canReferenceMessage c => okCan c
  | .referenceWithdraw c => okCan c
  | .discoveryRequest c => okCan c
  | .canBusOff c => okCan c
  | .canBusOffRecovery c => okCan c
  | .keepFrameReceive k => decide (k.flags < 256)
  | .millraceLinkDown => true
  | .helloReceive h => okBytes h.nonce && (h.proof.getD []).all fun b => decide (b < 256)
  | .imageReceive b _ => okBytes b
  | .imageAgeAlarm => true
  | .roleDecide _ => true
  | .tokenClaim => true
  | .claimBackoffEnd => true
  | .claimDrop _ => true
  | .loopFaultBand => true
  | .loopDisagree => true
  | .handoverRequest path _ => okPath path
  | .handoverTimeout => true
  | .failoverTake => true
  | .partnerNotReady => true
  | .powerOnReset _ _ => true
  | .coldReset _ => true
  | .startSequence r => r.badSlots.all okPair
  | .runEntry => true
  | .startTimeout => true
  | .warmReset => true
  | .warmResetComplete _ => true
  | .warmResetOverrun => true
  | .blockReset path _ => okPath path
  | .blockResetTimeout k => okBlock k
  | .pwrCmdRun path _ => okPath path
  | .pwrCmdTrim path _ => okPath path
  | .pwrCmdStandstill path _ => okPath path
  | .pwrCmdWarm path _ => okPath path
  | .pwrCmdCold path _ => okPath path
  | .pwrCmdRetry path _ => okPath path
  | .standstillEntry _ => true
  | .wake _ _ => true
  | .powerFail => true
  | .auxInputLow k => k == 1 || k == 2
  | .holdupTest _ => true
  | .coilSupplyLow => true
  | .lcCommission path _ => okPath path
  | .lcField path _ => okPath path
  | .lcService path _ => okPath path
  | .lcRetired path _ => okPath path
  | .serviceTimeout => true
  | .tlsConnect c => okPair c.port && okBytes c.cert.root && okBytes c.cert.fp
  | .serviceCommand _ m => okBytes m
  | .serviceRegRead _ m => okBytes m
  | .serviceRegWrite _ m => okBytes m
  | .serviceIdleClose _ => true
  | .debugChallenge r => okBytes r.sig
  | .debugLockoutEnd => true
  | .debugDrop path _ => okPath path
  | .debugPresenceLost => true
  | .debugRunControl proc kind _ => decide (proc < 6) && decide (kind < 5)
  | .debugMemoryWrite mem owner _ b => decide (mem < 3) && decide (owner < 6) && okBytes b
  | .lockstepMismatch group => decide (group < 64)
  | .lockstepEccError => true
  | .firewallBlock init reg ofs => decide (1 ≤ init) && decide (init ≤ 7) && decide (reg < 3) && decide (ofs < 2 ^ 29)
  | .registerWrite path off size _ => okPath path && okOffset off && (size == 4 || size == 8)
  | .domainSupplyFault d _ => decide (d < 26)
  | .aonSupplyLoss _ => true
  | .loReadLatch path off => okPath path && okOffset off
  | .vfEnable n _ => decide (n < 256)
  | .vectorUnmask fn _ u => okFn fn && u.all fun v => decide (v < 64)
  | .canErrorFrame c _ _ => okCan c
  | .protocolException c => okCan c
  | .arbitrationLoss c _ => okCan c
  | .stageComplete _ => true
  | .blockIdle k => okBlock k
  | .newPartRunning k => okBlock k

end Sys2Proof
end

