-- ==== Sys2Proof/Tests/Slice0.lean ====
section
/-! SUPPORT. A state and operands that meet the hypotheses of every statement that has some, examples of the manual, and
ill-formed commands that the check refuses. -/
namespace Sys2Proof.Machine

/-! ## Small values that the witnesses are built from -/

def noLane : LaneIn := { locked := false, idOk := false, serial := 0, aperture := 0, asym := 0, turnaround := 0, rts := [] }
def noImd : ImdIn := { unsettled := false, fast := false, riso := 0, loc := none }
def noEcc : EccIn := { corrected := [], bad := [] }
def noCur : CurIn :=
  { onTime := true, strikeNo := 0, err := [], fine := 0, coarse := 0, hall := 0, vstr := 0, vbus := 0, ocd := false
    occ := false, fineOvl := false, coarseOvl := false, railP := 0, railN := 0, supplyOk := true
    roundTrip := none }
def aStrike : StrikeIn :=
  { banks := [], cur := noCur, turnNs := 0, die := [], mtemps := [], siA := 0, siB := 0, srst := false, tpOk0 := true
    tpOk1 := true, coilBad := 0, spRead := true, aoutBad := false, actBad := 0, commitLate := false, loopI := 0, yld := 0
    aux1 := 240, aux2 := 240, coilV := 240 }
def aRec : StrikeRec :=
  { strike := 0, words := [], cur := [], miss := 0, sel := 0, iSel := 0, acc := 0, frac := 0, used := [], bound1 := 0
    bound := 0, tones := 0 }
def aSnap : SnapFig := { strike := 0, q := 0, eq := 0 }
def aSnapshot : Snapshot := { strike := 0, q := 0, eq := 0, gens := [], entries := [] }
def aBump : Bump := { turn := 0, x := [], theta := [], r10 := none, last := 0, top := 0 }
def aReq : AdvReq := { kind := 1, pos := 0, value := 0, turn := 0, seq := 0 }
def aFault : Active := { code := 0x0312, subj := subjPos 0, cls := 2, turn := 0, event := false, absent := some 0, held := false }
def aSession : Session :=
  { path := .pf0, code := 1, client := [], number := 1, restricted := false, openedAt := 0, lastAt := 0, logged := true
    tables := [], password := none, key := none }
def aFlume : Flume :=
  { kind := 1, fields := 0, first := 0, count := 1, start := 0, stop := none, decim := 1, flush := 0, next := 0
    delivered := 0, gaps := 0, gap := none, buf := none, fill := 0, recs := 0, firstAt := 0, rest := [], snap := none
    capt := 0, queue := [], trunc := false }
def cmdRing : Ring :=
  { kind := kindCmd, base := 0, log2n := 4, pair := 1, vec := 0, ien := false, modcnt := 0, modtime := 0, minCls := 0
    clr := false, midx := 0, hidx := 0, armed := false, error := false, drop := 0, dropSeq := 0, dropStrike := 0
    since := 0, firstAt := none, unloading := none, flight := [] }
def evtRing : Ring := { cmdRing with kind := kindEvt, pair := 0 }
def flmRing : Ring := { cmdRing with kind := kindFlm, hidx := 1 }
def anEvent : HostEntry :=
  { evt := true, ring := 1, lead := [], tail := [], delayed := false, again := false, irq := false, snap := none }
def aChunk : Chunk :=
  { seq := 1, gap := false, first := 0, turns := 1, cause := 0, recs := [], trecs := [], raw := 0, stored := 0, header := [] }
def aCart : Cartridge :=
  { serial := 0, label := false, owner := 0, admissions := 0, clean := false, newest := 0, chunks := [], minutes := []
    records := [], seals := [] }
def anEvRec : EvRec :=
  { code := 0x0110, cls := 0, clear := false, tv := false, strike := 0, subj := 0, rpt := 0, span := 0, data := [] }
def aFold : Fold := { rcd := anEvRec, first := 0, last := 0, count := 65535 }
def badFrame : FrameIn :=
  { dst := 0, etype := 0, len := 2000, vlan := none, ipDst := 0, proto := 0, dport := 0, echo := false, arpHeld := false }
def aSync : SyncIn := { port := 0, sender := 7, sent := 0, arrived := 0, delay := 0, aon := 0 }
def anAnnounce : AnnounceIn :=
  { port := 0, domain := 0, sdo := 0, sender := 7, gm := 7, prio1 := 0, clkClass := 0, accuracy := 0, variance := 0
    prio2 := 0, steps := 0, timescale := true }
def aPlan : TtoPlan := { mode := 1, start := 0, width := 1000, period := 0, count := 1 }
def aCan : CanFrame :=
  { sof := 0, id := 0, fmt := 0, rtr := false, brs := false, esi := false, len := 0, data := [], sdt := 0, vcid := 0, af := 0 }
def aKeep : KeepIn := { valid := true, strike := 0, serial := 0, role := 0, flags := 0 }
def aHello : HelloIn :=
  { serial := 0, partner := 0, layout := 0, config := 0, format := 0, oldest := 0, nonce := [], proof := none }
def aBoot : BootIn := { badGroup := none, badSlots := [], cfgCrcOk := true, badRecs := [] }
def aRef : CmdRef := { svc := none, fn := 0, ring := 0, cid := 0, head := 0, irq := false }
def aLive : LiveUpdate := { cmd := aRef, mask := 3, todo := [1], cur := 0, resetAt := some 0 }
def aConn : SvcConn := { role := 2, port := 0, client := [], lastAt := 0 }
def aDebug : DebugIn := { level := dbgObserve, sig := [], chain := none }
def aCert : CertIn := { root := [1], valid := true, fp := [], unit := 2, key := 0 }
def aTls : TlsIn := { port := 0, params := true, cert := aCert }
def someThresholds : RegFile :=
  [(Reg.SLU_VTH_D_UVC, 1), (Reg.SLU_VTH_D_UVF, 2), (Reg.SLU_VTH_C_UVS, 3), (Reg.SLU_VTH_C_UVW, 4),
    (Reg.SLU_VTH_A_OVW, 5), (Reg.SLU_VTH_A_OVS, 6), (Reg.SLU_VTH_B_OVF, 7), (Reg.SLU_VTH_B_OVC, 8),
    (Reg.SLU_TTH_A_OTW, 1), (Reg.SLU_TTH_A_OTS, 2), (Reg.SLU_TTH_B_OTE, 3), (Reg.SLU_ITH_B_OCD_HW, 1),
    (Reg.SLU_ITH_A_OCD_FAST, 2), (Reg.SLU_ITH_B_OCC_HW, 1), (Reg.SLU_ITH_A_OCC_FAST, 2)].foldl
    (fun r e => RegFile.setField r e.1 e.2) []
def oneBranch : Tab Layout := [(0, { fitted := true, chem := 1, first := 0, count := 64, cap := 50000, serial := 1 })]

/-- A command entry of an opcode with argument bytes. -/
def entryOf (op : Nat) (args : List (Nat × Nat)) : List Nat :=
  (List.range 64).map fun i => if i = 0 then op else Tab.get 0 args i
def aCmd (op : Nat) (args : List (Nat × Nat)) (data : Option (List Nat)) : CmdIn :=
  { fn := 0, ring := 0, entry := entryOf op args, data := data }

/-- A host has the link up, PF0 may master the bus, and CMD ring 0 holds an entry; EVT ring 1 and FLM ring 2 are loaded. -/
def hostRings : HostState :=
  { HostState.initial with
    fns := [(0, { HostFn.initial with bme := true })]
    rings := [(0, { cmdRing with hidx := 1 }), (1, evtRing), (2, flmRing)], cache := [0, 1, 2] }
def aFrame : FrameIn :=
  { dst := 0, etype := 0x0806, len := 64, vlan := none, ipDst := 0, proto := 0, dport := 0, echo := false, arpHeld := false }
def anEvSlot : EvSlot := { seq := 1, crcOk := true, rcd := anEvRec }
def aCurve : List Nat :=
  let b := (List.range 34).flatMap fun k => leBytes 4 (1000 - k)
  b ++ leBytes 4 (crc32 b)
/-- A blank context of an EVT ring with 16 entries and no pair. -/
def aContext : List Nat :=
  (List.range 64).map fun i => if i = 8 then kindEvt else if i = 9 then 4 else if i = 10 ∨ i = 11 then 255 else 0
/-- The shortest valid OCV table: one temperature, every curve flat at 0 (R159). -/
def anOcvBody : List Nat :=
  (List.range 452).map fun i =>
    if i = 0 ∨ i = 3 then 1 else if i = 4 then 60 else if i = 6 then 10 else if i = 12 then 1
    else if 18 ≤ i ∧ i < 48 then (if i % 2 = 0 then 255 else 127) else 0
def anOcv : List Nat := anOcvBody ++ leBytes 4 (crc32 anOcvBody)

theorem crcStep_lt {p c : Nat} (hp : p < 2 ^ 32) (hc : c < 2 ^ 32) : crcStep p c < 2 ^ 32 := by
  unfold crcStep
  split
  · exact Nat.xor_lt_two_pow (by omega) hp
  · omega

theorem crcByte_lt {p c : Nat} (b : Nat) (hp : p < 2 ^ 32) (hc : c < 2 ^ 32) : crcByte p c b < 2 ^ 32 := by
  unfold crcByte
  have hx : c ^^^ (b % 256) < 2 ^ 32 := Nat.xor_lt_two_pow hc (by omega)
  exact crcStep_lt hp (crcStep_lt hp (crcStep_lt hp (crcStep_lt hp
    (crcStep_lt hp (crcStep_lt hp (crcStep_lt hp (crcStep_lt hp hx)))))))

theorem crc32_lt (l : List Nat) : crc32 l < 2 ^ 32 := by
  have h : ∀ (l : List Nat) (c : Nat), c < 2 ^ 32 → l.foldl (crcByte 0xEDB88320) c < 2 ^ 32 := by
    intro l
    induction l with
    | nil => exact fun _ h => h
    | cons b r ih => exact fun c h => ih _ (crcByte_lt b (by decide) h)
  exact Nat.xor_lt_two_pow (h l _ (by decide)) (by decide)

theorem anOcvBody_length : anOcvBody.length = 452 := by rw [anOcvBody, List.length_map, List.length_range]

theorem leAt_anOcv (c : Nat) : leAt (anOcvBody ++ leBytes 4 c) 452 4 = c % 2 ^ 32 := by
  unfold leAt slice
  rw [List.drop_left' anOcvBody_length]
  simp only [leBytes, List.take_succ_cons, List.take_zero, ofLe]
  omega

theorem test_anOcv_valid : ocvValid anOcv = true := by
  have h1 : anOcv.take 452 = anOcvBody := List.take_left' anOcvBody_length
  have h2 : leAt anOcv 452 4 = crc32 anOcvBody := (leAt_anOcv _).trans (Nat.mod_eq_of_lt (crc32_lt _))
  unfold ocvValid
  rw [show ocvNt anOcv = 1 from rfl]
  simp only [show 48 + 404 * 1 = 452 from rfl, h1, h2, beq_self_eq_true]
  decide +kernel
/-- A telegram of peer 2 for safety ID 1, and the frame that brings it to a port. -/
def aTelegram : List Nat := telegram 2 1 1 1 0 [] false
def tgBytes (s : State) (l : List Nat) : List Nat :=
  beBytes 6 (s.tgMac 0) ++ beBytes 6 0 ++ beBytes 2 (s.reg Reg.SLU_TG_ETYPE_ETYPE) ++ l

/-! ## Hypotheses of the completion statements, clause by clause -/

theorem test_TurnCommandsComplete_0 : ∃ (_i : StrikeIn) (s : State),
    s.clockSet ∧ s.sys.core :=
  ⟨aStrike, State.reset.setFields [(Reg.TIM_STAT_SET, 1)],
    by decide, by decide⟩

theorem test_TurnCommandsComplete_1 : ∃ (e : StrikeRec × Option TurnRec) (r : List (StrikeRec × Option TurnRec)) (s : State),
    s.mpd.late = e :: r :=
  ⟨(aRec, none), [], { State.reset with mpd := { MpdState.initial with late := [(aRec, none)] } },
    by decide⟩

theorem test_TurnCommandsComplete_2 : ∃ (_e : EccIn) (s : State),
    s.taskMay 0 0 3 ∧ s.supRuns ∧ s.pairWorks ∧ s.phaseRuns 0 :=
  ⟨noEcc, { State.reset.setFields [(Reg.PWR_STAT_STATE, 1), (Reg.TIM_STAT_SET, 1)] with sys := { SysState.initial with strike := 2 } },
    by decide, by decide, by decide, by decide⟩

theorem test_TurnCommandsComplete_3 : ∃ (s : State),
    s.vecOn ∧ s.inMest ∧ s.sys.done.contains 1 = false ∧ s.flag Reg.EST_MDL_CTRL_MEN = false :=
  ⟨{ State.reset.setFields [(Reg.PWR_STAT_STATE, 1), (Reg.PWR_DOM_VEC, 1), (Reg.EST_MDL_CTRL_MEN, 0)] with sys := { SysState.initial with strike := 4 } },
    by decide, by decide, by decide, by decide⟩

theorem test_TurnCommandsComplete_4 : ∃ (s : State),
    s.vecOn ∧ s.inMest ∧ s.sys.done.contains 1 = false ∧ s.flag Reg.EST_MDL_CTRL_MEN :=
  ⟨{ State.reset.setFields [(Reg.PWR_STAT_STATE, 1), (Reg.PWR_DOM_VEC, 1), (Reg.EST_MDL_CTRL_MEN, 1)] with sys := { SysState.initial with strike := 4 } },
    by decide, by decide, by decide, by decide⟩

theorem test_TurnCommandsComplete_5 : ∃ (s : State),
    s.inSev ∧ s.deaf = false ∧ s.power ≠ pwStandstill ∧ s.sys.done.contains 6 = false ∧ s.sec.halted.contains 0 = false :=
  ⟨{ State.reset.setFields [(Reg.PWR_STAT_STATE, 1)] with sys := { SysState.initial with strike := 4 } },
    by decide, by decide, by decide, by decide, by decide⟩

theorem test_TurnCommandsComplete_6 : ∃ (s : State),
    s.taskMay 2 20 22 ∧ s.power ≤ pwTrim :=
  ⟨{ State.reset.setFields [(Reg.PWR_STAT_STATE, 1)] with sys := { SysState.initial with strike := 20 } },
    by decide, by decide⟩

theorem test_TurnCommandsComplete_7 : ∃ (s : State),
    s.taskMay 3 23 25 ∧ s.inRun :=
  ⟨{ State.reset.setFields [(Reg.PWR_STAT_STATE, 1)] with sys := { SysState.initial with strike := 23 } },
    by decide, by decide⟩

theorem test_TurnCommandsComplete_8 : ∃ (s : State),
    s.taskMay 4 26 29 ∧ (s.runOrTrim ∨ (s.power = pwStart ∧ s.paired)) ∧ s.sendsImages = false :=
  ⟨{ State.reset.setFields [(Reg.PWR_STAT_STATE, 1)] with sys := { SysState.initial with strike := 26 } },
    by decide, by decide, by decide⟩

theorem test_TurnCommandsComplete_9 : ∃ (s : State),
    s.taskMay 4 26 29 ∧ s.runOrTrim ∧ s.sendsImages :=
  ⟨{ State.reset.setFields [(Reg.PWR_STAT_STATE, 1), (Reg.TDM_STAT_ROLE, 1), (Reg.TDM_STAT_LINK, 1)] with sys := { SysState.initial with strike := 26 } },
    by decide, by decide, by decide⟩

theorem test_TurnCommandsComplete_10 : ∃ (r : ChkIn) (s : State),
    s.pairWorks ∧ s.taskMay 5 30 31 ∧ s.power ≠ pwStandstill ∧ r.groupOk ∧ r.badSlots = [] :=
  ⟨{ last := true, groupOk := true, badSlots := [] }, { State.reset.setFields [(Reg.PWR_STAT_STATE, 1), (Reg.TIM_STAT_SET, 1)] with sys := { SysState.initial with strike := 30, chkBegin := 1 } },
    by decide, by decide, by decide, by decide, by decide⟩

theorem test_TurnCommandsComplete_11 : ∃ (r : ChkIn) (s : State),
    s.pairWorks ∧ s.taskMay 5 30 31 ∧ s.power ≠ pwStandstill ∧ r.groupOk = false ∧ r.badSlots = [] :=
  ⟨{ last := true, groupOk := false, badSlots := [] }, { State.reset.setFields [(Reg.PWR_STAT_STATE, 1), (Reg.TIM_STAT_SET, 1)] with sys := { SysState.initial with strike := 30, chkBegin := 1 } },
    by decide, by decide, by decide, by decide, by decide⟩

theorem test_TurnCommandsComplete_12 : ∃ (g : Nat) (s : State),
    s.vecOn ∧ s.flag Reg.EST_MDL_CTRL_ZEN ∧ s.inMest = false ∧ s.fitTarget = some g :=
  ⟨0, { State.reset.setFields [(Reg.PWR_STAT_STATE, 1), (Reg.PWR_DOM_VEC, 1), (Reg.EST_MDL_CTRL_ZEN, 1), (Reg.BNK_STAT_BR_OK 0, 1)] with auth := { AuthState.initial with committed := { SafetyConfig.factory with layout := oneBranch } }, bnk := [(0, { Bank.initial with en := true, step := .released })] },
    by decide, by decide, by decide, by decide⟩

theorem test_TurnCommandsComplete_13 : ∃ (task _g : Nat) (_s : State),
    task < 7 :=
  ⟨0, 0, State.reset,
    by decide⟩

theorem test_TurnCommandsComplete_14 : ∃ (task _g : Nat) (_s : State),
    task = 7 :=
  ⟨7, 0, State.reset,
    by decide⟩

theorem test_TurnCommandsComplete_15 : ∃ (task _g : Nat) (code : Nat) (s : State),
    8 ≤ task ∧ appCodes[task - 8]? = some code ∧ s.clockSet ∧ s.sys.core ∧ s.deaf = false ∧ s.power ≠ pwStandstill ∧ s.sec.halted.any (fun p => decide (1 ≤ p) && decide (p ≤ 4)) = false :=
  ⟨8, 0, appCodes.headD 0, State.reset.setFields [(Reg.PWR_STAT_STATE, 1), (Reg.TIM_STAT_SET, 1)],
    by decide, by decide, by decide, by decide, by decide, by decide, by decide⟩

theorem test_TurnCommandsComplete_16 : ∃ (s : State),
    2 ≤ s.sys.noBeat ∧ (s.inEffect 0x0129) = false ∧ s.notHalted 0 :=
  ⟨{ State.reset.setFields [(Reg.PWR_STAT_STATE, 1), (Reg.TIM_STAT_SET, 1)] with sys := { SysState.initial with noBeat := 2 } },
    by decide, by decide, by decide⟩

theorem test_TurnCommandsComplete_17 : ∃ (nn : Nat) (s : State),
    s.sendsFrames nn ∧ s.markersStopped :=
  ⟨0, { State.reset.setFields [(Reg.PWR_DOM_BNK, 1)] with sys := { SysState.initial with strike := 8000 }, bnk := [(0, { Bank.initial with en := true, step := .released })] },
    by decide, by decide⟩

theorem test_BankCommandsComplete_0 : ∃ (_path : Path) (nn : Nat) (_w : Word) (s : State),
    s.deaf = false ∧ nn < 18 :=
  ⟨.pf0, 0, 1, State.reset,
    by decide, by decide⟩

theorem test_BankCommandsComplete_1 : ∃ (s : State),
    s.atStrike0 ∧ s.runOrTrim :=
  ⟨{ State.reset.setFields [(Reg.PWR_STAT_STATE, 1)] with sys := { SysState.initial with strike := 31 } },
    by decide, by decide⟩

theorem test_BankCommandsComplete_2 : ∃ (s : State),
    s.atStrike0 :=
  ⟨{ State.reset with sys := { SysState.initial with strike := 31 } },
    by decide⟩

theorem test_BankCommandsComplete_3 : ∃ (nn : Nat) (s : State),
    (s.bank nn).en ∧ s.bankOn nn ∧ (s.bank nn).step = .off :=
  ⟨0, { State.reset.setFields [(Reg.PWR_DOM_BNK, 1)] with bnk := [(0, { Bank.initial with en := true })] },
    by decide, by decide, by decide⟩

theorem test_BankCommandsComplete_4 : ∃ (nn : Nat) (r : LaneIn) (s : State),
    nn ≠ curNo ∧ (s.bank nn).step = .lane ∧ r.locked ∧ r.idOk :=
  ⟨0, { noLane with locked := true, idOk := true }, { State.reset with bnk := [(0, { Bank.initial with step := .lane })] },
    by decide, by decide, by decide, by decide⟩

theorem test_BankCommandsComplete_5 : ∃ (r : LaneIn) (s : State),
    s.flag Reg.PWR_DOM_CUR ∧ s.flag Reg.CUR_STAT_LANE = false ∧ r.locked ∧ r.idOk :=
  ⟨{ noLane with locked := true, idOk := true }, State.reset.setFields [(Reg.PWR_DOM_CUR, 1)],
    by decide, by decide, by decide, by decide⟩

theorem test_BankCommandsComplete_6 : ∃ (nn : Nat) (r : LaneIn) (s : State),
    nn ≠ curNo ∧ (s.bank nn).step = .lane ∧ r.locked = false :=
  ⟨0, { noLane with locked := false }, { State.reset with bnk := [(0, { Bank.initial with step := .lane })] },
    by decide, by decide, by decide⟩

theorem test_BankCommandsComplete_7 : ∃ (nn k : Nat) (bytes : List Nat) (s : State),
    k < 4 ∧ s.trayWaits nn k ∧ (List.range 4).any ((s.checkTray nn k (parseTray bytes)).trayWaits nn) = false :=
  ⟨0, 0, [], { State.reset with auth := { AuthState.initial with committed := { SafetyConfig.factory with layout := oneBranch } }, bnk := [(0, { Bank.initial with step := .tray })] },
    by decide, by decide, by decide⟩

theorem test_BankCommandsComplete_8 : ∃ (nn : Nat) (s : State),
    (s.bank nn).step = .survey ∧ 32 * 32 ≤ (s.bank nn).surveyTurns :=
  ⟨0, { State.reset with bnk := [(0, { Bank.initial with step := .survey, surveyTurns := 1024 })] },
    by decide, by decide⟩

theorem test_BankCommandsComplete_9 : ∃ (nn p : Nat) (s : State),
    s.normDue nn p ∧ ((s.bank nn).norm.get ⟨0, 0, false, false⟩ p).failed = false :=
  ⟨0, 0, { State.reset with bnk := [(0, { Bank.initial with norm := [(0, ⟨32, 0, false, false⟩)] })] },
    by decide, by decide⟩

theorem test_BankCommandsComplete_10 : ∃ (nn p : Nat) (s : State),
    s.normDue nn p ∧ ((s.bank nn).norm.get ⟨0, 0, false, false⟩ p).failed :=
  ⟨0, 0, { State.reset with bnk := [(0, { Bank.initial with norm := [(0, ⟨1, 0, true, false⟩)] })] },
    by decide, by decide⟩

theorem test_BankCommandsComplete_11 : ∃ (nn : Nat) (s : State),
    s.releaseDue nn :=
  ⟨0, { State.reset with bnk := [(0, { Bank.initial with en := true, step := .wiring, owPass := 2 ^ 64 - 1, bcPass := 2 ^ 64 - 1 })] },
    by decide⟩

theorem test_BankCommandsComplete_12 : ∃ (nn : Nat) (s : State),
    nn ≠ curNo ∧ s.sendsFrames nn ∧ s.flag (Reg.BNK_STAT_ALIGN nn) ∧ misaligned (s.bank nn) :=
  ⟨0, { State.reset.setFields [(Reg.PWR_DOM_BNK, 1), (Reg.BNK_STAT_ALIGN 0, 1)] with bnk := [(0, { Bank.initial with en := true, step := .released, noRt := 1000 })] },
    by decide, by decide, by decide, by decide⟩

theorem test_BankCommandsComplete_13 : ∃ (s : State),
    s.curFlows ∧ s.flag Reg.CUR_STAT_ALIGN ∧ misaligned s.cur.lane :=
  ⟨{ State.reset.setFields [(Reg.PWR_DOM_CUR, 1), (Reg.CUR_STAT_LANE, 1), (Reg.CUR_STAT_ALIGN, 1)] with cur := { CurState.initial with lane := { Bank.initial with noRt := 1000 } } },
    by decide, by decide, by decide⟩

theorem test_BankCommandsComplete_14 : ∃ (nn : Nat) (s : State),
    nn ≠ curNo ∧ s.sendsFrames nn ∧ s.flag (Reg.BNK_STAT_ALIGN nn) = false ∧ 8 ≤ (s.bank nn).goodRt ∧ s.atStrike0 :=
  ⟨0, { State.reset.setFields [(Reg.PWR_DOM_BNK, 1)] with sys := { SysState.initial with strike := 31 }, bnk := [(0, { Bank.initial with en := true, step := .released, goodRt := 8 })] },
    by decide, by decide, by decide, by decide, by decide⟩

theorem test_BankCommandsComplete_15 : ∃ (nn k : Nat) (s : State),
    k < 4 ∧ s.lossDue nn k :=
  ⟨0, 0, { State.reset.setFields [(Reg.PWR_DOM_BNK, 1)] with auth := { AuthState.initial with committed := { SafetyConfig.factory with layout := oneBranch } }, bnk := [(0, { Bank.initial with en := true, step := .released, absRun := [(0, 2)] })] },
    by decide, by decide⟩

theorem test_BankCommandsComplete_16 : ∃ (nn k : Nat) (_bytes : List Nat) (s : State),
    k < 4 ∧ s.returnDue nn k :=
  ⟨0, 0, [], { State.reset with bnk := [(0, { Bank.initial with lost := 1, presRun := [(0, 64)] })] },
    by decide, by decide⟩

theorem test_BankCommandsComplete_17 : ∃ (nn : Nat) (s : State),
    20 * msStrikes < (s.bank nn).relayDis :=
  ⟨0, { State.reset with bnk := [(0, { Bank.initial with relayDis := 641 })] },
    by decide⟩

theorem test_CheckCommandsComplete_0 : ∃ (nn : Nat) (s : State),
    s.dwellDue nn ∧ 16 ≤ (s.check nn).winN ∧ (s.check nn).sigFail :=
  ⟨0, { State.reset with chk := [(0, { Check.initial with dwOn := true, dwTurns := 0, winN := 16, sigFail := true })] },
    by decide, by decide, by decide⟩

theorem test_CheckCommandsComplete_1 : ∃ (nn : Nat) (s : State),
    s.dwellDue nn ∧ (s.check nn).winN < 16 ∧ (s.check nn).sigFail :=
  ⟨0, { State.reset with chk := [(0, { Check.initial with dwOn := true, dwTurns := 0, sigFail := true })] },
    by decide, by decide, by decide⟩

theorem test_CheckCommandsComplete_2 : ∃ (nn p : Nat) (s : State),
    s.released nn p ∧ 64 ≤ ((s.check nn).frozen.get (0, 0) p).2 :=
  ⟨0, 0, { State.reset.setFields [(Reg.BNK_STAT_BR_OK 0, 1)] with auth := { AuthState.initial with committed := { SafetyConfig.factory with layout := oneBranch } }, bnk := [(0, { Bank.initial with en := true, step := .released })], chk := [(0, { Check.initial with frozen := [(0, (5, 64))] })] },
    by decide, by decide⟩

theorem test_CheckCommandsComplete_3 : ∃ (nn p : Nat) (s : State),
    s.coverageLapsed nn p :=
  ⟨0, 0, { State.reset.setFields [(Reg.BNK_STAT_BR_OK 0, 1)] with sys := { SysState.initial with strike := 3200000000 }, auth := { AuthState.initial with committed := { SafetyConfig.factory with layout := oneBranch } }, bnk := [(0, { Bank.initial with en := true, step := .released })], chk := [(0, { Check.initial with lastDwell := [(0, 0)] })] },
    by decide⟩

theorem test_CheckCommandsComplete_4 : ∃ (nn p : Nat) (s : State),
    settleCount (s.bank nn).fc + 32 ≤ (s.check nn).implaus.get 0 p :=
  ⟨0, 0, { State.reset with chk := [(0, { Check.initial with implaus := [(0, 5000)] })] },
    by decide⟩

theorem test_CurrentCommandsComplete_0 : ∃ (s : State),
    s.hallFitted ∧ 2 ≤ s.cur.supplyRun :=
  ⟨{ State.reset.setFields [(Reg.CUR_CTRL_HALL, 1)] with cur := { CurState.initial with supplyRun := 2 } },
    by decide, by decide⟩

theorem test_CurrentCommandsComplete_1 : ∃ (_path : Path) (_w : Word) (s : State),
    s.deaf = false :=
  ⟨.pf0, 1, State.reset,
    by decide⟩

theorem test_CurrentCommandsComplete_2 : ∃ (r : ImdIn) (s : State),
    s.flag Reg.IMD_RESULT_INJ ∧ r.unsettled = false :=
  ⟨noImd, State.reset.setFields [(Reg.IMD_RESULT_INJ, 1)],
    by decide, by decide⟩

theorem test_CurrentCommandsComplete_3 : ∃ (r : ImdIn) (s : State),
    s.flag Reg.IMD_RESULT_INJ ∧ r.unsettled :=
  ⟨{ noImd with unsettled := true }, State.reset.setFields [(Reg.IMD_RESULT_INJ, 1)],
    by decide, by decide⟩

theorem test_CurrentCommandsComplete_4 : ∃ (s : State),
    s.token ∧ s.flag Reg.IMD_RESULT_INJ ∧ s.flag Reg.IMD_RESULT_VALID ∧ s.imd.testing = false ∧ (s.imd.testAt == 0 || s.elapsed s.imd.testAt (86400 * secStrikes)) = true :=
  ⟨State.reset.setFields [(Reg.TDM_STAT_TOKEN, 1), (Reg.IMD_RESULT_INJ, 1), (Reg.IMD_RESULT_VALID, 1)],
    by decide, by decide, by decide, by decide, by decide⟩

theorem test_CurrentCommandsComplete_5 : ∃ (feedback : Bool) (ms : Nat) (s : State),
    feedback ≠ s.imd.relayCmd ∧ 20 < ms :=
  ⟨true, 21, State.reset,
    by decide, by decide⟩

theorem test_CurrentCommandsComplete_6 : ∃ (feedback : Bool) (_ms : Nat) (s : State),
    feedback = s.imd.relayCmd :=
  ⟨false, 0, State.reset,
    by decide⟩

theorem test_CurrentCommandsComplete_7 : ∃ (_path : Path) (off : Nat) (_w : Word) (s : State),
    s.deaf = false ∧ thmConfigAt off :=
  ⟨.pf0, (Reg.THM_TYPE_BL_TYPE 0).off, 0, State.reset,
    by decide, by decide⟩

theorem test_CurrentCommandsComplete_8 : ∃ (s : State),
    60000 ≤ s.thm.riseRun :=
  ⟨{ State.reset with thm := { ThmState.initial with riseRun := 60000 } },
    by decide⟩

theorem test_CurrentCommandsComplete_9 : ∃ (k : Nat) (s : State),
    16 ≤ k ∧ 100 ≤ s.thm.bankDiff.get 0 (k - 16) :=
  ⟨16, { State.reset with thm := { ThmState.initial with bankDiff := [(0, 100)] } },
    by decide, by decide⟩

theorem test_CurrentCommandsComplete_10 : ∃ (k : Nat) (s : State),
    k < 16 ∧ s.dieValid k ∧ 100 ≤ s.thm.dieOff.get 0 k ∧ 8 ≤ ((s.setBit Reg.THM_DIE_VALID_VALID k false).raiseLevel 0x0508 1 (subjNum k) []).dieCount :=
  ⟨0, { State.reset with thm := { ThmState.initial with dieOff := [(0, 100)] } },
    by decide, by decide, by decide, by decide⟩

theorem test_CurrentCommandsComplete_11 : ∃ (k : Nat) (s : State),
    k < 16 ∧ s.dieValid k ∧ 100 ≤ s.thm.dieOff.get 0 k ∧ ((s.setBit Reg.THM_DIE_VALID_VALID k false).raiseLevel 0x0508 1 (subjNum k) []).dieCount < 8 :=
  ⟨0, { State.reset.setFields [(Reg.THM_DIE_VALID_VALID, 255)] with thm := { ThmState.initial with dieOff := [(0, 100)] } },
    by decide, by decide, by decide, by decide⟩

theorem test_CurrentCommandsComplete_12 : ∃ (s : State),
    10 ≤ s.thm.warnRun ∧ s.atStrike0 ∧ s.thm.latch = false :=
  ⟨{ State.reset with sys := { SysState.initial with strike := 31 }, thm := { ThmState.initial with warnRun := 10 } },
    by decide, by decide, by decide⟩

theorem test_CurrentCommandsComplete_13 : ∃ (s : State),
    s.flag Reg.THM_DIE_VEC_OFF ∧ 10000 ≤ s.thm.coolRun :=
  ⟨{ State.reset.setFields [(Reg.THM_DIE_VEC_OFF, 1)] with thm := { ThmState.initial with coolRun := 10000 } },
    by decide, by decide⟩

theorem test_CurrentCommandsComplete_14 : ∃ (s : State),
    2 ≤ s.thm.hotRun.get 0 s.thm.hotIdx ∧ s.thm.latch = false ∧ s.sys.core :=
  ⟨{ State.reset with thm := { ThmState.initial with hotRun := [(0, 2)] } },
    by decide, by decide, by decide⟩

theorem test_CurrentCommandsComplete_15 : ∃ (nn k : Nat) (s : State),
    10 ≤ s.thm.bankWarn.get 0 (nn * 2 + k % 2) :=
  ⟨0, 0, { State.reset with thm := { ThmState.initial with bankWarn := [(0, 10)] } },
    by decide⟩

theorem test_CurrentCommandsComplete_16 : ∃ (nn k : Nat) (s : State),
    2 ≤ s.thm.bankHot.get 0 (nn * 2 + k % 2) ∧ ((s.bank nn).shut) = false :=
  ⟨0, 0, { State.reset with thm := { ThmState.initial with bankHot := [(0, 2)] } },
    by decide, by decide⟩

theorem test_CurrentCommandsComplete_17 : ∃ (hottest : Int) (s : State),
    s.pwr.hold ∧ hottest < 10500 :=
  ⟨2500, { State.reset with pwr := { PwrState.initial with hold := true } },
    by decide, by decide⟩

theorem test_EstimatorCommandsComplete_0 : ∃ (k : Nat) (l : List Nat) (s : State),
    s.est.building.find? (fun e => e.1 == k) = some (k, l) ∧ s.sys.core ∧ s.flag Reg.PWR_STAT_WARM = false ∧ ocvValid l :=
  ⟨0, anOcv, { State.reset with est := { EstState.initial with building := [(0, anOcv)] } },
    rfl, by decide, by decide, test_anOcv_valid⟩

theorem test_EstimatorCommandsComplete_1 : ∃ (k : Nat) (l : List Nat) (s : State),
    s.est.building.find? (fun e => e.1 == k) = some (k, l) ∧ s.sys.core ∧ s.flag Reg.PWR_STAT_WARM = false ∧ ocvValid l = false :=
  ⟨0, [], { State.reset with est := { EstState.initial with building := [(0, [])] } },
    rfl, by decide, by decide, by decide⟩

theorem test_EstimatorCommandsComplete_2 : ∃ (s : State),
    s.atStrike0 :=
  ⟨{ State.reset with sys := { SysState.initial with strike := 31 } },
    by decide⟩

theorem test_EstimatorCommandsComplete_3 : ∃ (a n : Nat) (s : State),
    s.est.firstRun = some a ∧ s.est.supStrike = some n ∧ s.runOrTrim ∧ s.reg Reg.EST_CTRL_SNAP_INT * secStrikes ≤ s.since s.est.snapAt ∧ s.deaf = false :=
  ⟨0, 0, { State.reset.setFields [(Reg.PWR_STAT_STATE, 1), (Reg.EST_CTRL_SNAP_INT, 0)] with est := { EstState.initial with firstRun := some 0, supStrike := some 0 } },
    by decide, by decide, by decide, by decide, by decide⟩

theorem test_EstimatorCommandsComplete_4 : ∃ (f : SnapFig) (r : List SnapFig) (s : State),
    s.est.deliver = f :: r :=
  ⟨aSnap, [], { State.reset with est := { EstState.initial with deliver := [aSnap] } },
    by decide⟩

theorem test_EstimatorCommandsComplete_5 : ∃ (x : Snapshot) (a : Nat) (s : State),
    s.est.waiting = some (x, a) ∧ secStrikes ≤ s.since a :=
  ⟨aSnapshot, 0, { State.reset with sys := { SysState.initial with strike := 32000 }, est := { EstState.initial with waiting := some (aSnapshot, 0) } },
    by decide, by decide⟩

theorem test_EstimatorCommandsComplete_6 : ∃ (a : Nat) (s : State),
    s.est.firstRun = some a ∧ s.flag Reg.EST_STAT_RWIN ∧ s.reg Reg.EST_RESTORE_WIN * secStrikes ≤ s.since a ∧ s.flag Reg.EST_STAT_RESTORED = false :=
  ⟨0, { State.reset.setFields [(Reg.EST_STAT_RWIN, 1), (Reg.EST_RESTORE_WIN, 0)] with est := { EstState.initial with firstRun := some 0 } },
    by decide, by decide, by decide, by decide⟩

theorem test_EstimatorCommandsComplete_7 : ∃ (a : Nat) (s : State),
    s.est.firstRun = some a ∧ s.flag Reg.EST_STAT_RWIN ∧ s.reg Reg.EST_RESTORE_WIN * secStrikes ≤ s.since a ∧ s.flag Reg.EST_STAT_RESTORED :=
  ⟨0, { State.reset.setFields [(Reg.EST_STAT_RWIN, 1), (Reg.EST_STAT_RESTORED, 1), (Reg.EST_RESTORE_WIN, 0)] with est := { EstState.initial with firstRun := some 0 } },
    by decide, by decide, by decide, by decide⟩

theorem test_ModelCommandsComplete_0 : ∃ (a : Nat) (s : State),
    s.mdl.offAt = some a ∧ s.flag Reg.PWR_DOM_VEC ∧ s.sys.core ∧ s.turn ≤ a + 600000 :=
  ⟨0, { State.reset.setFields [(Reg.PWR_DOM_VEC, 1)] with mdl := { ModelState.initial with offAt := some 0 } },
    by decide, by decide, by decide, by decide⟩

theorem test_ModelCommandsComplete_1 : ∃ (k : Nat) (s : State),
    k < 24 ∧ s.vecOn ∧ s.flag Reg.EST_MDL_CTRL_ZEN ∧ s.mdl.zStart.any (fun e => e.1 == k) ∧ s.blockStart k + blockLen k + s.zDelay + 32 ≤ s.mdl.zTurn * 32 :=
  ⟨0, { State.reset.setFields [(Reg.PWR_STAT_STATE, 1), (Reg.PWR_DOM_VEC, 1), (Reg.EST_MDL_CTRL_ZEN, 1)] with mdl := { ModelState.initial with zTurn := 100000000, zStart := [(0, 0)] } },
    by decide, by decide, by decide, by decide, by decide⟩

theorem test_ModelCommandsComplete_2 : ∃ (g : Nat) (b : Bump) (s : State),
    (s.mdlPos g).bump = some b ∧ b.turn + 600000 ≤ s.turn ∧ s.vecOn :=
  ⟨0, aBump, { State.reset.setFields [(Reg.PWR_STAT_STATE, 1), (Reg.PWR_DOM_VEC, 1)] with sys := { SysState.initial with strike := 19200000 }, mdl := { ModelState.initial with pos := [(0, { ModelPos.blank 0 with bump := some aBump })] } },
    by decide, by decide, by decide⟩

theorem test_ModelCommandsComplete_3 : ∃ (crcOk : Bool) (r : AdvReq) (rest : List AdvReq) (s : State),
    s.mdl.mailbox = r :: rest ∧ s.pairTakes ∧ r.kind < 3 ∧ (crcOk && s.requestGood r) = false :=
  ⟨false, aReq, [], { State.reset with mdl := { ModelState.initial with mailbox := [aReq] } },
    by decide, by decide, by decide, by decide⟩

theorem test_ModelCommandsComplete_4 : ∃ (crcOk : Bool) (r : AdvReq) (rest : List AdvReq) (s : State),
    s.mdl.mailbox = r :: rest ∧ s.pairTakes ∧ r.kind < 3 ∧ crcOk ∧ s.requestGood r :=
  ⟨true, { aReq with pos := 0 }, [], { State.reset.setFields [(Reg.BNK_STAT_BR_OK 0, 1), (Reg.EST_ADV_CFG_ISI_EN, 1), (Reg.EST_ISI_LIM_TRIP, 0)] with auth := { AuthState.initial with committed := { SafetyConfig.factory with layout := oneBranch } }, mdl := { ModelState.initial with mailbox := [aReq] }, bnk := [(0, { Bank.initial with en := true, step := .released })] },
    by decide, by decide, by decide, by decide, by decide⟩

theorem test_ModelCommandsComplete_5 : ∃ (_crcOk : Bool) (r : AdvReq) (rest : List AdvReq) (s : State),
    s.mdl.mailbox = r :: rest ∧ s.pairTakes ∧ 3 ≤ r.kind :=
  ⟨true, { aReq with kind := 3 }, [], { State.reset with mdl := { ModelState.initial with mailbox := [{ aReq with kind := 3 }] } },
    by decide, by decide, by decide⟩

theorem test_ModelCommandsComplete_6 : ∃ (g : Nat) (s : State),
    (s.mdl.timers.get (0, 0) (g * 2)).2 ≠ 0 ∧ s.now ≤ (s.mdl.timers.get (0, 0) (g * 2)).2 + 10 * secStrikes ∧ (s.mdl.timers.get (0, 0) (g * 2)).1 + s.reg Reg.EST_ADV_CFG_PERSIST * secStrikes ≤ s.now ∧ s.pairTakes :=
  ⟨0, { State.reset.setFields [(Reg.EST_ADV_CFG_PERSIST, 0)] with mdl := { ModelState.initial with timers := [(0, (0, 1))] } },
    by decide, by decide, by decide, by decide⟩

theorem test_ModelCommandsComplete_7 : ∃ (g : Nat) (s : State),
    (s.mdl.timers.get (0, 0) (g * 2 + 1)).2 ≠ 0 ∧ s.now ≤ (s.mdl.timers.get (0, 0) (g * 2 + 1)).2 + 10 * secStrikes ∧ (s.mdl.timers.get (0, 0) (g * 2 + 1)).1 + s.reg Reg.EST_ADV_CFG_PERSIST * secStrikes ≤ s.now ∧ s.pairTakes :=
  ⟨0, { State.reset.setFields [(Reg.EST_ADV_CFG_PERSIST, 0)] with mdl := { ModelState.initial with timers := [(1, (0, 1))] } },
    by decide, by decide, by decide, by decide⟩

theorem test_SluiceCommandsComplete_0 : ∃ (code subj : Nat) (s : State),
    s.hwTestMet code subj ∧ s.inEffectOn code subj = false :=
  ⟨0x0701, subjPos 0, { State.reset with slu := { SluState.initial with cfg := true, ovf := [(0, 1000)] } },
    by decide, by decide⟩

theorem test_SluiceCommandsComplete_1 : ∃ (code subj : Nat) (s : State),
    s.slu.cfg ∧ s.pairWorks ∧ s.supRuns ∧ s.sys.done.contains 0 ∧ s.supTestMet code subj ∧ (s.present code subj) = false :=
  ⟨0x0714, subjNone, { State.reset.setFields [(Reg.PWR_STAT_STATE, 1), (Reg.TIM_STAT_SET, 1)] with sys := { SysState.initial with done := [0] }, slu := { SluState.initial with cfg := true, env14 := 50 } },
    by decide, by decide, by decide, by decide, by decide, by decide⟩

theorem test_SluiceCommandsComplete_2 : ∃ (x : RegFile) (s : State),
    s.slu.thrNext = some x ∧ s.atStrike0 ∧ thresholdOrder x :=
  ⟨someThresholds, { State.reset with sys := { SysState.initial with strike := 31 }, slu := { SluState.initial with thrNext := some someThresholds } },
    by decide, by decide, by decide⟩

theorem test_SluiceCommandsComplete_3 : ∃ (k : Nat) (closed : Bool) (s : State),
    k < 3 ∧ s.fbClosed k ≠ closed :=
  ⟨0, true, State.reset.setFields [(Reg.TDM_STAT_TOKEN, 1)],
    by decide, by decide⟩

theorem test_SluiceCommandsComplete_4 : ∃ (s : State),
    (s.slu.seq = .w1Dwell ∨ s.slu.seq = .w2Dwell) ∧ s.token ∧ s.inSev ∧ s.thr Reg.SLU_KT_WDWELL * msStrikes ≤ s.since s.slu.stepAt ∧ s.slu.weldFail = false :=
  ⟨{ State.reset.setFields [(Reg.TDM_STAT_TOKEN, 1), (Reg.SLU_KT_WDWELL, 0), (Reg.PWR_STAT_STATE, 1)] with sys := { SysState.initial with strike := 100000004 }, slu := { SluState.initial with seq := .w1Dwell } },
    by decide, by decide, by decide, by decide, by decide⟩

theorem test_SluiceCommandsComplete_5 : ∃ (s : State),
    (s.slu.seq = .w1Dwell ∨ s.slu.seq = .w2Dwell) ∧ s.token ∧ s.inSev ∧ s.thr Reg.SLU_KT_WDWELL * msStrikes ≤ s.since s.slu.stepAt ∧ s.slu.weldFail :=
  ⟨{ State.reset.setFields [(Reg.TDM_STAT_TOKEN, 1), (Reg.SLU_KT_WDWELL, 0), (Reg.PWR_STAT_STATE, 1)] with sys := { SysState.initial with strike := 100000004 }, slu := { SluState.initial with seq := .w2Dwell, weldFail := true } },
    by decide, by decide, by decide, by decide, by decide⟩

theorem test_SluiceCommandsComplete_6 : ∃ (s : State),
    s.slu.seq = .precharge ∧ s.token ∧ 32 ≤ s.slu.preRun ∧ s.inSev :=
  ⟨{ State.reset.setFields [(Reg.TDM_STAT_TOKEN, 1)] with sys := { SysState.initial with strike := 4 }, slu := { SluState.initial with seq := .precharge, preRun := 32 } },
    by decide, by decide, by decide, by decide⟩

theorem test_SluiceCommandsComplete_7 : ∃ (s : State),
    s.slu.seq = .precharge ∧ s.token ∧ s.slu.preRun < 32 ∧ s.thr Reg.SLU_PRE_PRE_TMAX * 100 * msStrikes ≤ s.since s.slu.preAt :=
  ⟨{ State.reset.setFields [(Reg.TDM_STAT_TOKEN, 1), (Reg.SLU_PRE_PRE_TMAX, 0)] with sys := { SysState.initial with strike := 3200000004 }, slu := { SluState.initial with seq := .precharge } },
    by decide, by decide, by decide, by decide⟩

theorem test_SluiceCommandsComplete_8 : ∃ (s : State),
    s.precharging ∧ s.token ∧ 32 ≤ s.slu.preIRun :=
  ⟨{ State.reset.setFields [(Reg.TDM_STAT_TOKEN, 1)] with slu := { SluState.initial with seq := .precharge, preIRun := 32 } },
    by decide, by decide, by decide⟩

theorem test_SluiceCommandsComplete_9 : ∃ (s : State),
    s.slu.seq = .overlap ∧ s.token ∧ s.inSev ∧ s.thr Reg.SLU_KT_OVERLAP * msStrikes ≤ s.since s.slu.stepAt :=
  ⟨{ State.reset.setFields [(Reg.TDM_STAT_TOKEN, 1), (Reg.SLU_KT_OVERLAP, 0)] with sys := { SysState.initial with strike := 100000004 }, slu := { SluState.initial with seq := .overlap } },
    by decide, by decide, by decide, by decide⟩

theorem test_SluiceCommandsComplete_10 : ∃ (k : Nat) (s : State),
    s.token ∧ s.staysOpen k :=
  ⟨0, { State.reset.setFields [(Reg.TDM_STAT_TOKEN, 1)] with sys := { SysState.initial with strike := 3200000004 }, slu := { SluState.initial with kPos := true, closeFrom := [(0, 1)] } },
    by decide, by decide⟩

theorem test_SluiceCommandsComplete_11 : ∃ (k : Nat) (s : State),
    s.staysClosed k ∧ (s.inEffect 0x0723) = false :=
  ⟨0, { State.reset.setFields [(Reg.TDM_STAT_TOKEN, 1), (Reg.SLU_STAT_FB, 1)] with sys := { SysState.initial with strike := 3200000004 }, slu := { SluState.initial with openFrom := [(0, 1)] } },
    by decide, by decide⟩

theorem test_SluiceCommandsComplete_12 : ∃ (s : State),
    s.slu.seq = .ramp ∧ s.token ∧ 32 ≤ s.slu.lowRun :=
  ⟨{ State.reset.setFields [(Reg.TDM_STAT_TOKEN, 1)] with slu := { SluState.initial with seq := .ramp, lowRun := 32 } },
    by decide, by decide, by decide⟩

theorem test_SluiceCommandsComplete_13 : ∃ (s : State),
    s.slu.seq = .negDelay ∧ s.token ∧ s.inSev ∧ 20 * msStrikes ≤ s.since s.slu.stepAt :=
  ⟨{ State.reset.setFields [(Reg.TDM_STAT_TOKEN, 1)] with sys := { SysState.initial with strike := 644 }, slu := { SluState.initial with seq := .negDelay } },
    by decide, by decide, by decide, by decide⟩

theorem test_SluiceCommandsComplete_14 : ∃ (s : State),
    s.ramping ∧ s.token ∧ s.orderlyLimit * msStrikes ≤ s.since s.slu.ordAt :=
  ⟨{ State.reset.setFields [(Reg.TDM_STAT_TOKEN, 1)] with sys := { SysState.initial with strike := 3200000000 }, slu := { SluState.initial with seq := .ramp } },
    by decide, by decide, by decide⟩

theorem test_SluiceCommandsComplete_15 : ∃ (s : State),
    s.elapsed s.slu.brkAt (s.thr Reg.SLU_BRK_TW * msStrikes) ∧ (s.thr Reg.SLU_BRK_AUX_EN = 0 ∨ s.slu.auxOpen = true) ∧ s.thr Reg.SLU_BRK_AUX_EN ≤ 1 ∧ s.iMag ≤ 5000 :=
  ⟨{ State.reset with sys := { SysState.initial with strike := 3200000004 }, slu := { SluState.initial with brkAt := 1, auxOpen := true } },
    by decide, by decide, by decide, by decide⟩

theorem test_SluiceCommandsComplete_16 : ∃ (s : State),
    s.elapsed s.slu.brkAt (s.thr Reg.SLU_BRK_TW * msStrikes) ∧ ((s.thr Reg.SLU_BRK_AUX_EN = 1 ∧ s.slu.auxOpen = false) ∨ 5000 < s.iMag) :=
  ⟨{ State.reset with sys := { SysState.initial with strike := 3200000004 }, cur := { CurState.initial with held := 5001 }, slu := { SluState.initial with brkAt := 1 } },
    by decide, by decide⟩

theorem test_SluiceCommandsComplete_17 : ∃ (k : Nat) (s : State),
    k < 3 ∧ bitAt s.slu.coilBoth k :=
  ⟨0, { State.reset with slu := { SluState.initial with coilBoth := 1 } },
    by decide, by decide⟩

theorem test_SluiceCommandsComplete_18 : ∃ (code subj : Nat) (f : Active) (a : Nat) (s : State),
    s.flt.active.find? (fun f => f.code == code && f.subj == subj && f.cls == 2) = some f ∧ f.absent = some a ∧ s.thr Reg.SLU_CLR_T2 * secStrikes ≤ s.since a :=
  ⟨0x0312, subjPos 0, aFault, 0, { State.reset with sys := { SysState.initial with strike := 3200000004 }, flt := { FaultState.initial with active := [aFault] } },
    by decide, by decide, by decide⟩

theorem test_SafetyInputCommandsComplete_0 : ∃ (n : Nat) (s : State),
    n < 8 ∧ (s.si n).a.due :=
  ⟨0, { State.reset with sio := { SioState.initial with inputs := [(0, { SafetyIn.initial with a := { SafetyIn.initial.a with run := 32 } })] } },
    by decide, by decide⟩

theorem test_SafetyInputCommandsComplete_1 : ∃ (n ch : Nat) (s : State),
    n < 8 ∧ ch ≠ 0 ∧ (s.si n).b.due :=
  ⟨0, 1, { State.reset with sio := { SioState.initial with inputs := [(0, { SafetyIn.initial with b := { SafetyIn.initial.b with run := 32 } })] } },
    by decide, by decide, by decide⟩

theorem test_SafetyInputCommandsComplete_2 : ∃ (n : Nat) (s : State),
    n < 8 ∧ s.elapsed (s.si n).discAt (s.reg (Reg.SLU_SI_CFG_DISC n) * msStrikes + 1) ∧ ((s.si n).latch) = false :=
  ⟨0, { State.reset.setFields [(Reg.SLU_SI_CFG_DISC 0, 0)] with sys := { SysState.initial with strike := 1 }, sio := { SioState.initial with inputs := [(0, { SafetyIn.initial with discAt := 1 })] } },
    by decide, by decide, by decide⟩

theorem test_SafetyInputCommandsComplete_3 : ∃ (turn : Nat) (s : State),
    turn = s.turn ∧ s.pulseDue 0 :=
  ⟨0, { State.reset with sys := { SysState.initial with strike := 23 } },
    by decide, by decide⟩

theorem test_SafetyInputCommandsComplete_4 : ∃ (turn : Nat) (s : State),
    turn = s.turn ∧ s.pulseDue 1 :=
  ⟨8, { State.reset with sys := { SysState.initial with strike := 279 } },
    by decide, by decide⟩

theorem test_SafetyInputCommandsComplete_5 : ∃ (s : State),
    2 ≤ s.sio.tp0.bad :=
  ⟨{ State.reset with sio := { SioState.initial with tp0 := { TestPulse.initial with bad := 2 } } },
    by decide⟩

theorem test_SafetyInputCommandsComplete_6 : ∃ (s : State),
    2 ≤ s.sio.tp1.bad :=
  ⟨{ State.reset with sio := { SioState.initial with tp1 := { TestPulse.initial with bad := 2 } } },
    by decide⟩

theorem test_SafetyInputCommandsComplete_7 : ∃ (n : Nat) (s : State),
    n < 8 ∧ (s.si n).iso ∧ (s.bitOf Reg.SLU_SI_STAT_DEM n) = false ∧ s.elapsed (s.si n).isoAt (s.reg (Reg.SLU_SI_CFG_ISO_HOLD n) * 3200) :=
  ⟨0, { State.reset.setFields [(Reg.SLU_SI_CFG_ISO_HOLD 0, 0), (Reg.SLU_SI_STAT_DEM, 0)] with sio := { SioState.initial with inputs := [(0, { SafetyIn.initial with iso := true, isoAt := 1 })] } },
    by decide, by decide, by decide, by decide⟩

theorem test_SafetyInputCommandsComplete_8 : ∃ (s : State),
    s.sio.srstLast ∧ 32 ≤ s.sio.srstRun ∧ s.flag Reg.SLU_SRST_LVL = false ∧ s.flag Reg.PWR_STAT_WARM :=
  ⟨{ State.reset.setFields [(Reg.PWR_STAT_WARM, 1)] with sio := { SioState.initial with srstLast := true, srstRun := 32 } },
    by decide, by decide, by decide, by decide⟩

theorem test_SafetyInputCommandsComplete_9 : ∃ (s : State),
    s.sio.srstLast ∧ 32 ≤ s.sio.srstRun ∧ s.flag Reg.SLU_SRST_LVL = false ∧ s.flag Reg.PWR_STAT_WARM = false ∧ (decide (50 * msStrikes ≤ s.since s.sio.lowAt) && (s.sio.edgeAt == 0 || s.elapsed s.sio.edgeAt (100 * msStrikes)) && !((s.srstCount).setFlag Reg.SLU_SRST_LVL true).flag Reg.SLU_SRST_CHAT) :=
  ⟨{ State.reset.setFields [(Reg.TIM_STAT_SET, 1)] with sys := { SysState.initial with strike := 3200000 }, sio := { SioState.initial with srstLast := true, srstRun := 32 } },
    by decide, by decide, by decide, by decide, by decide⟩

theorem test_SafetyInputCommandsComplete_10 : ∃ (s : State),
    s.sio.srstLast ∧ 32 ≤ s.sio.srstRun ∧ s.flag Reg.SLU_SRST_LVL = false ∧ s.flag Reg.PWR_STAT_WARM = false ∧ (decide (50 * msStrikes ≤ s.since s.sio.lowAt) && (s.sio.edgeAt == 0 || s.elapsed s.sio.edgeAt (100 * msStrikes)) && !((s.srstCount).setFlag Reg.SLU_SRST_LVL true).flag Reg.SLU_SRST_CHAT) = false :=
  ⟨{ State.reset.setFields [(Reg.TIM_STAT_SET, 1)] with sio := { SioState.initial with srstLast := true, srstRun := 32 } },
    by decide, by decide, by decide, by decide, by decide⟩

theorem test_SafetyInputCommandsComplete_11 : ∃ (s : State),
    s.flag Reg.SLU_SRST_LVL ∧ s.sio.heldDone = false ∧ 60 * secStrikes ≤ s.since s.sio.highAt :=
  ⟨{ State.reset.setFields [(Reg.SLU_SRST_LVL, 1)] with sys := { SysState.initial with strike := 1920000 } },
    by decide, by decide, by decide⟩

theorem test_SafetyInputCommandsComplete_12 : ∃ (s : State),
    s.flag Reg.SLU_SRST_CHAT ∧ s.elapsed s.sio.edgeAt secStrikes :=
  ⟨{ State.reset.setFields [(Reg.SLU_SRST_CHAT, 1)] with sys := { SysState.initial with strike := 32000 }, sio := { SioState.initial with edgeAt := 1 } },
    by decide +kernel, by decide +kernel⟩

theorem test_SafetyInputCommandsComplete_13 : ∃ (k : Nat) (s : State),
    s.tgSends k ∧ s.inSev ∧ s.turn % max 1 (s.reg (Reg.SLU_TG_CTRL_PER k)) = 0 ∧ s.flag Reg.PWR_DOM_NET ∧ s.sys.done.contains 0 ∧ s.sio.sent.any (fun e => e.1 == k) = false ∧ s.deaf = false :=
  ⟨0, { State.reset.setFields [(Reg.PWR_STAT_STATE, 1), (Reg.PWR_DOM_NET, 1), (Reg.SLU_TG_PEER_PEER 0, 1), (Reg.SLU_TG_CFG_SID, 1), (Reg.SLU_TG_CTRL_DIR 0, 1)] with sys := { SysState.initial with strike := 4, done := [0] } },
    by decide, by decide, by decide, by decide, by decide, by decide, by decide⟩

theorem test_SafetyInputCommandsComplete_14 : ∃ (k port : Nat) (bytes : List Nat) (l : List Nat) (s : State),
    s.tgReceives k ∧ (s.tg k).live ∧ s.portLive port ∧ s.deaf = false ∧ s.appsRun ∧ s.tgContent k port bytes = some l ∧ s.tgAccepts k l :=
  ⟨0, 0, tgBytes ({ State.reset.setFields [(Reg.NET_PORT_EN 0, 1), (Reg.NET_PORT_LINK 0, 1), (Reg.SLU_TG_PEER_PEER 0, 1), (Reg.SLU_TG_CFG_SID, 1), (Reg.SLU_TG_CTRL_DIR 0, 0), (Reg.PWR_DOM_NET, 1)] with sio := { SioState.initial with conns := [(0, { TgConn.initial with live := true })] } }) aTelegram, aTelegram, { State.reset.setFields [(Reg.NET_PORT_EN 0, 1), (Reg.NET_PORT_LINK 0, 1), (Reg.SLU_TG_PEER_PEER 0, 1), (Reg.SLU_TG_CFG_SID, 1), (Reg.SLU_TG_CTRL_DIR 0, 0), (Reg.PWR_DOM_NET, 1)] with sio := { SioState.initial with conns := [(0, { TgConn.initial with live := true })] } },
    by decide, by decide, by decide, by decide, by decide, by decide +kernel, by decide +kernel⟩

theorem test_SafetyInputCommandsComplete_15 : ∃ (k port : Nat) (bytes : List Nat) (l : List Nat) (s : State),
    s.tgReceives k ∧ (s.tg k).live ∧ s.portLive port ∧ s.deaf = false ∧ s.appsRun ∧ s.tgContent k port bytes = some l ∧ s.tgAccepts k l = false :=
  ⟨0, 0, tgBytes ({ State.reset.setFields [(Reg.NET_PORT_EN 0, 1), (Reg.NET_PORT_LINK 0, 1), (Reg.SLU_TG_PEER_PEER 0, 1), (Reg.SLU_TG_CFG_SID, 1), (Reg.SLU_TG_CTRL_DIR 0, 0), (Reg.PWR_DOM_NET, 1)] with sio := { SioState.initial with conns := [(0, { TgConn.initial with live := true })] } }) [], [], { State.reset.setFields [(Reg.NET_PORT_EN 0, 1), (Reg.NET_PORT_LINK 0, 1), (Reg.SLU_TG_PEER_PEER 0, 1), (Reg.SLU_TG_CFG_SID, 1), (Reg.SLU_TG_CTRL_DIR 0, 0), (Reg.PWR_DOM_NET, 1)] with sio := { SioState.initial with conns := [(0, { TgConn.initial with live := true })] } },
    by decide, by decide, by decide, by decide, by decide, by decide +kernel, by decide +kernel⟩

theorem test_SafetyInputCommandsComplete_16 : ∃ (k : Nat) (s : State),
    s.tgReceives k :=
  ⟨0, { State.reset.setFields [(Reg.NET_PORT_EN 0, 1), (Reg.NET_PORT_LINK 0, 1), (Reg.SLU_TG_PEER_PEER 0, 1), (Reg.SLU_TG_CFG_SID, 1), (Reg.SLU_TG_CTRL_DIR 0, 0), (Reg.PWR_DOM_NET, 1)] with sio := { SioState.initial with conns := [(0, { TgConn.initial with live := true })] } },
    by decide⟩

theorem test_SafetyInputCommandsComplete_17 : ∃ (k : Nat) (s : State),
    s.tgReceives k ∧ (s.tg k).live ∧ (s.tg k).timedOut = false ∧ s.reg (Reg.SLU_TG_CTRL_TOUT k) * msStrikes ≤ s.since (s.tg k).accAt ∧ s.reg (Reg.SLU_TG_CTRL_TACT k) = 2 :=
  ⟨0, { State.reset.setFields [(Reg.SLU_TG_CTRL_TACT 0, 2), (Reg.SLU_TG_CTRL_TOUT 0, 0), (Reg.NET_PORT_EN 0, 1), (Reg.NET_PORT_LINK 0, 1), (Reg.SLU_TG_PEER_PEER 0, 1), (Reg.SLU_TG_CFG_SID, 1), (Reg.SLU_TG_CTRL_DIR 0, 0), (Reg.PWR_DOM_NET, 1)] with sio := { SioState.initial with conns := [(0, { TgConn.initial with live := true })] } },
    by decide, by decide, by decide, by decide, by decide⟩

theorem test_SafetyInputCommandsComplete_18 : ∃ (k : Nat) (s : State),
    s.tgReceives k ∧ (s.tg k).live ∧ (s.tg k).timedOut = false ∧ s.reg (Reg.SLU_TG_CTRL_TOUT k) * msStrikes ≤ s.since (s.tg k).accAt ∧ s.reg (Reg.SLU_TG_CTRL_TACT k) ≠ 2 :=
  ⟨0, { State.reset.setFields [(Reg.SLU_TG_CTRL_TACT 0, 1), (Reg.SLU_TG_CTRL_TOUT 0, 0), (Reg.NET_PORT_EN 0, 1), (Reg.NET_PORT_LINK 0, 1), (Reg.SLU_TG_PEER_PEER 0, 1), (Reg.SLU_TG_CFG_SID, 1), (Reg.SLU_TG_CTRL_DIR 0, 0), (Reg.PWR_DOM_NET, 1)] with sio := { SioState.initial with conns := [(0, { TgConn.initial with live := true })] } },
    by decide, by decide, by decide, by decide, by decide⟩

theorem test_SessionEventsComplete_0 : ∃ (x : Session) (s : State),
    s.auth.session = some x ∧ (s.reg Reg.SEC_SA_CFG_IDLE * secStrikes ≤ s.since x.lastAt ∨ s.reg Reg.SEC_SA_CFG_MAXH * 3600 * secStrikes ≤ s.since x.openedAt) :=
  ⟨aSession, { State.reset.setFields [(Reg.SEC_SA_CFG_IDLE, 0)] with auth := { AuthState.initial with session := some aSession } },
    by decide, by decide⟩

theorem test_SessionEventsComplete_1 : ∃ (s : State),
    s.linkUp = false :=
  ⟨State.reset,
    by decide⟩

theorem test_SessionEventsComplete_2 : ∃ (c : Nat) (s : State),
    (s.svcConn? c).isSome :=
  ⟨0, { State.reset with hif := { HostState.initial with conns := [(0, { role := 2, port := 0, client := [], lastAt := 0 })] } },
    by decide⟩

theorem test_SessionEventsComplete_3 : ∃ (_c : CommitIn) (x : Session) (a : Nat) (s : State),
    s.auth.commit = some (x, a) ∧ s.commitReady ∧ s.pairWorks :=
  ⟨{ layout := none, failover := none }, aSession, 0, { State.reset.setFields [(Reg.TIM_STAT_SET, 1)] with auth := { AuthState.initial with commit := some (aSession, 0) } },
    by decide, by decide, by decide⟩

theorem test_SessionEventsComplete_4 : ∃ (s : State),
    s.auth.lockOn ∧ s.auth.lock = 0 :=
  ⟨{ State.reset with auth := { AuthState.initial with lockOn := true } },
    by decide, by decide⟩

theorem test_BalanceCommandsComplete_0 : ∃ (nn : Nat) (s : State),
    s.bal.shutAt.get 0 nn ≠ 0 ∧ s.bal.shutAt.get 0 nn - 1 + 20 ≤ s.now ∧ (s.balNow nn).dir ≠ .off :=
  ⟨0, { State.reset with sys := { SysState.initial with strike := 20 }, bal := { BalState.initial with shutAt := [(0, 1)], now := [(0, { bleed := 0, pos := 3, dir := .out })] } },
    by decide, by decide, by decide⟩

theorem test_BalanceCommandsComplete_1 : ∃ (e : Nat) (s : State),
    s.bal.quiet = some e ∧ s.reg Reg.EST_REST_REST_I * 1000 < s.iMag :=
  ⟨5, { State.reset.setFields [(Reg.EST_REST_REST_I, 0)] with cur := { CurState.initial with held := 1 }, bal := { BalState.initial with quiet := some 5 } },
    by decide, by decide⟩

theorem test_BalanceCommandsComplete_2 : ∃ (e : Nat) (s : State),
    s.bal.quiet = some e ∧ s.iMag ≤ s.reg Reg.EST_REST_REST_I * 1000 ∧ e ≤ s.turn :=
  ⟨0, { State.reset with bal := { BalState.initial with quiet := some 0 } },
    by decide, by decide, by decide⟩

theorem test_BalanceCommandsComplete_3 : ∃ (s : State),
    10 ≤ s.bal.dissRun :=
  ⟨{ State.reset with bal := { BalState.initial with dissRun := 10 } },
    by decide⟩

theorem test_BalanceCommandsComplete_4 : ∃ (g : Nat) (c : Nat × Nat × Rat) (s : State),
    s.bal.cand.find? (fun c => c.1 == g) = some c ∧ c.2.1 + 48 * 3600000 ≤ s.turn :=
  ⟨0, (0, (0, 1)), { State.reset with sys := { SysState.initial with strike := 5529600000 }, bal := { BalState.initial with cand := [(0, (0, 1))] } },
    by decide, by decide⟩

theorem test_BalanceCommandsComplete_5 : ∃ (nn : Nat) (s : State),
    2 ≤ s.bal.shutIBad.get 0 nn :=
  ⟨0, { State.reset with bal := { BalState.initial with shutIBad := [(0, 2)] } },
    by decide⟩

theorem test_BalanceCommandsComplete_6 : ∃ (nn : Nat) (s : State),
    3 ≤ s.bal.shutFbBad.get 0 nn :=
  ⟨0, { State.reset with bal := { BalState.initial with shutFbBad := [(0, 3)] } },
    by decide⟩

theorem test_GovernorCommandsComplete_0 : ∃ (_path : Path) (off : Nat) (_w : Word) (s : State),
    govAt off ∧ s.deaf = false :=
  ⟨.pf0, (Reg.GOV_HOST_VAL 0).off, 5, State.reset,
    by decide, by decide⟩

theorem test_GovernorCommandsComplete_1 : ∃ (n : Nat) (s : State),
    n < 8 ∧ s.slotOn n ∧ (s.slot n).fail = false ∧ s.reg (Reg.GOV_SLOT_CFG_HOLDMAX n) ≤ (s.slot n).hold ∧ s.present 0x0803 (subjNum n) = false :=
  ⟨0, State.reset.setFields [(Reg.GOV_CTRL_SEN, 1), (Reg.GOV_SLOT_CFG_HOLDMAX 0, 0)],
    by decide, by decide, by decide, by decide, by decide⟩

theorem test_GovernorCommandsComplete_2 : ∃ (n : Nat) (s : State),
    n < 8 ∧ s.slotOn n ∧ (s.slot n).fail ∧ s.present 0x0803 (subjNum n) = false :=
  ⟨0, { State.reset.setFields [(Reg.GOV_CTRL_SEN, 1)] with gov := { GovState.initial with slots := [(0, { GovSlot.zero with fail := true })] } },
    by decide, by decide, by decide, by decide⟩

theorem test_GovernorCommandsComplete_3 : ∃ (n : Nat) (s : State),
    n < 8 ∧ s.slotOn n ∧ (s.slot n).fail = false ∧ s.present 0x0803 (subjNum n) :=
  ⟨0, { State.reset.setFields [(Reg.GOV_CTRL_SEN, 1)] with flt := { FaultState.initial with active := [{ aFault with code := 0x0803, subj := subjNum 0, cls := 1, absent := none }] } },
    by decide, by decide, by decide, by decide⟩

theorem test_GovernorCommandsComplete_4 : ∃ (s : State),
    2 ≤ s.gov.rbBad :=
  ⟨{ State.reset with gov := { GovState.initial with rbBad := 2 } },
    by decide⟩

theorem test_GovernorCommandsComplete_5 : ∃ (s : State),
    2 ≤ s.gov.aoutBad :=
  ⟨{ State.reset with gov := { GovState.initial with aoutBad := 2 } },
    by decide⟩

theorem test_GovernorCommandsComplete_6 : ∃ (k : Nat) (s : State),
    2 ≤ s.gov.actBad.get 0 k :=
  ⟨0, { State.reset with gov := { GovState.initial with actBad := [(0, 2)] } },
    by decide⟩

theorem test_GovernorCommandsComplete_7 : ∃ (a : Nat) (s : State),
    s.changeTime = some a ∧ 48 ≤ a :=
  ⟨48, { State.reset with sys := { SysState.initial with strike := 48 }, gov := { GovState.initial with change := some { t0 := 0, mode := 0, range := 0 } } },
    by decide, by decide⟩

theorem test_GovernorCommandsComplete_8 : ∃ (a : Nat) (s : State),
    s.changeTime = some a ∧ 95 ≤ a :=
  ⟨95, { State.reset with sys := { SysState.initial with strike := 95 }, gov := { GovState.initial with change := some { t0 := 0, mode := 0, range := 0 } } },
    by decide, by decide⟩

theorem test_GovernorCommandsComplete_9 : ∃ (_path : Path) (_w : Word) (s : State),
    s.deaf = false :=
  ⟨.pf0, 5, State.reset,
    by decide⟩

theorem test_GovernorCommandsComplete_10 : ∃ (a : Nat) (s : State),
    s.env.setpAt = some a ∧ s.reg Reg.ENV_CTRL_SPTO ≠ 0 ∧ s.reg Reg.ENV_CTRL_SPTO * 3200 ≤ s.since a ∧ s.flag Reg.ENV_STAT_SPTO = false :=
  ⟨0, { State.reset.setFields [(Reg.ENV_CTRL_SPTO, 1)] with sys := { SysState.initial with strike := 3200 }, env := { EnvState.initial with setpAt := some 0 } },
    by decide, by decide, by decide, by decide⟩

theorem test_GovernorCommandsComplete_11 : ∃ (s : State),
    16 ≤ s.env.stale ∧ s.env.falling = false :=
  ⟨{ State.reset with env := { EnvState.initial with stale := 16 } },
    by decide, by decide⟩

theorem test_MillpondCommandsComplete_0 : ∃ (f : Nat) (s : State),
    s.hop.next = some f ∧ s.hop.off = none ∧ f + 170000 < s.headTurn :=
  ⟨0, { State.reset with mpd := { MpdState.initial with head := 5450000 }, hop := { HopState.initial with next := some 0 } },
    by decide, by decide, by decide⟩

theorem test_MillpondCommandsComplete_1 : ∃ (fn r : Nat) (f : Flume) (s : State),
    s.flume? fn r = some f ∧ 170000 < s.lag f ∧ f.trunc = false ∧ f.kind ≠ 6 :=
  ⟨0, 2, aFlume, { State.reset with mpd := { MpdState.initial with head := 5450000 }, hif := { HostState.initial with flumes := [(2, aFlume)] } },
    by decide, by decide, by decide, by decide⟩

theorem test_MillpondCommandsComplete_2 : ∃ (fn r : Nat) (f : Flume) (s : State),
    s.flume? fn r = some f ∧ 170000 < s.lag f ∧ f.trunc = false ∧ f.kind = 6 ∧ f.buf = none :=
  ⟨0, 2, { aFlume with kind := 6 }, { State.reset with mpd := { MpdState.initial with head := 5450000 }, hif := { HostState.initial with flumes := [(2, { aFlume with kind := 6 })] } },
    by decide, by decide, by decide, by decide, by decide⟩

theorem test_MillpondCommandsComplete_3 : ∃ (_e : EccIn) (s : State),
    s.flag Reg.MPD_STAT_READY ∧ s.scrubTime ≤ s.since s.mpd.scrubAt :=
  ⟨noEcc, State.reset.setFields [(Reg.MPD_STAT_READY, 1), (Reg.MPD_SCRUB_HOURS, 0)],
    by decide, by decide⟩

theorem test_MillpondCommandsComplete_4 : ∃ (_readA _readB : Bool) (s : State),
    s.sys.core ∧ s.pwr.booted ∧ s.flag Reg.MPD_STAT_READY = false ∧ (s.hopSlot 0).cart = none ∧ (s.hopSlot 1).cart = none :=
  ⟨true, true, { State.reset with pwr := { PwrState.initial with booted := true } },
    by decide, by decide, by decide, by decide, by decide⟩

theorem test_HostFunctionCommandsComplete_0 : ∃ (gen width : Nat) (s : State),
    s.flag Reg.PWR_DOM_PCI ∧ s.flag Reg.HIF_LINK_PERST = false ∧ s.linkUp = false ∧ 1 ≤ gen ∧ gen ≤ s.reg Reg.HIF_LINK_CFG_MAXGEN ∧ (width = 1 ∨ width = 2 ∨ width = 4) ∧ width ≤ s.reg Reg.HIF_LINK_CFG_MAXW ∧ s.hif.fns = [] :=
  ⟨1, 1, State.reset.setFields [(Reg.HIF_LINK_PERST, 0), (Reg.PWR_DOM_PCI, 1), (Reg.HIF_LINK_CFG_MAXGEN, 3), (Reg.HIF_LINK_CFG_MAXW, 4)],
    by decide, by decide, by decide, by decide, by decide, by decide, by decide, by decide⟩

theorem test_HostFunctionCommandsComplete_1 : ∃ (s : State),
    s.linkUp :=
  ⟨State.reset.setFields [(Reg.HIF_LINK_GEN, 3)],
    by decide⟩

theorem test_HostFunctionCommandsComplete_2 : ∃ (s : State),
    s.flag Reg.HIF_LINK_PERST = false ∧ s.linkUp :=
  ⟨State.reset.setFields [(Reg.HIF_LINK_GEN, 3), (Reg.HIF_LINK_PERST, 0)],
    by decide, by decide⟩

theorem test_HostFunctionCommandsComplete_4 : ∃ (s : State),
    s.linkUp :=
  ⟨State.reset.setFields [(Reg.HIF_LINK_GEN, 3)],
    by decide⟩

theorem test_HostFunctionCommandsComplete_5 : ∃ (fn : Nat) (s : State),
    s.fnExists fn ∧ fn ≠ 0 ∧ s.linkUp :=
  ⟨1, { State.reset.setFields [(Reg.HIF_LINK_GEN, 3)] with hif := { HostState.initial with numVf := 1 } },
    by decide, by decide, by decide⟩

theorem test_HostFunctionCommandsComplete_6 : ∃ (fn : Nat) (d0 bme pmeEn clear : Bool) (s : State),
    s.fnExists fn ∧ s.linkUp ∧ (s.quiet.updFn fn fun f => { f with d0 := d0, bme := bme, pmeEn := pmeEn, pmeStatus := f.pmeStatus && !clear }).suspended fn :=
  ⟨0, false, false, false, false, State.reset.setFields [(Reg.HIF_LINK_GEN, 3)],
    by decide, by decide, by decide⟩

theorem test_HostFunctionCommandsComplete_7 : ∃ (fn : Nat) (d0 bme pmeEn clear : Bool) (s : State),
    s.fnExists fn ∧ s.linkUp ∧ (s.quiet.updFn fn fun f => { f with d0 := d0, bme := bme, pmeEn := pmeEn, pmeStatus := f.pmeStatus && !clear }).suspended fn = false ∧ s.suspended fn :=
  ⟨0, true, true, false, false, State.reset.setFields [(Reg.HIF_LINK_GEN, 3)],
    by decide, by decide, by decide, by decide⟩

theorem test_HostFunctionCommandsComplete_8 : ∃ (fn : Nat) (e : HostEntry) (x : Ring) (s : State),
    s.suspended fn = false ∧ s.hif.turnOff = false ∧ s.appsRun ∧ (s.fn fn).held.find? (s.heldHome fn) = some e ∧ s.ring? fn e.ring = some x ∧ x.writable ∧ (s.quiet.needCtx fn e.ring).2 :=
  ⟨0, anEvent, evtRing, { State.reset.setFields [(Reg.HIF_LINK_GEN, 3)] with hif := { hostRings with fns := [(0, { HostFn.initial with bme := true, held := [anEvent] })] } },
    by decide, by decide, by decide, by decide, by decide, by decide, by decide⟩

theorem test_HostFunctionCommandsComplete_9 : ∃ (fn : Nat) (s : State),
    (s.suspended fn) = false ∧ s.reg Reg.HIF_HOLD_HOLD_TO * secStrikes ≤ s.since (s.fn fn).resumedAt ∧ (s.fn fn).held.any (fun e => !s.heldHome fn e) :=
  ⟨0, { State.reset.setFields [(Reg.HIF_LINK_GEN, 3), (Reg.HIF_HOLD_HOLD_TO, 0)] with hif := { hostRings with fns := [(0, { HostFn.initial with bme := true, held := [{ anEvent with ring := 9 }] })] } },
    by decide, by decide, by decide⟩

theorem test_HostFunctionCommandsComplete_10 : ∃ (s : State),
    s.linkUp ∧ s.hif.turnOff = false :=
  ⟨State.reset.setFields [(Reg.HIF_LINK_GEN, 3)],
    by decide, by decide⟩

theorem test_HostFunctionCommandsComplete_11 : ∃ (fn : Nat) (s : State),
    (s.fn fn).pmeStatus ∧ (s.fn fn).pmeEn ∧ s.suspended fn ∧ s.linkUp ∧ s.hif.turnOff = false ∧ s.elapsed (s.fn fn).pmeAt (128 * msStrikes) :=
  ⟨0, { State.reset.setFields [(Reg.HIF_LINK_GEN, 3)] with sys := { SysState.initial with strike := 4096 }, hif := { HostState.initial with fns := [(0, { HostFn.initial with pmeStatus := true, pmeEn := true, pmeAt := 1 })] } },
    by decide, by decide, by decide, by decide, by decide, by decide⟩

theorem test_HostFunctionCommandsComplete_12 : ∃ (n : Nat) (ari : Bool) (s : State),
    s.linkUp ∧ n ≤ (if ari then 255 else 7) :=
  ⟨7, false, State.reset.setFields [(Reg.HIF_LINK_GEN, 3)],
    by decide, by decide⟩

theorem test_HostFunctionCommandsComplete_13 : ∃ (fn : Nat) (_enable : Bool) (_unmasked : List Nat) (s : State),
    s.fnExists fn ∧ s.linkUp :=
  ⟨0, true, [1], State.reset.setFields [(Reg.HIF_LINK_GEN, 3)],
    by decide, by decide⟩

theorem test_HostFunctionCommandsComplete_14 : ∃ (fn : Nat) (_hi : Bool) (_w : Word) (s : State),
    s.fnReached fn ∧ s.ringsOf fn = [] :=
  ⟨0, true, 1, State.reset.setFields [(Reg.HIF_LINK_GEN, 3)],
    by decide, by decide⟩

theorem test_HostFunctionCommandsComplete_15 : ∃ (_path : Path) (n : Nat) (w : Word) (s : State),
    0 < n ∧ n < 256 ∧ s.deaf = false ∧ bitAt w.toNat 1 = false :=
  ⟨.pf0, 1, 1, State.reset,
    by decide, by decide, by decide, by decide⟩

theorem test_HostFunctionCommandsComplete_16 : ∃ (_path : Path) (_w : Word) (s : State),
    s.deaf = false :=
  ⟨.pf0, 1, State.reset,
    by decide⟩

theorem test_HostFunctionCommandsComplete_17 : ∃ (_data : Option (List Nat)) (s : State),
    s.flag Reg.HIF_CELL_STAT_BUSY :=
  ⟨none, State.reset.setFields [(Reg.HIF_CELL_STAT_BUSY, 1)],
    by decide⟩

theorem test_RingCommandsComplete_0 : ∃ (fn r : Nat) (ctx : Option (List Nat)) (fresh : Bool) (u : State) (s : State),
    s.fnReached fn ∧ r < 1024 ∧ s.quiet = u ∧ u.flag (Reg.HIF_FN_RING_OPSTAT_BUSY fn) = false ∧ ((u.fn fn).wasReset && !(u.fn fn).loaded.contains r) = fresh ∧ u.loadResult fn r ctx fresh = 0 :=
  ⟨0, 5, some aContext, false, ({ State.reset.setFields [(Reg.HIF_LINK_GEN, 3)] with hif := { hostRings with turnOff := false } }).quiet, { State.reset.setFields [(Reg.HIF_LINK_GEN, 3)] with hif := { hostRings with turnOff := false } },
    by first | decide | rfl | decide +kernel | exact Nat.succ_ne_self _ | exact beq_self_eq_true _, by first | decide | rfl | decide +kernel | exact Nat.succ_ne_self _ | exact beq_self_eq_true _, by first | decide | rfl | decide +kernel | exact Nat.succ_ne_self _ | exact beq_self_eq_true _, by first | decide | rfl | decide +kernel | exact Nat.succ_ne_self _ | exact beq_self_eq_true _, by first | decide | rfl | decide +kernel | exact Nat.succ_ne_self _ | exact beq_self_eq_true _, by first | decide | rfl | decide +kernel | exact Nat.succ_ne_self _ | exact beq_self_eq_true _⟩

theorem test_RingCommandsComplete_1 : ∃ (fn r : Nat) (x : Ring) (a : Nat) (s : State),
    s.ring? fn r = some x ∧ x.unloading = some a ∧ 100 * msStrikes ≤ s.since a :=
  ⟨0, 1, { evtRing with unloading := some 0 }, 0, { State.reset with sys := { SysState.initial with strike := 3200 }, hif := { HostState.initial with rings := [(1, { evtRing with unloading := some 0 })] } },
    by decide, by decide, by decide⟩

theorem test_RingCommandsComplete_2 : ∃ (fn r : Nat) (x : Ring) (s : State),
    s.fnReached fn ∧ r < 1024 ∧ s.flag (Reg.HIF_FN_RING_OPSTAT_BUSY fn) = false ∧ s.suspended fn = false ∧ s.ring? fn r = some x ∧ (s.ringsOf fn).any (fun e => e.2.fromHost && e.2.pair == r) = false :=
  ⟨0, 2, flmRing, { State.reset.setFields [(Reg.HIF_LINK_GEN, 3)] with hif := { hostRings with turnOff := false } },
    by decide, by decide, by decide, by decide, by decide, by decide⟩

theorem test_RingCommandsComplete_3 : ∃ (fn r : Nat) (lo : Word) (x : Ring) (s : State),
    s.fnReached fn ∧ r < 1024 ∧ s.quiet.ring? fn r = some x ∧ x.badDoorbell lo.toNat = false :=
  ⟨0, 0, 1, { cmdRing with hidx := 1 }, { State.reset.setFields [(Reg.HIF_LINK_GEN, 3)] with hif := { hostRings with turnOff := false } },
    by decide, by decide, by decide, by decide⟩

theorem test_RingCommandsComplete_4 : ∃ (fn r : Nat) (lo hi : Word) (x : Ring) (s : State),
    s.fnReached fn ∧ r < 1024 ∧ s.quiet.ring? fn r = some x ∧ hi.toNat < 2 ∧ x.badDoorbell lo.toNat = false :=
  ⟨0, 0, 1, 1, { cmdRing with hidx := 1 }, { State.reset.setFields [(Reg.HIF_LINK_GEN, 3)] with hif := { hostRings with turnOff := false } },
    by decide, by decide, by decide, by decide, by decide⟩

theorem test_RingCommandsComplete_5 : ∃ (fn r : Nat) (x : Ring) (s : State),
    s.fnReached fn ∧ r < 1024 ∧ s.ring? fn r = some x :=
  ⟨0, 0, { cmdRing with hidx := 1 }, { State.reset.setFields [(Reg.HIF_LINK_GEN, 3)] with hif := { hostRings with turnOff := false } },
    by decide, by decide, by decide⟩

theorem test_RingCommandsComplete_6 : ∃ (fn r : Nat) (x : Ring) (e : HostEntry) (s : State),
    s.ring? fn r = some x ∧ x.writable ∧ s.suspended fn = false ∧ s.hif.turnOff = false ∧ s.appsRun ∧ s.nextReady fn r = some e ∧ (s.quiet.needCtx fn r).2 :=
  ⟨0, 1, evtRing, anEvent, { State.reset.setFields [(Reg.HIF_LINK_GEN, 3)] with hif := { hostRings with ready := [(0, anEvent)] } },
    by decide, by decide, by decide, by decide, by decide, by decide, by decide⟩

theorem test_RingCommandsComplete_7 : ∃ (fn r : Nat) (x : Ring) (s : State),
    s.ring? fn r = some x ∧ x.writable ∧ s.suspended fn = false ∧ s.hif.turnOff = false ∧ s.appsRun ∧ s.nextReady fn r = none ∧ x.drop ≠ 0 ∧ (s.quiet.needCtx fn r).2 :=
  ⟨0, 1, { evtRing with drop := 1 }, { State.reset.setFields [(Reg.HIF_LINK_GEN, 3)] with hif := { hostRings with rings := [(1, { evtRing with drop := 1 })] } },
    by decide, by decide, by decide, by decide, by decide, by decide, by decide, by decide⟩

theorem test_RingCommandsComplete_8 : ∃ (fn r : Nat) (x : Ring) (a : Nat) (s : State),
    s.ring? fn r = some x ∧ x.firstAt = some a ∧ x.ien ∧ x.armed ∧ x.modtime ≠ 0 ∧ x.fromHost = false ∧ x.modtime * 32 ≤ s.since a * 1000 ∧ s.linkUp :=
  ⟨0, 1, { evtRing with ien := true, armed := true, modtime := 1, firstAt := some 0 }, 0, { State.reset.setFields [(Reg.HIF_LINK_GEN, 3)] with sys := { SysState.initial with strike := 1 }, hif := { HostState.initial with rings := [(1, { evtRing with ien := true, armed := true, modtime := 1, firstAt := some 0 })] } },
    by decide, by decide, by decide, by decide, by decide, by decide, by decide, by decide⟩

theorem test_RingCommandsComplete_9 : ∃ (fn r : Nat) (x : Ring) (s : State),
    s.ring? fn r = some x ∧ x.error = false ∧ ((x.fromHost = true ∧ x.midx ≠ x.hidx) ∨ s.hif.cache.contains (ringKey fn r) = false) :=
  ⟨0, 0, { cmdRing with hidx := 1 }, { State.reset with hif := { HostState.initial with rings := [(0, { cmdRing with hidx := 1 })] } },
    by decide, by decide, by decide⟩

theorem test_DataCommandsComplete_2 : ∃ (c : CmdIn) (s u : State) (x : CmdCtx) (l : List Nat),
    s.accepts cmdHostInput c = true ∧ s.fetched cmdHostInput c = (u, x) ∧ (List.range 8).filter (fun k => bitAt (x.arg 8 1) k) = l ∧ l ≠ [] ∧ u.gov.queue.length + l.length ≤ 64 :=
  ⟨aCmd 33 [(8, 1)] (none), { State.reset.setFields [(Reg.PWR_STAT_STATE, 1), (Reg.HIF_LINK_GEN, 3), (Reg.TIM_STAT_SET, 1)] with hif := { hostRings with turnOff := false } }, _, _, [0],
    by decide, rfl, by decide, by decide, by decide⟩

theorem test_DataCommandsComplete_4 : ∃ (c : CmdIn) (s u : State) (x : CmdCtx) (n : Nat),
    s.accepts cmdSnapCert c = true ∧ s.fetched cmdSnapCert c = (u, x) ∧ x.buffer 36928 ∧ u.est.supStrike = some n :=
  ⟨aCmd 64 [(16, 64), (17, 144)] (none), { State.reset.setFields [(Reg.PWR_STAT_STATE, 1), (Reg.HIF_LINK_GEN, 3), (Reg.TIM_STAT_SET, 1)] with est := { EstState.initial with supStrike := some 7 }, hif := { hostRings with turnOff := false } }, _, _, 7,
    by decide, rfl, by decide, by decide⟩

theorem test_DataCommandsComplete_5 : ∃ (c : CmdIn) (s u : State) (x : CmdCtx),
    s.accepts cmdSnapModel c = true ∧ s.fetched cmdSnapModel c = (u, x) ∧ x.buffer 110656 ∧ u.mdl.lastTurn ≠ 0 :=
  ⟨aCmd 65 [(16, 64), (17, 176), (18, 1)] (none), { State.reset.setFields [(Reg.PWR_STAT_STATE, 1), (Reg.HIF_LINK_GEN, 3), (Reg.TIM_STAT_SET, 1)] with mdl := { ModelState.initial with lastTurn := 1 }, hif := { hostRings with turnOff := false } }, _, _,
    by decide, rfl, by decide, by decide⟩

theorem test_DataCommandsComplete_6 : ∃ (c : CmdIn) (s u : State) (x : CmdCtx) (l : List Nat),
    s.accepts cmdRestoreCert c = true ∧ s.fetched cmdRestoreCert c = (u, x) ∧ x.arg 8 8 % 4096 = 0 ∧ x.arg 16 4 = 36928 ∧ x.data = some l :=
  ⟨aCmd 66 [(16, 64), (17, 144)] (some []), { State.reset.setFields [(Reg.PWR_STAT_STATE, 1), (Reg.HIF_LINK_GEN, 3), (Reg.TIM_STAT_SET, 1)] with hif := { hostRings with turnOff := false } }, _, _, [],
    by decide, rfl, by decide, by decide, by decide⟩

theorem test_DataCommandsComplete_7 : ∃ (c : CmdIn) (s u : State) (x : CmdCtx) (l : List Nat),
    s.accepts cmdRestoreModel c = true ∧ s.fetched cmdRestoreModel c = (u, x) ∧ x.arg 8 8 % 4096 = 0 ∧ x.arg 16 4 = 110656 ∧ x.data = some l :=
  ⟨aCmd 67 [(16, 64), (17, 176), (18, 1)] (some []), { State.reset.setFields [(Reg.PWR_STAT_STATE, 1), (Reg.HIF_LINK_GEN, 3), (Reg.TIM_STAT_SET, 1)] with hif := { hostRings with turnOff := false } }, _, _, [],
    by decide, rfl, by decide, by decide, by decide⟩

theorem test_DataCommandsComplete_8 : ∃ (c : CmdIn) (s u : State) (x : CmdCtx) (w : List Rat),
    s.accepts cmdModelStart c = true ∧ s.fetched cmdModelStart c = (u, x) ∧ x.arg 8 1 < 8 ∧ (((List.range 9).map fun k => if k = 7 then some ((fp32At x.entry 40).getD 0) else fp32At x.entry (12 + 4 * k)).filterMap id = w) ∧ w.length = 9 ∧ (w.zip (List.range 9)).all (fun e => startValueOk e.2 e.1) :=
  ⟨aCmd 68 [(15, 63), (19, 63), (23, 63), (27, 63), (30, 128), (31, 64), (38, 128), (39, 64)] (none), { State.reset.setFields [(Reg.PWR_STAT_STATE, 1), (Reg.HIF_LINK_GEN, 3), (Reg.TIM_STAT_SET, 1)] with hif := { hostRings with turnOff := false } }, _, _, [1/2, 1/2, 1/2, 1/2, 4, 0, 4, 0, 0],
    by first | decide | rfl | decide +kernel | exact Nat.succ_ne_self _ | exact beq_self_eq_true _, rfl, by first | decide | rfl | decide +kernel | exact Nat.succ_ne_self _ | exact beq_self_eq_true _, by first | decide | rfl | decide +kernel | exact Nat.succ_ne_self _ | exact beq_self_eq_true _, by first | decide | rfl | decide +kernel | exact Nat.succ_ne_self _ | exact beq_self_eq_true _, by first | decide | rfl | decide +kernel | exact Nat.succ_ne_self _ | exact beq_self_eq_true _⟩

theorem test_DataCommandsComplete_9 : ∃ (c : CmdIn) (s u : State) (x : CmdCtx) (f : Flume),
    s.accepts cmdFlumeOpen c = true ∧ s.fetched cmdFlumeOpen c = (u, x) ∧ u.openArgs x ∧ u.window (flumeOf x) = some f ∧ u.flume? x.ref.fn (x.arg 8 2) = none ∧ u.hif.flumes.length < 1024 :=
  ⟨aCmd 16 [(8, 2), (10, 5)] (none), { State.reset.setFields [(Reg.PWR_STAT_STATE, 1), (Reg.HIF_LINK_GEN, 3), (Reg.TIM_STAT_SET, 1)] with hif := { hostRings with turnOff := false } }, _, _, { aFlume with kind := 5, count := 0, stop := some 0, next := 1 },
    by decide, rfl, by decide, by decide, by decide, by decide⟩

theorem test_DataCommandsComplete_10 : ∃ (c : CmdIn) (s u : State) (x : CmdCtx) (f : Flume),
    s.accepts cmdFlumeClose c = true ∧ s.fetched cmdFlumeClose c = (u, x) ∧ u.flume? x.ref.fn (x.arg 8 2) = some f ∧ x.arg 8 2 < 1024 :=
  ⟨aCmd 17 [(8, 2)] (none), { State.reset.setFields [(Reg.PWR_STAT_STATE, 1), (Reg.HIF_LINK_GEN, 3), (Reg.TIM_STAT_SET, 1)] with hif := { hostRings with flumes := [(2, aFlume)] } }, _, _, aFlume,
    by decide, rfl, by decide, by decide⟩

theorem test_DataCommandsComplete_11 : ∃ (c : CmdIn) (s u : State) (x : CmdCtx) (f : Flume),
    s.accepts cmdFlumeStat c = true ∧ s.fetched cmdFlumeStat c = (u, x) ∧ u.flume? x.ref.fn (x.arg 8 2) = some f :=
  ⟨aCmd 18 [(8, 2)] (none), { State.reset.setFields [(Reg.PWR_STAT_STATE, 1), (Reg.HIF_LINK_GEN, 3), (Reg.TIM_STAT_SET, 1)] with hif := { hostRings with flumes := [(2, aFlume)] } }, _, _, aFlume,
    by decide, rfl, by decide⟩

theorem test_DataCommandsComplete_12 : ∃ (c : CmdIn) (s u : State) (x : CmdCtx) (l : List Nat),
    s.accepts cmdCellRefresh c = true ∧ s.fetched cmdCellRefresh c = (u, x) ∧ x.arg 10 2 ≠ 0 ∧ x.arg 8 2 + x.arg 10 2 ≤ 1152 ∧ u.flag Reg.HIF_CELL_STAT_BUSY = false ∧ x.data = some l :=
  ⟨aCmd 112 [(10, 1)] (some []), { State.reset.setFields [(Reg.PWR_STAT_STATE, 1), (Reg.HIF_LINK_GEN, 3), (Reg.TIM_STAT_SET, 1)] with hif := { hostRings with turnOff := false } }, _, _, [],
    by decide, rfl, by decide, by decide, by decide, by decide⟩

theorem test_RequestCommandsComplete_1 : ∃ (c : CmdIn) (s u : State) (x : CmdCtx),
    s.accepts cmdOpen c = true ∧ s.fetched cmdOpen c = (u, x) ∧ u.roleStandby = false :=
  ⟨aCmd 81 [] (none), { State.reset.setFields [(Reg.PWR_STAT_STATE, 1), (Reg.HIF_LINK_GEN, 3), (Reg.TIM_STAT_SET, 1), (Reg.TDM_STAT_ROLE, 0)] with hif := { hostRings with turnOff := false } }, _, _,
    by decide, rfl, by decide⟩

theorem test_RequestCommandsComplete_3 : ∃ (c : CmdIn) (s u : State) (x : CmdCtx),
    s.accepts cmdSessionOpen c = true ∧ s.fetched cmdSessionOpen c = (u, x) ∧ passwordForm (x.arg 8 1) (x.argBytes 12 32) ∧ u.sessionMayOpen ∧ u.passwordRight (x.arg 8 1) (x.argBytes 12 32) :=
  ⟨aCmd 96 [(8, 8), (12, 65), (13, 65), (14, 65), (15, 65), (16, 65), (17, 65), (18, 65), (19, 65)] (none), { State.reset.setFields [(Reg.PWR_STAT_STATE, 1), (Reg.HIF_LINK_GEN, 3), (Reg.TIM_STAT_SET, 1), (Reg.SEC_LC_STATE, 2)] with auth := { AuthState.initial with committed := { SafetyConfig.factory with salt := [], tag := Config.argon2 [] (List.replicate 8 0x41) } }, hif := { hostRings with turnOff := false } }, _, _,
    by first | decide | rfl | decide +kernel | exact Nat.succ_ne_self _ | exact beq_self_eq_true _, rfl, by first | decide | rfl | decide +kernel | exact Nat.succ_ne_self _ | exact beq_self_eq_true _, by first | decide | rfl | decide +kernel | exact Nat.succ_ne_self _ | exact beq_self_eq_true _, by first | decide | rfl | decide +kernel | exact Nat.succ_ne_self _ | exact beq_self_eq_true _⟩

theorem test_RequestCommandsComplete_5 : ∃ (c : CmdIn) (s u : State) (x : CmdCtx) (y : Session),
    s.accepts cmdPasswordSet c = true ∧ s.fetched cmdPasswordSet c = (u, x) ∧ u.sessionOf x.path = some y ∧ passwordForm (x.arg 8 1) (x.argBytes 12 32) ∧ u.clogRoom y :=
  ⟨aCmd 98 [(8, 8), (12, 65), (13, 65), (14, 65), (15, 65), (16, 65), (17, 65), (18, 65), (19, 65)] (none), { State.reset.setFields [(Reg.PWR_STAT_STATE, 1), (Reg.HIF_LINK_GEN, 3), (Reg.TIM_STAT_SET, 1)] with auth := { AuthState.initial with session := some aSession }, hif := { hostRings with turnOff := false } }, _, _, aSession,
    by decide, rfl, by decide, by decide, by decide⟩

theorem test_RequestCommandsComplete_6 : ∃ (c : CmdIn) (s u : State) (x : CmdCtx) (y : Session),
    s.accepts cmdKeySet c = true ∧ s.fetched cmdKeySet c = (u, x) ∧ u.sessionOf x.path = some y ∧ u.clogRoom y :=
  ⟨aCmd 99 [] (none), { State.reset.setFields [(Reg.PWR_STAT_STATE, 1), (Reg.HIF_LINK_GEN, 3), (Reg.TIM_STAT_SET, 1)] with auth := { AuthState.initial with session := some aSession }, hif := { hostRings with turnOff := false } }, _, _, aSession,
    by decide, rfl, by decide, by decide⟩

theorem test_RequestCommandsComplete_7 : ∃ (c : CmdIn) (s u : State) (x : CmdCtx) (y : Session),
    s.accepts cmdWeldClear c = true ∧ s.fetched cmdWeldClear c = (u, x) ∧ u.sessionOf x.path = some y ∧ u.clogRoom y :=
  ⟨aCmd 83 [] (none), { State.reset.setFields [(Reg.PWR_STAT_STATE, 1), (Reg.HIF_LINK_GEN, 3), (Reg.TIM_STAT_SET, 1)] with auth := { AuthState.initial with session := some aSession }, hif := { hostRings with turnOff := false } }, _, _, aSession,
    by decide, rfl, by decide, by decide⟩

theorem test_RequestCommandsComplete_8 : ∃ (c : CmdIn) (s u : State) (x : CmdCtx) (y : Session),
    s.accepts cmdClogRoll c = true ∧ s.fetched cmdClogRoll c = (u, x) ∧ u.sessionOf x.path = some y :=
  ⟨aCmd 101 [] (none), { State.reset.setFields [(Reg.PWR_STAT_STATE, 1), (Reg.HIF_LINK_GEN, 3), (Reg.TIM_STAT_SET, 1)] with auth := { AuthState.initial with session := some aSession }, hif := { hostRings with turnOff := false } }, _, _, aSession,
    by decide, rfl, by decide⟩

theorem test_RequestCommandsComplete_9 : ∃ (c : CmdIn) (s u : State) (x : CmdCtx) (l : List Nat) (y : Session),
    s.accepts cmdTableLoad c = true ∧ s.fetched cmdTableLoad c = (u, x) ∧ [1, 2, 3].contains (x.arg 8 1) ∧ x.arg 9 1 < (if x.arg 8 1 = 2 then 4 else 8) ∧ tableLen (x.arg 8 1) (x.arg 12 4) ∧ (x.ref.svc.isSome ∨ x.arg 16 8 % 4096 = 0) ∧ x.data = some l ∧ u.tableRefusal (x.arg 8 1) (l.take (x.arg 12 4)) = none ∧ u.sessionOf x.path = some y ∧ u.clogRoom y :=
  ⟨aCmd 100 [(8, 3), (12, 140)] (some aCurve), { State.reset.setFields [(Reg.PWR_STAT_STATE, 1), (Reg.HIF_LINK_GEN, 3), (Reg.TIM_STAT_SET, 1)] with auth := { AuthState.initial with session := some aSession }, hif := { hostRings with turnOff := false } }, _, _, aCurve, aSession,
    by decide +kernel, rfl, by decide +kernel, by decide +kernel, by decide +kernel, by decide +kernel, by decide +kernel, by decide +kernel, by decide +kernel, by decide +kernel⟩

theorem test_RecordCommandsComplete_1 : ∃ (c : CmdIn) (s u : State) (x : CmdCtx),
    s.accepts cmdEvlogFreeze c = true ∧ s.fetched cmdEvlogFreeze c = (u, x) ∧ u.flag Reg.EVL_STAT_FROZEN = false :=
  ⟨aCmd 129 [] (none), { State.reset.setFields [(Reg.PWR_STAT_STATE, 1), (Reg.HIF_LINK_GEN, 3), (Reg.TIM_STAT_SET, 1)] with hif := { hostRings with turnOff := false } }, _, _,
    by decide, rfl, by decide⟩

theorem test_RecordCommandsComplete_2 : ∃ (c : CmdIn) (s u : State) (x : CmdCtx),
    s.accepts cmdEvlogRelease c = true ∧ s.fetched cmdEvlogRelease c = (u, x) ∧ u.flag Reg.EVL_STAT_FROZEN :=
  ⟨aCmd 130 [] (none), { State.reset.setFields [(Reg.PWR_STAT_STATE, 1), (Reg.HIF_LINK_GEN, 3), (Reg.TIM_STAT_SET, 1), (Reg.EVL_STAT_FROZEN, 1)] with hif := { hostRings with turnOff := false } }, _, _,
    by decide, rfl, by decide⟩

theorem test_RecordCommandsComplete_3 : ∃ (c : CmdIn) (s u : State) (x : CmdCtx),
    s.accepts cmdEvlogRelease c = true ∧ s.fetched cmdEvlogRelease c = (u, x) ∧ u.flag Reg.EVL_STAT_FROZEN = false :=
  ⟨aCmd 130 [] (none), { State.reset.setFields [(Reg.PWR_STAT_STATE, 1), (Reg.HIF_LINK_GEN, 3), (Reg.TIM_STAT_SET, 1)] with hif := { hostRings with turnOff := false } }, _, _,
    by decide, rfl, by decide⟩

theorem test_RecordCommandsComplete_4 : ∃ (c : CmdIn) (s u : State) (x : CmdCtx) (e : EvSlot),
    s.accepts cmdEvlogClear c = true ∧ s.fetched cmdEvlogClear c = (u, x) ∧ u.flag Reg.EVL_STAT_FROZEN = false ∧ u.evl.slots.getLast? = some e ∧ e.seq % 2 ^ 48 = x.arg 8 6 ∧ e.crc = x.arg 16 4 :=
  ⟨aCmd 0x83 ((8, 1) :: (List.range 4).map fun i => (16 + i, (leBytes 4 anEvSlot.crc).getD i 0)) none, { State.reset.setFields [(Reg.PWR_STAT_STATE, 1), (Reg.HIF_LINK_GEN, 3), (Reg.TIM_STAT_SET, 1)] with evl := { EvlState.initial with slots := [anEvSlot] }, auth := { AuthState.initial with session := some aSession }, hif := { hostRings with turnOff := false } }, _, _, anEvSlot,
    by decide +kernel, rfl, by decide +kernel, by decide +kernel, by decide +kernel, by decide +kernel⟩

theorem test_RecordCommandsComplete_5 : ∃ (c : CmdIn) (s u : State) (x : CmdCtx),
    s.accepts cmdHopEject c = true ∧ s.fetched cmdHopEject c = (u, x) ∧ x.arg 8 1 < 4 ∧ u.hopState (x.arg 8 1 % 2) = hsFailed ∧ (u.hopSlot (x.arg 8 1 % 2)).ejectAt = none ∧ 2 ≤ x.arg 8 1 :=
  ⟨aCmd 144 [(8, 2)] (none), { State.reset.setFields [(Reg.PWR_STAT_STATE, 1), (Reg.HIF_LINK_GEN, 3), (Reg.TIM_STAT_SET, 1), (Reg.HOP_SLOT_STAT_STATE 0, hsFailed)] with hif := { hostRings with turnOff := false } }, _, _,
    by decide, rfl, by decide, by decide, by decide, by decide⟩

theorem test_RecordCommandsComplete_6 : ∃ (c : CmdIn) (s u : State) (x : CmdCtx),
    s.accepts cmdHopAdmit c = true ∧ s.fetched cmdHopAdmit c = (u, x) ∧ x.arg 8 1 < 4 ∧ (u.hopState (x.arg 8 1 % 2) = hsPending ∨ u.hopState (x.arg 8 1 % 2) = hsEjected) ∧ (u.flag (Reg.HOP_SLOT_STAT_FOREIGN (x.arg 8 1 % 2)) = false ∨ bitAt (x.arg 8 1) 1) :=
  ⟨aCmd 145 [(8, 0)] (none), { State.reset.setFields [(Reg.PWR_STAT_STATE, 1), (Reg.HIF_LINK_GEN, 3), (Reg.TIM_STAT_SET, 1), (Reg.HOP_SLOT_STAT_STATE 0, hsPending)] with hif := { hostRings with turnOff := false } }, _, _,
    by decide, rfl, by decide, by decide, by decide⟩

theorem test_RecordCommandsComplete_7 : ∃ (c : CmdIn) (s u : State) (x : CmdCtx) (l : List Nat),
    s.accepts cmdFwStage c = true ∧ s.fetched cmdFwStage c = (u, x) ∧ 1152 ≤ x.arg 16 4 ∧ x.arg 16 4 ≤ 134217728 ∧ x.arg 16 4 % 4 = 0 ∧ u.sec.lc ≠ lcRetired ∧ u.fwBusy = false ∧ x.data = some l :=
  ⟨aCmd 160 [(17, 16)] (some []), { State.reset.setFields [(Reg.PWR_STAT_STATE, 1), (Reg.HIF_LINK_GEN, 3), (Reg.TIM_STAT_SET, 1)] with hif := { hostRings with turnOff := false } }, _, _, [],
    by decide, rfl, by decide, by decide, by decide, by decide, by decide, by decide⟩

theorem test_RecordCommandsComplete_8 : ∃ (c : CmdIn) (s u : State) (x : CmdCtx) (i : FwImage),
    s.accepts cmdFwActivate c = true ∧ s.fetched cmdFwActivate c = (u, x) ∧ x.arg 8 1 = 0 ∧ u.fwBusy = false ∧ u.fwStaged = some i ∧ u.auth.session = none ∧ u.auth.commit = none ∧ u.token = false ∧ u.power ≠ pwBrake ∧ u.clockSet :=
  ⟨aCmd 161 [] (none), { State.reset.setFields [(Reg.PWR_STAT_STATE, 1), (Reg.HIF_LINK_GEN, 3), (Reg.TIM_STAT_SET, 1)] with sec := { SecState.initial with slots := [(0, FwImage.factory), (1, FwImage.factory)] }, hif := { hostRings with turnOff := false } }, _, _, FwImage.factory,
    by decide, rfl, by decide, by decide, by decide, by decide, by decide, by decide, by decide, by decide⟩

theorem test_FlumeCommandsComplete_0 : ∃ (fn r : Nat) (_desc : List Nat) (_e : EccIn) (_bad : List Nat) (f : Flume) (x : Ring) (s : State),
    s.flumeAt fn r = some (f, x) ∧ f.buf.isSome ∧ f.rest ≠ [] :=
  ⟨0, 2, [], noEcc, [], { aFlume with buf := some (0, 4096, 0), rest := [1] }, flmRing, { State.reset.setFields [(Reg.HIF_LINK_GEN, 3)] with hif := { hostRings with flumes := [(2, { aFlume with buf := some (0, 4096, 0), rest := [1] })] } },
    by decide, by decide, by decide⟩

theorem test_FlumeCommandsComplete_1 : ∃ (fn r : Nat) (f : Flume) (x : Ring) (s : State),
    s.flumeAt fn r = some (f, x) ∧ f.buf.isSome ∧ f.fill ≠ 0 ∧ f.flush ≠ 0 ∧ f.flush * msStrikes ≤ s.since f.firstAt :=
  ⟨0, 2, { aFlume with buf := some (0, 4096, 0), fill := 8, flush := 1 }, flmRing, { State.reset.setFields [(Reg.HIF_LINK_GEN, 3)] with sys := { SysState.initial with strike := 32 }, hif := { hostRings with flumes := [(2, { aFlume with buf := some (0, 4096, 0), fill := 8, flush := 1 })] } },
    by decide, by decide, by decide, by decide, by decide⟩

theorem test_FlumeCommandsComplete_2 : ∃ (fn r : Nat) (_desc : List Nat) (f : Flume) (x : Ring) (s : State),
    s.flumeAt fn r = some (f, x) ∧ s.flumeOver f ∧ f.buf.isSome :=
  ⟨0, 2, [], { aFlume with buf := some (0, 4096, 0), stop := some 0, next := 1 }, flmRing, { State.reset.setFields [(Reg.HIF_LINK_GEN, 3)] with hif := { hostRings with flumes := [(2, { aFlume with buf := some (0, 4096, 0), stop := some 0, next := 1 })] } },
    by decide, by decide, by decide⟩

theorem test_HopperCommandsComplete_0 : ∃ (f : Nat) (s : State),
    s.hop.next = some f ∧ s.flag Reg.HOP_CTRL_EN ∧ s.hop.gaps = [] ∧ s.hop.off = none ∧ (f / 1000 + 1) * 1000 ≤ s.packedTo ∧ s.sys.core ∧ s.appsRun :=
  ⟨0, { State.reset.setFields [(Reg.HOP_CTRL_EN, 1)] with mpd := { MpdState.initial with head := 3200000 }, hop := { HopState.initial with next := some 0 } },
    by decide, by decide, by decide, by decide, by decide, by decide, by decide⟩

theorem test_HopperCommandsComplete_1 : ∃ (first turns cause : Nat) (rest : List (Nat × Nat × Nat)) (s : State),
    s.hop.gaps = (first, turns, cause) :: rest ∧ s.sys.core ∧ s.appsRun :=
  ⟨0, 1, 1, [], { State.reset with hop := { HopState.initial with gaps := [(0, 1, 1)] } },
    by decide, by decide, by decide⟩

theorem test_HopperCommandsComplete_2 : ∃ (k wear : Nat) (c : Chunk) (s : State),
    k < 2 ∧ s.hopWriting k ∧ wear < 100 ∧ s.flag Reg.HOP_CTRL_EN ∧ s.dueChunk k = some c :=
  ⟨0, 5, aChunk, { State.reset.setFields [(Reg.HOP_SLOT_STAT_STATE 0, hsInSync), (Reg.HOP_CTRL_EN, 1)] with hop := { HopState.initial with staging := [aChunk] } },
    by decide, by decide, by decide, by decide, by decide⟩

theorem test_HopperCommandsComplete_3 : ∃ (s : State),
    s.sys.core :=
  ⟨State.reset,
    by decide⟩

theorem test_HopperCommandsComplete_4 : ∃ (s : State),
    s.hop.hour < s.hourNow ∧ s.sys.core ∧ s.flag Reg.HOP_CTRL_EN :=
  ⟨{ State.reset.setFields [(Reg.TIM_STAT_SET, 1), (Reg.HOP_CTRL_EN, 1)] with sys := { SysState.initial with strike := 115200000 } },
    by decide, by decide, by decide⟩

theorem test_HopperCommandsComplete_5 : ∃ (s : State),
    s.hop.hour < s.hourNow ∧ s.sys.core ∧ s.flag Reg.HOP_CTRL_EN = false :=
  ⟨{ State.reset.setFields [(Reg.TIM_STAT_SET, 1), (Reg.HOP_CTRL_EN, 0)] with sys := { SysState.initial with strike := 115200000 } },
    by decide, by decide, by decide⟩

theorem test_HopperCommandsComplete_6 : ∃ (l : List Nat) (r : List (List Nat)) (s : State),
    s.hop.minDue = l :: r ∧ s.sys.core ∧ s.flag Reg.HOP_CTRL_EN :=
  ⟨[], [], { State.reset.setFields [(Reg.HOP_CTRL_EN, 1)] with hop := { HopState.initial with minDue := [[]] } },
    by decide, by decide, by decide⟩

theorem test_HopperCommandsComplete_7 : ∃ (k : Nat) (_c : Cartridge) (_readable : Bool) (s : State),
    k < 2 ∧ s.hopState k = hsEmpty ∧ (s.hopSlot k).cart = none ∧ s.hopPowered :=
  ⟨0, aCart, true, State.reset.setFields [(Reg.PWR_STAT_STATE, 1), (Reg.MPD_STAT_READY, 1)],
    by decide, by decide, by decide, by decide⟩

theorem test_HopperCommandsComplete_8 : ∃ (k : Nat) (_c : Cartridge) (_readable : Bool) (s : State),
    k < 2 ∧ s.hopState k = hsEmpty ∧ (s.hopSlot k).cart = none ∧ s.hopPowered = false :=
  ⟨0, aCart, true, State.reset,
    by decide, by decide, by decide, by decide⟩

theorem test_HopperCommandsComplete_9 : ∃ (k : Nat) (s : State),
    k < 2 ∧ s.hopState k = hsEmpty :=
  ⟨0, State.reset,
    by decide, by decide⟩

theorem test_HopperCommandsComplete_10 : ∃ (k : Nat) (s : State),
    k < 2 ∧ s.hopState k ≠ hsEmpty :=
  ⟨0, State.reset.setFields [(Reg.HOP_SLOT_STAT_STATE 0, hsInSync)],
    by decide, by decide⟩

theorem test_HopperCommandsComplete_11 : ∃ (k _wear : Nat) (s : State),
    k < 2 ∧ s.hopWriting k :=
  ⟨0, 50, State.reset.setFields [(Reg.HOP_SLOT_STAT_STATE 0, hsInSync)],
    by decide, by decide⟩

theorem test_HopperCommandsComplete_12 : ∃ (k : Nat) (o : Cartridge) (s : State),
    k < 2 ∧ s.hopState k = hsResync ∧ (s.hopSlot (1 - k)).cart = some o ∧ s.hopState (1 - k) = hsInSync :=
  ⟨0, aCart, { State.reset.setFields [(Reg.HOP_SLOT_STAT_STATE 0, hsResync), (Reg.HOP_SLOT_STAT_STATE 1, hsInSync)] with hop := { HopState.initial with b := { HopSlot.empty with cart := some aCart } } },
    by decide, by decide, by decide, by decide⟩

theorem test_HopperCommandsComplete_13 : ∃ (k : Nat) (s : State),
    k < 2 ∧ s.hopState k = hsResync ∧ ((s.hopSlot (1 - k)).cart = none ∨ s.hopState (1 - k) ≠ hsInSync) :=
  ⟨0, State.reset.setFields [(Reg.HOP_SLOT_STAT_STATE 0, hsResync)],
    by decide, by decide, by decide⟩

theorem test_HopperCommandsComplete_14 : ∃ (k : Nat) (a : Nat) (s : State),
    (s.hopSlot k).ejectAt = some a ∧ k < 2 ∧ 1400 * msStrikes ≤ s.since a ∧ (s.hopWriting k = false ∨ s.dueChunk k = none) :=
  ⟨0, 0, { State.reset with sys := { SysState.initial with strike := 44800 }, hop := { HopState.initial with a := { HopSlot.empty with cart := some aCart, ejectAt := some 0 } } },
    by decide, by decide, by decide, by decide⟩

theorem test_EventLogCommandsComplete_0 : ∃ (s : State),
    s.evl.queue ≠ [] ∧ s.sys.core :=
  ⟨{ State.reset with evl := { EvlState.initial with queue := [anEvRec] } },
    by decide, by decide⟩

theorem test_EventLogCommandsComplete_1 : ∃ (f : Fold) (s : State),
    s.evl.folds.find? (fun f => decide (f.last + s.foldWindow < s.now) || decide (65535 ≤ f.count)) = some f ∧ s.sys.core :=
  ⟨aFold, { State.reset with evl := { EvlState.initial with folds := [aFold] } },
    by decide, by decide⟩

theorem test_EventLogCommandsComplete_2 : ∃ (s : State),
    s.flag Reg.EVL_STAT_FROZEN ∧ s.reg Reg.EVL_CTRL_FRZ_TO * secStrikes ≤ s.since s.evl.frozenAt :=
  ⟨State.reset.setFields [(Reg.EVL_STAT_FROZEN, 1), (Reg.EVL_CTRL_FRZ_TO, 0)],
    by decide, by decide⟩

theorem test_ClockCommandsComplete_0 : ∃ (port : Nat) (f : FrameIn) (c : FrameClass) (s : State),
    s.portLive port ∧ ({ s with net := { s.net with passed := none } }).frameClass port f = some c :=
  ⟨0, aFrame, .service, State.reset.setFields [(Reg.PWR_DOM_NET, 1), (Reg.NET_PORT_EN 0, 1), (Reg.NET_PORT_LINK 0, 1)],
    by decide, by decide⟩

theorem test_ClockCommandsComplete_1 : ∃ (port : Nat) (f : FrameIn) (s : State),
    s.portLive port ∧ ({ s with net := { s.net with passed := none } }).frameClass port f = none :=
  ⟨0, badFrame, State.reset.setFields [(Reg.PWR_DOM_NET, 1), (Reg.NET_PORT_EN 0, 1), (Reg.NET_PORT_LINK 0, 1)],
    by decide, by decide⟩

theorem test_ClockCommandsComplete_2 : ∃ (port : Nat) (g1 : Bool) (s : State),
    port < 2 ∧ s.flag Reg.PWR_DOM_NET ∧ s.flag (Reg.NET_PORT_LINK port) = false ∧ s.flag (Reg.NET_PORT_EN port) ∧ s.speedOk port g1 :=
  ⟨0, false, State.reset.setFields [(Reg.PWR_DOM_NET, 1), (Reg.NET_PORT_EN 0, 1)],
    by decide, by decide, by decide, by decide, by decide⟩

theorem test_ClockCommandsComplete_3 : ∃ (port : Nat) (_g1 : Bool) (s : State),
    port < 2 ∧ s.flag Reg.PWR_DOM_NET ∧ s.flag (Reg.NET_PORT_LINK port) :=
  ⟨0, false, State.reset.setFields [(Reg.PWR_DOM_NET, 1), (Reg.NET_PORT_EN 0, 1), (Reg.NET_PORT_LINK 0, 1)],
    by decide, by decide, by decide⟩

theorem test_ClockCommandsComplete_4 : ∃ (aon : Nat) (s : State),
    s.flag Reg.PWR_DOM_NET ∧ s.clockSet = false ∧ s.aonValidAt (aon / 1000000000 - s.tim.aonSec) :=
  ⟨5000000000, { State.reset.setFields [(Reg.PWR_DOM_NET, 1)] with tim := { TimeState.initial with aonOk := true, aonTai := true, aonSec := 5 } },
    by decide, by decide, by decide⟩

theorem test_ClockCommandsComplete_5 : ∃ (aon : Nat) (s : State),
    s.flag Reg.PWR_DOM_NET ∧ s.clockSet = false ∧ s.aonValidAt (aon / 1000000000 - s.tim.aonSec) = false :=
  ⟨0, State.reset.setFields [(Reg.PWR_DOM_NET, 1)],
    by decide, by decide, by decide⟩

theorem test_ClockCommandsComplete_6 : ∃ (a : AnnounceIn) (s : State),
    s.ptpOn a.port ∧ s.deaf = false ∧ s.appsRun ∧ a.domain = s.reg Reg.TIM_PTP_CFG_DOMAIN ∧ a.sdo = s.reg Reg.TIM_PTP_CFG_SDOID ∧ a.sender ≠ Config.clockIdentity (s.portMac 0) :=
  ⟨{ anAnnounce with domain := (State.reset.setFields [(Reg.PWR_DOM_NET, 1), (Reg.NET_PORT_EN 0, 1), (Reg.NET_PORT_LINK 0, 1), (Reg.TIM_PTP_P_EN 0, 1)]).reg Reg.TIM_PTP_CFG_DOMAIN, sdo := (State.reset.setFields [(Reg.PWR_DOM_NET, 1), (Reg.NET_PORT_EN 0, 1), (Reg.NET_PORT_LINK 0, 1), (Reg.TIM_PTP_P_EN 0, 1)]).reg Reg.TIM_PTP_CFG_SDOID, sender := Config.clockIdentity ((State.reset.setFields [(Reg.PWR_DOM_NET, 1), (Reg.NET_PORT_EN 0, 1), (Reg.NET_PORT_LINK 0, 1), (Reg.TIM_PTP_P_EN 0, 1)]).portMac 0) + 1 }, State.reset.setFields [(Reg.PWR_DOM_NET, 1), (Reg.NET_PORT_EN 0, 1), (Reg.NET_PORT_LINK 0, 1), (Reg.TIM_PTP_P_EN 0, 1)],
    by first | decide | rfl | decide +kernel | exact Nat.succ_ne_self _ | exact beq_self_eq_true _, by first | decide | rfl | decide +kernel | exact Nat.succ_ne_self _ | exact beq_self_eq_true _, by first | decide | rfl | decide +kernel | exact Nat.succ_ne_self _ | exact beq_self_eq_true _, by first | decide | rfl | decide +kernel | exact Nat.succ_ne_self _ | exact beq_self_eq_true _, by first | decide | rfl | decide +kernel | exact Nat.succ_ne_self _ | exact beq_self_eq_true _, by first | decide | rfl | decide +kernel | exact Nat.succ_ne_self _ | exact beq_self_eq_true _⟩

theorem test_ClockCommandsComplete_7 : ∃ (x : SyncIn) (s : State),
    s.ptpOn x.port ∧ s.deaf = false ∧ s.appsRun ∧ s.tim.sel = some (x.port, x.sender) ∧ s.clockSet :=
  ⟨aSync, { State.reset.setFields [(Reg.PWR_DOM_NET, 1), (Reg.NET_PORT_EN 0, 1), (Reg.NET_PORT_LINK 0, 1), (Reg.TIM_PTP_P_EN 0, 1), (Reg.TIM_STAT_SET, 1)] with tim := { TimeState.initial with sel := some (0, 7) } },
    by decide, by decide, by decide, by decide, by decide⟩

theorem test_ClockCommandsComplete_8 : ∃ (x : SyncIn) (s : State),
    s.ptpOn x.port ∧ s.deaf = false ∧ s.appsRun ∧ s.tim.sel = some (x.port, x.sender) ∧ s.clockSet = false :=
  ⟨aSync, { State.reset.setFields [(Reg.PWR_DOM_NET, 1), (Reg.NET_PORT_EN 0, 1), (Reg.NET_PORT_LINK 0, 1), (Reg.TIM_PTP_P_EN 0, 1)] with tim := { TimeState.initial with sel := some (0, 7) } },
    by decide, by decide, by decide, by decide, by decide⟩

theorem test_ClockCommandsComplete_9 : ∃ (m : Nat × Nat) (s : State),
    s.tim.sel = some m ∧ s.announceWait m.1 ≤ s.since s.tim.syncAt ∧ s.clockSet = false :=
  ⟨(0, 7), { State.reset with sys := { SysState.initial with strike := 320000000 }, tim := { TimeState.initial with sel := some (0, 7) } },
    by decide, by decide, by decide⟩

theorem test_ClockCommandsComplete_10 : ∃ (s : State),
    s.timeState = tmHoldover ∧ s.reg Reg.TIM_SERVO_HOLD_MAX * 10 * secStrikes ≤ s.since s.tim.holdAt :=
  ⟨State.reset.setFields [(Reg.TIM_STAT_STATE, tmHoldover), (Reg.TIM_SERVO_HOLD_MAX, 0)],
    by decide, by decide⟩

theorem test_ClockCommandsComplete_11 : ∃ (fn : Nat) (w : Word) (s : State),
    s.fnReached fn ∧ bitAt w.toNat 0 :=
  ⟨0, 1, State.reset.setFields [(Reg.HIF_LINK_GEN, 3)],
    by decide, by decide⟩

theorem test_ClockCommandsComplete_12 : ∃ (path : Path) (k : Nat) (w : Word) (s : State),
    k < 4 ∧ bitAt w.toNat 3 ∧ s.deaf = false ∧ ((s.writeWord path (Reg.TIM_TTO_CTRL_MODE k).off w.toNat).ttoPlan k).legal ∧ (s.writeWord path (Reg.TIM_TTO_CTRL_MODE k).off w.toNat).runOrTrim ∧ ((s.writeWord path (Reg.TIM_TTO_CTRL_MODE k).off w.toNat).took.tto k).pulse = none :=
  ⟨.pf0, 0, 9, State.reset.setFields [(Reg.PWR_STAT_STATE, 1), (Reg.TIM_TTO_WIDTH_VAL 0, 1000)],
    by decide, by decide, by decide, by decide, by decide, by decide⟩

theorem test_ClockCommandsComplete_13 : ∃ (k : Nat) (p : TtoPlan) (s : State),
    k < 4 ∧ s.runOrTrim ∧ s.clockSet ∧ (s.tto k).armed = some p ∧ (s.tto k).next / 31250 ≤ s.now :=
  ⟨0, aPlan, { State.reset.setFields [(Reg.PWR_STAT_STATE, 1), (Reg.TIM_STAT_SET, 1)] with tim := { TimeState.initial with tto := [(0, { armed := some aPlan, next := 0, issued := 0, pulse := none, pend := none })] } },
    by decide, by decide, by decide, by decide, by decide⟩

theorem test_ClockCommandsComplete_14 : ∃ (n : Nat) (_rising : Bool) (part : Nat) (s : State),
    n < 4 ∧ part < 62500 ∧ s.capturesRun ∧ s.clockSet ∧ s.tim.edgeAt ≤ s.now * 62500 + part :=
  ⟨0, true, 3, State.reset.setFields [(Reg.PWR_STAT_STATE, 1), (Reg.TIM_STAT_SET, 1)],
    by decide, by decide, by decide, by decide, by decide⟩

theorem test_ClockCommandsComplete_15 : ∃ (_path : Path) (n : Nat) (a : Nat) (b : Bool) (q : List (Nat × Bool)) (s : State),
    n < 4 ∧ s.sys.core ∧ s.tciQueue n = (a, b) :: q :=
  ⟨.pf0, 0, 5, true, [], { State.reset with tim := { TimeState.initial with tci := [(0, [(5, true)])] } },
    by decide, by decide, by decide⟩

theorem test_ClockCommandsComplete_16 : ∃ (k : Nat) (a : Nat) (s : State),
    (s.ivl k).pend = some a ∧ k < 2 ∧ s.capturesRun ∧ s.reg (Reg.TIM_IVL_CFG_TMO k) ≠ 0 ∧ a + s.reg (Reg.TIM_IVL_CFG_TMO k) * 2000000 < (s.now + 1) * 62500 :=
  ⟨0, 0, { State.reset.setFields [(Reg.PWR_STAT_STATE, 1), (Reg.TIM_IVL_CFG_TMO 0, 1)] with sys := { SysState.initial with strike := 32 }, tim := { TimeState.initial with ivl := [(0, { pend := some 0, dup := false })] } },
    by decide, by decide, by decide, by decide, by decide⟩

theorem test_CanCommandsComplete_0 : ∃ (_path : Path) (c : Nat) (_w : Word) (s : State),
    canIs c ∧ s.deaf = false :=
  ⟨.pf0, 0, 0, State.reset,
    by decide, by decide⟩

theorem test_CanCommandsComplete_1 : ∃ (_path : Path) (c rel : Nat) (_w : Word) (s : State),
    canIs c ∧ s.deaf = false ∧ (rel = 0x08 ∨ rel = 0x0C ∨ rel = 0x10 ∨ rel = 0x14 ∨ rel = 0x40 ∨ rel = 0x50) :=
  ⟨.pf0, 0, 8, 0, State.reset,
    by decide, by decide, by decide⟩

theorem test_CanCommandsComplete_2 : ∃ (_path : Path) (c : Nat) (_w : Word) (s : State),
    canIs c ∧ s.deaf = false ∧ bitsAt (s.reg (Reg.CAN_FLT_IDX_IDX c)) 11 1 ≠ s.reg (Reg.CAN_STAT_FBANK c) :=
  ⟨.pf0, 0, 1, State.reset.setFields [(Reg.CAN_FLT_IDX_IDX 0, 2048)],
    by decide, by decide, by decide⟩

theorem test_CanCommandsComplete_3 : ∃ (c : Nat) (n : Nat) (s : State),
    canIs c ∧ (s.canCtl c).swap = some n :=
  ⟨0, 3, { State.reset with can := { CanState.initial with ctl := [(0, { CanCtl.initial with swap := some 3 })] } },
    by decide, by decide⟩

theorem test_CanCommandsComplete_4 : ∃ (c : Nat) (f : CanFrame) (s : State),
    s.canOn c ∧ f.fmt ≤ s.canTop c ∧ (((s.canRxGood c).canEstate c).canFilter c f).1 < 2 :=
  ⟨0, aCan, State.reset.setFields [(Reg.PWR_STAT_STATE, 1), (Reg.CAN_CTRL_INIT 0, 0), (Reg.CAN_STAT_SYNC 0, 1), (Reg.CAN_FLT_CFG_NM 0, 0)],
    by decide, by decide, by decide⟩

theorem test_CanCommandsComplete_5 : ∃ (c : Nat) (f : CanFrame) (s : State),
    s.canOn c ∧ f.fmt ≤ s.canTop c ∧ 2 ≤ (((s.canRxGood c).canEstate c).canFilter c f).1 :=
  ⟨0, aCan, State.reset.setFields [(Reg.PWR_STAT_STATE, 1), (Reg.CAN_CTRL_INIT 0, 0), (Reg.CAN_STAT_SYNC 0, 1), (Reg.CAN_FLT_CFG_NM 0, 2)],
    by decide, by decide, by decide⟩

theorem test_CanCommandsComplete_6 : ∃ (c j : Nat) (w : Word) (s : State),
    canIs c ∧ j < 2 ∧ s.deaf = false ∧ w.toNat % 128 ≤ ((s.canCtl c).rxq j).fill :=
  ⟨0, 0, 0, State.reset,
    by decide, by decide, by decide, by decide⟩

theorem test_CanCommandsComplete_7 : ∃ (c : Nat) (w : Word) (s : State),
    canIs c ∧ s.deaf = false ∧ w.toNat % 128 ≤ (s.canCtl c).tef.fill :=
  ⟨0, 0, State.reset,
    by decide, by decide, by decide⟩

theorem test_CanCommandsComplete_8 : ∃ (_path : Path) (c : Nat) (s : State),
    canIs c ∧ s.deaf = false :=
  ⟨.pf0, 0, State.reset,
    by decide, by decide⟩

theorem test_CanCommandsComplete_9 : ∃ (_path : Path) (c : Nat) (_w : Word) (s : State),
    canIs c ∧ s.deaf = false ∧ s.reg (Reg.CAN_TXPEND_TXB c) = 0 ∧ s.reg (Reg.CAN_MWIN_ADDR_ADDR c) / 4 * 4 < canRamSize :=
  ⟨.pf0, 0, 5, State.reset,
    by decide, by decide, by decide, by decide⟩

theorem test_CanCommandsComplete_10 : ∃ (c : Nat) (_w : Word) (s : State),
    canIs c ∧ s.deaf = false :=
  ⟨0, 1, State.reset,
    by decide, by decide⟩

theorem test_CanCommandsComplete_11 : ∃ (c : Nat) (_w : Word) (_sof : Option Nat) (s : State),
    canIs c ∧ s.deaf = false ∧ s.canOn c :=
  ⟨0, 1, none, State.reset.setFields [(Reg.PWR_STAT_STATE, 1), (Reg.CAN_CTRL_INIT 0, 0), (Reg.CAN_STAT_SYNC 0, 1)],
    by decide, by decide, by decide⟩

theorem test_CanCommandsComplete_12 : ∃ (c : Nat) (s : State),
    canIs c ∧ s.canPowered ∧ s.runOrTrim ∧ s.flag (Reg.CAN_REF_CFG_EN c) ∧ (s.flag (Reg.CAN_CTRL_INIT c)) = false ∧ s.phase = 0 ∧ s.turn % max 1 (s.reg (Reg.CAN_REF_CFG_PER c)) = 0 ∧ (s.canCtl c).refTurn ≠ s.turn + 1 :=
  ⟨0, { State.reset.setFields [(Reg.PWR_STAT_STATE, 1), (Reg.CAN_CTRL_INIT 0, 0), (Reg.CAN_REF_CFG_EN 0, 1)] with sys := { SysState.initial with strike := 0 } },
    by decide, by decide, by decide, by decide, by decide, by decide, by decide, by decide⟩

theorem test_CanCommandsComplete_13 : ∃ (c : Nat) (a : Nat) (s : State),
    (s.canCtl c).refPend = some a ∧ canIs c ∧ (s.canCtl c).tx.any (fun x => x.1 == 0) = false ∧ s.reg (Reg.CAN_REF_CFG_PER c) * 16 ≤ s.since (a * 32) :=
  ⟨0, 0, { State.reset with sys := { SysState.initial with strike := 3200000 }, can := { CanState.initial with ctl := [(0, { CanCtl.initial with refPend := some 0 })] } },
    by decide, by decide, by decide, by decide⟩

theorem test_CanCommandsComplete_14 : ∃ (c : Nat) (s : State),
    canIs c ∧ s.canPowered ∧ s.runOrTrim ∧ s.flag (Reg.CAN_DISC_CFG_EN c) ∧ s.flag (Reg.CAN_CTRL_INIT c) = false ∧ (s.canCtl c).roundAt = 0 :=
  ⟨0, State.reset.setFields [(Reg.PWR_STAT_STATE, 1), (Reg.CAN_CTRL_INIT 0, 0), (Reg.CAN_STAT_SYNC 0, 1), (Reg.CAN_DISC_CFG_EN 0, 1)],
    by decide, by decide, by decide, by decide, by decide, by decide⟩

theorem test_CanCommandsComplete_15 : ∃ (c : Nat) (sof : Option Nat) (_loop : Nat) (k a : Nat) (s : State),
    s.canOn c ∧ ((s.canBegin c sof).canCtl c).tx = some (k, a) ∧ k < 3 :=
  ⟨0, none, 0, 0, 0, { State.reset.setFields [(Reg.PWR_STAT_STATE, 1), (Reg.CAN_CTRL_INIT 0, 0), (Reg.CAN_STAT_SYNC 0, 1)] with can := { CanState.initial with ctl := [(0, { CanCtl.initial with tx := some (0, 0) })] } },
    by decide, by decide, by decide⟩

theorem test_CanCommandsComplete_16 : ∃ (c : Nat) (sof : Option Nat) (k a : Nat) (s : State),
    s.canOn c ∧ ((s.canBegin c sof).canCtl c).tx = some (k, a) :=
  ⟨0, none, 0, 0, { State.reset.setFields [(Reg.PWR_STAT_STATE, 1), (Reg.CAN_CTRL_INIT 0, 0), (Reg.CAN_STAT_SYNC 0, 1)] with can := { CanState.initial with ctl := [(0, { CanCtl.initial with tx := some (0, 0) })] } },
    by decide, by decide⟩

theorem test_CanCommandsComplete_17 : ∃ (c : Nat) (sof : Option Nat) (_more : Bool) (k a : Nat) (s : State),
    s.canOn c ∧ ((s.canBegin c sof).canCtl c).tx = some (k, a) :=
  ⟨0, none, false, 0, 0, { State.reset.setFields [(Reg.PWR_STAT_STATE, 1), (Reg.CAN_CTRL_INIT 0, 0), (Reg.CAN_STAT_SYNC 0, 1)] with can := { CanState.initial with ctl := [(0, { CanCtl.initial with tx := some (0, 0) })] } },
    by decide, by decide⟩

theorem test_CanCommandsComplete_18 : ∃ (c : Nat) (sof : Option Nat) (_more : Bool) (s : State),
    s.canOn c ∧ ((s.canBegin c sof).canCtl c).tx = none :=
  ⟨0, none, false, State.reset.setFields [(Reg.PWR_STAT_STATE, 1), (Reg.CAN_CTRL_INIT 0, 0), (Reg.CAN_STAT_SYNC 0, 1)],
    by decide, by decide⟩

theorem test_CanCommandsComplete_19 : ∃ (c : Nat) (s : State),
    s.canOn c ∧ 255 < (s.canCtl c).tec :=
  ⟨0, { State.reset.setFields [(Reg.PWR_STAT_STATE, 1), (Reg.CAN_CTRL_INIT 0, 0), (Reg.CAN_STAT_SYNC 0, 1)] with can := { CanState.initial with ctl := [(0, { CanCtl.initial with tec := 256 })] } },
    by decide, by decide⟩

theorem test_CanCommandsComplete_20 : ∃ (c : Nat) (s : State),
    canIs c ∧ s.canPowered ∧ s.flag (Reg.CAN_CTRL_INIT c) = false ∧ s.reg (Reg.CAN_STAT_ESTATE c) = 2 ∧ (s.flag (Reg.CAN_CTRL_AREC c) ∨ (s.canCtl c).rejoin) :=
  ⟨0, State.reset.setFields [(Reg.PWR_STAT_STATE, 1), (Reg.CAN_CTRL_INIT 0, 0), (Reg.CAN_STAT_SYNC 0, 1), (Reg.CAN_STAT_ESTATE 0, 2), (Reg.CAN_CTRL_AREC 0, 1)],
    by decide, by decide, by decide, by decide, by decide⟩

theorem test_CanCommandsComplete_21 : ∃ (c : Nat) (s : State),
    s.canOn c ∧ s.canTop c < 4 :=
  ⟨0, State.reset.setFields [(Reg.PWR_STAT_STATE, 1), (Reg.CAN_CTRL_INIT 0, 0), (Reg.CAN_STAT_SYNC 0, 1)],
    by decide, by decide⟩

theorem test_TandemCommandsComplete_0 : ∃ (_bytes : List Nat) (s : State),
    s.roleStandby ∧ s.paired ∧ s.millrace ∧ s.deaf = false :=
  ⟨[], State.reset.setFields [(Reg.TDM_STAT_ROLE, 2), (Reg.TDM_STAT_PAIRED, 1), (Reg.TDM_STAT_LINK, 1), (Reg.TDM_STAT_READY, 1)],
    by decide, by decide, by decide, by decide⟩

theorem test_TandemCommandsComplete_1 : ∃ (_bytes : List Nat) (whole : Bool) (s : State),
    s.roleStandby ∧ s.paired ∧ s.millrace ∧ s.deaf = false ∧ whole = false ∧ s.flag Reg.TDM_STAT_READY :=
  ⟨[], false, State.reset.setFields [(Reg.TDM_STAT_ROLE, 2), (Reg.TDM_STAT_PAIRED, 1), (Reg.TDM_STAT_LINK, 1), (Reg.TDM_STAT_READY, 1)],
    by decide, by decide, by decide, by decide, by decide, by decide⟩

theorem test_TandemCommandsComplete_2 : ∃ (s : State),
    s.tandem ∧ s.roleStandby ∧ s.tdm.decided ∧ 4 < s.reg Reg.TDM_STAT_AGE :=
  ⟨{ State.reset.setFields [(Reg.TDM_CFG_TANDEM, 1), (Reg.TDM_STAT_ROLE, 2), (Reg.TDM_STAT_AGE, 5)] with tdm := { TdmState.initial with decided := true } },
    by decide, by decide, by decide, by decide⟩

theorem test_TandemCommandsComplete_3 : ∃ (s : State),
    s.tdm.retry = none ∧ s.tdm.claim = false ∧ s.mayClaim ∧ s.loopIsFree ∧ s.deaf = false ∧ s.inRun ∧ s.tdm.want ≠ .none :=
  ⟨{ State.reset.setFields [(Reg.PWR_STAT_STATE, 1), (Reg.TDM_STAT_LOOP, loopFree)] with tdm := { TdmState.initial with want := .start } },
    by decide, by decide, by decide, by decide, by decide, by decide, by decide⟩

theorem test_TandemCommandsComplete_4 : ∃ (a : Nat) (s : State),
    s.tdm.retry = some a ∧ s.atStrike0 ∧ a ≤ s.turn + 1 ∧ s.inRun ∧ s.mayClaim ∧ s.loopIsFree :=
  ⟨0, { State.reset.setFields [(Reg.PWR_STAT_STATE, 1), (Reg.TDM_STAT_LOOP, loopFree)] with sys := { SysState.initial with strike := 31 }, tdm := { TdmState.initial with retry := some 0 } },
    by decide, by decide, by decide, by decide, by decide, by decide⟩

theorem test_TandemCommandsComplete_5 : ∃ (s : State),
    s.tdm.claim ∧ s.claimLost :=
  ⟨{ State.reset with thm := { ThmState.initial with latch := true }, tdm := { TdmState.initial with claim := true } },
    by decide, by decide⟩

theorem test_TandemCommandsComplete_6 : ∃ (s : State),
    s.token ∧ s.handover ∧ s.phase = 31 ∧ s.tdm.finalAt = some s.turn ∧ s.flag Reg.TDM_STAT_PREADY :=
  ⟨{ State.reset.setFields [(Reg.TDM_STAT_TOKEN, 1), (Reg.TDM_STAT_HO, 1), (Reg.TDM_STAT_PREADY, 1)] with sys := { SysState.initial with strike := 31 }, tdm := { TdmState.initial with finalAt := some 0 } },
    by decide, by decide, by decide, by decide, by decide⟩

theorem test_TandemCommandsComplete_7 : ∃ (_pref : Bool) (s : State),
    s.inRun ∧ s.tdm.decided = false ∧ s.tandem = false :=
  ⟨false, State.reset.setFields [(Reg.PWR_STAT_STATE, 1)],
    by decide, by decide, by decide⟩

theorem test_TandemCommandsComplete_8 : ∃ (s : State),
    s.inRun ∧ s.tandem ∧ s.roleStandby ∧ s.tdm.decided ∧ s.tdm.claim = false ∧ s.mayClaim ∧ s.atStrike0 ∧ 32 ≤ s.tdm.freeRun ∧ s.tdm.want = .none ∧ s.handover = false :=
  ⟨{ State.reset.setFields [(Reg.PWR_STAT_STATE, 1), (Reg.TDM_CFG_TANDEM, 1), (Reg.TDM_STAT_ROLE, 2)] with sys := { SysState.initial with strike := 31 }, tdm := { TdmState.initial with decided := true, freeRun := 32 } },
    by decide, by decide, by decide, by decide, by decide, by decide, by decide, by decide, by decide, by decide⟩

theorem test_TandemCommandsComplete_9 : ∃ (s : State),
    32 < s.tdm.bandRun :=
  ⟨{ State.reset with tdm := { TdmState.initial with bandRun := 33 } },
    by decide⟩

theorem test_TandemCommandsComplete_10 : ∃ (s : State),
    2 ≤ s.tdm.disRun :=
  ⟨{ State.reset with tdm := { TdmState.initial with disRun := 2 } },
    by decide⟩

theorem test_TandemCommandsComplete_11 : ∃ (s : State),
    s.millrace ∧ 32 ≤ s.tdm.keepMiss :=
  ⟨{ State.reset.setFields [(Reg.TDM_STAT_LINK, 1)] with tdm := { TdmState.initial with keepMiss := 32 } },
    by decide, by decide⟩

theorem test_TandemCommandsComplete_12 : ∃ (k : KeepIn) (s : State),
    s.tandem ∧ s.flag Reg.PWR_DOM_MLR ∧ k.valid ∧ s.millrace = false ∧ s.tdm.keepGood + 1 < 32 ∧ bitAt k.flags 0 = s.partnerClaim :=
  ⟨aKeep, State.reset.setFields [(Reg.TDM_CFG_TANDEM, 1), (Reg.PWR_DOM_MLR, 1)],
    by decide, by decide, by decide, by decide, by decide, by decide⟩

theorem test_TandemCommandsComplete_13 : ∃ (s : State),
    s.roleActive ∧ s.elapsed s.tdm.notReadyAt secStrikes :=
  ⟨{ State.reset.setFields [(Reg.TDM_STAT_ROLE, 1)] with sys := { SysState.initial with strike := 32000 }, tdm := { TdmState.initial with notReadyAt := 1 } },
    by decide, by decide⟩

theorem test_TandemCommandsComplete_14 : ∃ (h : HelloIn) (s : State),
    s.tandem ∧ s.millrace ∧ s.deaf = false ∧ h.proof = none :=
  ⟨aHello, State.reset.setFields [(Reg.TDM_CFG_TANDEM, 1), (Reg.TDM_STAT_LINK, 1)],
    by decide, by decide, by decide, by decide⟩

theorem test_TandemCommandsComplete_15 : ∃ (path : Path) (w : Word) (s : State),
    s.powerPath path ∧ bitAt w.toNat 0 ∧ s.deaf = false ∧ s.roleActive :=
  ⟨.pf0, 1, State.reset.setFields [(Reg.TDM_STAT_ROLE, 1)],
    by decide, by decide, by decide, by decide⟩

theorem test_TandemCommandsComplete_16 : ∃ (s : State),
    s.handover ∧ s.tdm.hoAt + s.reg Reg.TDM_CFG_HO_MAX ≤ s.turn ∧ s.tdm.released = false :=
  ⟨State.reset.setFields [(Reg.TDM_STAT_HO, 1), (Reg.TDM_CFG_HO_MAX, 0)],
    by decide, by decide, by decide⟩

theorem test_TandemCommandsComplete_17 : ∃ (s : State),
    s.handover ∧ s.tdm.hoAt + s.reg Reg.TDM_CFG_HO_MAX ≤ s.turn ∧ s.tdm.released :=
  ⟨{ State.reset.setFields [(Reg.TDM_STAT_HO, 1), (Reg.TDM_CFG_HO_MAX, 0)] with tdm := { TdmState.initial with released := true } },
    by decide, by decide, by decide⟩

theorem test_ResetCommandsComplete_1 : ∃ (_ohms : Nat) (a : Nat) (s : State),
    s.power = pwStandstill ∧ s.sys.core = false ∧ s.pwr.wake = some a :=
  ⟨0, 6, { State.reset.setFields [(Reg.PWR_STAT_STATE, 5)] with sys := { SysState.initial with core := false }, pwr := { PwrState.initial with wake := some 6 } },
    by decide, by decide, by decide⟩

theorem test_ResetCommandsComplete_2 : ∃ (_ohms : Nat) (a : Nat) (s : State),
    s.thm.latch = false ∧ s.pwr.coldDue = some a :=
  ⟨0, 1, { State.reset with pwr := { PwrState.initial with coldDue := some 1 } },
    by decide, by decide⟩

theorem test_ResetCommandsComplete_3 : ∃ (_r : BootIn) (s : State),
    s.sys.core ∧ s.power = pwStart ∧ s.pwr.booted = false ∧ s.pwr.stopped = false :=
  ⟨aBoot, State.reset,
    by decide, by decide, by decide, by decide⟩

theorem test_ResetCommandsComplete_4 : ∃ (s : State),
    s.power = pwStart ∧ s.sys.core ∧ s.pwr.stopped = false ∧ s.atStrike0 ∧ s.runUnmet = none :=
  ⟨{ State.reset.setFields [(Reg.TIM_STAT_SET, 1), (Reg.MPD_STAT_READY, 1), (Reg.CUR_STAT_REL, 1)] with sys := { SysState.initial with strike := 31 }, pwr := { PwrState.initial with cfgOk := true } },
    by decide, by decide, by decide, by decide, by decide⟩

theorem test_ResetCommandsComplete_5 : ∃ (s : State),
    s.power = pwStart ∧ s.sys.core ∧ s.pwr.coldDue = none ∧ s.reg Reg.PWR_START_CNT < 3 :=
  ⟨State.reset,
    by decide, by decide, by decide, by decide⟩

theorem test_ResetCommandsComplete_6 : ∃ (s : State),
    s.power = pwStart ∧ s.sys.core ∧ s.pwr.coldDue = none ∧ 3 ≤ s.reg Reg.PWR_START_CNT :=
  ⟨State.reset.setFields [(Reg.PWR_START_CNT, 3)],
    by decide, by decide, by decide, by decide⟩

theorem test_ResetCommandsComplete_7 : ∃ (a : Nat) (s : State),
    s.pwr.warmDue = some a :=
  ⟨1, { State.reset with pwr := { PwrState.initial with warmDue := some 1 } },
    by decide⟩

theorem test_ResetCommandsComplete_8 : ∃ (_estOk : Bool) (s : State),
    s.flag Reg.PWR_STAT_WARM ∧ s.atStrike0 ∧ s.sys.core :=
  ⟨true, { State.reset.setFields [(Reg.PWR_STAT_WARM, 1)] with sys := { SysState.initial with strike := 31 } },
    by decide, by decide, by decide⟩

theorem test_ResetCommandsComplete_9 : ∃ (s : State),
    s.flag Reg.PWR_STAT_WARM ∧ s.pwr.warmLate ∧ 32000 ≤ s.since s.pwr.warmAt :=
  ⟨{ State.reset.setFields [(Reg.PWR_STAT_WARM, 1)] with sys := { SysState.initial with strike := 32000 }, pwr := { PwrState.initial with warmLate := true } },
    by decide, by decide, by decide⟩

theorem test_ResetCommandsComplete_10 : ∃ (_w : Word) (s : State),
    s.deaf = false :=
  ⟨1, State.reset,
    by decide⟩

theorem test_ResetCommandsComplete_11 : ∃ (k : Nat) (a : Nat) (s : State),
    s.pwr.brstAt.find? (fun e => e.1 == k) = some (k, a) ∧ k < 6 ∧ s.since a ≤ s.reg Reg.PWR_BRST_CFG_TMO * msStrikes :=
  ⟨0, 0, { State.reset with pwr := { PwrState.initial with brstAt := [(0, 0)] } },
    by decide, by decide, by decide⟩

theorem test_ResetCommandsComplete_12 : ∃ (k : Nat) (a : Nat) (s : State),
    s.pwr.brstAt.find? (fun e => e.1 == k) = some (k, a) ∧ k < 6 ∧ s.reg Reg.PWR_BRST_CFG_TMO * msStrikes ≤ s.since a :=
  ⟨0, 0, { State.reset.setFields [(Reg.PWR_BRST_CFG_TMO, 0)] with pwr := { PwrState.initial with brstAt := [(0, 0)] } },
    by decide, by decide, by decide⟩

theorem test_PowerCommandsComplete_0 : ∃ (path : Path) (w : Word) (s : State),
    bitsAt w.toNat 0 4 = 1 ∧ bitsAt w.toNat 16 16 = 0xA5C3 ∧ s.deaf = false ∧ s.powerPath path ∧ s.flag Reg.PWR_STAT_PF = false ∧ s.supRuns :=
  ⟨.pf0, 2781020161, State.reset.setFields [(Reg.TIM_STAT_SET, 1)],
    by decide, by decide, by decide, by decide, by decide, by decide⟩

theorem test_PowerCommandsComplete_1 : ∃ (path : Path) (w : Word) (s : State),
    bitsAt w.toNat 0 4 = 1 ∧ bitsAt w.toNat 16 16 = 0xA5C3 ∧ s.deaf = false ∧ s.powerPath path ∧ s.flag Reg.PWR_STAT_PF = false ∧ s.supRuns = false :=
  ⟨.pf0, 2781020161, State.reset.setFields [(Reg.TIM_STAT_SET, 0)],
    by decide, by decide, by decide, by decide, by decide, by decide⟩

theorem test_PowerCommandsComplete_2 : ∃ (path : Path) (w : Word) (s : State),
    bitsAt w.toNat 0 4 = 2 ∧ bitsAt w.toNat 16 16 = 0xA5C3 ∧ s.deaf = false ∧ s.powerPath path ∧ s.flag Reg.PWR_STAT_PF = false ∧ s.supRuns :=
  ⟨.pf0, 2781020162, State.reset.setFields [(Reg.TIM_STAT_SET, 1)],
    by decide, by decide, by decide, by decide, by decide, by decide⟩

theorem test_PowerCommandsComplete_3 : ∃ (path : Path) (w : Word) (s : State),
    bitsAt w.toNat 0 4 = 2 ∧ bitsAt w.toNat 16 16 = 0xA5C3 ∧ s.deaf = false ∧ s.powerPath path ∧ s.flag Reg.PWR_STAT_PF = false ∧ s.supRuns = false :=
  ⟨.pf0, 2781020162, State.reset.setFields [(Reg.TIM_STAT_SET, 0)],
    by decide, by decide, by decide, by decide, by decide, by decide⟩

theorem test_PowerCommandsComplete_4 : ∃ (path : Path) (w : Word) (s : State),
    bitsAt w.toNat 0 4 = 3 ∧ bitsAt w.toNat 16 16 = 0xA5C3 ∧ s.deaf = false ∧ s.powerPath path ∧ s.flag Reg.PWR_STAT_PF = false ∧ s.supRuns :=
  ⟨.pf0, 2781020163, State.reset.setFields [(Reg.TIM_STAT_SET, 1)],
    by decide, by decide, by decide, by decide, by decide, by decide⟩

theorem test_PowerCommandsComplete_5 : ∃ (path : Path) (w : Word) (s : State),
    bitsAt w.toNat 0 4 = 3 ∧ bitsAt w.toNat 16 16 = 0xA5C3 ∧ s.deaf = false ∧ s.powerPath path ∧ s.flag Reg.PWR_STAT_PF = false ∧ s.supRuns = false :=
  ⟨.pf0, 2781020163, State.reset.setFields [(Reg.TIM_STAT_SET, 0)],
    by decide, by decide, by decide, by decide, by decide, by decide⟩

theorem test_PowerCommandsComplete_6 : ∃ (path : Path) (w : Word) (s : State),
    bitsAt w.toNat 0 4 = 4 ∧ bitsAt w.toNat 16 16 = 0xA5C3 ∧ s.deaf = false ∧ s.powerPath path ∧ s.flag Reg.PWR_STAT_PF = false ∧ s.supRuns :=
  ⟨.pf0, 2781020164, State.reset.setFields [(Reg.TIM_STAT_SET, 1)],
    by decide, by decide, by decide, by decide, by decide, by decide⟩

theorem test_PowerCommandsComplete_7 : ∃ (path : Path) (w : Word) (s : State),
    bitsAt w.toNat 0 4 = 4 ∧ bitsAt w.toNat 16 16 = 0xA5C3 ∧ s.deaf = false ∧ s.powerPath path ∧ s.flag Reg.PWR_STAT_PF = false ∧ s.supRuns = false :=
  ⟨.pf0, 2781020164, State.reset.setFields [(Reg.TIM_STAT_SET, 0)],
    by decide, by decide, by decide, by decide, by decide, by decide⟩

theorem test_PowerCommandsComplete_8 : ∃ (path : Path) (w : Word) (s : State),
    bitsAt w.toNat 0 4 = 5 ∧ bitsAt w.toNat 16 16 = 0xA5C3 ∧ s.deaf = false ∧ s.powerPath path ∧ s.flag Reg.PWR_STAT_PF = false ∧ s.supRuns :=
  ⟨.pf0, 2781020165, State.reset.setFields [(Reg.TIM_STAT_SET, 1)],
    by decide, by decide, by decide, by decide, by decide, by decide⟩

theorem test_PowerCommandsComplete_9 : ∃ (path : Path) (w : Word) (s : State),
    bitsAt w.toNat 0 4 = 5 ∧ bitsAt w.toNat 16 16 = 0xA5C3 ∧ s.deaf = false ∧ s.powerPath path ∧ s.flag Reg.PWR_STAT_PF = false ∧ s.supRuns = false :=
  ⟨.pf0, 2781020165, State.reset.setFields [(Reg.TIM_STAT_SET, 0)],
    by decide, by decide, by decide, by decide, by decide, by decide⟩

theorem test_PowerCommandsComplete_10 : ∃ (path : Path) (w : Word) (s : State),
    bitsAt w.toNat 0 4 = 6 ∧ bitsAt w.toNat 16 16 = 0xA5C3 ∧ s.deaf = false ∧ s.powerPath path ∧ s.flag Reg.PWR_STAT_PF = false ∧ s.supRuns :=
  ⟨.pf0, 2781020166, State.reset.setFields [(Reg.TIM_STAT_SET, 1)],
    by decide, by decide, by decide, by decide, by decide, by decide⟩

theorem test_PowerCommandsComplete_11 : ∃ (path : Path) (w : Word) (s : State),
    bitsAt w.toNat 0 4 = 6 ∧ bitsAt w.toNat 16 16 = 0xA5C3 ∧ s.deaf = false ∧ s.powerPath path ∧ s.flag Reg.PWR_STAT_PF = false ∧ s.supRuns = false :=
  ⟨.pf0, 2781020166, State.reset.setFields [(Reg.TIM_STAT_SET, 0)],
    by decide, by decide, by decide, by decide, by decide, by decide⟩

theorem test_PowerCommandsComplete_12 : ∃ (_relays : Nat) (s : State),
    s.power = pwEntry ∧ s.opened ∧ s.auth.commit = none ∧ s.pwr.failAt = none ∧ s.sys.core :=
  ⟨0, State.reset.setFields [(Reg.PWR_STAT_STATE, 3)],
    by decide, by decide, by decide, by decide, by decide⟩

theorem test_PowerCommandsComplete_13 : ∃ (s : State),
    s.power = pwStandstill ∧ s.pwr.aonOff = false ∧ s.wakesBy false ∧ s.pwr.wake = none :=
  ⟨State.reset.setFields [(Reg.PWR_STAT_STATE, 5)],
    by decide, by decide, by decide, by decide⟩

theorem test_PowerCommandsComplete_14 : ∃ (s : State),
    s.power = pwStandstill ∧ s.pwr.aonOff = false ∧ s.wakesBy true ∧ s.pwr.wake = none ∧ s.flag Reg.PWR_STAT_KEY = false :=
  ⟨State.reset.setFields [(Reg.PWR_STAT_STATE, 5)],
    by decide, by decide, by decide, by decide, by decide⟩

theorem test_PowerCommandsComplete_15 : ∃ (low : Bool) (s : State),
    s.power = pwStandstill ∧ s.sys.core = false ∧ (low ∨ s.keeperOn = false) :=
  ⟨true, { State.reset.setFields [(Reg.PWR_STAT_STATE, 5)] with sys := { SysState.initial with core := false } },
    by decide, by decide, by decide⟩

theorem test_PowerCommandsComplete_16 : ∃ (s : State),
    s.sys.core ∧ s.flag Reg.PWR_STAT_PF = false ∧ s.pwr.failWaits = false ∧ s.flag Reg.PWR_STAT_WARM = false :=
  ⟨State.reset,
    by decide, by decide, by decide, by decide⟩

theorem test_PowerCommandsComplete_17 : ∃ (s : State),
    s.sys.core ∧ s.flag Reg.PWR_STAT_PF = false ∧ s.pwr.failWaits = false ∧ s.flag Reg.PWR_STAT_WARM :=
  ⟨State.reset.setFields [(Reg.PWR_STAT_WARM, 1)],
    by decide, by decide, by decide, by decide⟩

theorem test_PowerCommandsComplete_18 : ∃ (k : Nat) (s : State),
    (k = 1 ∨ k = 2 ∧ s.singleSupply = false) ∧ 320 ≤ s.pwr.auxLow.get 0 k ∧ s.flag Reg.PWR_STAT_PF = false :=
  ⟨1, { State.reset with pwr := { PwrState.initial with auxLow := [(1, 320)] } },
    by decide, by decide, by decide⟩

theorem test_PowerCommandsComplete_19 : ∃ (_tenths : Nat) (s : State),
    s.sys.core ∧ s.clockSet ∧ (s.pwr.huAt == 0 || s.elapsed s.pwr.huAt (86400 * secStrikes)) = true :=
  ⟨25, State.reset.setFields [(Reg.TIM_STAT_SET, 1)],
    by decide, by decide, by decide⟩

theorem test_PowerCommandsComplete_20 : ∃ (s : State),
    320 ≤ s.pwr.coilLow :=
  ⟨{ State.reset with pwr := { PwrState.initial with coilLow := 320 } },
    by decide⟩

theorem test_PowerCommandsComplete_21 : ∃ (d : Nat) (_bad : Bool) (s : State),
    d < 18 ∧ s.bankOn d :=
  ⟨0, true, State.reset.setFields [(Reg.PWR_DOM_BNK, 1)],
    by decide, by decide⟩

theorem test_PowerCommandsComplete_22 : ∃ (d : Nat) (_bad : Bool) (s : State),
    18 ≤ d ∧ d < 20 ∧ s.domainOn d :=
  ⟨18, true, State.reset.setFields [(Reg.PWR_DOM_CUR, 1)],
    by decide, by decide, by decide⟩

theorem test_PowerCommandsComplete_23 : ∃ (d : Nat) (s : State),
    20 ≤ d ∧ d < 26 ∧ s.domainOn d :=
  ⟨22, State.reset.setFields [(Reg.PWR_DOM_VEC, 1)],
    by decide, by decide, by decide⟩

theorem test_SecurityCommandsComplete_0 : ∃ (c : CmdRef) (i : FwImage) (s : State),
    s.sec.stage = some (c, i) ∧ s.sys.core :=
  ⟨aRef, FwImage.factory, { State.reset with sec := { SecState.initial with stage := some (aRef, FwImage.factory) } },
    by decide, by decide⟩

theorem test_SecurityCommandsComplete_1 : ∃ (l : LiveUpdate) (a : Nat) (s : State),
    s.sec.live = some l ∧ l.resetAt = some a ∧ secStrikes ≤ s.since a :=
  ⟨aLive, 0, { State.reset with sys := { SysState.initial with strike := 32000 }, sec := { SecState.initial with live := some aLive } },
    by decide, by decide, by decide⟩

theorem test_SecurityCommandsComplete_2 : ∃ (k : Nat) (l : LiveUpdate) (a n : Nat) (rest : List Nat) (s : State),
    s.sec.live = some l ∧ l.resetAt = some a ∧ l.cur = k ∧ s.since a ≤ secStrikes ∧ bitAt s.pwr.brstOff k = false ∧ l.todo = n :: rest :=
  ⟨0, aLive, 0, 1, [], { State.reset with sec := { SecState.initial with live := some aLive } },
    by decide, by decide, by decide, by decide, by decide, by decide⟩

theorem test_SecurityCommandsComplete_3 : ∃ (w : Word) (s : State),
    bitsAt w.toNat 0 3 = lcCommission ∧ bitsAt w.toNat 16 16 = 0x4C43 ∧ s.deaf = false ∧ s.sec.lc = lcBlank :=
  ⟨1279459329, State.reset,
    by decide, by decide, by decide, by decide⟩

theorem test_SecurityCommandsComplete_4 : ∃ (path : Path) (w : Word) (x : Session) (s : State),
    bitsAt w.toNat 0 3 = lcCommission ∧ bitsAt w.toNat 16 16 = 0x4C43 ∧ s.deaf = false ∧ s.powerPath path ∧ s.sec.lc ≠ lcBlank ∧ lcInSession s.sec.lc lcCommission ∧ s.sessionOf path = some x ∧ s.clogRoom x :=
  ⟨.pf0, 1279459329, aSession, { State.reset with auth := { AuthState.initial with session := some aSession }, sec := { SecState.initial with lc := 2 } },
    by decide, by decide, by decide, by decide, by decide, by decide, by decide, by decide⟩

theorem test_SecurityCommandsComplete_5 : ∃ (path : Path) (w : Word) (x : Session) (s : State),
    bitsAt w.toNat 0 3 = lcField ∧ bitsAt w.toNat 16 16 = 0x4C43 ∧ s.deaf = false ∧ s.powerPath path ∧ s.sec.lc ≠ lcBlank ∧ lcInSession s.sec.lc lcField ∧ s.sessionOf path = some x ∧ s.clogRoom x :=
  ⟨.pf0, 1279459330, aSession, { State.reset with auth := { AuthState.initial with session := some aSession }, sec := { SecState.initial with lc := 1 } },
    by decide, by decide, by decide, by decide, by decide, by decide, by decide, by decide⟩

theorem test_SecurityCommandsComplete_6 : ∃ (path : Path) (w : Word) (x : Session) (s : State),
    bitsAt w.toNat 0 3 = lcService ∧ bitsAt w.toNat 16 16 = 0x4C43 ∧ s.deaf = false ∧ s.powerPath path ∧ s.sec.lc ≠ lcBlank ∧ lcInSession s.sec.lc lcService ∧ s.sessionOf path = some x ∧ s.clogRoom x :=
  ⟨.pf0, 1279459331, aSession, { State.reset with auth := { AuthState.initial with session := some aSession }, sec := { SecState.initial with lc := 2 } },
    by decide, by decide, by decide, by decide, by decide, by decide, by decide, by decide⟩

theorem test_SecurityCommandsComplete_7 : ∃ (path : Path) (w : Word) (x : Session) (s : State),
    bitsAt w.toNat 0 3 = lcRetired ∧ bitsAt w.toNat 16 16 = 0x4C43 ∧ s.deaf = false ∧ s.powerPath path ∧ s.sec.lc ≠ lcBlank ∧ lcInSession s.sec.lc lcRetired ∧ s.sessionOf path = some x ∧ s.clogRoom x ∧ s.retireAgain path :=
  ⟨.pf0, 1279459332, aSession, { State.reset with auth := { AuthState.initial with session := some aSession }, sec := { SecState.initial with lc := 2, retire := some (0, .pf0) } },
    by decide, by decide, by decide, by decide, by decide, by decide, by decide, by decide, by decide⟩

theorem test_SecurityCommandsComplete_8 : ∃ (s : State),
    s.sec.lc = lcService ∧ s.clockSet ∧ s.sec.svcAt + s.svcStrikes ≤ s.now :=
  ⟨{ State.reset.setFields [(Reg.TIM_STAT_SET, 1), (Reg.SEC_LC_SVC_MAX, 0)] with sec := { SecState.initial with lc := lcService } },
    by decide, by decide, by decide⟩

theorem test_SecurityCommandsComplete_9 : ∃ (r : DebugIn) (s : State),
    s.sys.core ∧ s.power ≠ pwStandstill ∧ (r.level = dbgObserve ∨ r.level = dbgHalt) ∧ s.sec.lockOn = false :=
  ⟨aDebug, State.reset,
    by decide, by decide, by decide, by decide⟩

theorem test_SecurityCommandsComplete_10 : ∃ (s : State),
    s.sec.lockOn ∧ s.sec.lock = 0 :=
  ⟨{ State.reset with sec := { SecState.initial with lockOn := true } },
    by decide, by decide⟩

theorem test_SecurityCommandsComplete_11 : ∃ (path : Path) (w : Word) (s : State),
    bitAt w.toNat 0 ∧ s.deaf = false ∧ s.powerPath path :=
  ⟨.pf0, 1, State.reset,
    by decide, by decide, by decide⟩

theorem test_SecurityCommandsComplete_12 : ∃ (s : State),
    s.sys.core :=
  ⟨State.reset,
    by decide⟩

theorem test_SecurityCommandsComplete_13 : ∃ (proc _taken : Nat) (s : State),
    s.reg Reg.SEC_DBG_LEVEL = dbgHalt ∧ 1 ≤ proc ∧ proc < 6 ∧ s.sec.halted.contains proc = false :=
  ⟨1, 0, State.reset.setFields [(Reg.SEC_DBG_LEVEL, dbgHalt)],
    by decide, by decide, by decide, by decide⟩

theorem test_SecurityCommandsComplete_14 : ∃ (owner addr : Nat) (bytes : List Nat) (s : State),
    addr + bytes.length ≤ 4194304 ∧ s.sys.core ∧ s.reg Reg.SEC_DBG_LEVEL = dbgHalt ∧ (debugOwners 0 owner addr bytes.length).all (s.sec.halted.contains ·) :=
  ⟨0, 16, [1, 2], { State.reset.setFields [(Reg.SEC_DBG_LEVEL, dbgHalt)] with sec := { SecState.initial with halted := [0, 1, 2, 3, 4, 5] } },
    by decide, by decide, by decide, by decide⟩

theorem test_SecurityCommandsComplete_15 : ∃ (owner addr : Nat) (bytes : List Nat) (s : State),
    addr + bytes.length ≤ 20971520 ∧ s.sys.core ∧ s.reg Reg.SEC_DBG_LEVEL = dbgHalt ∧ (debugOwners 1 owner addr bytes.length).all (s.sec.halted.contains ·) :=
  ⟨1, 16, [1, 2], { State.reset.setFields [(Reg.SEC_DBG_LEVEL, dbgHalt)] with sec := { SecState.initial with halted := [0, 1, 2, 3, 4, 5] } },
    by decide, by decide, by decide, by decide⟩

theorem test_SecurityCommandsComplete_16 : ∃ (owner addr : Nat) (bytes : List Nat) (s : State),
    addr + bytes.length ≤ 34359738368 ∧ s.sys.core ∧ s.reg Reg.SEC_DBG_LEVEL = dbgHalt ∧ (debugOwners 2 owner addr bytes.length).all (s.sec.halted.contains ·) :=
  ⟨1, 16, [1, 2], { State.reset.setFields [(Reg.SEC_DBG_LEVEL, dbgHalt)] with sec := { SecState.initial with halted := [0, 1, 2, 3, 4, 5] } },
    by decide, by decide, by decide, by decide⟩

theorem test_SecurityCommandsComplete_17 : ∃ (owner addr : Nat) (bytes : List Nat) (s : State),
    addr + bytes.length ≤ 34359738368 ∧ s.sys.core ∧ s.reg Reg.SEC_DBG_LEVEL ≠ dbgShut ∧ (s.reg Reg.SEC_DBG_LEVEL ≠ dbgHalt ∨ (debugOwners 2 owner addr bytes.length).all (s.sec.halted.contains ·) = false) :=
  ⟨1, 16, [1, 2], State.reset.setFields [(Reg.SEC_DBG_LEVEL, dbgHalt)],
    by decide, by decide, by decide, by decide⟩

theorem test_SecurityCommandsComplete_18 : ∃ (group : Nat) (s : State),
    s.pairRuns ∧ group < 64 ∧ s.power = pwStart :=
  ⟨0, State.reset,
    by decide, by decide, by decide⟩

theorem test_SecurityCommandsComplete_19 : ∃ (s : State),
    s.pairRuns :=
  ⟨State.reset,
    by decide⟩

theorem test_SecurityCommandsComplete_20 : ∃ (init reg ofs : Nat) (s : State),
    1 ≤ init ∧ init ≤ 7 ∧ reg < 3 ∧ ofs < 2 ^ 29 ∧ s.sys.core :=
  ⟨1, 0, 5, State.reset,
    by decide, by decide, by decide, by decide, by decide⟩

theorem test_RegisterCommandsComplete_0 : ∃ (path : Path) (_off : Nat) (s : State),
    s.pathThere path :=
  ⟨.pf0, 0, State.reset,
    by decide⟩

theorem test_RegisterCommandsComplete_1 : ∃ (path : Path) (off : Nat) (_w : BitVec 64) (s : State),
    s.pathThere path ∧ s.deaf = false ∧ off % 4 = 0 :=
  ⟨.pf0, 4, 5, State.reset,
    by decide, by decide, by decide⟩

theorem test_RegisterCommandsComplete_2 : ∃ (path : Path) (off : Nat) (_w : BitVec 64) (s : State),
    s.pathThere path ∧ s.deaf = false ∧ off % 4 = 0 :=
  ⟨.pf0, 4, 5, State.reset,
    by decide, by decide, by decide⟩

theorem test_RegisterCommandsComplete_3 : ∃ (c : TlsIn) (role : Nat) (s : State),
    s.svcPort c.port ∧ c.params ∧ s.hif.conns.length < 4 ∧ s.sec.identity ∧ s.certRole c.cert = some role :=
  ⟨aTls, 2, State.reset.setFields [(Reg.PWR_DOM_NET, 1), (Reg.NET_PORT_EN 0, 1), (Reg.NET_PORT_LINK 0, 1), (Reg.NET_IP_ADDR 0, 1), (Reg.NET_SVC_EN, 1), (Reg.SEC_ANCHOR_HASH 0, 1)],
    by decide, by decide, by decide, by decide, by decide⟩

theorem test_RegisterCommandsComplete_4 : ∃ (conn : Nat) (msg : List Nat) (x : SvcConn) (s : State),
    s.svcConn? conn = some x ∧ s.appsRun ∧ msgOk msg 3 4 :=
  ⟨0, [3, 0, 0, 0, 4, 0, 0, 0, 0, 0, 0, 0], aConn, { State.reset with hif := { HostState.initial with conns := [(0, aConn)] } },
    by decide, by decide, by decide⟩

theorem test_RegisterCommandsComplete_5 : ∃ (conn : Nat) (msg : List Nat) (x : SvcConn) (s : State),
    s.svcConn? conn = some x ∧ s.appsRun ∧ msgOk msg 4 8 ∧ x.role = 2 ∧ svcWritable (leAt (msgBody msg) 0 4) ∧ leAt (msgBody msg) 0 4 % 4 = 0 :=
  ⟨0, [4, 0, 0, 0, 8, 0, 0, 0, 4, 16, 0, 0, 0, 0, 0, 0], aConn, { State.reset with hif := { HostState.initial with conns := [(0, aConn)] } },
    by decide, by decide, by decide, by decide, by decide, by decide⟩

theorem test_RegisterCommandsComplete_6 : ∃ (conn : Nat) (msg : List Nat) (x : SvcConn) (s : State),
    s.svcConn? conn = some x ∧ s.appsRun ∧ msgOk msg 1 (64 + inlineLen (msgBody msg)) :=
  ⟨0, [1, 0, 0, 0, 64, 0, 0, 0, 1] ++ List.replicate 63 0, aConn, { State.reset with hif := { HostState.initial with conns := [(0, aConn)] } },
    by decide, by decide, by decide⟩

theorem test_RegisterCommandsComplete_7 : ∃ (conn : Nat) (x : SvcConn) (s : State),
    s.svcConn? conn = some x ∧ 900 * secStrikes ≤ s.since x.lastAt :=
  ⟨0, aConn, { State.reset with sys := { SysState.initial with strike := 28800000 }, hif := { HostState.initial with conns := [(0, aConn)] } },
    by decide, by decide⟩

/-! ## States and operands that meet the hypotheses of the statements about every state -/

/-- A session is open, a host has a CMD ring with an entry, and the weld lockout is set. -/
def weldedState : State :=
  { State.reset.setFields [(Reg.PWR_STAT_STATE, 1), (Reg.HIF_LINK_GEN, 3), (Reg.TIM_STAT_SET, 1)] with
    auth := { AuthState.initial with session := some aSession }, hif := { hostRings with turnOff := false }
    slu := { SluState.initial with weldLock := true }, pending := [.weldClear (aCmd 0x53 [] none)] }
/-- A retired module with a command waiting. -/
def retiredState : State :=
  { State.reset with sec := { SecState.initial with lc := lcRetired }, pending := [.heartbeatMissing] }
/-- CAN-A may run and a debug grant halts processor 0; nothing is stored. -/
def haltState : State :=
  { State.reset.setFields [(Reg.SEC_DBG_LEVEL, dbgHalt)] with sec := { SecState.initial with halted := [0] } }
def someFault : State := { State.reset with flt := { FaultState.initial with active := [aFault] } }
/-- RUN with a configuration, a clock and a field lifecycle: no isolation condition holds. -/
def runState : State :=
  { State.reset.setFields [(Reg.PWR_STAT_STATE, 1), (Reg.CUR_STAT_REL, 1), (Reg.SEC_LC_STATE, 2)] with
    slu := { SluState.initial with cfg := true } }
def withClass (k : Nat) (s : State) : State :=
  { s with flt := { FaultState.initial with active := [{ aFault with cls := k }] } }
def demandInput (a b : Bool) : SafetyIn :=
  { SafetyIn.initial with
    demand := true, a := { Channel.initial with lat := a }, b := { Channel.initial with lat := b } }
def demandState (a b : Bool) : State :=
  { State.reset with sio := { SioState.initial with inputs := [(0, demandInput a b)] } }

theorem test_EmptyQueueIdles : ∃ s : State, s.pending = [] := ⟨State.reset, by decide⟩
theorem test_QueueRunsInOrder : ∃ (s : State) (k : Nat), k ≤ s.pending.length ∧ k = 1 :=
  ⟨retiredState, 1, by decide, rfl⟩
theorem test_StepKeepsMemoriesCanonical : ∃ s t : State, s.memoriesWf = true ∧ step s = .next t ∧ s.pending ≠ [] :=
  ⟨retiredState, _, by decide, rfl, by decide⟩
theorem test_StepKeepsRetirementSettled : ∃ s t : State, (s.sec.lc = lcRetired → s.sec.lcNext = none) ∧
    step s = .next t ∧ t.sec.lc = lcRetired :=
  ⟨retiredState, _, by decide, rfl, by decide⟩
theorem test_RetiredIsFinal : ∃ s t : State, (s.sec.lc = lcRetired → s.sec.lcNext = none) ∧ step s = .next t ∧
    s.sec.lc = lcRetired :=
  ⟨retiredState, _, by decide, rfl, by decide⟩
theorem test_WeldLockoutIsKept : ∃ s t : State, s.slu.weldLock = true ∧ step s = .next t ∧ t.slu.weldLock = false :=
  ⟨weldedState, _, by decide, rfl, by decide⟩
theorem test_frames : ∃ (c : Instr) (s t : State), exec c s = .next t := ⟨.heartbeatMissing, State.reset, _, rfl⟩
theorem test_DebugWriteStoresItsBytes_low : ∃ (mem owner addr : Nat) (bytes : List Nat) (s t : State),
    s.memoriesWf = true ∧ exec (.debugMemoryWrite mem owner addr bytes) s = .next t ∧ mem < 3 ∧
    addr + bytes.length ≤ (if mem = 0 then 4194304 else if mem = 1 then 20971520 else 34359738368) ∧ s.sys.core = true ∧
    s.reg Reg.SEC_DBG_LEVEL = dbgHalt ∧ (debugOwners mem owner addr bytes.length).all (s.sec.halted.contains ·) = true ∧ 0 < bytes.length :=
  ⟨0, 0, 4194303, [7], haltState, _, by decide, rfl, by decide, by decide, by decide, by decide, by decide, by decide⟩
theorem test_DebugWriteStoresItsBytes_high : ∃ (mem owner addr : Nat) (bytes : List Nat) (s t : State),
    s.memoriesWf = true ∧ exec (.debugMemoryWrite mem owner addr bytes) s = .next t ∧ mem < 3 ∧
    addr + bytes.length ≤ (if mem = 0 then 4194304 else if mem = 1 then 20971520 else 34359738368) ∧ s.sys.core = true ∧
    s.reg Reg.SEC_DBG_LEVEL = dbgHalt ∧ (debugOwners mem owner addr bytes.length).all (s.sec.halted.contains ·) = true ∧ 0 < bytes.length :=
  ⟨2, 0, 34359738366, [7, 8], haltState, _, by decide, rfl, by decide, by decide, by decide, by decide, by decide, by decide⟩
theorem test_CanWindowStoresOneWord : ∃ (p : Path) (c : Nat) (w : Word) (s t : State), s.memoriesWf = true ∧
    exec (.canMwinAccess p c (some w)) s = .next t ∧ c = 2 :=
  ⟨.pf0, 2, 5, State.reset, _, by decide, rfl, rfl⟩
theorem test_StoredValuesReadBack : ∃ s : State, s.memoriesWf = true := ⟨State.reset, by decide⟩
theorem test_RaiseAndGoverningClass : ∃ (cls : Nat) (s : State) (f : Active), cls ≠ 0 ∧ f ∈ s.flt.active :=
  ⟨4, someFault, aFault, by decide, by decide⟩
theorem test_RaiseFrame : ∃ f : Field,
    f.key ∉ [Reg.EVL_LOST_COUNT.key, Reg.EVL_LOST_CODE.key, Reg.EVL_LOST_STRK_LO_STRK.key, Reg.EVL_LOST_STRK_HI_STRK.key,
      Reg.SLU_STAT_CONN.key, Reg.SLU_STAT_EMER.key, Reg.SLU_STAT_BRK.key, Reg.GOV_SPT_STAT_INH.key,
      Reg.TDM_STAT_HO.key, Reg.TDM_LAST_ABAND.key] := ⟨Reg.BAL_CTRL_MODE, by decide⟩
theorem test_NoteIsARecordOnly : ∃ (f : Field) (s t : State), t = s.note 0x0110 subjNone [] ∧
    f.key ∉ [Reg.EVL_LOST_COUNT.key, Reg.EVL_LOST_CODE.key, Reg.EVL_LOST_STRK_LO_STRK.key,
      Reg.EVL_LOST_STRK_HI_STRK.key] := ⟨Reg.BAL_CTRL_MODE, State.reset, _, rfl, by decide⟩
theorem test_FullQueueLosesTheRecord : ∃ (r : EvRec) (s t : State), r.foldable = false ∧ 1024 ≤ s.evl.queue.length ∧
    t = s.record r ∧ s.reg Reg.EVL_LOST_COUNT = 0 :=
  ⟨{ anEvRec with cls := 3 }, { State.reset with evl := { EvlState.initial with queue := List.replicate 1024 anEvRec } }, _,
    by decide, Nat.le_of_eq List.length_replicate.symm, rfl, by decide⟩
theorem test_ModeTakesFirstCase_breaker : ∃ s : State, s.govClass = 4 := ⟨withClass 4 runState, by decide⟩
theorem test_ModeTakesFirstCase_tripped : ∃ s : State, s.govClass = 3 := ⟨withClass 3 runState, by decide⟩
theorem test_ModeTakesFirstCase_isolated : ∃ s : State, s.govClass ≠ 4 ∧ s.govClass ≠ 3 ∧ s.slu.cfg = false :=
  ⟨State.reset, by decide, by decide, by decide⟩
theorem test_ModeTakesFirstCase_clear : ∃ s : State, s.govClass = 2 ∧
    ¬ (s.slu.cfg = false ∨ s.power ≠ pwRun ∨ (∃ e ∈ s.bnk, e.2.en = true ∧ (e.2.step ≠ .released ∨ e.2.survey = true)) ∨
      s.flag Reg.CUR_STAT_REL = false ∨ s.slu.weldLock = true ∨ s.reg Reg.SEC_LC_STATE = 0 ∨ s.reg Reg.SEC_LC_STATE = 4 ∨
      (∃ e ∈ s.sio.inputs, e.2.iso = true) ∨ (∃ e ∈ s.sio.conns, e.2.isol = true ∨ e.2.toutIso = true)) :=
  ⟨withClass 2 runState, by decide, by decide⟩
theorem test_TurnAndStrikeNumbers : ∃ (s : State) (k : Nat), s.now = k * secStrikes ∧ k = 3 :=
  ⟨{ State.reset with sys := { SysState.initial with strike := 96000 } }, 3, by decide, rfl⟩
theorem test_FilteredInputReporting_normal : linear false 5400000 = 5400000 ∧ linear false 5400001 = 5400000 ∧
    linear false (-600000) = -600000 ∧ linear false (-600001) = -600000 ∧ overrange false 5200000 = false ∧
    overrange false 5200001 = true ∧ overrange false (-500000) = false ∧ overrange false (-500001) = true := by decide
theorem test_FilteredInputReporting_survey : linear true 8000000 = 8000000 ∧ linear true 8000001 = 8000000 ∧
    linear true (-8000001) = -8000000 ∧ overrange true 8000000 = false ∧ overrange true 8000001 = true := by decide
/-- The example of R50: +5.30 V and +6.1 V in NORMAL range. -/
theorem test_overrange_example : linear false 5300000 = 5300000 ∧ overrange false 5300000 = true ∧
    linear false 6100000 = 5400000 ∧ overrange false 6100000 = true := by decide
theorem test_SampleWordLayout : wValue (sampleWord (-8388608) true false true false 31) = -8388608 ∧
    wValue (sampleWord 8388607 false true false true 16) = 8388607 ∧ sampleWord (-1) false false false true 17 = 0xFFFFFF11 := by
  decide
theorem test_DemandNeedsOneChannel_enter : ∃ (n : Nat) (s : State) (a b : Bool), a = demandA (s.si n).a.lat ∧
    b = demandB (s.siWire n) (s.si n).b.lat ∧ (a = true ∨ b = true) :=
  ⟨0, demandState false false, _, _, rfl, rfl, by decide⟩
theorem test_DemandNeedsOneChannel_leave : ∃ (n : Nat) (s : State) (a b : Bool), a = demandA (s.si n).a.lat ∧
    b = demandB (s.siWire n) (s.si n).b.lat ∧ a = false ∧ b = false ∧ (s.si n).demand = true ∧
    ((State.siChannels n s).si n).demand = false :=
  ⟨0, demandState true true, _, _, rfl, rfl, by decide, by decide, by decide, by decide⟩
theorem test_LatchesOfPathsAreSeparate : ∃ (p q : Path) (off a : Nat) (s t : State),
    exec (.loReadLatch p off) s = .next t ∧ p.num ≠ q.num ∧ a < 0x500000 ∧ a = 0x4FFFFF :=
  ⟨.pf0, .vf 1, 0x10, 0x4FFFFF, State.reset, _, rfl, by decide, by decide, rfl⟩
theorem test_LatchesOfPathsAreSeparate_read : ∃ s : State, s.pathThere .pf0 = true := ⟨State.reset, by decide⟩
theorem test_WarmResetDiscardsWrites : ∃ s : State, s.flag Reg.PWR_STAT_WARM = true :=
  ⟨State.reset.setFields [(Reg.PWR_STAT_WARM, 1)], by decide⟩
theorem test_CommandChecksAnswer_priv : ∃ (k : CmdSpec) (x : CmdCtx) (s : State), s.admits k x = false :=
  ⟨cmdWeldClear, { ref := { aRef with fn := 3 }, entry := [], data := none }, State.reset, by decide⟩
theorem test_CommandChecksAnswer_state : ∃ (k : CmdSpec) (x : CmdCtx) (s : State), s.admits k x = true ∧
    (k.states x).contains s.power = false :=
  ⟨cmdWeldClear, { ref := aRef, entry := [], data := none }, State.reset, by decide, by decide⟩

/-! ## Examples and check values of the manual -/

/-- R10: global position 453 is local position 5 of bank 7. -/
theorem test_global_position : globalPos 7 5 = 453 := by decide
/-- R59: the CRC-32 of the nine characters 1 to 9. -/
theorem test_crc32_check : crc32 [0x31, 0x32, 0x33, 0x34, 0x35, 0x36, 0x37, 0x38, 0x39] = 0xCBF43926 := by decide +kernel
/-- A byte written to the Millpond changes the sample word that holds it (R343). -/
theorem test_poke_word : ((aRec.poke 5 0xAB).word 1, (aRec.poke 5 0xAB).word 0) = (0xAB10, aRec.word 0) := by decide
/-- The bytes of a turn record give it back, and another turn number leaves no word of it (R343, R352). -/
def aTurnRec : TurnRec :=
  { turn := 2, captured := true, chkLast := List.replicate 18 5, temps := [(3, 77), (580, 9)], acc0 := 0, frac0 := 0
    banks := [], unfit := [], ts := [], cert := [], block := [] }
theorem test_turn_bytes : aTurnRec.ofBytes aTurnRec.bytes = aTurnRec ∧
    (aTurnRec.ofBytes (aTurnRec.bytes.set 0 3)).temps = [] := by decide +kernel
/-- R21: a second is 32 000 strikes of 31 250 ns. -/
theorem test_second : secStrikes * 31250 = 1000000000 := by decide
/-- A step of a queue of one command leaves an empty queue. -/
theorem test_step_takes_front : ∃ t, step retiredState = .next t ∧ t.pending = [] := ⟨_, rfl, by decide⟩

/-! ## Ill-formed commands are refused -/

def goodFrame : CanFrame := { aCan with data := [1] }
def goodBank : BankIn := BankIn.absent 0
theorem test_wf_good : (Instr.strike aStrike).wf = true ∧ (Instr.nopCmd (aCmd 1 [] none)).wf = true ∧
    (Instr.canFrameReceive 0 goodFrame).wf = true := by decide
theorem test_wf_bank : (Instr.keepaliveTimeout 18).wf = false := by decide
theorem test_wf_lane : (Instr.bankDiscovery 19).wf = false ∧ (Instr.bankDiscovery 18).wf = true := by decide
theorem test_wf_local : (Instr.normalRangeCheck 0 64).wf = false := by decide
theorem test_wf_pos : (Instr.platingBumpEnd 1152).wf = false := by decide
theorem test_wf_branch : (Instr.branchLost 0 4).wf = false := by decide
theorem test_wf_coil : (Instr.coilCircuitFault 3).wf = false := by decide
theorem test_wf_pair : (Instr.resyncComplete 2).wf = false := by decide
theorem test_wf_eight : (Instr.isoHoldEnd 8).wf = false := by decide
theorem test_wf_slot : (Instr.tableBuildComplete 8).wf = false := by decide
theorem test_wf_fn : (Instr.holdTimeout 256).wf = false := by decide
theorem test_wf_vf : (Instr.privWrite .pf0 0 0).wf = false := by decide
theorem test_wf_ring : (Instr.entryWrite 0 1024).wf = false := by decide
theorem test_wf_can : (Instr.canBusOff 3).wf = false := by decide
theorem test_wf_block : (Instr.blockIdle 6).wf = false := by decide
theorem test_wf_bytes : (Instr.imageReceive [256] false).wf = false := by decide
theorem test_wf_data : (Instr.cellTableReadDone (some [256])).wf = false := by decide
theorem test_wf_code : (Instr.hwTestMet 65536 0).wf = false := by decide
theorem test_wf_offset : (Instr.govWrite .pf0 4294967296 0).wf = false := by decide
theorem test_wf_path : (Instr.curCtrlWrite (.vf 0) 0).wf = false := by decide
theorem test_wf_entry : (Instr.nopCmd { aCmd 1 [] none with entry := [] }).wf = false := by decide
theorem test_wf_ecc : (Instr.sup { noEcc with bad := [(0, [1152])] }).wf = false := by decide
theorem test_wf_frame : (Instr.strike { aStrike with banks := [{ goodBank with pres := 16 }] }).wf = false := by decide
theorem test_wf_strike : (Instr.strike { aStrike with banks := [goodBank, goodBank] }).wf = false := by decide
theorem test_wf_canFrame : (Instr.canFrameReceive 0 { goodFrame with fmt := 5 }).wf = false := by decide
theorem test_wf_task : (Instr.deadlineMiss 13 0).wf = false := by decide
theorem test_wf_slots : (Instr.chk { last := false, badSlots := [8], groupOk := true }).wf = false := by decide
theorem test_wf_wear : (Instr.chunkCommit 0 101).wf = false := by decide
theorem test_wf_link : (Instr.linkUp 5 1).wf = false ∧ (Instr.linkUp 1 3).wf = false := by decide
theorem test_wf_domain : (Instr.domainSupplyFault 26 true).wf = false := by decide

end Sys2Proof.Machine
end

section
/-! Scope of the state: what reset holds, what reads back after a store, what an event, a fault and a quiet command
leave. -/
namespace Sys2Proof.Machine

/-! ## Memories -/

/-- A memory reads as the bytes written to it, every other memory as before. -/
theorem memory_writeMem (s : State) (k a j : Nat) (l : List Nat) :
    (s.writeMem k a l).memory j = if k = j then (s.memory k).writeBytes a l else s.memory j :=
  Tab.get_put _ _ _ _ _

/-! ## The event log's records -/

/-- The register fields that a lost record may change (R448). -/
def lostKeys : List Nat :=
  [Reg.EVL_LOST_COUNT.key, Reg.EVL_LOST_CODE.key, Reg.EVL_LOST_STRK_LO_STRK.key, Reg.EVL_LOST_STRK_HI_STRK.key]

section
variable {f : Field} (hf : f.key ∉ lostKeys)
include hf

theorem reg_setReg_lost {g : Field} (hg : g.key ∈ lostKeys) (s : State) (v : Nat) : (s.setReg g v).reg f = s.reg f :=
  reg_setReg_other s g f v fun e => hf (e ▸ hg)

theorem loseRecord_reg (s : State) (r : EvRec) : (s.loseRecord r).reg f = s.reg f := by
  unfold State.loseRecord State.addSat
  extract_lets s1
  have hs1 : s1.reg f = s.reg f := by
    unfold s1
    split
    · rw [reg_setReg_lost hf (by decide), reg_setReg_lost hf (by decide), reg_setReg_lost hf (by decide)]
    · rfl
  rw [reg_setReg_lost hf (by decide), hs1]

theorem enqueue_reg (s : State) (r : EvRec) : (s.enqueue r).reg f = s.reg f := by
  unfold State.enqueue
  split
  · rfl
  · exact loseRecord_reg hf s r

/-- A record that joins or opens a fold, or finds room in the queue, writes no register. -/
theorem record_reg (s : State) (r : EvRec) : (s.record r).reg f = s.reg f := by
  unfold State.record
  split
  · split
    · rfl
    · split
      · rfl
      · exact enqueue_reg hf s r
  · exact enqueue_reg hf s r

end

/-- A change that may touch only registers and the event log leaves the rest of the state as a whole. -/
theorem Frame.only_regs_evl {s t : State} (h : Frame 0x00000084 s t) : { t with evl := s.evl, regs := s.regs } = s := by
  rw [State.mk.injEq]
  exact ⟨h.pending, h.free rfl, rfl, h.latch rfl, h.readData rfl, h.sys rfl, h.flt rfl, rfl, h.bnk rfl, h.chk rfl,
    h.cur rfl, h.imd rfl, h.thm rfl, h.slu rfl, h.sio rfl, h.auth rfl, h.est rfl, h.mdl rfl, h.bal rfl, h.gov rfl,
    h.env rfl, h.mpd rfl, h.tdm rfl, h.hif rfl, h.hop rfl, h.net rfl, h.tim rfl, h.can rfl, h.ram rfl, h.pwr rfl,
    h.sec rfl⟩

/-! ## The governing class -/

/-- The governing class is the greatest of 0 and the classes of the faults in effect (R20). -/
theorem max_classes (s : State) : (0 :: s.flt.active.map Active.cls).max? = some s.govClass := by
  rw [List.max?_cons', List.foldl_map]
  rfl

theorem cls_le_govClass {s : State} {f : Active} (hf : f ∈ s.flt.active) : f.cls ≤ s.govClass :=
  (List.max?_eq_some_iff.1 (max_classes s)).2 _ (List.mem_cons_of_mem _ (List.mem_map_of_mem hf))

theorem govClass_attained {s : State} (h : s.flt.active ≠ []) : ∃ f ∈ s.flt.active, f.cls = s.govClass := by
  rcases List.mem_cons.1 (List.max?_eq_some_iff.1 (max_classes s)).1 with h0 | hmem
  · obtain ⟨f, hf⟩ := List.exists_mem_of_ne_nil _ h
    have hle := cls_le_govClass hf
    exact ⟨f, hf, by omega⟩
  · exact List.mem_map.1 hmem

theorem govClass_of_no_fault {s : State} (h : s.flt.active = []) : s.govClass = 0 := by
  unfold State.govClass
  rw [h]
  rfl

/-! ## Commands -/

/-- What a command leaves, read off the state it answers. -/
theorem frame_of_exec {c : Instr} {s t : State} (h : exec c s = .next t) : Frame (Instr.parts c) s t :=
  next_of_exec h ▸ exec_frames c s

/-! ## The statements -/

/-- Settles O44, from the parts of the state that `Instr.parts` says each command may change: the faults, Sluice, the
Millpond, the tandem block and the Hopper are not among those of a command named first, the registers not among those of a
command named second. The last case of each split is that of the commands not named. -/
theorem quietCommandsFrame : Obligations.QuietCommandsFrame := by
  refine ⟨fun c s t h => ?_, fun c s t h => ?_⟩
  · have hc := frame_of_exec h
    split
    on_goal -1 => trivial
    all_goals
      dsimp only [Instr.parts] at hc
      exact ⟨hc.flt rfl, hc.slu rfl, hc.mpd rfl, hc.tdm rfl, hc.hop rfl⟩
  · have hc := frame_of_exec h
    split
    on_goal -1 => trivial
    all_goals
      dsimp only [Instr.parts] at hc
      exact fun f => congrArg (·.field f) (hc.regs rfl)

/-- Settles O48, by the read-after-write laws of the register file and of a canonical memory. -/
theorem storedValuesReadBack : Obligations.StoredValuesReadBack := by
  refine ⟨reg_setReg, fun s k a j b l hs => ?_⟩
  rw [memory_writeMem]
  by_cases hk : k = j
  · subst hk
    simp only [if_true, true_and]
    exact Memory.read_writeBytes (memoriesWf_get hs k)
  · rw [if_neg hk, if_neg fun h => hk h.1]

/-- Settles O49: raising keeps what `Raised` says, and the governing class is a greatest element. -/
theorem raiseAndGoverningClass : Obligations.RaiseAndGoverningClass := by
  refine ⟨fun hw code cls subj ev data s => ?_, fun s => ⟨fun f => cls_le_govClass, govClass_attained, govClass_of_no_fault⟩⟩
  obtain ⟨hkept, hnew⟩ := raised_raiseAs hw code cls subj ev data s
  exact ⟨hnew, hkept.act⟩

/-- Settles O51: a note is a record of class 0, which changes the event log and the lost-record fields only. -/
theorem noteIsARecordOnly : Obligations.NoteIsARecordOnly := by
  rintro code subj data s t rfl
  exact ⟨(State.note_frames s code subj data).only_regs_evl, fun f hf => record_reg hf s _⟩

/-- Settles O32: at reset no register is stored, so that every field reads its reset value. -/
theorem resetHoldsItsValues : Obligations.ResetHoldsItsValues :=
  ⟨fun _ => rfl, rfl, rfl, rfl, rfl, rfl, rfl, rfl, rfl, rfl, rfl⟩

end Sys2Proof.Machine
end

section
/-! Architecture: the numbers of strikes and turns, and the effect of the commands that make up a turn. -/
namespace Sys2Proof.Machine

/-! ## Time -/

theorem turn_eq_shiftRight (s : State) : s.turn = s.now >>> 5 :=
  (Nat.shiftRight_eq_div_pow s.now 5).symm

theorem phase_eq_and (s : State) : s.phase = s.now &&& 31 :=
  (Nat.and_two_pow_sub_one_eq_mod s.now 5).symm

/-- A second is a whole number of turns, so that its first strike is strike 0 of a turn (R22). -/
theorem phase_of_second {s : State} {k : Nat} (h : s.now = k * secStrikes) : s.phase = 0 := by
  rw [State.phase, h, secStrikes]
  omega

/-- Settles O54. -/
theorem turnAndStrikeNumbers : Obligations.TurnAndStrikeNumbers :=
  ⟨fun s => ⟨turn_eq_shiftRight s, phase_eq_and s⟩, rfl, rfl, fun _ _ => phase_of_second⟩

/-! ## The tasks of the turn -/

/-- A meaning whose guard holds answers its effect, whatever it would answer without the guard. -/
theorem next_of_guard {c : Prop} [Decidable c] {t u : State} (h : c) :
    (.next (if c then t else u) : Host.Outcome State Fault Refusal) = .next t :=
  congrArg _ (if_pos h)

/-- Settles O1. Most commands have one guard, which the premises of the clause make true; MEST, IMG and CHK then branch on
a setting or an operand, FIT and the late intake on what they find, DEADLINE_MISS on the task. -/
theorem turnCommandsComplete : Obligations.TurnCommandsComplete := by
  refine ⟨?strike, ?intakeLate, ?sup, ?mestOff, ?mestOn, ?sev, ?env, ?bal, ?imgQuiet, ?imgSent, ?chkGood, ?chkBad,
    ?fit, ?missTurn, ?missFit, ?missApp, ?heartbeat, ?keepalive⟩
  case strike => exact fun i s hclock hcore => next_of_guard (by simp [hclock, hcore])
  case intakeLate =>
    intro e r s hlate
    show execIntakeCommitLate s = _
    rw [execIntakeCommitLate, hlate]
  case sup => exact fun e s hmay hsup hpair hphase => next_of_guard (by simp [hmay, hsup, hpair, hphase])
  case mestOff | mestOn =>
    intro s hvec hin hdone hmen
    show execMest s = _
    rw [execMest, if_pos (by rw [hvec, hin, hdone]; rfl), hmen]
    rfl
  case sev =>
    intro s hin hdeaf hpow hdone hhalt
    exact next_of_guard (by rw [hin, hdeaf, bne_iff_ne.2 hpow, hdone, hhalt]; rfl)
  case env => exact fun s hmay hpow => next_of_guard (by simp [hmay, hpow])
  case bal => exact fun s hmay hrun => next_of_guard (by simp [hmay, hrun])
  case imgQuiet | imgSent =>
    intro s hmay hpow hsends
    show execImg s = _
    rw [execImg, if_pos (by simp [hmay, hpow]), hsends]
    rfl
  case chkGood | chkBad =>
    intro r s hpair hmay hpow hgroup hslots
    show execChk r s = _
    rw [execChk, if_pos (by simp [hpair, hmay, hpow]), hgroup, hslots]
    rfl
  case fit =>
    intro g s hvec hzen hin htarget
    show execFit s = _
    rw [execFit, if_pos (by simp [hvec, hzen, hin]), htarget]
  case missTurn => exact fun task g s hturn => next_of_guard hturn
  case missFit =>
    rintro _ g s rfl
    rfl
  case missApp =>
    intro task g code s htask hcode hclock hcore hdeaf hpow hhalt
    show execDeadlineMiss task g s = _
    rw [execDeadlineMiss, if_neg (by omega), if_neg (by omega), hcode]
    exact next_of_guard (by rw [hclock, hcore, hdeaf, bne_iff_ne.2 hpow, hhalt]; rfl)
  case heartbeat => exact fun s hbeat hnew hruns => next_of_guard (by simp [hbeat, hnew, hruns])
  case keepalive => exact fun nn s hsends hstopped => next_of_guard (by simp [hsends, hstopped])

end Sys2Proof.Machine
end

section
/-! Sense banks: how a filtered input is reported, how a sample word holds its fields, and the effect of the bank
commands. -/
namespace Sys2Proof.Machine

/-! ## Clamped values -/

section
variable {lo hi v : Int}

theorem clampInt_of_mem (hlo : lo ≤ v) (hhi : v ≤ hi) : clampInt lo hi v = v := by
  rw [clampInt, if_neg (by omega), if_neg (by omega)]

theorem clampInt_of_lt (h : v < lo) : clampInt lo hi v = lo :=
  if_pos h

theorem clampInt_of_gt (hle : lo ≤ hi) (h : hi < v) : clampInt lo hi v = hi := by
  rw [clampInt, if_neg (by omega), if_pos h]

/-- Only a value beyond a limit is changed. -/
theorem beyond_of_clampInt_ne (h : clampInt lo hi v ≠ v) : v < lo ∨ hi < v := by
  by_contra hin
  exact h (clampInt_of_mem (by omega) (by omega))

end

/-- Settles O55: VALUE is the input clamped to the linear limits, and the measuring range lies within them (R45). -/
theorem filteredInputReporting : Obligations.FilteredInputReporting := by
  intro survey v lo hi mlo mhi hlo hhi hmlo hmhi
  have hlin : linear survey v = clampInt lo hi v := by subst hlo hhi; cases survey <;> simp [linear]
  have hover : overrange survey v = true ↔ v < mlo ∨ mhi < v := by subst hmlo hmhi; cases survey <;> simp [overrange]
  have hnest : lo ≤ mlo ∧ mlo ≤ mhi ∧ mhi ≤ hi := by subst hlo hhi hmlo hmhi; cases survey <;> simp
  rw [hlin, hover]
  refine ⟨clampInt_of_mem, clampInt_of_gt (by omega), clampInt_of_lt, Iff.rfl, ?_⟩
  rintro (⟨habove, -⟩ | ⟨-, hbelow⟩ | hclamped)
  · exact .inr habove
  · exact .inl hbelow
  · have := beyond_of_clampInt_ne hclamped
    omega

/-! ## The sample word -/

theorem bit_le_one (b : Bool) : bit b ≤ 1 := by cases b <;> decide

theorem bitAt_of_digit {n k : Nat} {b : Bool} (h : n / 2 ^ k % 2 = bit b) : bitAt n k = b := by
  rw [bitAt, h]
  cases b <;> rfl

theorem unsigned_lt (w : Nat) (v : Int) : unsigned w v < 2 ^ w := by
  have hlt := Int.emod_lt_of_pos v (b := 2 ^ w) (by positivity)
  rw [unsigned, Int.toNat_lt' (by positivity)]
  exact_mod_cast hlt

/-- The two's complement form of a value in range gives the value back. -/
theorem signed_unsigned {w : Nat} {v : Int} (hlo : -2 ^ w ≤ v) (hhi : v < 2 ^ w) :
    signed (w + 1) (unsigned (w + 1) v) = v := by
  unfold signed unsigned
  rw [Nat.add_sub_cancel]
  zify
  rcases le_or_gt 0 v with hpos | hneg
  · have hmod : v % 2 ^ (w + 1) = v := Int.emod_eq_of_lt hpos (by omega)
    rw [hmod, Int.toNat_of_nonneg hpos, if_pos hhi]
  · have hmod : v % 2 ^ (w + 1) = v + 2 ^ (w + 1) := by
      rw [← Int.add_emod_right, Int.emod_eq_of_lt (by omega) (by omega)]
    rw [hmod, Int.toNat_of_nonneg (by omega), if_neg (by omega), add_sub_cancel_right]

section
variable (v : Int) (fs fo fc fd : Bool) (n : Nat)

/-- Below VALUE stand the four flags and the strike number, eight bits together. -/
theorem sampleWord_value : sampleWord v fs fo fc fd n / 256 = unsigned 24 v := by
  have := bit_le_one fs; have := bit_le_one fo; have := bit_le_one fc; have := bit_le_one fd
  unfold sampleWord
  omega

theorem sampleWord_lt : sampleWord v fs fo fc fd n < 2 ^ 32 := by
  have := sampleWord_value v fs fo fc fd n
  have := unsigned_lt 24 v
  omega

theorem sampleWord_strike : sampleWord v fs fo fc fd n % 16 = n % 16 := by
  unfold sampleWord
  omega

theorem wS_sampleWord : wS (sampleWord v fs fo fc fd n) = fs := by
  have := bit_le_one fs; have := bit_le_one fo; have := bit_le_one fc; have := bit_le_one fd
  apply bitAt_of_digit
  unfold sampleWord
  omega

theorem wO_sampleWord : wO (sampleWord v fs fo fc fd n) = fo := by
  have := bit_le_one fo; have := bit_le_one fc; have := bit_le_one fd
  apply bitAt_of_digit
  unfold sampleWord
  omega

theorem wC_sampleWord : wC (sampleWord v fs fo fc fd n) = fc := by
  have := bit_le_one fc; have := bit_le_one fd
  apply bitAt_of_digit
  unfold sampleWord
  omega

theorem wD_sampleWord : wD (sampleWord v fs fo fc fd n) = fd := by
  have := bit_le_one fd
  apply bitAt_of_digit
  unfold sampleWord
  omega

end

/-- Settles O56: VALUE is the part of the word above its low byte, and each flag is a binary digit of that byte. -/
theorem sampleWordLayout : Obligations.SampleWordLayout := by
  intro v fs fo fc fd n hlo hhi
  have hvalue : wValue (sampleWord v fs fo fc fd n) = v := by
    rw [wValue, sampleWord_value]
    exact signed_unsigned (by omega) (by omega)
  exact ⟨sampleWord_lt .., hvalue, wS_sampleWord .., wO_sampleWord .., wC_sampleWord .., wD_sampleWord ..,
    sampleWord_strike ..⟩

/-! ## The commands of the banks -/

/-- Settles O2. Most commands have one guard, which the premises of the clause make true; those of a lane first tell CUR
from a bank, TRAY_ID_CHECK and NORMAL_RANGE_CHECK then branch on what they find. -/
theorem bankCommandsComplete : Obligations.BankCommandsComplete := by
  refine ⟨?ctrl, ?config, ?filter, ?discovery, ?lockBank, ?lockCur, ?lockFails, ?tray, ?survey, ?normPass, ?normFail,
    ?release, ?lostBank, ?lostCur, ?regained, ?branchLost, ?branchReturn, ?relay⟩
  case ctrl => exact fun path nn w s hdeaf hnn => next_of_guard (by simp [hdeaf, hnn])
  case config => exact fun s hphase hrun => next_of_guard (by simp [hphase, hrun])
  case filter => exact fun s hphase => next_of_guard hphase
  case discovery => exact fun nn s hen hon hstep => next_of_guard (by rw [hen, hon, hstep]; rfl)
  case lockBank =>
    intro nn r s hbank hstep hlocked hid
    show execLaneLock nn r s = _
    rw [execLaneLock, if_neg hbank, if_pos (by rw [hstep]; rfl)]
    exact next_of_guard (by simp [hlocked, hid])
  case lockCur =>
    intro r s hpow hlane hlocked hid
    show execLaneLock curNo r s = _
    rw [execLaneLock, if_pos rfl, if_pos (by simp [hpow, hlane])]
    exact next_of_guard (by simp [hlocked, hid])
  case lockFails =>
    intro nn r s hbank hstep hunlocked
    show execLaneLock nn r s = _
    rw [execLaneLock, if_neg hbank, if_pos (by rw [hstep]; rfl), if_neg (by simp [hunlocked])]
  case tray =>
    intro nn k bytes s hk hwaits hlast
    show execTrayIdCheck nn k bytes s = _
    rw [execTrayIdCheck, if_pos (by simp [hk, hwaits])]
    exact congrArg _ (if_neg (by simp [hlast]))
  case survey => exact fun nn s hstep hturns => next_of_guard (by rw [hstep, decide_eq_true hturns]; rfl)
  case normPass | normFail =>
    intro nn p s hdue hfailed
    show execNormalRangeCheck nn p s = _
    rw [execNormalRangeCheck, if_pos hdue, hfailed]
    rfl
  case release => exact fun nn s hdue => next_of_guard hdue
  case lostBank =>
    intro nn s hbank hsends halign hmis
    show execAlignmentLost nn s = _
    rw [execAlignmentLost, if_neg hbank, if_pos hsends]
    exact next_of_guard (by simp [halign, hmis])
  case lostCur =>
    intro s hflows halign hmis
    show execAlignmentLost curNo s = _
    rw [execAlignmentLost, if_pos rfl]
    exact next_of_guard (by simp [hflows, halign, hmis])
  case regained =>
    intro nn s hbank hsends halign hgood hphase
    show execAlignmentRegained nn s = _
    rw [execAlignmentRegained, if_neg hbank]
    exact next_of_guard (by simp [hsends, halign, hgood, hphase])
  case branchLost => exact fun nn k s hk hdue => next_of_guard (by simp [hk, hdue])
  case branchReturn => exact fun nn k bytes s hk hdue => next_of_guard (by simp [hk, hdue])
  case relay => exact fun nn s hlong => next_of_guard (decide_eq_true hlong)

end Sys2Proof.Machine
end

section
/-! The checks of the measurements: the effect of the commands of the check converter, the frozen words and the
comparators. -/
namespace Sys2Proof.Machine

/-- A dwell with a bad signature leaves fault 0x0305 in effect, so that its end only chooses between another dwell on the
position and the result, by the number of qualifying strikes. -/
theorem checkDwellEnd_of_sigFail {nn : Nat} {s : State} (hdue : s.dwellDue nn) (hsig : (s.check nn).sigFail) :
    exec (.checkDwellEnd nn) s = .next (if (s.check nn).winN < 16
      then s.nextDwell nn (s.check nn).dwPos (s.check nn).dwRetest else s.dwellResult nn) := by
  show execCheckDwellEnd nn s = _
  rw [execCheckDwellEnd, if_pos hdue]
  simp only [hsig, Bool.not_true, doIf, Bool.false_eq_true, if_false]

/-- Settles O3. Each command has one guard, which the premises of the clause make true; CHECK_DWELL_END then branches on the
number of qualifying strikes. -/
theorem checkCommandsComplete : Obligations.CheckCommandsComplete := by
  refine ⟨?dwellResult, ?dwellAgain, ?frozen, ?coverage, ?comparator⟩
  case dwellResult =>
    intro nn s hdue hmany hsig
    rw [checkDwellEnd_of_sigFail hdue hsig, if_neg (by omega)]
  case dwellAgain =>
    intro nn s hdue hfew hsig
    rw [checkDwellEnd_of_sigFail hdue hsig, if_pos hfew]
  case frozen => exact fun nn p s hreleased hrun => next_of_guard (by simp [hreleased, hrun])
  case coverage => exact fun nn p s hlapsed => next_of_guard hlapsed
  case comparator => exact fun nn p s hrun => next_of_guard (decide_eq_true hrun)

end Sys2Proof.Machine
end

section
/-! The current front end, the insulation monitor and the temperatures: the effect of their commands. -/
namespace Sys2Proof.Machine

/-- A die sensor found implausible loses its valid bit with fault 0x0508; fault 0x0509 follows where fewer than eight
sensors are then left (R140). -/
theorem dieSensorImplausible_of_valid {k : Nat} {s : State} (hk : k < 16) (hvalid : s.dieValid k)
    (hoff : 100 ≤ s.thm.dieOff.get 0 k) :
    exec (.dieSensorImplausible k) s = .next (
      let t := (s.setBit Reg.THM_DIE_VALID_VALID k false).raiseLevel 0x0508 1 (subjNum k) []
      if t.dieCount < 8 then t.raiseLevel 0x0509 3 subjNone [] else t) := by
  show execDieSensorImplausible k s = _
  rw [execDieSensorImplausible, if_pos hk, if_pos (by simp [hvalid, hoff])]

/-- Settles O4. Most commands have one guard, which the premises of the clause make true; IMD_PERIOD_END, IMD_RELAY_FAULT
and DIE_SENSOR_IMPLAUSIBLE then branch on an operand or on what they find. -/
theorem currentCommandsComplete : Obligations.CurrentCommandsComplete := by
  refine ⟨?hallSupply, ?curCtrl, ?imdSettled, ?imdUnsettled, ?selfTest, ?relayDiffers, ?relayAgrees, ?thmConfig,
    ?outletRise, ?bankPair, ?dieEnough, ?dieFew, ?dieWarning, ?dieCooled, ?dieShutdown, ?bankWarning, ?bankShutdown,
    ?holdRelease⟩
  case hallSupply => exact fun s hfitted hrun => next_of_guard (by simp [hfitted, hrun])
  case curCtrl => exact fun path w s hdeaf => congrArg _ (if_neg (by simp [hdeaf]))
  case imdSettled | imdUnsettled =>
    intro r s hinj hsettle
    show execImdPeriodEnd r s = _
    rw [execImdPeriodEnd, if_pos hinj, hsettle]
    rfl
  case selfTest =>
    intro s htoken hinj hresult htesting hdue
    exact next_of_guard (by rw [htoken, hinj, hresult, htesting, hdue]; rfl)
  case relayDiffers =>
    intro feedback ms s hdiffers hlong
    show execImdRelayFault feedback ms s = _
    rw [execImdRelayFault, if_neg (by simp [hdiffers]), if_pos hlong]
  case relayAgrees => exact fun feedback ms s hagrees => next_of_guard (beq_iff_eq.2 hagrees)
  case thmConfig => exact fun path off w s hdeaf hoff => next_of_guard (by simp [hdeaf, hoff])
  case outletRise => exact fun s hrun => next_of_guard hrun
  case bankPair =>
    intro k s hbank hdiff
    show execDieSensorImplausible k s = _
    rw [execDieSensorImplausible, if_neg (by omega)]
    exact next_of_guard hdiff
  case dieEnough =>
    intro k s hk hvalid hoff henough
    rw [dieSensorImplausible_of_valid hk hvalid hoff]
    exact congrArg _ (if_neg (by omega))
  case dieFew =>
    intro k s hk hvalid hoff hfew
    rw [dieSensorImplausible_of_valid hk hvalid hoff]
    exact next_of_guard hfew
  case dieWarning => exact fun s hrun hstrike hlatch => next_of_guard (by simp [hrun, hstrike, hlatch])
  case dieCooled => exact fun s hoff hrun => next_of_guard (by simp [hoff, hrun])
  case dieShutdown => exact fun s hrun hlatch hcore => next_of_guard (by simp [hrun, hlatch, hcore])
  case bankWarning => exact fun nn k s hrun => next_of_guard hrun
  case bankShutdown => exact fun nn k s hrun hshut => next_of_guard (by simp [hrun, hshut])
  case holdRelease => exact fun hottest s hhold hcool => next_of_guard (by simp [hhold, hcool])

end Sys2Proof.Machine
end

section
/-! The certified estimator: the effect of the commands of its working copies, its snapshots and its restore window. -/
namespace Sys2Proof.Machine

/-- The end of a build in hand leaves the new copy to wait for the switch, or discards it with event 0x0606 where its table
is not valid (R162, R163). -/
theorem tableBuildComplete_of_building {k : Nat} {l : List Nat} {s : State}
    (hbuild : s.est.building.find? (fun e => e.1 == k) = some (k, l)) (hcore : s.sys.core)
    (hcold : s.flag Reg.PWR_STAT_WARM = false) :
    exec (.tableBuildComplete k) s = .next (
      let t := { s with est := { s.est with building := s.est.building.drop (· == k) } }
      if ocvValid l then ({ t with est := { t.est with built := t.est.built.put k l } }).buildRegs
      else t.buildRegs.note 0x0606 (subjNum k) []) := by
  show execTableBuildComplete k s = _
  rw [execTableBuildComplete, hbuild]
  exact next_of_guard (by simp [hcore, hcold])

/-- The restore window closes once its time has passed since the first entry to RUN, with fault 0x0602 where no restore was
accepted (R172, R177). -/
theorem restoreWindowClose_of_elapsed {a : Nat} {s : State} (hrun : s.est.firstRun = some a)
    (hopen : s.flag Reg.EST_STAT_RWIN) (hpast : s.reg Reg.EST_RESTORE_WIN * secStrikes ≤ s.since a) :
    exec .restoreWindowClose s = .next (
      let t := ({ s with est := { s.est with windowDone := true } }).setFlag Reg.EST_STAT_RWIN false
      if s.flag Reg.EST_STAT_RESTORED then t else t.raiseLevel 0x0602 1 subjNone []) := by
  show execRestoreWindowClose s = _
  rw [execRestoreWindowClose, hrun]
  exact next_of_guard (by simp [hopen, hpast])

/-- Settles O5. Each command finds what it waits for, by a premise of the clause, and has at most one guard, which the other
premises make true; TABLE_BUILD_COMPLETE and RESTORE_WINDOW_CLOSE then branch on the table built and on a restore. -/
theorem estimatorCommandsComplete : Obligations.EstimatorCommandsComplete := by
  refine ⟨?buildValid, ?buildBad, ?switch, ?periodic, ?deliver, ?discard, ?windowUnused, ?windowRestored⟩
  case buildValid =>
    intro k l s hbuild hcore hcold hvalid
    rw [tableBuildComplete_of_building hbuild hcore hcold]
    exact next_of_guard hvalid
  case buildBad =>
    intro k l s hbuild hcore hcold hbad
    rw [tableBuildComplete_of_building hbuild hcore hcold]
    exact congrArg _ (if_neg (by simp [hbad]))
  case switch => exact fun s hstrike => next_of_guard hstrike
  case periodic =>
    intro a n s hrun hsup hmode hdue hdeaf
    show execSnapshotPeriodic s = _
    rw [execSnapshotPeriodic, hrun, hsup]
    exact next_of_guard (by simp [hmode, hdue, hdeaf])
  case deliver =>
    intro f r s hwaits
    show execSnapshotDeliver s = _
    rw [execSnapshotDeliver, hwaits]
  case discard =>
    intro x a s hwaits hlong
    show execSnapshotDiscard s = _
    rw [execSnapshotDiscard, hwaits]
    exact next_of_guard hlong
  case windowUnused =>
    intro a s hrun hopen hpast hunused
    rw [restoreWindowClose_of_elapsed hrun hopen hpast]
    exact congrArg _ (if_neg (by simp [hunused]))
  case windowRestored =>
    intro a s hrun hopen hpast hrestored
    rw [restoreWindowClose_of_elapsed hrun hopen hpast]
    exact next_of_guard hrestored

end Sys2Proof.Machine
end

section
/-! The model estimator, the impedance engine and the advisories: the effect of their commands. -/
namespace Sys2Proof.Machine

/-- A request of kind 1 or 2 that the pair takes is noted in EST_ADV_LAST; it starts or refreshes its timer where it passes the
checks, and raises fault 0x0644 where it does not (R204). -/
theorem advisoryRequest_of_taken {crcOk : Bool} {r : AdvReq} {rest : List AdvReq} {s : State}
    (hbox : s.mdl.mailbox = r :: rest) (htakes : s.pairTakes) (hkind : r.kind < 3) :
    exec (.advisoryRequest crcOk) s = .next (
      let ok := crcOk && s.requestGood r
      let s1 := ({ s with mdl := { s.mdl with mailbox := rest } }).setFields
        [(Reg.EST_ADV_LAST_POS, r.pos), (Reg.EST_ADV_LAST_KIND, r.kind), (Reg.EST_ADV_LAST_PASS, bit ok),
          (Reg.EST_ADV_LAST_VALUE, r.value)]
      if ok then
        let key := r.pos * 2 + (r.kind - 1)
        let t := s.mdl.timers.get (0, 0) key
        let begun := if t.2 = 0 ∨ t.2 + 10 * secStrikes < s.now then s.now else t.1
        { s1 with mdl := { s1.mdl with timers := s1.mdl.timers.put key (begun, s.now) } }
      else s1.raise 0x0644 1 (subjPos r.pos) []) := by
  show execAdvisoryRequest crcOk s = _
  rw [execAdvisoryRequest, hbox]
  dsimp only
  rw [if_neg (by simp [htakes]), if_neg (by omega)]

/-- A timer of ISI or LPI requests that runs and reaches PERSIST is dropped and raises the fault of its kind (R204). -/
theorem advisoryPersist_of_elapsed {kind g : Nat} {s : State} (hkind : kind = 1 ∨ kind = 2)
    (hruns : (s.mdl.timers.get (0, 0) (g * 2 + (kind - 1))).2 ≠ 0)
    (hfresh : s.now ≤ (s.mdl.timers.get (0, 0) (g * 2 + (kind - 1))).2 + 10 * secStrikes)
    (hlong : (s.mdl.timers.get (0, 0) (g * 2 + (kind - 1))).1 + s.reg Reg.EST_ADV_CFG_PERSIST * secStrikes ≤ s.now)
    (htakes : s.pairTakes) :
    exec (.advisoryPersist kind g) s = .next (
      let s1 := { s with mdl := { s.mdl with timers := s.mdl.timers.drop (· == g * 2 + (kind - 1)) } }
      if kind = 1 then s1.raise 0x0641 (s.reg Reg.EST_ADV_CFG_ISI_CLS) (subjPos g) []
      else s1.raise 0x0643 (s.reg Reg.EST_ADV_CFG_LPI_CLS) (subjPos g) []) :=
  next_of_guard (by simp [hkind, hruns, hfresh, hlong, htakes])

/-- Settles O6. VEC_RESUME, PLATING_BUMP_END and ADVISORY_REQUEST first find what they wait for, by a premise of the clause; the
guards of every command then hold by the other premises. -/
theorem modelCommandsComplete : Obligations.ModelCommandsComplete := by
  refine ⟨?resume, ?blockEnd, ?bumpEnd, ?requestFails, ?requestPasses, ?warning, ?persistIsi, ?persistLpi⟩
  case resume =>
    intro a s hoff hpow hcore hshort
    show execVecResume s = _
    rw [execVecResume, hoff]
    dsimp only
    rw [if_pos (by simp [hpow, hcore])]
    exact next_of_guard hshort
  case blockEnd =>
    exact fun k s hk hon hzen hbegun hcovered => next_of_guard (by simp [hk, hon, hzen, hbegun, hcovered])
  case bumpEnd =>
    intro g b s hbump hpast hon
    show execPlatingBumpEnd g s = _
    rw [execPlatingBumpEnd, hbump]
    exact next_of_guard (by simp [hpast, hon])
  case requestFails =>
    intro crcOk r rest s hbox htakes hkind hbad
    rw [advisoryRequest_of_taken hbox htakes hkind, hbad]
    rfl
  case requestPasses =>
    intro crcOk r rest s hbox htakes hkind hcrc hgood
    rw [advisoryRequest_of_taken hbox htakes hkind, hcrc, hgood]
    rfl
  case warning =>
    intro crcOk r rest s hbox htakes hkind
    show execAdvisoryRequest crcOk s = _
    rw [execAdvisoryRequest, hbox]
    dsimp only
    rw [if_neg (by simp [htakes])]
    exact next_of_guard hkind
  case persistIsi => exact fun g s => advisoryPersist_of_elapsed (.inl rfl)
  case persistLpi => exact fun g s => advisoryPersist_of_elapsed (.inr rfl)

end Sys2Proof.Machine
end

section
/-! Sluice: the weld lockout, the mode, and the effect of the commands of the hardware path, the contactor sequence and
the breaker. -/
namespace Sys2Proof.Machine

/-! ## The weld lockout -/

/-- The command is the weld lockout clear, from a ring or as opcode 0x53 of the service protocol (R224). -/
def ClearsWeldLock (c : Instr) : Prop :=
  (∃ x, c = .weldClear x) ∨ ∃ n m, c = .serviceCommand n m ∧ leAt ((msgBody m).take 64) 0 2 = 0x53

/-- Every command but the clear leaves a weld lockout that is set: its frame says so, for a service command by its opcode. -/
theorem weldLock_kept_of_not_clear {c : Instr} {s : State} (hc : ¬ ClearsWeldLock c) (hlock : s.slu.weldLock = true) :
    (andThen (exec c) s).slu.weldLock = true := by
  have hframe := exec_frames c s
  cases c with
  | weldClear x => exact absurd (.inl ⟨x, rfl⟩) hc
  | serviceCommand n m => exact (weld_service n m s (.inr fun hopc => hc (.inr ⟨n, m, rfl, hopc⟩))).weld rfl hlock
  | _ =>
    dsimp only [Instr.parts] at hframe
    exact hframe.weld rfl hlock

/-- With no session open the clear itself leaves a weld lockout that is set. -/
theorem weldLock_kept_of_no_session {c : Instr} {s : State} (hc : ClearsWeldLock c) (hno : s.auth.session = none)
    (hlock : s.slu.weldLock = true) : (andThen (exec c) s).slu.weldLock = true := by
  rcases hc with ⟨x, rfl⟩ | ⟨n, m, rfl, -⟩
  · exact (weld_command x s hno).weld rfl hlock
  · exact (weld_service n m s (.inl hno)).weld rfl hlock

/-- Settles O36: a step that ends the lockout ran a command, which by its frame was the clear, and found a session open. -/
theorem weldLockoutIsKept : Obligations.WeldLockoutIsKept := by
  intro s t hlock hstep hended
  rcases step_cases hstep with ⟨-, rfl⟩ | ⟨c, r, hpending, rfl⟩
  · exact absurd (hended.symm.trans hlock) Bool.false_ne_true
  · have hclear : ClearsWeldLock c := by
      by_contra hc
      exact Bool.false_ne_true (hended.symm.trans (weldLock_kept_of_not_clear hc hlock))
    refine ⟨?_, c, r, hpending, hclear⟩
    by_contra hno
    have hnone : s.auth.session = none := Option.not_isSome_iff_eq_none.1 hno
    exact Bool.false_ne_true (hended.symm.trans (weldLock_kept_of_no_session hclear hnone hlock))

/-! ## The mode -/

theorem isoRequest_iff (s : State) : s.isoRequest = true ↔
    (∃ e ∈ s.sio.inputs, e.2.iso = true) ∨ ∃ e ∈ s.sio.conns, e.2.isol = true ∨ e.2.toutIso = true := by
  simp [State.isoRequest]

theorem unreleased_iff (s : State) : s.unreleased = true ↔
    (∃ e ∈ s.bnk, e.2.en = true ∧ (e.2.step ≠ .released ∨ e.2.survey = true)) ∨ s.flag Reg.CUR_STAT_REL = false := by
  simp [State.unreleased]

/-- The isolation conditions, one by one (R232). -/
theorem isolated_iff (s : State) : s.isolated = true ↔
    s.slu.cfg = false ∨ s.power ≠ pwRun ∨ (∃ e ∈ s.bnk, e.2.en = true ∧ (e.2.step ≠ .released ∨ e.2.survey = true)) ∨
      s.flag Reg.CUR_STAT_REL = false ∨ s.slu.weldLock = true ∨ s.reg Reg.SEC_LC_STATE = 0 ∨ s.reg Reg.SEC_LC_STATE = 4 ∨
      (∃ e ∈ s.sio.inputs, e.2.iso = true) ∨ (∃ e ∈ s.sio.conns, e.2.isol = true ∨ e.2.toutIso = true) := by
  simp only [State.isolated, State.inRun, Bool.or_eq_true, Bool.not_eq_true', beq_iff_eq, beq_eq_false_iff_ne,
    unreleased_iff, isoRequest_iff, or_assoc]

/-- Settles O53: the branches of the definition, with the isolation conditions written out. -/
theorem modeTakesFirstCase : Obligations.ModeTakesFirstCase := by
  intro s
  rw [← isolated_iff]
  refine ⟨fun hbreaker => if_pos hbreaker, fun htripped => ?_, fun hnb hnt hiso => ?_, fun hnb hnt hfree => ?_⟩
  · rw [State.mode, htripped]
    rfl
  · rw [State.mode, if_neg hnb, if_neg hnt, if_pos hiso]
  · rw [State.mode, if_neg hnb, if_neg hnt, if_neg hfree]

/-! ## The commands of Sluice -/

/-- The dwell of a weld test over, SEV judges the contact by what the dwell found (R214, R217). -/
theorem weldTestJudge_of_elapsed {s : State} (hdwell : s.slu.seq = .w1Dwell ∨ s.slu.seq = .w2Dwell) (htoken : s.token)
    (hsev : s.inSev) (hlong : s.thr Reg.SLU_KT_WDWELL * msStrikes ≤ s.since s.slu.stepAt) :
    exec .weldTestJudge s = .next (
      if s.slu.weldFail then s.weldFailed (s.slu.seq == .w1Dwell) else s.weldPassed (s.slu.seq == .w1Dwell)) :=
  next_of_guard (by simp [hdwell, htoken, hsev, hlong])

/-- The pulse over, BRK_TRIP is released, with fault 0x0731 where the breaker did not clear (R223). -/
theorem breakerPulseEnd_of_elapsed {s : State} (hpast : s.elapsed s.slu.brkAt (s.thr Reg.SLU_BRK_TW * msStrikes)) :
    exec .breakerPulseEnd s = .next (
      let t := { (s.setFlag Reg.SLU_STAT_BRK false) with slu := { s.slu with brkAt := 0 } }
      if (s.thr Reg.SLU_BRK_AUX_EN == 1 && !s.slu.auxOpen) || decide (5000 < s.iMag) then t.raise 0x0731 4 subjNone []
      else t) :=
  next_of_guard hpast

/-- Settles O7. Most commands have one guard, which the premises of the clause make true; WELD_TEST_JUDGE and
BREAKER_PULSE_END then branch on what they find, THRESHOLD_SET_APPLY and CLASS2_CLEAR first find what they wait for. -/
theorem sluiceCommandsComplete : Obligations.SluiceCommandsComplete := by
  refine ⟨?hwTest, ?supTest, ?apply, ?feedback, ?weldPasses, ?weldFails, ?preDone, ?preLate, ?preCurrent, ?overlap,
    ?closeLate, ?openLate, ?currentLow, ?negDelay, ?orderlyLate, ?pulseCleared, ?pulseFailed, ?coil, ?class2⟩
  case hwTest => exact fun code subj s hmet hnew => next_of_guard (by simp [hmet, hnew])
  case supTest =>
    exact fun code subj s hcfg hpair hruns hdone hmet hnew =>
      next_of_guard (by rw [hcfg, hpair, hruns, hdone, hmet, hnew]; rfl)
  case apply =>
    intro x s hwaits hstrike horder
    show execThresholdSetApply s = _
    rw [execThresholdSetApply, hwaits]
    dsimp only
    rw [if_pos hstrike]
    exact next_of_guard horder
  case feedback => exact fun k closed s hk hdiffers => next_of_guard (by simp [hk, hdiffers])
  case weldPasses =>
    intro s hdwell htoken hsev hlong hpass
    rw [weldTestJudge_of_elapsed hdwell htoken hsev hlong]
    exact congrArg _ (if_neg (by simp [hpass]))
  case weldFails =>
    intro s hdwell htoken hsev hlong hfail
    rw [weldTestJudge_of_elapsed hdwell htoken hsev hlong]
    exact next_of_guard hfail
  case preDone => exact fun s hseq htoken hmany hsev => next_of_guard (by simp [hseq, htoken, hmany, hsev])
  case preLate => exact fun s hseq htoken hfew hlong => next_of_guard (by simp [hseq, htoken, hfew, hlong])
  case preCurrent => exact fun s hpre htoken hmany => next_of_guard (by simp [hpre, htoken, hmany])
  case overlap => exact fun s hseq htoken hsev hlong => next_of_guard (by simp [hseq, htoken, hsev, hlong])
  case closeLate => exact fun k s htoken hopen => next_of_guard (by simp [htoken, hopen])
  case openLate => exact fun k s hclosed hnew => next_of_guard (by simp [hclosed, hnew])
  case currentLow => exact fun s hseq htoken hmany => next_of_guard (by simp [hseq, htoken, hmany])
  case negDelay => exact fun s hseq htoken hsev hlong => next_of_guard (by simp [hseq, htoken, hsev, hlong])
  case orderlyLate => exact fun s hramp htoken hlong => next_of_guard (by simp [hramp, htoken, hlong])
  case pulseCleared =>
    intro s hpast haux hen hlow
    have hno : ¬ (s.thr Reg.SLU_BRK_AUX_EN = 1 ∧ s.slu.auxOpen = false) := by
      rintro ⟨hon, hshut⟩
      rcases haux with hoff | hopen
      · omega
      · exact absurd hopen (by simp [hshut])
    rw [breakerPulseEnd_of_elapsed hpast]
    exact congrArg _ (if_neg (by simpa [hlow] using hno))
  case pulseFailed =>
    intro s hpast hbad
    rw [breakerPulseEnd_of_elapsed hpast]
    exact next_of_guard (by simpa using hbad)
  case coil => exact fun k s hk hboth => next_of_guard (by simp [hk, hboth])
  case class2 =>
    intro code subj f a s hfound habsent hlong
    show execClass2Clear code subj s = _
    rw [execClass2Clear, hfound]
    dsimp only
    rw [habsent]
    exact next_of_guard hlong

end Sys2Proof.Machine
end

section
/-! Safety inputs, SRST, telegrams and the configuration authority: the channels of an input, the effect of these commands,
and the commands that leave the authority and the lifecycle, firmware and debug state. -/
namespace Sys2Proof.Machine

/-! ## The channels of a safety input -/

/-- An input reads as it was changed. -/
theorem si_updSi (n : Nat) (f : SafetyIn → SafetyIn) (s : State) : (s.updSi n f).si n = f (s.si n) :=
  (Tab.get_put _ _ _ _ _).trans (if_pos rfl)

/-- The end of a fault leaves every input. -/
theorem si_goneAt (code subj : Nat) (s : State) (n : Nat) : (s.goneAt code subj).si n = s.si n :=
  congrArg (·.inputs.get SafetyIn.initial n) ((State.goneAt_frames code subj s).sio rfl)

/-- The demand of an input evaluated is that of its channels as latched, whatever it was before (R240). -/
theorem siChannels_demand (n : Nat) (s : State) :
    ((s.siChannels n).si n).demand = (demandA (s.si n).a.lat || demandB (s.siWire n) (s.si n).b.lat) := by
  unfold State.siChannels
  extract_lets w i da db latch s1
  have hs1 : (s1.si n).demand = (da || db) := by rw [si_updSi]
  split
  · rw [si_goneAt, hs1]
  · exact hs1

/-- Settles O57: the demand after the evaluation is the disjunction of the demand states of the two channels. -/
theorem demandNeedsOneChannel : Obligations.DemandNeedsOneChannel := by
  rintro n s a b rfl rfl
  rw [siChannels_demand]
  exact ⟨Bool.or_eq_true_iff.2, fun _ => Bool.or_eq_false_iff.1, Bool.or_eq_false_iff.2⟩

/-! ## The commands of the safety inputs, SRST and the telegrams -/

/-- A rising edge of SRST after its 32 samples is counted. During a warm reset nothing follows; otherwise it is accepted as
one reset request, or ignored with event 0x074E (R249). -/
theorem srstEdge_of_rising {s : State} (hhigh : s.sio.srstLast) (hmany : 32 ≤ s.sio.srstRun)
    (hlow : s.flag Reg.SLU_SRST_LVL = false) :
    exec .srstEdge s = .next (
      let u := s.srstCount.setFlag Reg.SLU_SRST_LVL true
      let v := { u with sio := { u.sio with edgeAt := s.now + 1, highAt := s.now } }
      if s.flag Reg.PWR_STAT_WARM then v
      else if decide (50 * msStrikes ≤ s.since s.sio.lowAt)
          && (s.sio.edgeAt == 0 || s.elapsed s.sio.edgeAt (100 * msStrikes)) && !u.flag Reg.SLU_SRST_CHAT then
        (v.setReg Reg.SLU_SRST_ACC (s.reg Reg.SLU_SRST_ACC + 1)).request .reset false none
      else (v.addSat Reg.SLU_SRST_IGN 1).note 0x074E subjNone []) :=
  next_of_guard (by simp [hhigh, hmany, hlow])

/-- A copy that a port takes for a live connection is checked: it joins its pair where it passes, and is counted as rejected,
with event 0x0753, where it does not (R255, R256). -/
theorem telegramReceive_of_content {k port : Nat} {bytes l : List Nat} {s : State} (hreceives : s.tgReceives k)
    (hlive : (s.tg k).live) (hport : s.portLive port) (hdeaf : s.deaf = false) (hruns : s.appsRun)
    (hcontent : s.tgContent k port bytes = some l) :
    exec (.telegramReceive k port bytes) s = .next (
      if s.tgAccepts k l then s.tgCopy k port l
      else (s.addSat (Reg.SLU_TG_STAT_REJ k) 1).raisePaced (0x07530 + k) 0x0753 0 (subjNum k) []) := by
  show execTelegramReceive k port bytes s = _
  rw [execTelegramReceive, if_pos (by rw [hreceives, hlive, hport, hdeaf, hruns]; rfl), hcontent]

/-- A live connection without an accepted telegram for TOUT is down, and raises fault 0x0750 of class 3 or 1 by its action
(R259). -/
theorem telegramTimeout_of_elapsed {k : Nat} {s : State} (hreceives : s.tgReceives k) (hlive : (s.tg k).live)
    (hnew : (s.tg k).timedOut = false) (hlong : s.reg (Reg.SLU_TG_CTRL_TOUT k) * msStrikes ≤ s.since (s.tg k).accAt) :
    exec (.telegramTimeout k) s = .next (
      ((s.updTg k fun c => { c with
        timedOut := true, started := false, cnt := none, isol := false
        toutIso := s.reg (Reg.SLU_TG_CTRL_TACT k) == 1 }).setFlag (Reg.SLU_TG_STAT_UP k) false).raiseLevel 0x0750
        (if s.reg (Reg.SLU_TG_CTRL_TACT k) = 2 then 3 else 1) (subjNum k) []) :=
  next_of_guard (by simp [hreceives, hlive, hnew, hlong])

/-- Settles O8. Most commands have one guard, which the premises of the clause make true; SI_LEVEL_CHANGE and TEST_PULSE then
branch on the channel or the output, SRST_EDGE on a warm reset and on what R249 asks of an edge, TELEGRAM_RECEIVE on the
checks, TELEGRAM_TIMEOUT on the action. -/
theorem safetyInputCommandsComplete : Obligations.SafetyInputCommandsComplete := by
  refine ⟨?levelA, ?levelB, ?discrepancy, ?pulse0, ?pulse1, ?readback0, ?readback1, ?isoEnd, ?edgeWarm, ?edgeGood,
    ?edgeBad, ?held, ?chatterEnd, ?send, ?accepted, ?rejected, ?skew, ?timeoutTrips, ?timeoutWarns⟩
  case levelA => exact fun n s hn hdue => next_of_guard (by simp [hn, hdue])
  case levelB =>
    intro n ch s hn hch hdue
    show execSiLevelChange n ch s = _
    rw [execSiLevelChange, if_pos (by simp [hn, hch, hdue]), if_neg hch]
  case discrepancy => exact fun n s hn hlong hnew => next_of_guard (by simp [hn, hlong, hnew])
  case pulse0 | pulse1 => exact fun turn s hturn hdue => next_of_guard (by simp [hturn, hdue])
  case readback0 | readback1 => exact fun s hbad => next_of_guard hbad
  case isoEnd => exact fun n s hn hiso hout hlong => next_of_guard (by simp [hn, hiso, hout, hlong])
  case edgeWarm =>
    intro s hhigh hmany hlow hwarm
    rw [srstEdge_of_rising hhigh hmany hlow]
    exact next_of_guard hwarm
  case edgeGood =>
    intro s hhigh hmany hlow hcold hgood
    rw [srstEdge_of_rising hhigh hmany hlow, hcold]
    exact next_of_guard hgood
  case edgeBad =>
    intro s hhigh hmany hlow hcold hbad
    rw [srstEdge_of_rising hhigh hmany hlow, hcold]
    exact congrArg _ (if_neg (ne_true_of_eq_false hbad))
  case held => exact fun s hhigh hnew hlong => next_of_guard (by simp [hhigh, hnew, hlong])
  case chatterEnd => exact fun s hchatter hlong => next_of_guard (by simp [hchatter, hlong])
  case send =>
    intro k s hsends hsev hturn hpow hdone hnew hdeaf
    exact next_of_guard (by rw [hsends, hsev, beq_iff_eq.2 hturn, hpow, hdone, hnew, hdeaf]; rfl)
  case accepted =>
    intro k port bytes l s hreceives hlive hport hdeaf hruns hcontent haccepts
    rw [telegramReceive_of_content hreceives hlive hport hdeaf hruns hcontent]
    exact next_of_guard haccepts
  case rejected =>
    intro k port bytes l s hreceives hlive hport hdeaf hruns hcontent hrejects
    rw [telegramReceive_of_content hreceives hlive hport hdeaf hruns hcontent]
    exact congrArg _ (if_neg (ne_true_of_eq_false hrejects))
  case skew => exact fun k s hreceives => next_of_guard hreceives
  case timeoutTrips =>
    intro k s hreceives hlive hnew hlong htrip
    rw [telegramTimeout_of_elapsed hreceives hlive hnew hlong, htrip]
    rfl
  case timeoutWarns =>
    intro k s hreceives hlive hnew hlong hwarn
    rw [telegramTimeout_of_elapsed hreceives hlive hnew hlong, if_neg hwarn]

/-! ## The configuration authority -/

/-- Settles O9. SESSION_IDLE_TIMEOUT and SESSION_COMMIT_COMPLETE first find the session they end or commit, by a premise of the
clause, SESSION_PATH_LOST branches on the path; the one guard of each then holds by the other premises. -/
theorem sessionEventsComplete : Obligations.SessionEventsComplete := by
  refine ⟨?idle, ?linkDown, ?tlsClosed, ?commit, ?lockout⟩
  case idle =>
    intro x s hopen hlong
    show execSessionIdleTimeout s = _
    rw [execSessionIdleTimeout, hopen]
    exact next_of_guard (by simpa using hlong)
  case linkDown => exact fun s hdown => congrArg _ (if_neg (ne_true_of_eq_false hdown))
  case tlsClosed => exact fun c s hconn => next_of_guard hconn
  case commit =>
    intro c x a s hcommits hready hpair
    show execSessionCommitComplete c s = _
    rw [execSessionCommitComplete, hcommits]
    exact next_of_guard (by simp [hready, hpair])
  case lockout => exact fun s hlocked hover => next_of_guard (by simp [hlocked, hover])

/-- Settles O41, from the parts of the state that `Instr.parts` says each command may change. A command named may change
anything; the authority is not among the parts of one not named first, the lifecycle, firmware and debug state not among those
of one not named second. -/
theorem authorityStateFrame : Obligations.AuthorityStateFrame := by
  refine ⟨fun c s t h => ?_, fun c s t h => ?_⟩
  · have hc := frame_of_exec h
    cases c
    all_goals try exact trivial
    all_goals
      dsimp only [Instr.parts] at hc
      exact hc.auth rfl
  · have hc := frame_of_exec h
    cases c
    all_goals try exact trivial
    all_goals
      dsimp only [Instr.parts] at hc
      exact hc.sec rfl

end Sys2Proof.Machine
end

section
/-! Bleeding, shuttles and quiet periods: the effect of the balancing commands. -/
namespace Sys2Proof.Machine

/-- A quiet period ends unfinished where the module's current leaves rest, and is then due again; a rest that lasts to its end
completes it (R288). -/
theorem quietPeriodEnd_of_quiet {e : Nat} {s : State} (hquiet : s.bal.quiet = some e) :
    exec .quietPeriodEnd s = .next (
      if s.reg Reg.EST_REST_REST_I * 1000 < s.iMag then { s with bal := { s.bal with quiet := none, again := true } }
      else if e ≤ s.turn then { s with bal := { s.bal with quiet := none, quietEnd := some s.turn } }
      else s) := by
  show execQuietPeriodEnd s = _
  rw [execQuietPeriodEnd, hquiet]

/-- Settles O10. Most commands have one guard, which the premises of the clause make true; QUIET_PERIOD_END and
BLEED_NONCONVERGENCE first find the period or the candidate they end, SHUTTLE_FAULT branches on the fault code. -/
theorem balanceCommandsComplete : Obligations.BalanceCommandsComplete := by
  refine ⟨?change, ?quietBroken, ?quietDone, ?dissipation, ?bleed, ?shuttleCurrent, ?shuttleSelector⟩
  case change => exact fun nn s hchanges hpast hdir => next_of_guard (by simp [hchanges, hpast, hdir])
  case quietBroken =>
    intro e s hquiet hcurrent
    rw [quietPeriodEnd_of_quiet hquiet]
    exact next_of_guard hcurrent
  case quietDone =>
    intro e s hquiet hrest hover
    rw [quietPeriodEnd_of_quiet hquiet, if_neg (by omega)]
    exact next_of_guard hover
  case dissipation => exact fun s hrun => next_of_guard hrun
  case bleed =>
    intro g c s hcand hlong
    show execBleedNonconvergence g s = _
    rw [execBleedNonconvergence, hcand]
    exact next_of_guard hlong
  case shuttleCurrent => exact fun nn s hbad => next_of_guard ⟨rfl, hbad⟩
  case shuttleSelector =>
    intro nn s hbad
    show execShuttleFault nn 0x0903 s = _
    rw [execShuttleFault, if_neg (by simp)]
    exact next_of_guard ⟨rfl, hbad⟩

end Sys2Proof.Machine
end

section
/-! The Governor and the dispatch envelope: the effect of their commands. -/
namespace Sys2Proof.Machine

/-- A slot in FAIL, or whose hold count has reached HOLDMAX, raises fault 0x0803 and shows FAIL; a slot that enters FAIL only
now also takes its FAIL output (R299). -/
theorem slotFail_of_due {n : Nat} {s : State} (hn : n < 8) (hon : s.slotOn n)
    (hdue : (s.slot n).fail = true ∨ s.reg (Reg.GOV_SLOT_CFG_HOLDMAX n) ≤ (s.slot n).hold)
    (hnew : s.present 0x0803 (subjNum n) = false) :
    exec (.slotFail n) s = .next (
      ((if (s.slot n).fail then s else s.setSlot n (s.slotFailed n (s.slot n).hold)).raiseLevel 0x0803 1
        (subjNum n) []).slotShow n false true) :=
  next_of_guard (by simp [hn, hon, hdue, hnew])

/-- Settles O11. Most commands have one guard, which the premises of the clause make true; ANALOG_RANGE_CHANGE,
RANGE_CHANGE_COMPLETE and SETPOINT_TIMEOUT first find the change of range or the setpoint they time, SLOT_FAIL then
branches on whether the slot is in FAIL already. -/
theorem governorCommandsComplete : Obligations.GovernorCommandsComplete := by
  refine ⟨?write, ?failEntered, ?failShown, ?failExit, ?readback, ?aout, ?actuator, ?rangeSwitch, ?rangeDone, ?setpoint,
    ?setpointLate, ?stale⟩
  case write => exact fun path off w s hgov hdeaf => next_of_guard (by simp [hgov, hdeaf])
  case failEntered =>
    intro n s hn hon hruns hlong hnew
    rw [slotFail_of_due hn hon (.inr hlong) hnew, hruns]
    rfl
  case failShown =>
    intro n s hn hon hfail hnew
    rw [slotFail_of_due hn hon (.inl hfail) hnew, hfail]
    rfl
  case failExit => exact fun n s hn hon hruns hraised => next_of_guard (by simp [hn, hon, hruns, hraised])
  case readback | aout => exact fun s hbad => next_of_guard hbad
  case actuator => exact fun k s hbad => next_of_guard hbad
  case rangeSwitch =>
    intro a s hchange hpast
    show execAnalogRangeChange s = _
    rw [execAnalogRangeChange, hchange]
    exact next_of_guard hpast
  case rangeDone =>
    intro a s hchange hpast
    show execRangeChangeComplete s = _
    rw [execRangeChangeComplete, hchange]
    exact next_of_guard hpast
  case setpoint => exact fun path w s hdeaf => congrArg _ (if_neg (ne_true_of_eq_false hdeaf))
  case setpointLate =>
    intro a s hwritten hon hlong hnew
    show execSetpointTimeout s = _
    rw [execSetpointTimeout, hwritten]
    exact next_of_guard (by simp [hon, hlong, hnew])
  case stale => exact fun s hmany hheld => next_of_guard (by simp [hmany, hheld])

end Sys2Proof.Machine
end

section
/-! Steps: that every command completes, that the queue runs in order, and what every step keeps. -/
namespace Sys2Proof.Machine

/-! ## The queue -/

/-- Settles O28, by the definition of a step. -/
theorem stepRunsFrontCommand : Obligations.StepRunsFrontCommand :=
  fun _ _ _ => rfl

theorem step_of_front {s : State} {c : Instr} {rest : List Instr} (h : s.pending = c :: rest) :
    step s = exec c { s with pending := rest } := by
  rw [step, h]

/-- Settles O29, by the definition of a step. -/
theorem emptyQueueIdles : Obligations.EmptyQueueIdles := by
  intro s hempty
  rw [step, hempty]

/-- Settles O30: a command answers the next state, and the queue is outside every frame. -/
theorem commandsCompleteAndKeepTheQueue : Obligations.CommandsCompleteAndKeepTheQueue :=
  fun c s => ⟨_, exec_next c s, (exec_frames c s).pending⟩

/-- A step with a command waiting answers a next state, whose queue has lost that command. -/
theorem step_takes_front {s : State} {c : Instr} {rest : List Instr} (h : s.pending = c :: rest) :
    ∃ t, step s = .next t ∧ t.pending = rest := by
  rw [step_of_front h]
  exact commandsCompleteAndKeepTheQueue c _

/-- A run of one more step is a step and the run from the state it answers. -/
theorem run_succ_of_next (M : Host.Core) (k : Nat) {s t : M.State} (h : M.step s = .next t) :
    M.run (k + 1) s = M.run k t := by
  rw [Host.Core.run, h]

/-- Settles O31, by induction on the number of steps: each takes the command in front. -/
theorem queueRunsInOrder : Obligations.QueueRunsInOrder := by
  intro s k
  induction k generalizing s with
  | zero => exact fun _ => ⟨s, rfl, rfl⟩
  | succ k ih =>
    intro hlen
    cases hqueue : s.pending with
    | nil => simp [hqueue] at hlen
    | cons c rest =>
      obtain ⟨u, hstep, hrest⟩ := step_takes_front hqueue
      have hwait : k ≤ u.pending.length := by simpa [hrest, hqueue] using hlen
      obtain ⟨t, hrun, hqt⟩ := ih u hwait
      exact ⟨t, (run_succ_of_next Sys2Proof.core k hstep).trans hrun, by rw [hqt, hrest, List.drop_succ_cons]⟩

/-! ## Invariants -/

/-- A property that does not speak of the queue, and that every frame keeps, is kept by every step. -/
theorem kept_by_step {p : State → Prop} (hqueue : ∀ s r, p s → p { s with pending := r })
    (hframe : ∀ {m s t}, Frame m s t → p s → p t) {s t : State} (hstep : step s = .next t) (h : p s) : p t := by
  rcases step_cases hstep with ⟨-, rfl⟩ | ⟨c, r, -, rfl⟩
  · exact h
  · exact hframe (exec_frames c _) (hqueue s r h)

/-- Settles O33: every frame keeps the canonical form of the memories. -/
theorem stepKeepsMemoriesCanonical : Obligations.StepKeepsMemoriesCanonical :=
  fun _ _ hwf hstep => kept_by_step (p := fun s => s.memoriesWf = true) (fun _ _ h => h) Frame.ramWf hstep hwf

/-- Settles O34: every frame keeps a retired module free of a lifecycle change that waits. -/
theorem stepKeepsRetirementSettled : Obligations.StepKeepsRetirementSettled :=
  fun _ _ hcalm hstep =>
    kept_by_step (p := fun s => s.sec.lc = lcRetired → s.sec.lcNext = none) (fun _ _ h => h) Frame.calm hstep hcalm

/-- Settles O35: every frame keeps a retired module with no lifecycle change waiting retired. -/
theorem retiredIsFinal : Obligations.RetiredIsFinal :=
  fun _ _ hcalm hstep hretired =>
    (kept_by_step (p := fun s => s.sec.lc = lcRetired ∧ s.sec.lcNext = none) (fun _ _ h => h) Frame.dead hstep
      ⟨hretired, hcalm hretired⟩).1

end Sys2Proof.Machine
end

section
/-! Frames: which commands change which parts of the state. Each proof reads off the frame of the command that the part of
a clause is not among those that `Instr.parts` says it may change; a command that the clause names may change anything. -/
namespace Sys2Proof.Machine

/-- Settles O37, for the sense banks, the check state, the current front end, the insulation monitor and the temperature
state. -/
theorem measurementStateFrame : Obligations.MeasurementStateFrame := by
  refine ⟨fun c s t h => have hkept := (frame_of_exec h).bnk; ?_,
    fun c s t h => have hkept := (frame_of_exec h).chk; ?_,
    fun c s t h => have hkept := (frame_of_exec h).cur; ?_,
    fun c s t h => have hkept := (frame_of_exec h).imd; ?_,
    fun c s t h => have hkept := (frame_of_exec h).thm; ?_⟩
  all_goals
    cases c
    all_goals try exact trivial
    all_goals
      dsimp only [Instr.parts] at hkept
      exact hkept rfl

/-- Settles O38, for the certified estimates, the model and impedance state, and the balancing state. -/
theorem estimationStateFrame : Obligations.EstimationStateFrame := by
  refine ⟨fun c s t h => have hkept := (frame_of_exec h).est; ?_,
    fun c s t h => have hkept := (frame_of_exec h).mdl; ?_,
    fun c s t h => have hkept := (frame_of_exec h).bal; ?_⟩
  all_goals
    cases c
    all_goals try exact trivial
    all_goals
      dsimp only [Instr.parts] at hkept
      exact hkept rfl

/-- Settles O39, for the Governor, the dispatch envelope, and the safety inputs with the telegram connections. -/
theorem outputStateFrame : Obligations.OutputStateFrame := by
  refine ⟨fun c s t h => have hkept := (frame_of_exec h).gov; ?_,
    fun c s t h => have hkept := (frame_of_exec h).env; ?_,
    fun c s t h => have hkept := (frame_of_exec h).sio; ?_⟩
  all_goals
    cases c
    all_goals try exact trivial
    all_goals
      dsimp only [Instr.parts] at hkept
      exact hkept rfl

/-- Settles O40, for the Ethernet ports, the time base with the timed pulses, and the CAN controllers. -/
theorem portStateFrame : Obligations.PortStateFrame := by
  refine ⟨fun c s t h => have hkept := (frame_of_exec h).net; ?_,
    fun c s t h => have hkept := (frame_of_exec h).tim; ?_,
    fun c s t h => have hkept := (frame_of_exec h).can; ?_⟩
  all_goals
    cases c
    all_goals try exact trivial
    all_goals
      dsimp only [Instr.parts] at hkept
      exact hkept rfl

/-- Settles O42, for the power and reset state, and the strike number with the state of the turn monitor. -/
theorem powerStateFrame : Obligations.PowerStateFrame := by
  refine ⟨fun c s t h => have hkept := (frame_of_exec h).pwr; ?_,
    fun c s t h => have hkept := (frame_of_exec h).sys; ?_⟩
  all_goals
    cases c
    all_goals try exact trivial
    all_goals
      dsimp only [Instr.parts] at hkept
      exact hkept rfl

/-- Settles O43, for the host interface, the latched words, and the words that reads returned. -/
theorem hostStateFrame : Obligations.HostStateFrame := by
  refine ⟨fun c s t h => have hkept := (frame_of_exec h).hif; ?_,
    fun c s t h => have hkept := (frame_of_exec h).latch; ?_,
    fun c s t h => have hkept := (frame_of_exec h).readData; ?_⟩
  all_goals
    cases c
    all_goals try exact trivial
    all_goals
      dsimp only [Instr.parts] at hkept
      exact hkept rfl

/-- Memories that are left as a whole read as before at every address. -/
theorem memoryKept_of_ram {s t : State} (h : t.ram = s.ram) (p : Nat → Nat → Prop) : s.memoryKept t p := by
  intro k a _
  rw [State.memory, State.memory, h]

/-- Settles O45: the memories are not among the parts of a command not named. -/
theorem memoryBytesFrame : Obligations.MemoryBytesFrame := by
  intro c s t h
  have hkept := (frame_of_exec h).ram
  cases c
  all_goals try exact trivial
  all_goals
    dsimp only [Instr.parts] at hkept
    exact memoryKept_of_ram (hkept rfl) _

end Sys2Proof.Machine
end

section
/-! The Millpond: the effect of its commands. -/
namespace Sys2Proof.Machine

/-- Settles O12. READER_OVERRUN first finds the reader it moves, by a premise of the clause, and branches on the kind of a
flume; MILLPOND_READY finds no cartridge; the guards then hold by the other premises. -/
theorem millpondCommandsComplete : Obligations.MillpondCommandsComplete := by
  refine ⟨?hopper, ?flume, ?capture, ?scrub, ?ready⟩
  case hopper =>
    intro f s hnext hon hlag
    show execReaderOverrun none s = _
    rw [execReaderOverrun, hnext]
    exact next_of_guard (by simp [hon, hlag])
  case flume =>
    intro fn r f s hflume hlag hwhole hkind
    show execReaderOverrun (some (fn, r)) s = _
    rw [execReaderOverrun]
    dsimp only
    rw [hflume]
    dsimp only
    rw [if_pos (by simp [hlag, hwhole]), if_neg hkind]
  case capture =>
    intro fn r f s hflume hlag hwhole hkind hbuf
    show execReaderOverrun (some (fn, r)) s = _
    rw [execReaderOverrun]
    dsimp only
    rw [hflume]
    dsimp only
    rw [if_pos (by simp [hlag, hwhole]), if_pos hkind, if_neg (by simp [hbuf])]
  case scrub => exact fun e s hready hlong => next_of_guard (by simp [hready, hlong])
  case ready =>
    intro readA readB s hcore hbooted hnew ha hb
    show execMillpondReady readA readB s = _
    rw [execMillpondReady, if_pos (by simp [hcore, hbooted, hnew])]
    extract_lets _ _ s1 found
    have habsent : ∀ k b, (s1.hopSlot k).cart = none → found k b s1 = s1 := by
      intro k b hnone
      simp only [found, hnone]
    rw [habsent 0 readA ha, habsent 1 readB hb]

end Sys2Proof.Machine
end

section
/-! The host interface: the effect of the commands of the link, the functions and the rings. -/
namespace Sys2Proof.Machine

/-! ## The link and its functions -/

/-- Settles O13. Most commands have one guard, which the premises of the clause make true; FUNCTION_LEVEL_RESET and
FUNCTION_POWER_CHANGE then branch on the function and on its suspension, HELD_ENTRY_FLUSH first finds the entry and its ring.
-/
theorem hostFunctionCommandsComplete : Obligations.HostFunctionCommandsComplete := by
  refine ⟨?linkUp, ?linkDown, ?perst, ?perstEnd, ?flrPf, ?flrVf, ?suspends, ?resumes, ?flush, ?holdLate, ?turnOff, ?resend,
    ?vfs, ?unmask, ?rctBase, ?priv, ?cellRead, ?cellDone⟩
  case linkUp =>
    intro gen width s hdom hperst hdown hlo hhi hwidth hmax hfns
    show execLinkUp gen width s = _
    rw [execLinkUp, if_pos (by simp [hdom, hperst, hdown, hlo, hhi, hwidth, hmax])]
    extract_lets s1 _ s2
    have hnone : s2.hif.fns = [] := (congrArg HostState.fns (setFields_hif _ s.quiet)).trans hfns
    rw [hnone]
    rfl
  case linkDown => exact fun s hup => next_of_guard hup
  case perst =>
    intro s hoff hup
    show execPerstAssert s = _
    rw [execPerstAssert, if_neg (by simp [hoff])]
    dsimp only
    rw [if_pos hup]
  case perstEnd => exact fun s => rfl
  case flrPf =>
    intro s hup
    show execFunctionLevelReset 0 s = _
    rw [execFunctionLevelReset, if_pos (by simp [State.fnExists, hup])]
    rfl
  case flrVf =>
    intro fn s hexists hvf hup
    show execFunctionLevelReset fn s = _
    rw [execFunctionLevelReset, if_pos (by simp [hexists, hup]), if_neg hvf]
  case suspends =>
    intro fn d0 bme pmeEn clear s hexists hup hsusp
    show execFunctionPowerChange fn d0 bme pmeEn clear s = _
    rw [execFunctionPowerChange, if_pos (by simp [hexists, hup])]
    exact next_of_guard hsusp
  case resumes =>
    intro fn d0 bme pmeEn clear s hexists hup hruns hwas
    show execFunctionPowerChange fn d0 bme pmeEn clear s = _
    rw [execFunctionPowerChange, if_pos (by simp [hexists, hup])]
    dsimp only
    rw [if_neg (ne_true_of_eq_false hruns), if_pos hwas]
  case flush =>
    intro fn e x s hruns hon happs hheld hring hwritable hctx
    show execHeldEntryFlush fn s = _
    rw [execHeldEntryFlush, if_pos (by simp [hruns, hon, happs]), hheld]
    dsimp only
    rw [hring]
    dsimp only
    rw [if_pos hwritable, if_pos hctx]
  case holdLate =>
    intro fn s hruns hlong hhomeless
    exact next_of_guard (by rw [hruns, decide_eq_true hlong, hhomeless]; rfl)
  case turnOff => exact fun s hup hon => next_of_guard (by simp [hup, hon])
  case resend =>
    exact fun fn s hstatus hen hsusp hup hon hlong => next_of_guard (by simp [hstatus, hen, hsusp, hup, hon, hlong])
  case vfs => exact fun n ari s hup hn => next_of_guard (by simp [hup, hn])
  case unmask => exact fun fn enable unmasked s hexists hup => next_of_guard (by simp [hexists, hup])
  case rctBase =>
    intro fn hi w s hreached hnone
    show execRctBaseWrite fn hi w s = _
    rw [execRctBaseWrite, if_pos hreached, if_pos (by simp [hnone])]
  case priv =>
    intro path n w s hvf hn hdeaf hdispatch
    show execPrivWrite path n w s = _
    rw [execPrivWrite, if_pos (by simp [hvf, hn, hdeaf])]
    exact congrArg _ (if_neg (by simp [hdispatch]))
  case cellRead => exact fun path w s hdeaf => congrArg _ (if_neg (ne_true_of_eq_false hdeaf))
  case cellDone => exact fun data s hbusy => next_of_guard hbusy

/-! ## Rings -/

/-- Settles O14. Each command first finds its ring, by a premise of the clause; the guards then hold by the other premises.
RING_LOAD and RING_UNLOAD check the operation before the ring. -/
theorem ringCommandsComplete : Obligations.RingCommandsComplete := by
  refine ⟨?load, ?unloadLate, ?unload, ?doorbellLo, ?doorbellHi, ?doorbellRead, ?writeEntry, ?writeOverflow, ?modtime,
    ?readLate⟩
  case load =>
    intro fn r ctx fresh u s hreached hr hu hidle hfresh hgood
    show execRingLoad fn r ctx s = _
    rw [execRingLoad, if_pos (by simp [hreached, hr])]
    dsimp only
    rw [hu, if_neg (ne_true_of_eq_false hidle), hfresh, hgood]
    rfl
  case unloadLate =>
    intro fn r x a s hring hunloading hlong
    show execRingUnload fn r true s = _
    rw [execRingUnload, if_pos rfl, hring]
    dsimp only
    rw [hunloading]
    exact next_of_guard hlong
  case unload =>
    intro fn r x s hreached hr hidle hruns hring hunpaired
    show execRingUnload fn r false s = _
    rw [execRingUnload, if_neg (by simp), if_pos (by simp [hreached, hr])]
    dsimp only
    rw [quiet_flag, quiet_suspended, quiet_ring, quiet_ringsOf, if_neg (ne_true_of_eq_false hidle),
      if_neg (ne_true_of_eq_false hruns), hring]
    exact congrArg _ (if_neg (ne_true_of_eq_false hunpaired))
  case doorbellLo =>
    intro fn r lo x s hreached hr hring hgood
    show execDoorbell fn r (some lo) none s = _
    rw [execDoorbell]
    dsimp only
    rw [if_pos (by simp [hreached, hr]), hring]
    exact congrArg _ (if_neg (by simp [hgood]))
  case doorbellHi =>
    intro fn r lo hi x s hreached hr hring hhi hgood
    show execDoorbell fn r (some lo) (some hi) s = _
    rw [execDoorbell]
    dsimp only
    rw [if_pos (by simp [hreached, hr]), hring]
    exact congrArg _ (if_neg (by simp [hgood, hhi]))
  case doorbellRead =>
    intro fn r x s hreached hr hring
    show execDoorbell fn r none none s = _
    rw [execDoorbell]
    rw [if_pos (by simp [hreached, hr]), hring]
  case writeEntry =>
    intro fn r x e s hring hwritable hruns hon happs hnext hctx
    show execEntryWrite fn r s = _
    rw [execEntryWrite, hring]
    dsimp only
    rw [if_pos (by simp [hwritable, hruns, hon, happs]), hnext]
    exact next_of_guard hctx
  case writeOverflow =>
    intro fn r x s hring hwritable hruns hon happs hnext hdrop hctx
    show execEntryWrite fn r s = _
    rw [execEntryWrite, hring]
    dsimp only
    rw [if_pos (by simp [hwritable, hruns, hon, happs]), hnext]
    dsimp only
    rw [if_neg hdrop]
    exact next_of_guard hctx
  case modtime =>
    intro fn r x a s hring hfirst hien harmed htime hkind hlong hup
    show execModtimeExpiry fn r s = _
    rw [execModtimeExpiry, hring]
    dsimp only
    rw [hfirst]
    exact next_of_guard (by simp [hien, harmed, htime, hkind, hlong, hup])
  case readLate =>
    intro fn r x s hring hgood hwaits
    show execHostReadTimeout fn r s = _
    rw [execHostReadTimeout, hring]
    exact next_of_guard (by simpa [hgood] using hwaits)

end Sys2Proof.Machine
end

section
/-! The command catalogue: the checks that every command shares, and the effect of the commands of a command ring. -/
namespace Sys2Proof.Machine

/-! ## What every command has in common -/

/-- A command that its sender may not give completes with PRIV. -/
theorem serve_of_not_admitted {k : CmdSpec} {x : CmdCtx} {s : State} (h : s.admits k x = false) :
    s.serve k x = s.complete x.ref (.no stPriv) := by
  rw [State.serve, if_pos (by simp [h])]

/-- A command that the power state does not allow completes with STATE. -/
theorem serve_of_wrong_state {k : CmdSpec} {x : CmdCtx} {s : State} (hadmits : s.admits k x = true)
    (hstate : (k.states x).contains s.power = false) : s.serve k x = s.complete x.ref (.no stState) := by
  rw [State.serve, if_neg (by simp [hadmits]), if_pos (by simp only [hstate, Bool.not_false, Bool.true_or])]

/-- Settles O60: the privilege is checked first, the power state second. -/
theorem commandChecksAnswer : Obligations.CommandChecksAnswer :=
  fun _ _ _ => ⟨serve_of_not_admitted, serve_of_wrong_state⟩

section
variable {k : CmdSpec} {c : CmdIn} {s u t : State} {x : CmdCtx} (hacc : s.accepts k c = true)
  (hfetch : s.fetched k c = (u, x))
include hacc

/-- An accepted entry carries the opcode of its row. -/
theorem opcode_of_accepted : leAt c.entry 0 2 = k.opc := by
  simp only [State.accepts, Bool.and_eq_true, beq_iff_eq] at hacc
  tauto

include hfetch

/-- An accepted command that its row carries out and answers completes with the answer. -/
theorem command_answered {y : Reply} (hrun : k.run x u = (t, some y)) :
    (.next (s.command k c) : Host.Outcome State Fault Refusal) = .next (t.complete x.ref y) := by
  rw [State.command_accepted hacc hfetch, hrun]

/-- An accepted command that its row defers leaves the state of the row. -/
theorem command_deferred (hrun : k.run x u = (t, none)) :
    (.next (s.command k c) : Host.Outcome State Fault Refusal) = .next t := by
  rw [State.command_accepted hacc hfetch, hrun]

end

/-- An action in a session with room in the change log is done, logged, and counts as activity. -/
theorem sessionAct_of_room {y : Session} {s : State} (h : s.clogRoom y) (e : ClogFields) (act : State → State) (r : Nat) :
    s.sessionAct y e act r = (((act s).clogWrite e).sessionTouch, .ok r) :=
  if_pos h

/-- A command that acts in the open session of its path. -/
theorem inSession_of_open {x : CmdCtx} {s : State} {y : Session} (h : s.sessionOf x.path = some y)
    (f : Session → State → State × Reply) : inSession f x s = ((f y s).1, some (f y s).2) := by
  rw [inSession, h]

/-! ## Reads, captures, snapshots, restores and flumes -/

/-- Settles O15. Every clause is the run of the row of its command (`command_answered`, `command_deferred`), whose argument
checks pass by the premises of the clause. -/
theorem dataCommandsComplete : Obligations.DataCommandsComplete := by
  refine ⟨?nop, ?setpoint, ?hostInput, ?capture, ?snapCert, ?snapModel, ?restoreCert, ?restoreModel, ?modelStart, ?flumeOpen,
    ?flumeClose, ?flumeStat, ?cellRefresh⟩
  case nop =>
    intro c s u x hacc hfetch
    show execNopCmd c s = _
    rw [execNopCmd, if_pos (by rw [opcode_of_accepted hacc]; rfl)]
    exact command_answered hacc hfetch rfl
  case setpoint => exact fun c s u x hacc hfetch => command_answered hacc hfetch rfl
  case hostInput =>
    intro c s u x l hacc hfetch hsel hsome hroom
    refine command_answered hacc hfetch ?_
    dsimp only [cmdHostInput]
    rw [hsel, if_neg hsome, if_neg (by omega)]
  case capture => exact fun c s u x hacc hfetch => command_answered hacc hfetch rfl
  case snapCert =>
    intro c s u x n hacc hfetch hbuf hsup
    refine command_deferred hacc hfetch ?_
    dsimp only [cmdSnapCert]
    rw [if_neg (by simp [hbuf]), hsup]
  case snapModel =>
    intro c s u x hacc hfetch hbuf hstep
    refine command_answered hacc hfetch ?_
    dsimp only [cmdSnapModel]
    rw [if_neg (by simp [hbuf]), if_neg hstep]
  case restoreCert | restoreModel =>
    intro c s u x l hacc hfetch haligned hlen hdata
    refine command_answered hacc hfetch ?_
    dsimp only [cmdRestoreCert, cmdRestoreModel, restoreRun, CmdCtx.read]
    rw [if_neg (by simp [haligned, hlen]), hdata]
  case modelStart =>
    intro c s u x w hacc hfetch hkind hvalues hall hok
    refine command_answered hacc hfetch ?_
    dsimp only [cmdModelStart]
    rw [hvalues, if_neg (by simp [hall, hok, hkind])]
  case flumeOpen =>
    intro c s u x f hacc hfetch hargs hwindow hnew hroom
    refine command_answered hacc hfetch ?_
    dsimp only [cmdFlumeOpen]
    rw [if_neg (by simp [hargs]), hwindow, hnew]
    dsimp only
    rw [if_neg (by simp), if_neg (by omega)]
  case flumeClose =>
    intro c s u x f hacc hfetch hflume hr
    refine command_answered hacc hfetch ?_
    dsimp only [cmdFlumeClose]
    rw [hflume]
    dsimp only
    rw [if_neg (by omega)]
  case flumeStat =>
    intro c s u x f hacc hfetch hflume
    refine command_answered hacc hfetch ?_
    dsimp only [cmdFlumeStat]
    rw [hflume]
  case cellRefresh =>
    intro c s u x l hacc hfetch hsome hrange hidle hdata
    refine command_answered hacc hfetch ?_
    dsimp only [cmdCellRefresh]
    rw [if_neg (by omega), if_neg (ne_true_of_eq_false hidle), hdata]

/-! ## Requests to Sluice and to the configuration authority -/

/-- Settles O16. A request to Sluice is deferred; a command of the authority acts in the session of its path, which the
clause says is open and has room in the change log. -/
theorem requestCommandsComplete : Obligations.RequestCommandsComplete := by
  refine ⟨?connect, ?openString, ?reset, ?sessionOpen, ?sessionClose, ?password, ?key, ?weld, ?roll, ?table⟩
  case connect | reset | sessionClose => exact fun c s u x hacc hfetch => command_deferred hacc hfetch rfl
  case openString =>
    intro c s u x hacc hfetch hactive
    refine command_deferred hacc hfetch ?_
    dsimp only [cmdOpen]
    rw [if_neg (ne_true_of_eq_false hactive)]
  case sessionOpen =>
    intro c s u x hacc hfetch hform hmay hright
    refine command_answered hacc hfetch ?_
    dsimp only [cmdSessionOpen]
    rw [State.sessionOpen, if_neg (by simp [hform]), if_neg (by simp [hmay]), if_pos hright]
  case password =>
    intro c s u x y hacc hfetch hopen hform hroom
    refine command_answered hacc hfetch ?_
    dsimp only [cmdPasswordSet]
    rw [inSession_of_open hopen, State.passwordStage, if_neg (by simp [hform]), sessionAct_of_room hroom]
  case key =>
    intro c s u x y hacc hfetch hopen hroom
    refine command_answered hacc hfetch ?_
    dsimp only [cmdKeySet]
    rw [inSession_of_open hopen, State.keyStage, sessionAct_of_room hroom]
  case weld =>
    intro c s u x y hacc hfetch hopen hroom
    refine command_answered hacc hfetch ?_
    dsimp only [cmdWeldClear]
    rw [inSession_of_open hopen, State.weldClear, sessionAct_of_room hroom]
  case roll => exact fun c s u x y hacc hfetch hopen => command_answered hacc hfetch (inSession_of_open hopen _)
  case table =>
    intro c s u x l y hacc hfetch hkind hslot hlen haligned hdata hgood hopen hroom
    refine command_answered hacc hfetch ?_
    have hargs : ([1, 2, 3].contains (x.arg 8 1) && decide (x.arg 9 1 < (if x.arg 8 1 = 2 then 4 else 8))
        && tableLen (x.arg 8 1) (x.arg 12 4) && (x.ref.svc.isSome || x.arg 16 8 % 4096 == 0)) = true := by
      simp only [hkind, decide_eq_true hslot, hlen, Bool.true_and, Bool.or_eq_true, beq_iff_eq, haligned]
    dsimp only [cmdTableLoad, CmdCtx.read]
    rw [if_neg (by rw [hargs]; decide), hdata]
    dsimp only
    rw [hgood]
    dsimp only
    rw [inSession_of_open hopen, State.tableStage, sessionAct_of_room hroom]

/-! ## Commands to the event log, the Hoppers and the firmware -/

/-- Settles O17. Every clause is the run of the row of its command, whose checks pass by the premises of the clause. -/
theorem recordCommandsComplete : Obligations.RecordCommandsComplete := by
  refine ⟨?mark, ?freeze, ?release, ?releaseIdle, ?clear, ?eject, ?takeBack, ?stage, ?activate⟩
  case mark => exact fun c s u x hacc hfetch => command_answered hacc hfetch rfl
  case freeze =>
    intro c s u x hacc hfetch hthawed
    refine command_answered hacc hfetch ?_
    dsimp only [cmdEvlogFreeze]
    rw [if_neg (ne_true_of_eq_false hthawed)]
  case release => exact fun c s u x hacc hfetch hfrozen => command_answered hacc hfetch (if_pos hfrozen)
  case releaseIdle =>
    exact fun c s u x hacc hfetch hthawed => command_answered hacc hfetch (if_neg (ne_true_of_eq_false hthawed))
  case clear =>
    intro c s u x e hacc hfetch hthawed hlast hseq hcrc
    refine command_answered hacc hfetch ?_
    dsimp only [cmdEvlogClear]
    rw [if_neg (ne_true_of_eq_false hthawed), hlast]
    exact if_pos ⟨hseq, hcrc⟩
  case eject =>
    intro c s u x hacc hfetch hslot hfailed hidle hforce
    refine command_deferred hacc hfetch ?_
    have hbit : bitAt (x.arg 8 1) 1 = true := by simp only [bitAt, beq_iff_eq]; omega
    have hstill : u.hopWriting (x.arg 8 1 % 2) = false := by rw [State.hopWriting, hfailed]; rfl
    dsimp only [cmdHopEject]
    rw [if_neg (by omega), if_neg (by rw [hfailed, hidle]; decide), if_neg (by simp [hbit]),
      if_neg (ne_true_of_eq_false hstill)]
  case takeBack =>
    intro c s u x hacc hfetch hslot hwaits hown
    refine command_answered hacc hfetch ?_
    have hstate : (u.hopState (x.arg 8 1 % 2) != hsPending && u.hopState (x.arg 8 1 % 2) != hsEjected) = false := by
      rcases hwaits with h | h <;> rw [h] <;> rfl
    dsimp only [cmdHopAdmit]
    rw [if_neg (by omega), if_neg (ne_true_of_eq_false hstate), if_neg (by rcases hown with h | h <;> simp [h])]
  case stage =>
    intro c s u x l hacc hfetch hmin hmax hwords hlive hidle hdata
    have hrun : cmdFwStage.run x u = u.fwStageRun x (l.take (x.arg 16 4)) := by
      dsimp only [cmdFwStage, CmdCtx.read]
      rw [if_neg (by omega), if_neg hlive, if_neg (ne_true_of_eq_false hidle), hdata]
    have hserved := State.command_accepted hacc hfetch
    rw [hrun] at hserved
    exact congrArg _ hserved
  case activate =>
    intro c s u x i hacc hfetch hmask hidle hstaged hsession hcommit htoken hpow hclock
    refine command_answered hacc hfetch ?_
    dsimp only [cmdFwActivate]
    rw [hmask, if_neg (by decide), if_neg (ne_true_of_eq_false hidle), hstaged]
    dsimp only
    rw [if_pos rfl, State.fwWhole, if_neg (by simp [hsession, hcommit]), if_neg (by simp [htoken])]
    dsimp only
    rw [if_neg hpow, if_pos hclock]

end Sys2Proof.Machine
end

section
/-! The event log: the record that is lost, and the effect of the commands of the log. -/
namespace Sys2Proof.Machine

/-! ## Lost records -/

theorem sat_le (top n : Nat) : sat top n ≤ top := by
  unfold sat
  split <;> omega

/-- A field that saturates reads the sum, or its largest value. -/
theorem reg_addSat_self (s : State) (f : Field) (n : Nat) :
    (s.addSat f n).reg f = sat (2 ^ f.width - 1) (s.reg f + n) := by
  have hle := sat_le (2 ^ f.width - 1) (s.reg f + n)
  have hpos := Nat.two_pow_pos f.width
  rw [State.addSat, reg_setReg_self, Nat.mod_eq_of_lt (by omega)]

theorem reg_addSat_other (s : State) {f g : Field} (n : Nat) (h : f.key ≠ g.key) : (s.addSat f n).reg g = s.reg g :=
  reg_setReg_other s f g _ h

/-- A lost record is counted, and the count saturates. -/
theorem loseRecord_count (s : State) (r : EvRec) :
    (s.loseRecord r).reg Reg.EVL_LOST_COUNT
      = sat (2 ^ Reg.EVL_LOST_COUNT.width - 1) (s.reg Reg.EVL_LOST_COUNT + 1) := by
  rw [State.loseRecord, reg_addSat_self]
  split
  · rw [reg_setReg_other _ _ _ _ (by decide), reg_setReg_other _ _ _ _ (by decide), reg_setReg_other _ _ _ _ (by decide)]
  · rfl

/-- The first lost record leaves its code. -/
theorem loseRecord_code {s : State} (r : EvRec) (h : s.reg Reg.EVL_LOST_COUNT = 0) :
    (s.loseRecord r).reg Reg.EVL_LOST_CODE = r.code % 2 ^ Reg.EVL_LOST_CODE.width := by
  rw [State.loseRecord, if_pos h, reg_addSat_other _ _ (by decide), reg_setReg_other _ _ _ _ (by decide),
    reg_setReg_other _ _ _ _ (by decide), reg_setReg_self]

/-- Losing a record writes registers only. -/
theorem loseRecord_evl (s : State) (r : EvRec) : (s.loseRecord r).evl = s.evl := by
  unfold State.loseRecord
  rw [addSat_evl]
  split <;> rfl

theorem record_of_not_foldable {s : State} {r : EvRec} (h : r.foldable = false) : s.record r = s.enqueue r := by
  rw [State.record, if_neg (by simp [h])]

theorem enqueue_of_full {s : State} {r : EvRec} (h : 1024 ≤ s.evl.queue.length) :
    s.enqueue r = { s.loseRecord r with evl := { (s.loseRecord r).evl with lostDue := true } } := by
  rw [State.enqueue, if_neg (by omega)]

/-- Settles O52: the record is queued as it is, and a full queue loses it. -/
theorem fullQueueLosesTheRecord : Obligations.FullQueueLosesTheRecord := by
  rintro r s t hplain hfull rfl
  rw [record_of_not_foldable hplain, enqueue_of_full hfull]
  refine ⟨?_, ?_, rfl, loseRecord_count s r, loseRecord_code r⟩
  · show (s.loseRecord r).evl.queue = _
    rw [loseRecord_evl]
  · show (s.loseRecord r).evl.slots = _
    rw [loseRecord_evl]

/-! ## The commands of the log -/

/-- Settles O20. EVENT_RECORD_COMMIT and FOLD_CLOSE first find the record or the fold they take. -/
theorem eventLogCommandsComplete : Obligations.EventLogCommandsComplete := by
  refine ⟨?commit, ?fold, ?thaw⟩
  case commit =>
    intro s hwaits hcore
    obtain ⟨r, q, hqueue⟩ := List.exists_cons_of_ne_nil hwaits
    show execEventRecordCommit s = _
    rw [execEventRecordCommit, hqueue]
    exact next_of_guard hcore
  case fold =>
    intro f s hfold hcore
    show execFoldClose s = _
    rw [execFoldClose, hfold]
    exact next_of_guard hcore
  case thaw => exact fun s hfrozen hlong => next_of_guard (by simp [hfrozen, hlong])

end Sys2Proof.Machine
end

section
/-! Flumes, the hardware clock and register accesses: the effect of their commands. -/
namespace Sys2Proof.Machine

/-! ## Flumes -/

/-- Settles O18. Each command first finds the flume of its ring, which the premises give. -/
theorem flumeCommandsComplete : Obligations.FlumeCommandsComplete := by
  refine ⟨?record, ?flush, ?last⟩
  case record =>
    intro fn r desc e bad f x s hflume hbuf hrest
    show execFlumeRecord fn r desc e bad s = _
    rw [execFlumeRecord, hflume]
    dsimp only
    rw [if_neg (hrest ·.1), if_pos hbuf]
  case flush =>
    intro fn r f x s hflume hbuf hfill hflush hlong
    show execFlumeFlush fn r s = _
    rw [execFlumeFlush, hflume]
    exact next_of_guard (by simp [hbuf, hfill, hflush, hlong])
  case last =>
    intro fn r desc f x s hflume hover hbuf
    show execFlumeEnd fn r desc s = _
    rw [execFlumeEnd, hflume]
    dsimp only
    rw [if_pos hover, if_pos hbuf]

/-! ## The Ethernet ports, the hardware clock, trigger outputs and capture inputs -/

/-- A live port classes what it receives: a frame of a class is passed on, any other is dropped and counted (R457). -/
theorem ethFrameReceive_of_live {port : Nat} {s : State} (hlive : s.portLive port) (f : FrameIn) :
    exec (.ethFrameReceive port f) s = .next (
      let s0 := { s with net := { s.net with passed := none } }
      match s0.frameClass port f with
      | some c => s0.passFrame port c f
      | none => s0.addSat (Reg.NET_DROP_FILT port) 1) :=
  next_of_guard hlive

/-- The wait ends without an offset: the clock is set from the AON counter while its reading is valid (R462). -/
theorem acqWaitExpiry_of_unset {s : State} (hnet : s.flag Reg.PWR_DOM_NET) (hunset : s.clockSet = false) (aon : Nat) :
    exec (.acqWaitExpiry aon) s = .next (
      let age := aon / 1000000000 - s.tim.aonSec
      if s.aonValidAt age then (s.setClock aon age 1 tmTod).note 0x0D01 subjNone []
      else (s.setClock 0 age 0 tmFree).raise 0x0D02 1 subjNone []) :=
  next_of_guard (by simp [hnet, hunset])

/-- Settles O21. Most commands have one guard, which the premises of the clause make true; ETH_FRAME_RECEIVE,
ETH_LINK_CHANGE, ACQ_WAIT_EXPIRY, PTP_SYNC and TTO_ARM then branch on what they find. -/
theorem clockCommandsComplete : Obligations.ClockCommandsComplete := by
  refine ⟨?frame, ?frameDropped, ?linkUp, ?linkDown, ?acqValid, ?acqFree, ?announce, ?syncSteers, ?syncSets, ?lost,
    ?holdover, ?client, ?arm, ?pulse, ?edge, ?read, ?interval⟩
  case frame =>
    intro port f c s hlive hclass
    rw [ethFrameReceive_of_live hlive]
    dsimp only
    rw [hclass]
  case frameDropped =>
    intro port f s hlive hclass
    rw [ethFrameReceive_of_live hlive]
    dsimp only
    rw [hclass]
  case linkUp =>
    intro port g1 s hport hnet hdown hen hspeed
    show execEthLinkChange port true g1 s = _
    rw [execEthLinkChange, if_pos (by simp [hport, hnet, hdown]), if_pos rfl, if_pos (by simp [hen, hspeed])]
  case linkDown =>
    intro port g1 s hport hnet hup
    show execEthLinkChange port false g1 s = _
    rw [execEthLinkChange, if_pos (by simp [hport, hnet, hup]), if_neg Bool.false_ne_true]
  case acqValid =>
    intro aon s hnet hunset hvalid
    rw [acqWaitExpiry_of_unset hnet hunset]
    exact next_of_guard hvalid
  case acqFree =>
    intro aon s hnet hunset hinvalid
    rw [acqWaitExpiry_of_unset hnet hunset]
    exact congrArg _ (if_neg (ne_true_of_eq_false hinvalid))
  case announce =>
    intro a s hptp hdeaf happs hdomain hsdo hsender
    exact next_of_guard (by simp [hptp, hdeaf, happs, hdomain, hsdo, hsender])
  case syncSteers =>
    intro x s hptp hdeaf happs hsel hset
    show execPtpSync x s = _
    rw [execPtpSync, if_pos (by simp [hptp, hdeaf, happs, hsel])]
    exact next_of_guard hset
  case syncSets =>
    intro x s hptp hdeaf happs hsel hunset
    show execPtpSync x s = _
    rw [execPtpSync, if_pos (by simp [hptp, hdeaf, happs, hsel])]
    exact congrArg _ (if_neg (ne_true_of_eq_false hunset))
  case lost =>
    intro m s hsel hlong hunset
    show execMasterLost s = _
    rw [execMasterLost, hsel]
    dsimp only
    rw [if_pos (by simp [hlong]), if_neg (ne_true_of_eq_false hunset)]
  case holdover => exact fun s hstate hlong => next_of_guard (by simp [hstate, hlong])
  case client => exact fun fn w s hreached hbit => next_of_guard (by simp [hreached, hbit])
  case arm =>
    intro path k w s hk hbit hdeaf hlegal hruns hidle
    show execTtoArm path k w s = _
    rw [execTtoArm, if_pos (by simp [hk, hbit, hdeaf])]
    dsimp only
    rw [if_neg (by simp [hlegal]), if_neg (by simp [hruns]), if_neg (by simp [hidle])]
  case pulse => exact fun k p s hk hruns hset harmed hdue => next_of_guard (by simp [hk, hruns, hset, harmed, hdue])
  case edge =>
    exact fun n rising part s hn hpart hruns hset hlater => next_of_guard (by simp [hn, hpart, hruns, hset, hlater])
  case read =>
    intro path n a b q s hn hcore hqueue
    show execTciRead path n s = _
    rw [execTciRead, if_pos (by simp [hn, hcore]), hqueue]
    rfl
  case interval =>
    intro k a s hpend hk hruns htmo hlong
    show execIntervalTimeout k s = _
    rw [execIntervalTimeout, hpend]
    exact next_of_guard (by simp [hk, hruns, htmo, hlong])

/-! ## Register accesses and the service connections -/

/-- An access of words by a path that is there has no other effect than to be carried out. -/
theorem registerWrite_of_there {path : Path} {s : State} (hthere : s.pathThere path) (hdeaf : s.deaf = false)
    (off size : Nat) (w : BitVec 64) :
    exec (.registerWrite path off size w) s = .next (
      let lo := BitVec.ofNat 32 w.toNat
      let hi := BitVec.ofNat 32 (w.toNat / 2 ^ 32)
      if size = 4 ∧ off % 4 = 0 then s.quiet.pathWrite path off lo
      else if size = 8 ∧ off % 4 = 0 then (s.quiet.pathWrite path off lo).pathWrite path (off + 4) hi
      else s.hifFault path.fn 0 0x0B0C) :=
  next_of_guard (by simp [hthere, hdeaf])

/-- A message that is well formed, on an open connection, is carried out, and the connection is not idle (R562). -/
theorem onMessage_of_ok {c : Nat} {x : SvcConn} {ok : Bool} {s : State} (hconn : s.svcConn? c = some x)
    (happs : s.appsRun) (hok : ok) (f : SvcConn → State → State) :
    s.onMessage c ok f =
      f x { s.quiet with hif := { s.quiet.hif with conns := s.hif.conns.put c { x with lastAt := s.now } } } := by
  rw [State.onMessage, hconn]
  dsimp only
  rw [if_neg (by simp [happs]), if_pos hok]

/-- Settles O27. A message on a connection is `onMessage_of_ok` and the effect of its type. -/
theorem registerCommandsComplete : Obligations.RegisterCommandsComplete := by
  refine ⟨?read, ?write, ?writeTwo, ?connect, ?regRead, ?regWrite, ?command, ?idle⟩
  case read => exact fun path off s hthere => next_of_guard hthere
  case write =>
    intro path off w s hthere hdeaf haligned
    rw [registerWrite_of_there hthere hdeaf]
    exact next_of_guard ⟨rfl, haligned⟩
  case writeTwo =>
    intro path off w s hthere hdeaf haligned
    rw [registerWrite_of_there hthere hdeaf]
    dsimp only
    rw [if_neg (by simp), if_pos ⟨rfl, haligned⟩]
  case connect =>
    intro c role s hport hparams hroom hid hrole
    show execTlsConnect c s = _
    rw [execTlsConnect, if_pos (by simp [hport, hparams, hroom]), if_pos hid, hrole]
  case regRead =>
    exact fun conn msg x s hconn happs hok => congrArg _ (onMessage_of_ok hconn happs hok _)
  case regWrite =>
    intro conn msg x s hconn happs hok hrole hwritable haligned
    refine congrArg _ ((onMessage_of_ok hconn happs hok _).trans ?_)
    rw [if_pos ⟨hrole, hwritable⟩, if_pos haligned]
  case command =>
    exact fun conn msg x s hconn happs hok => congrArg _ (onMessage_of_ok hconn happs hok _)
  case idle =>
    intro conn x s hconn hlong
    show execServiceIdleClose conn s = _
    rw [execServiceIdleClose, hconn]
    exact next_of_guard hlong

end Sys2Proof.Machine
end

section
/-! Addressed memories and the CAN controllers: what a store leaves, and the effect of the CAN commands. -/
namespace Sys2Proof.Machine

/-! ## Stores -/

/-- A store changes no byte outside the bytes it names. -/
theorem memoryKept_writeMem {s : State} (hs : s.memoriesWf = true) (k a : Nat) (l : List Nat) :
    s.memoryKept (s.writeMem k a l) fun j b => j = k ∧ a ≤ b ∧ b < a + l.length := by
  intro j b hout
  rw [storedValuesReadBack.2 s k a j b l hs, if_neg fun hin => hout ⟨hin.1.symm, hin.2⟩]

theorem memoryKept_congr {s t u : State} {p : Nat → Nat → Prop} (h : t.ram = u.ram) (hu : s.memoryKept u p) :
    s.memoryKept t p := by
  intro k a ha
  rw [State.memory, h]
  exact hu k a ha

/-- A stored byte reads back. -/
theorem read_writeMem_stored {s : State} (hs : s.memoriesWf = true) (k a : Nat) {l : List Nat} {i : Nat} (hi : i < l.length) :
    ((s.writeMem k a l).memory k).read (a + i) = BitVec.ofNat 8 (l.getD i 0) := by
  rw [storedValuesReadBack.2 s k a k (a + i) l hs, if_pos ⟨rfl, by omega, by omega⟩, Nat.add_sub_cancel_left]

/-- Settles O47: the window stores one word at the aligned address, or nothing. -/
theorem canWindowStoresOneWord : Obligations.CanWindowStoresOneWord := by
  intro p c w s t hs h
  rw [next_of_exec h]
  show s.memoryKept (andThen (execCanMwinAccess p c (some w)) s) _
  dsimp only [andThen, execCanMwinAccess]
  split
  case isTrue =>
    split
    case isTrue => exact memoryKept_of_ram (((State.canNote_frames _ _ _).ram rfl).trans (setReg_ram _ _ s)) _
    case isFalse =>
      split
      case isTrue => exact memoryKept_congr (u := s.writeMem c _ _) rfl (memoryKept_writeMem hs c _ (leBytes 4 w.toNat))
      case isFalse => exact memoryKept_of_ram rfl _
  case isFalse => exact memoryKept_of_ram rfl _

/-! ## Debug writes -/

section
variable (mem owner addr : Nat) (bytes : List Nat) (s : State)

/-- Memories 0 and 1 of the debug port lie in memory 3, one behind the other; memory 2 is memory 4 (log 10, R580). -/
theorem debugStore_ram :
    (if mem < 2 then s.writeMem 3 (if mem = 1 then 4194304 + addr else addr) bytes else s.millpondWrite addr bytes).ram
      = (s.writeMem (if mem < 2 then 3 else 4) (if mem = 1 then 4194304 + addr else addr) bytes).ram := by
  by_cases hsram : mem < 2
  · rw [if_pos hsram, if_pos hsram]
  · rw [if_neg hsram, if_neg hsram, if_neg (show mem ≠ 1 by omega)]
    rfl

/-- A debug write stores its bytes, or nothing. -/
theorem debugMemoryWrite_ram :
    (andThen (execDebugMemoryWrite mem owner addr bytes) s).ram = s.ram ∨
      (andThen (execDebugMemoryWrite mem owner addr bytes) s).ram
        = (s.writeMem (if mem < 2 then 3 else 4) (if mem = 1 then 4194304 + addr else addr) bytes).ram := by
  unfold andThen execDebugMemoryWrite
  dsimp only
  generalize (if mem = 0 then 4194304 else if mem = 1 then 20971520 else 34359738368) = size
  split
  case isTrue =>
    split
    case isTrue => exact .inr (debugStore_ram mem addr bytes s)
    case isFalse => exact .inl rfl
  case isFalse => exact .inl rfl

variable {mem owner addr bytes s}

/-- A debug write within its memory, under HALT and with every owner halted, is accepted. -/
theorem debugMemoryWrite_ram_of_accepted (hmem : mem < 3)
    (hin : addr + bytes.length ≤ (if mem = 0 then 4194304 else if mem = 1 then 20971520 else 34359738368))
    (hcore : s.sys.core = true) (hhalt : s.reg Reg.SEC_DBG_LEVEL = dbgHalt)
    (hall : (debugOwners mem owner addr bytes.length).all (s.sec.halted.contains ·) = true) :
    (andThen (execDebugMemoryWrite mem owner addr bytes) s).ram
      = (s.writeMem (if mem < 2 then 3 else 4) (if mem = 1 then 4194304 + addr else addr) bytes).ram := by
  unfold andThen execDebugMemoryWrite
  dsimp only
  rw [if_pos (by rw [decide_eq_true hmem, decide_eq_true hin, hcore, hhalt]; rfl), if_pos (by rw [hhalt, hall]; rfl)]
  exact debugStore_ram mem addr bytes s

end

/-- Settles O46: a write stores its bytes or nothing, and its bytes where it is accepted. -/
theorem debugWriteStoresItsBytes : Obligations.DebugWriteStoresItsBytes := by
  intro mem owner addr bytes s t hs h
  obtain rfl : t = andThen (execDebugMemoryWrite mem owner addr bytes) s := next_of_exec h
  refine ⟨?kept, fun hmem hin hcore hhalt hall i hi => ?stored⟩
  case kept =>
    rcases debugMemoryWrite_ram mem owner addr bytes s with hnothing | hstored
    · exact memoryKept_of_ram hnothing _
    · exact memoryKept_congr hstored (memoryKept_writeMem hs _ _ _)
  case stored =>
    rw [State.memory, debugMemoryWrite_ram_of_accepted hmem hin hcore hhalt hall]
    exact read_writeMem_stored hs _ _ hi

/-! ## The commands of the CAN controllers -/

/-- A frame of the module's own completes: a reference message, an alarm or a discovery request, none of which measures the
loop delay (R498 to R501). -/
theorem canTxComplete_of_sent {c k a loop : Nat} {sof : Option Nat} {s : State} (hon : s.canOn c)
    (hsent : ((s.canBegin c sof).canCtl c).tx = some (k, a)) (hown : k < 3) :
    exec (.canTxComplete c sof loop) s = .next
      (((((s.canBegin c sof).updCan c fun x => { x with tx := none }).canFinish c k a).canTxGood c).canEstate c) := by
  show execCanTxComplete c sof loop s = _
  rw [execCanTxComplete, if_pos hon]
  dsimp only
  rw [hsent]
  dsimp only
  rw [if_neg (by simp [hown])]

/-- Settles O22. Most commands have one guard, which the premises of the clause make true; CAN_FILTER_SWAP and
REFERENCE_WITHDRAW first find what they wait for, and those that end a frame the frame on the bus. -/
theorem canCommandsComplete : Obligations.CanCommandsComplete := by
  refine ⟨?ctrl, ?config, ?filter, ?swap, ?stored, ?dropped, ?rxAck, ?tefAck, ?windowRead, ?windowWrite, ?request, ?cancel,
    ?reference, ?withdraw, ?discovery, ?sent, ?lost, ?errorSent, ?errorReceived, ?busOff, ?recovery, ?exception⟩
  case ctrl =>
    intro path c w s hc hdeaf
    show execCanInitWrite path c 0 w s = _
    rw [execCanInitWrite, if_pos (by simp [hc, hdeaf]), if_pos rfl]
  case config =>
    intro path c rel w s hc hdeaf hrel
    have hconfig : [0x08, 0x0C, 0x10, 0x14, 0x40, 0x50].contains rel = true := by simpa using hrel
    show execCanInitWrite path c rel w s = _
    rw [execCanInitWrite, if_pos (by simp [hc, hdeaf]), if_neg (by omega), if_pos hconfig]
  case filter =>
    intro path c w s hc hdeaf hbank
    show execCanFilterWrite path c w s = _
    rw [execCanFilterWrite, if_pos (by simp [hc, hdeaf])]
    exact congrArg _ (if_neg hbank)
  case swap =>
    intro c n s hc hswap
    show execCanFilterSwap c s = _
    rw [execCanFilterSwap, if_pos hc, hswap]
  case stored =>
    intro c f s hon hfmt hqueue
    show execCanFrameReceive c f s = _
    rw [execCanFrameReceive, if_pos (by simp [hon, hfmt])]
    dsimp only
    rw [if_pos hqueue]
  case dropped =>
    intro c f s hon hfmt hqueue
    show execCanFrameReceive c f s = _
    rw [execCanFrameReceive, if_pos (by simp [hon, hfmt])]
    dsimp only
    rw [if_neg (by omega)]
  case rxAck =>
    intro c j w s hc hj hdeaf hfill
    show execCanRxAck c j w s = _
    rw [execCanRxAck, if_pos (by simp [hc, hj, hdeaf])]
    exact congrArg _ (if_neg (by omega))
  case tefAck =>
    intro c w s hc hdeaf hfill
    show execCanTefAck c w s = _
    rw [execCanTefAck, if_pos (by simp [hc, hdeaf])]
    exact congrArg _ (if_neg (by omega))
  case windowRead => exact fun path c s hc hdeaf => next_of_guard (by simp [hc, hdeaf])
  case windowWrite =>
    intro path c w s hc hdeaf hidle hin
    have hfree : ∀ k, s.bitOf (Reg.CAN_TXPEND_TXB c) k = false := by simp [State.bitOf, hidle, bitAt]
    show execCanMwinAccess path c (some w) s = _
    rw [execCanMwinAccess, if_pos (by simp [hc, hdeaf])]
    dsimp only
    rw [if_neg (by simp [hfree]), if_pos hin]
  case request => exact fun c w s hc hdeaf => next_of_guard (by simp [hc, hdeaf])
  case cancel =>
    intro c w sof s hc hdeaf hon
    show execCanTxCancel c w sof s = _
    rw [execCanTxCancel, if_pos (by simp [hc, hdeaf]), if_pos hon]
  case reference =>
    exact fun c s hc hpow hrun hen hinit hphase hper hnew =>
      next_of_guard (by simp [hc, hpow, hrun, hen, hinit, hphase, hper, hnew])
  case withdraw =>
    intro c a s hpend hc hidle hlong
    show execReferenceWithdraw c s = _
    rw [execReferenceWithdraw, hpend]
    dsimp only
    exact next_of_guard (by rw [hc, hidle, decide_eq_true hlong]; rfl)
  case discovery =>
    exact fun c s hc hpow hrun hen hinit hnew => next_of_guard (by simp [hc, hpow, hrun, hen, hinit, hnew])
  case sent => exact fun c sof loop k a s => canTxComplete_of_sent
  case lost =>
    intro c sof k a s hon hsent
    show execArbitrationLoss c sof s = _
    rw [execArbitrationLoss, if_pos hon]
    dsimp only
    rw [hsent]
  case errorSent =>
    intro c sof more k a s hon hsent
    show execCanErrorFrame c sof more s = _
    rw [execCanErrorFrame, if_pos hon]
    dsimp only
    rw [hsent]
  case errorReceived =>
    intro c sof more s hon hnone
    show execCanErrorFrame c sof more s = _
    rw [execCanErrorFrame, if_pos hon]
    dsimp only
    rw [hnone]
  case busOff => exact fun c s hon hmany => next_of_guard (by simp [hon, hmany])
  case recovery =>
    exact fun c s hc hpow hinit hoff hmay => next_of_guard (by simp [hc, hpow, hinit, hoff, hmay])
  case exception => exact fun c s hon hold => next_of_guard (by simp [hon, hold])

end Sys2Proof.Machine
end

section
/-! Tandem operation: the effect of its commands. -/
namespace Sys2Proof.Machine

/-- An image that is not taken is counted as rejected; it ends the run of images of a standby that is not ready (R516). -/
theorem imageReceive_of_standby {bytes : List Nat} {whole : Bool} {s : State} (hstandby : s.roleStandby) (hpaired : s.paired)
    (hlink : s.millrace) (hdeaf : s.deaf = false) :
    exec (.imageReceive bytes whole) s = .next (
      if whole && s.imageGood bytes then s.imageTaken bytes
      else
        let u := s.addSat Reg.TDM_IMG_REJ 1
        if s.flag Reg.TDM_STAT_READY then u else { u with tdm := { u.tdm with imgRun := 0 } }) :=
  next_of_guard (by simp [hstandby, hpaired, hlink, hdeaf])

/-- Settles O23. Most commands have one guard, which the premises of the clause make true; IMAGE_RECEIVE, CLAIM_DROP and
HANDOVER_TIMEOUT then branch on an operand or on what they find, CLAIM_BACKOFF_END first finds the retry it makes. -/
theorem tandemCommandsComplete : Obligations.TandemCommandsComplete := by
  refine ⟨?image, ?imagePart, ?age, ?claim, ?backoff, ?dropHw, ?dropRelease, ?role, ?failover, ?band, ?disagree, ?linkDown,
    ?keep, ?notReady, ?hello, ?handover, ?timeoutClaimed, ?timeoutReleased⟩
  case image =>
    intro bytes s hstandby hpaired hlink hdeaf
    rw [imageReceive_of_standby hstandby hpaired hlink hdeaf]
    rfl
  case imagePart =>
    intro bytes whole s hstandby hpaired hlink hdeaf hpart hready
    rw [imageReceive_of_standby hstandby hpaired hlink hdeaf, hpart]
    exact next_of_guard hready
  case age =>
    exact fun s htandem hstandby hdecided hold => next_of_guard (by simp [htandem, hstandby, hdecided, hold])
  case claim =>
    intro s hretry hnew hmay hfree hdeaf hrun hwant
    show execTokenClaim s = _
    rw [execTokenClaim, if_pos (by simp [hretry, hnew, hmay, hfree, hdeaf])]
    exact next_of_guard (by simp [hrun, hwant])
  case backoff =>
    intro a s hretry hstrike hdue hrun hmay hfree
    show execClaimBackoffEnd s = _
    rw [execClaimBackoffEnd, hretry]
    dsimp only
    rw [if_pos (by simp [hstrike, hdue, hrun, hmay])]
    exact next_of_guard hfree
  case dropHw =>
    intro s hclaim hlost
    show execClaimDrop true s = _
    rw [execClaimDrop, if_pos rfl]
    exact next_of_guard (by simp [hclaim, hlost])
  case dropRelease =>
    intro s htoken hho hphase hfinal hready
    show execClaimDrop false s = _
    rw [execClaimDrop, if_neg (by simp)]
    exact next_of_guard (by simp [htoken, hho, hphase, hfinal, hready])
  case role =>
    intro pref s hrun hopen hsolo
    show execRoleDecide pref s = _
    rw [execRoleDecide, if_pos (by simp [hrun, hopen])]
    exact next_of_guard (by simp [hsolo])
  case failover =>
    intro s hrun htandem hstandby hdecided hnew hmay hstrike hfree hwant hho
    exact next_of_guard (by simp [hrun, htandem, hstandby, hdecided, hnew, hmay, hstrike, hfree, hwant, hho])
  case band => exact fun s hlong => next_of_guard (decide_eq_true hlong)
  case disagree => exact fun s hlong => next_of_guard (decide_eq_true hlong)
  case linkDown => exact fun s hlink hlong => next_of_guard (by simp [hlink, hlong])
  case keep =>
    intro k s htandem hdom hvalid hdown hfew hsame
    show execKeepFrameReceive k s = _
    rw [execKeepFrameReceive, if_pos (by simp [htandem, hdom, hvalid])]
    have hchange : (bitAt k.flags 0 != s.partnerClaim) = false := by rw [hsame, bne_self_eq_false]
    have hstill : (!s.millrace && decide (32 ≤ s.tdm.keepGood + 1)) = false := by
      rw [decide_eq_false (by omega), Bool.and_false]
    simp only [hchange, hstill, Bool.false_eq_true, if_false]
    exact congrArg _ (if_neg (ne_true_of_eq_false hdown))
  case notReady => exact fun s hactive hlong => next_of_guard (by simp [hactive, hlong])
  case hello =>
    intro h s htandem hlink hdeaf hproof
    show execHelloReceive h s = _
    rw [execHelloReceive, if_pos (by simp [htandem, hlink, hdeaf]), hproof]
  case handover =>
    intro path w s hpath hbit hdeaf hactive
    show execHandoverRequest path w s = _
    rw [execHandoverRequest, if_pos (by simp [hpath, hbit, hdeaf])]
    exact next_of_guard hactive
  case timeoutClaimed =>
    intro s hho hlong hclaimed
    show execHandoverTimeout s = _
    rw [execHandoverTimeout, if_pos (by simp [hho, hlong])]
    exact congrArg _ (if_neg (ne_true_of_eq_false hclaimed))
  case timeoutReleased =>
    intro s hho hlong hreleased
    show execHandoverTimeout s = _
    rw [execHandoverTimeout, if_pos (by simp [hho, hlong])]
    exact next_of_guard hreleased

end Sys2Proof.Machine
end

section
/-! Resets, power, the lifecycle, firmware and debug: the effect of their commands. -/
namespace Sys2Proof.Machine

/-! ## Resets and the start -/

/-- Settles O24. Most commands have one guard, which the premises of the clause make true; COLD_RESET, WARM_RESET and the
block resets first find what is due, START_TIMEOUT branches on the count of starts. -/
theorem resetCommandsComplete : Obligations.ResetCommandsComplete := by
  refine ⟨?cycle, ?wake, ?cold, ?start, ?run, ?startAgain, ?startLast, ?warm, ?warmDone, ?warmLate, ?block, ?idle, ?forced⟩
  case cycle => exact fun ohms s => rfl
  case wake =>
    intro ohms a s hpow hoff hwake
    show execPowerOnReset false ohms s = _
    rw [execPowerOnReset, if_pos (by simp [hpow, hoff, hwake]), hwake]
    rfl
  case cold =>
    intro ohms a s hlatch hdue
    show execColdReset ohms s = _
    rw [execColdReset]
    dsimp only
    rw [if_neg (ne_true_of_eq_false hlatch), hdue]
  case start => exact fun r s hcore hpow hnew hruns => next_of_guard (by simp [hcore, hpow, hnew, hruns])
  case run =>
    exact fun s hpow hcore hruns hstrike hmet => next_of_guard (by simp [hpow, hcore, hruns, hstrike, hmet])
  case startAgain =>
    intro s hpow hcore hnone hfew
    show execStartTimeout s = _
    rw [execStartTimeout, if_pos (by simp [hpow, hcore, hnone])]
    dsimp only
    rw [if_neg (by omega), min_eq_right (by omega)]
  case startLast =>
    intro s hpow hcore hnone hmany
    show execStartTimeout s = _
    rw [execStartTimeout, if_pos (by simp [hpow, hcore, hnone])]
    dsimp only
    rw [if_pos (by omega), min_eq_left (by omega)]
  case warm =>
    intro a s hdue
    show execWarmReset s = _
    rw [execWarmReset, hdue]
  case warmDone => exact fun estOk s hwarm hstrike hcore => next_of_guard (by simp [hwarm, hstrike, hcore])
  case warmLate =>
    intro s hwarm hlate hlong
    show execWarmResetOverrun s = _
    rw [execWarmResetOverrun, if_pos hwarm]
    rw [if_neg (c := (!s.pwr.warmLate && decide (8000 ≤ s.since s.pwr.warmAt)) = true) (by simp [hlate])]
    exact next_of_guard hlong
  case block => exact fun w s hdeaf => next_of_guard (by simp [hdeaf])
  case idle =>
    intro k a s hfound hk hshort
    show execBlockIdle k s = _
    rw [execBlockIdle, hfound]
    exact next_of_guard (by simp [hk, hshort])
  case forced =>
    intro k a s hfound hk hlong
    show execBlockResetTimeout k s = _
    rw [execBlockResetTimeout, hfound]
    exact next_of_guard (by simp [hk, hlong])

/-! ## Power states, supplies and wake -/

section
variable {cmd : Nat} {path : Path} {w : Nat} {s : State} (hcmd : bitsAt w 0 4 = cmd) (hkey : bitsAt w 16 16 = 0xA5C3)
  (hdeaf : s.deaf = false) (hpath : s.powerPath path) (hup : s.flag Reg.PWR_STAT_PF = false)
include hcmd hkey hdeaf hpath hup

/-- A power command with the key waits for the next completed SUP, or is taken at once where SUP does not run (R544). -/
theorem pwrCommand_of_key : s.pwrCommand cmd path w =
    if s.supRuns then { s with pwr := { s.pwr with cmds := s.pwr.cmds ++ [(cmd, path != .pf0)] } }
    else s.pwrTake cmd (path != .pf0) :=
  if_pos ⟨hcmd, hkey, by simp [hdeaf], hpath, by simp [hup]⟩

theorem pwrCommand_of_supRuns (hsup : s.supRuns) : s.pwrCommand cmd path w =
    { s with pwr := { s.pwr with cmds := s.pwr.cmds ++ [(cmd, path != .pf0)] } } :=
  (pwrCommand_of_key hcmd hkey hdeaf hpath hup).trans (if_pos hsup)

theorem pwrCommand_of_no_sup (hsup : s.supRuns = false) : s.pwrCommand cmd path w = s.pwrTake cmd (path != .pf0) :=
  (pwrCommand_of_key hcmd hkey hdeaf hpath hup).trans (if_neg (ne_true_of_eq_false hsup))

end

/-- Settles O25. The power commands differ in their number alone; most others have one guard, which the premises of the
clause make true, and DOMAIN_SUPPLY_FAULT branches on the domain. -/
theorem powerCommandsComplete : Obligations.PowerCommandsComplete := by
  refine ⟨?runWaits, ?run, ?trimWaits, ?trim, ?standstillWaits, ?standstill, ?warmWaits, ?warm, ?coldWaits, ?cold,
    ?retryWaits, ?retry, ?standstillEntry, ?wakeChg, ?wakeKey, ?aonLoss, ?fail, ?failWarm, ?aux, ?holdup, ?coil, ?supplyBank, ?supplyMeasure,
    ?supplyOther⟩
  case runWaits | trimWaits | standstillWaits | warmWaits | coldWaits | retryWaits =>
    exact fun path w s hcmd hkey hdeaf hpath hup hsup =>
      congrArg _ (pwrCommand_of_supRuns hcmd hkey hdeaf hpath hup hsup)
  case run | trim | standstill | warm | cold | retry =>
    exact fun path w s hcmd hkey hdeaf hpath hup hsup =>
      congrArg _ (pwrCommand_of_no_sup hcmd hkey hdeaf hpath hup hsup)
  case standstillEntry =>
    exact fun relays s hpow hopened hcommit hfail hcore =>
      next_of_guard (by simp [hpow, hopened, hcommit, hfail, hcore])
  case wakeChg => exact fun s hpow haon hwakes hnew => next_of_guard (by simp [hpow, haon, hwakes, hnew])
  case wakeKey => exact fun s hpow haon hwakes hnew hlow => next_of_guard (by simp [hpow, haon, hwakes, hnew, hlow])
  case aonLoss => exact fun low s hpow hcore hlost => next_of_guard (by simpa [hpow, hcore] using hlost)
  case fail =>
    intro s hcore hup hnew hcold
    show execPowerFail s = _
    rw [execPowerFail, if_neg (by simp [hcore, hup, hnew]), if_neg (ne_true_of_eq_false hcold)]
  case failWarm =>
    intro s hcore hup hnew hwarm
    show execPowerFail s = _
    rw [execPowerFail, if_neg (by simp [hcore, hup, hnew]), if_pos hwarm]
  case aux => exact fun k s hk hlong hup => next_of_guard (by simp [hk, hlong, hup])
  case holdup => exact fun tenths s hcore hclock hdue => next_of_guard (by rw [hcore, hclock, hdue]; rfl)
  case coil => exact fun s hlong => next_of_guard hlong
  case supplyBank =>
    intro d bad s hd hon
    show execDomainSupplyFault d bad s = _
    rw [execDomainSupplyFault, if_pos hd, if_pos (by simp [hon])]
  case supplyMeasure =>
    intro d bad s hlo hhi hon
    show execDomainSupplyFault d bad s = _
    rw [execDomainSupplyFault, if_neg (by omega), if_pos hhi, if_pos (by simp [hon])]
  case supplyOther =>
    intro d s hlo hhi hon
    show execDomainSupplyFault d true s = _
    rw [execDomainSupplyFault, if_neg (by omega), if_neg (by omega), if_pos (by simp [hhi, hon])]

/-! ## Firmware, lifecycle, debug and the lockstep pair -/

/-- A lifecycle command with the key, on a path that may give it, is a request (R556). -/
theorem lcWrite_of_key {n w : Nat} {path : Path} {s : State} (hcmd : bitsAt w 0 3 = n) (hkey : bitsAt w 16 16 = 0x4C43)
    (hdeaf : s.deaf = false) (hpath : s.powerPath path) : s.lcWrite n path w = s.lcRequest n path := by
  rw [State.lcWrite, if_pos ⟨hcmd, by simp [hdeaf], hpath⟩, if_pos hkey]

/-- A transition that the table gives a session, with room in the change log, and not a first write of RETIRED, waits for the
commit (R556, R557). -/
theorem lcRequest_of_session {n : Nat} {path : Path} {x : Session} {s : State} (hlc : s.sec.lc ≠ lcBlank)
    (htable : lcInSession s.sec.lc n) (hopen : s.sessionOf path = some x) (hroom : s.clogRoom x)
    (hagain : n ≠ lcRetired ∨ s.retireAgain path) :
    s.lcRequest n path =
      (fun (u : State) => { u with sec := { u.sec with lcNext := some n, retire := none } })
        ((s.lcLog (x.entry 0x02) n).sessionTouch) := by
  rw [State.lcRequest]
  dsimp only
  rw [if_neg hlc, if_pos htable, hopen]
  dsimp only
  rw [if_neg (by simp [hroom]), if_pos (by simpa using hagain)]

/-- Settles O26. The lifecycle commands differ in the state they ask for alone; STAGE_COMPLETE, LIVE_UPDATE_TIMEOUT and
NEW_PART_RUNNING first find what waits, and most others have one guard, which the premises of the clause make true. -/
theorem securityCommandsComplete : Obligations.SecurityCommandsComplete := by
  refine ⟨?staged, ?liveLate, ?newPart, ?blank, ?commission, ?field, ?service, ?retired, ?serviceEnd, ?challenge,
    ?lockoutEnd, ?drop, ?presence, ?halt, ?writeLockstep, ?writeSram, ?writeMillpond, ?writeRefused, ?mismatch, ?ecc,
    ?firewall⟩
  case staged =>
    intro c i s hstage hcore
    show execStageComplete true s = _
    rw [execStageComplete, hstage]
    dsimp only
    rw [if_pos hcore]
    rfl
  case liveLate =>
    intro l a s hlive hreset hlong
    show execLiveUpdateTimeout s = _
    rw [execLiveUpdateTimeout, hlive]
    dsimp only
    rw [hreset]
    exact next_of_guard hlong
  case newPart =>
    intro k l a n rest s hlive hreset hcur hshort hon htodo
    show execNewPartRunning k s = _
    rw [execNewPartRunning, hlive]
    dsimp only
    rw [hreset]
    dsimp only
    rw [if_pos ⟨hcur, hshort, by simp [hon]⟩, htodo]
  case blank =>
    intro w s hcmd hkey hdeaf hblank
    show (.next (s.lcWrite lcCommission .pf0 w.toNat) : Host.Outcome State Fault Refusal) = _
    rw [lcWrite_of_key hcmd hkey hdeaf rfl, State.lcRequest]
    dsimp only
    rw [if_pos hblank, if_pos (by simp), if_pos (by simp [lcCommission, lcRetired])]
  case commission | field | service =>
    intro path w x s hcmd hkey hdeaf hpath hlc htable hopen hroom
    exact congrArg _ ((lcWrite_of_key hcmd hkey hdeaf hpath).trans
      (lcRequest_of_session hlc htable hopen hroom (.inl (by decide))))
  case retired =>
    intro path w x s hcmd hkey hdeaf hpath hlc htable hopen hroom hagain
    exact congrArg _ ((lcWrite_of_key hcmd hkey hdeaf hpath).trans
      (lcRequest_of_session hlc htable hopen hroom (.inr hagain)))
  case serviceEnd => exact fun s hlc hclock hlong => next_of_guard (by simp [hlc, hclock, hlong])
  case challenge =>
    intro r s hcore hpow hlevel hfree
    exact next_of_guard (by simp [hcore, hpow, hlevel, hfree])
  case lockoutEnd => exact fun s hlocked hover => next_of_guard (by simp [hlocked, hover])
  case drop => exact fun path w s hbit hdeaf hpath => next_of_guard (by simp [hbit, hdeaf, hpath])
  case presence => exact fun s hcore => next_of_guard hcore
  case halt =>
    intro proc taken s hhalt hlo hhi hnew
    have hproc : ¬ proc = 0 := by omega
    have hcond : (s.reg Reg.SEC_DBG_LEVEL == dbgHalt && decide (proc < 6) && decide (0 < 5)
        && (s.sec.halted.contains proc == ([1, 2, 4] : List Nat).contains 0)) = true := by
      rw [hhalt, hnew, decide_eq_true hhi]
      rfl
    show execDebugRunControl proc 0 taken s = _
    rw [execDebugRunControl]
    dsimp only
    rw [if_pos hcond, if_neg (hproc ·.1), if_neg hproc, hnew]
    rfl
  case writeLockstep | writeSram | writeMillpond =>
    intro owner addr bytes s hin hcore hhalt hall
    exact congrArg _ ((if_pos (by simp [hin, hcore, hhalt, dbgHalt, dbgShut])).trans
      (if_pos (by rw [hhalt, hall]; rfl)))
  case writeRefused =>
    intro owner addr bytes s hin hcore hopen hbad
    have hrefused : (s.reg Reg.SEC_DBG_LEVEL == dbgHalt
        && (debugOwners 2 owner addr bytes.length).all (s.sec.halted.contains ·)) = false := by
      obtain hlevel | hnone := hbad
      · rw [beq_eq_false_iff_ne.mpr hlevel, Bool.false_and]
      · rw [hnone, Bool.and_false]
    exact congrArg _ ((if_pos (by simp [hin, hcore, hopen])).trans (if_neg (ne_true_of_eq_false hrefused)))
  case mismatch =>
    intro group s hpair hgroup hpow
    show execLockstepMismatch group s = _
    rw [execLockstepMismatch, if_pos (by simp [hpair, hgroup])]
    exact next_of_guard hpow
  case ecc => exact fun s hpair => next_of_guard hpair
  case firewall =>
    exact fun init reg ofs s hlo hhi hreg hofs hcore => next_of_guard (by simp [hlo, hhi, hreg, hcore]; omega)

end Sys2Proof.Machine
end

section
/-! The latches of the paths (R612): a read of one path leaves the latched words of the others. -/
namespace Sys2Proof.Machine

/-! ## The registers of a latch -/

/-- Below the addresses of a path the latches of two paths have different keys. -/
theorem latchKey_ne {p q : Path} (hpq : p.num ≠ q.num) {x a : Nat} (hx : x < 2 ^ 23) (ha : a < 2 ^ 23) :
    latchKey p x ≠ latchKey q a := by
  simp only [latchKey]
  omega

/-- A register in a regular array lies in it, at the element found. -/
theorem inArray_lt {a base n st k : Nat} (hst : 0 < st) (h : inArray a base n st = some k) : k < n ∧ a < base + n * st := by
  simp only [inArray, Option.ite_none_right_eq_some, Option.some.injEq] at h
  obtain ⟨⟨hbase, -, hn⟩, rfl⟩ := h
  have hspan : a - base < n * st := (Nat.div_lt_iff_lt_mul hst).mp hn
  exact ⟨hn, by omega⟩

theorem pairLow_lt {a : Nat} (h : pairLow a) : a < 0x40000 := by
  simp only [pairLow, Bool.or_eq_true, List.contains_iff_mem, List.any_eq_true, List.mem_range,
    Option.isSome_iff_exists] at h
  obtain (hlisted | ⟨k, hk⟩) | ⟨nn, hnn, k, hk⟩ := h
  · fin_cases hlisted <;> decide
  · have := (inArray_lt (by decide) hk).2
    omega
  · have := (inArray_lt (by decide) hk).2
    omega

theorem timeGroup_lt {a t : Nat} {e : Nat × Nat} (h : e ∈ timeGroup a t) : e.1 < a + 16 := by
  simp only [timeGroup, List.mem_map, List.mem_range] at h
  obtain ⟨i, hi, rfl⟩ := h
  dsimp only
  omega

/-- What a read of a LO register takes lies in the address range of a path. -/
theorem loGroup_lt {s : State} {a : Nat} {e : Nat × Nat} (h : e ∈ s.loGroup a) : e.1 < 2 ^ 23 := by
  unfold State.loGroup at h
  split at h
  next hpair =>
    have := pairLow_lt hpair
    simp only [List.mem_cons, List.not_mem_nil, or_false] at h
    obtain rfl | rfl := h <;> dsimp only <;> omega
  next =>
    split at h
    next hcur =>
      simp only [List.mem_cons, List.not_mem_nil, or_false] at h
      obtain rfl | rfl | rfl := h <;> dsimp only <;> omega
    next =>
      split at h
      next hclock =>
        have := timeGroup_lt h
        omega
      next =>
        split at h
        next fn rel hwindow =>
          split at h
          next hrel =>
            have := timeGroup_lt h
            simp only [inWindow, Option.ite_none_right_eq_some] at hwindow
            omega
          next => cases h
        next => cases h

/-! ## What a read latches -/

section
variable {p q : Path} (hpq : p.num ≠ q.num) {a : Nat} (ha : a < 2 ^ 23)
include hpq ha

/-- Latching a word for a path leaves the latched words of another. -/
theorem latch_latchFor_other {x : Nat} (hx : x < 2 ^ 23) (v : Nat) (s : State) :
    (s.latchFor p x v).latch.get 0 (latchKey q a) = s.latch.get 0 (latchKey q a) :=
  (Tab.get_put _ _ _ _ _).trans (if_neg (latchKey_ne hpq hx ha))

theorem latch_latchAll_other {l : List (Nat × Nat)} (hl : ∀ e ∈ l, e.1 < 2 ^ 23) (s : State) :
    (forAll l (fun e s => s.latchFor p e.1 e.2) s).latch.get 0 (latchKey q a) = s.latch.get 0 (latchKey q a) := by
  induction l generalizing s with
  | nil => rfl
  | cons e l ih =>
    rw [List.forall_mem_cons] at hl
    exact (ih hl.2 _).trans (latch_latchFor_other hpq ha hl.1 _ s)

/-- A read of a capture queue latches three words of its own path. -/
theorem latch_tciRead_other {n : Nat} (hn : n < 4) (s : State) :
    (andThen (execTciRead p n) s).latch.get 0 (latchKey q a) = s.latch.get 0 (latchKey q a) := by
  have hhi : (Reg.TIM_TCI_SEC_HI_VAL n).off < 2 ^ 23 := by simp only [Reg.TIM_TCI_SEC_HI_VAL]; omega
  have hns : (Reg.TIM_TCI_NS_VAL n).off < 2 ^ 23 := by simp only [Reg.TIM_TCI_NS_VAL]; omega
  have hfrac : (Reg.TIM_TCI_FRAC_VAL n).off < 2 ^ 23 := by simp only [Reg.TIM_TCI_FRAC_VAL]; omega
  simp only [andThen, execTciRead]
  split
  · rw [latch_latchFor_other hpq ha hfrac, latch_latchFor_other hpq ha hns, latch_latchFor_other hpq ha hhi]
    rfl
  · rfl

theorem latch_regRead_other (off : Nat) (s : State) :
    (s.regRead p off).latch.get 0 (latchKey q a) = s.latch.get 0 (latchKey q a) := by
  unfold State.regRead
  split
  next => rfl
  next b hreg =>
    split
    next n hqueue => exact latch_tciRead_other hpq ha (inArray_lt (by decide) hqueue).1 s
    next =>
      split
      next c hwindow => exact congrArg (Tab.get 0 · _) ((execCanMwinAccess_frames p c none s).latch rfl)
      next =>
        split
        next hnone => rfl
        next g rest hgroup =>
          have hrest := latch_latchAll_other hpq ha
            (fun e he => loGroup_lt (hgroup ▸ List.mem_cons_of_mem g he : e ∈ s.loGroup b)) s
          dsimp only
          split <;> exact hrest

end

/-! ## The strike number -/

/-- SYS_STRIKE_LO shows the low word of the strike number. -/
theorem wordAt_strikeLo (s : State) : s.wordAt 0x10 = s.now % 2 ^ 32 := by
  have hreg : regAt 0x10 = some ⟨0x10, [], [⟨0, 32, .ro, 0, .any⟩]⟩ := by rfl
  rw [State.wordAt, hreg]
  simp [State.derived]

theorem regRead_strikeLo (s : State) :
    s.regRead .pf0 0x10 = (s.latchFor .pf0 0x14 (s.now / 2 ^ 32)).returns .pf0 (s.now % 2 ^ 32) := by
  have hgroup : s.loGroup 0x10 = [(0x10, s.now % 2 ^ 32), (0x14, s.now / 2 ^ 32)] := by
    rw [← wordAt_strikeLo]
    rfl
  have hreg : resolve .pf0 (0x10 / 4 * 4) = some 0x10 := by decide
  have hqueue : inArray 0x10 0x3204 4 32 = none := by decide
  have hwindow : inArray 0x10 0x320A4 3 0x400 = none := by decide
  rw [State.regRead, hreg]
  dsimp only
  rw [hqueue, hwindow, hgroup]
  rfl

/-- Settles O58. A latch is keyed by its path's number above the addresses of its registers (`latchKey_ne`), and what a read
latches has an address of that range (`loGroup_lt`). -/
theorem latchesOfPathsAreSeparate : Obligations.LatchesOfPathsAreSeparate := by
  refine ⟨?others, ?strike⟩
  case others =>
    intro p q off a s t hexec hpq ha
    obtain rfl : _ = t := Host.Outcome.next.inj hexec
    split
    · exact latch_regRead_other hpq (by omega) off s
    · rfl
  case strike =>
    intro s t hthere hexec
    have hread : exec (.loReadLatch .pf0 0x10) s = .next (s.regRead .pf0 0x10) := next_of_guard hthere
    rw [hread, regRead_strikeLo, Host.Outcome.next.injEq] at hexec
    subst hexec
    exact ⟨(Tab.get_put _ _ _ _ _).trans (if_pos rfl), (Tab.get_put _ _ _ _ _).trans (if_pos rfl)⟩

end Sys2Proof.Machine
end
